-- ==== Sys2Proof/Word.lean ====
section
/-! DEFINITION. The word types of the TK1's registers and packets (spec/00_scope.md R11 to R13) and their plainest
arithmetic. -/

namespace Sys2Proof

/-- A byte of a structure, a packet or a memory. -/
abbrev Byte := BitVec 8

/-- A 16-bit quantity; BF16 bit patterns are kept in it (02 R44). -/
abbrev W16 := BitVec 16

/-- A register (00 R13: registers are 32 bits wide); FP32 bit patterns and INT32 sums are kept in it (02 R44). -/
abbrev W32 := BitVec 32

/-- A 64-bit quantity: two registers, the low word at the lower offset (00 R13). -/
abbrev W64 := BitVec 64

/-- A SHA-256 digest. -/
abbrev W256 := BitVec 256

end Sys2Proof
end

