-- ==== Sys2Proof/Machine/Store.lean ====
section
/-! DEFINITION. Sparse tables and byte memories as sorted lists in ONE canonical form: keys strictly rising, and no
entry equal to what an unlisted key reads as, so that equal contents are equal lists. -/

namespace Sys2Proof.Machine

/-- A table keyed by number; a key that is not listed reads as the table's default for it. -/
abbrev Sparse (α : Type) := List (Nat × α)

/-- The entry at a key. -/
def Sparse.get {α : Type} (d : Nat → α) : List (Nat × α) → Nat → α
  | [], k => d k
  | (j, v) :: r, k => if j = k then v else Sparse.get d r k

/-- Writes an entry and keeps the canonical form: writing the default removes the entry. -/
def Sparse.set {α : Type} [DecidableEq α] (d : Nat → α) : List (Nat × α) → Nat → α → List (Nat × α)
  | [], k, v => if v = d k then [] else [(k, v)]
  | (j, w) :: r, k, v =>
    if k < j then (if v = d k then (j, w) :: r else (k, v) :: (j, w) :: r)
    else if k = j then (if v = d k then r else (k, v) :: r)
    else (j, w) :: Sparse.set d r k v

/-- Changes one entry by a function. -/
def Sparse.upd {α : Type} [DecidableEq α] (d : Nat → α) (m : List (Nat × α)) (k : Nat) (f : α → α) :
    List (Nat × α) :=
  Sparse.set d m k (f (Sparse.get d m k))

/-- Applies a function to the entries of the keys listed. -/
def Sparse.updAll {α : Type} [DecidableEq α] (d : Nat → α) (f : Nat → α → α) :
    List Nat → List (Nat × α) → List (Nat × α)
  | [], m => m
  | k :: ks, m => Sparse.updAll d f ks (Sparse.upd d m k (f k))

/-- Every key of the list is above b. -/
def Sparse.above {α : Type} (b : Nat) (m : List (Nat × α)) : Bool := m.all (fun e => decide (b < e.1))

/-- The canonical form. -/
def Sparse.wf {α : Type} [DecidableEq α] (d : Nat → α) : List (Nat × α) → Bool
  | [] => true
  | (j, v) :: r => decide (v ≠ d j) && Sparse.above j r && Sparse.wf d r

/-- A byte memory (Host.Cell is one address and its byte). -/
abbrev Mem := List Host.Cell

/-- What an address that nothing has written reads as (notes/assumptions/7.md). -/
def Memory.unwritten : Nat → Byte := fun _ => 0

/-- The byte at an address. -/
def Memory.read (m : Mem) (a : Nat) : Byte := Sparse.get Memory.unwritten m a

/-- Writes one byte. -/
def Memory.write (m : Mem) (a : Nat) (b : Byte) : Mem := Sparse.set Memory.unwritten m a b

/-- Writes consecutive bytes from an address upward. -/
def Memory.writeBytes (m : Mem) (a : Nat) : List Byte → Mem
  | [] => m
  | b :: bs => Memory.writeBytes (Memory.write m a b) (a + 1) bs

/-- n consecutive bytes from an address upward. -/
def Memory.readBytes (m : Mem) (a : Nat) : Nat → List Byte
  | 0 => []
  | n + 1 => Memory.read m a :: Memory.readBytes m (a + 1) n

/-- Removes every byte of [a, a + n). -/
def Memory.erase (m : Mem) (a n : Nat) : Mem := m.filter (fun c => !(decide (a ≤ c.1) && decide (c.1 < a + n)))

/-- The canonical form of a byte memory. -/
def Memory.wf (m : Mem) : Bool := Sparse.wf Memory.unwritten m

/-- The value filed under a key, in a table without defaults. -/
def Tab.find {α : Type} : List (Nat × α) → Nat → Option α
  | [], _ => none
  | (j, v) :: r, k => if j = k then some v else Tab.find r k

/-- Files a value under a key, in rising order of keys. -/
def Tab.put {α : Type} : List (Nat × α) → Nat → α → List (Nat × α)
  | [], k, v => [(k, v)]
  | (j, w) :: r, k, v =>
    if k < j then (k, v) :: (j, w) :: r else if k = j then (k, v) :: r else (j, w) :: Tab.put r k v

/-- Removes the value filed under a key. -/
def Tab.del {α : Type} (m : List (Nat × α)) (k : Nat) : List (Nat × α) := m.filter (fun e => decide (e.1 ≠ k))

/-- Changes the value filed under a key, if there is one. -/
def Tab.upd {α : Type} (m : List (Nat × α)) (k : Nat) (f : α → α) : List (Nat × α) :=
  m.map (fun e => if e.1 = k then (e.1, f e.2) else e)

end Sys2Proof.Machine
end

