-- ==== Sys2Proof/Syntax.lean ====
section
/-! DEFINITION. The commands of the block: one constructor per row of spec/opcode_table.json, in the table's order, with
the row's operands. An operand is what the outside gives at that step: an address, a value, the bytes a host read
returned, what a neighbour sent, what a physical measurement gave. -/

namespace Sys2Proof

/-- One entry of a verdict stamp (11 Table 11-6). -/
structure StampEntry where
  stream : Nat
  index : Nat
  /-- 0 PASS, 1 FAIL, 2 REVOKE, 3 POISONED, 4 STRICT_FAIL. -/
  result : Nat
  cause : Nat
  kind : Nat
  clamped : Bool
  replays : Nat
  slips : Nat
  unit : Nat
deriving DecidableEq, Repr

/-- A verdict stamp (11 Table 11-5). -/
structure Stamp where
  pkg : Nat
  tick : Nat
  scrub : Nat
  stretch : Nat
  entries : List StampEntry
deriving DecidableEq, Repr

/-- A tick-marker block (10 Table 10-6). -/
structure Marker where
  hop : Nat
  slice : Nat
  tick : Nat
  master : Nat
  period : Nat
  newPeriod : Nat
  stretch : Nat
  newStretch : Option Nat
  effective : Nat
deriving DecidableEq, Repr

/-- One entry of a bundle descriptor (10 Table 10-7) with the residual that the data message carries for it. -/
structure BundleEntry where
  stream : Nat
  index : Nat
  epoch : Nat
  block : Nat
  slot : Nat
  noPos : Bool
  provisional : Bool
  mark : Option Nat
  poison : Bool
  rebuild : Bool
  target : Nat
  residual : List W32
deriving DecidableEq, Repr

/-- A bundle (10 R320): descriptor flags, epoch and entries. -/
structure Bundle where
  tick : Nat
  tack : Bool
  rebuildOnly : Bool
  epoch : Nat
  entries : List BundleEntry
deriving DecidableEq, Repr

/-- A flit that reaches a router (05 R133): the input port, its eight 32-bit words, and its sideband. `ecc` counts the
wrong bits of its worst 64-bit word: 0 none, 1 corrected, 2 or more uncorrectable. -/
structure Flit where
  inp : Nat
  words : List W32
  sparse : Bool
  poison : Bool
  ecc : Nat
  /-- A control-plane AMAX flit (05 R137, R141). -/
  amax : Bool
  /-- What the schedule says the flit carries: its vector's tag and, in a dense flit, its first column. -/
  slot : Nat
  stream : Nat
  index : Nat
  vec : Nat
  col : Nat
  /-- The vector's scale, which goes with its elements (02 R52). -/
  scale : W16
deriving DecidableEq, Repr

/-- The mesh planes (05 R131). -/
inductive Plane
  | data | sum | control
deriving DecidableEq, Repr

/-- What a pan program entry does (05 R127, 07 R200). The vector core's instruction set is not in the spec: an entry
is one of the operations the spec gives pan programs, or another entry of the image's. -/
inductive PanOp
  /-- Local amax of a part of vector `vec` and the AMAX frame that carries it to the exchange's root pan (05 R141). -/
  | amax (root vec : Nat) (xs : List W32)
  /-- A8 quantization at point q with the amax that the exchange of vector `vec` agreed on (02 R52, 05 R141); `base` is the
  index of the first element in its vector. -/
  | quantA8 (q base vec : Nat) (xs : List W32)
  /-- K4/V4 or K8/V8 rounding of one 64-element run: use 1 for K, 2 for V; it goes to the hot window (02 R58 to R60). -/
  | quantKV (use run : Nat) (xs : List W32)
  /-- The rake in full mode and the interleave over the layer's rotated input `rot` (02 R61 to R64). -/
  | rakeFull (rot : Nat) (xs : List W32)
  /-- The rake in head mode over Q or K of `heads` heads, one 128-point transform for each aligned run of 128 elements
  (02 R65); Q goes on to the DLE in BF16, rounded to nearest even (02 R57, R71). -/
  | rakeHead (isQ : Bool) (heads : Nat) (xs : List W32)
  /-- An add in FP32 to the position's FP32 residual from element `base` on, which stays in pan SRAM until the layer ends
  (02 R57). -/
  | residualAdd (base : Nat) (ys : List W32)
  /-- The residual's part at `base`, the layer's result, rounded stochastically to BF16 (02 R70, use code 0x03). -/
  | residualRound (base : Nat)
  /-- An expert's output, BF16 to nearest even (09 R302). -/
  | expertOut (base : Nat) (xs : List W32)
  /-- A row-sum check of array a against its vector (11 R335). -/
  | rowSum (a : Nat)
  /-- Any other entry of the image's pan program (norms, activation functions). -/
  | other (entry : Nat) (xs : List W32)
deriving DecidableEq, Repr

/-- A DLE cluster's fault in an operation: a residue mismatch, or an uncorrectable or a corrected error of its SRAM (04 R122,
11 R342). -/
inductive DleFault
  | residue | ue | ce
deriving DecidableEq, Repr

/-- What a ROUTE frame writes to GLB_ROLE (01 Table 1-13, 10 R325): a role of 0 with ASSIGNED 0 dissolves. -/
structure RoleWrite where
  assigned : Bool
  slice : Nat
  role : Nat
  pkg : Nat
  /-- Slice position; 0xFFFF for a spare. -/
  position : Nat
  /-- The next package on the pipeline path, which the path's messages go to; none for a spare (10 R319, R320). -/
  next : Option Nat
  /-- The next package that image pages go to: positions in order, then the spares (07 R204). -/
  pageNext : Option Nat
deriving DecidableEq, Repr

/-- The PCIe and pin causes that start a port's training (10 R309). -/
inductive RetrainCause
  | retrain | enable | linkDown
deriving DecidableEq, Repr

/-- What a port's training found (10 R309, R310). -/
structure TrainResult where
  delayNs : Nat
  peerPkg : Nat
  peerPort : Nat
  peerSerial : Nat
  /-- Eye width and height of lanes 0 to 8 at link training (06 R186). -/
  eyes : List (Nat × Nat)
deriving DecidableEq, Repr

/-- One direction of a link that discovery finds: from a package's port to the next package (10 R310, R325). -/
structure LinkFact where
  pkg : Nat
  port : Nat
  next : Nat
  delayNs : Nat
deriving DecidableEq, Repr

/-- What SLICE_SET's discovery finds (10 R325), beside the member list read from host memory. -/
structure SliceFacts where
  /-- The bytes at LIST_ADDR; none when the host read failed. -/
  list : Option (List Byte)
  links : List LinkFact
  /-- Members that do not answer, or refuse membership because they are retired (11 R455). -/
  silent : List Nat
  /-- Members found assigned to another slice. -/
  elsewhere : List Nat
deriving DecidableEq, Repr

/-- A member of a slice as discovery gives it: package, role, position, timing parent. -/
structure MemberFact where
  pkg : Nat
  role : Nat
  position : Nat
  parent : Nat
deriving DecidableEq, Repr

/-- What the outside finds at a re-rig (10 R328, R330, R331; 07 R231). -/
structure RerigFacts where
  /-- The spare holds the payload of the position for its epoch. -/
  holds : Bool
  /-- The epoch that the lost position served at the failure: the new one if it had begun its rewrite (07 R231). -/
  epoch : Nat
  links : List LinkFact
  /-- The slice as a spare that takes the head's place finds it. -/
  members : List MemberFact
  /-- A link between live members has failed; no member is lost. -/
  linkOnly : Bool
deriving DecidableEq, Repr

/-- What the passes of a margin test measure (11 R355, R356); for a unit of another package also what its CC answers. -/
structure MarginFacts where
  stressPass : Bool
  nominalPass : Bool
  /-- R357 refuses it there; it is retired there; its setting is at the limit there. -/
  refused : Bool
  retired : Bool
  atLimit : Bool
deriving DecidableEq, Repr

/-- What a package reports of its rate beside its slot fraction (04 R108, R123; 09 R299): the sum of 16 − n over its online
clusters, whether a clamp action switched a layer NARROW, and the weights that its DLE runs of one layer (0: none). -/
structure RateReport where
  phi : Nat := 64
  narrow : Bool := false
  dleWeights : Nat := 0
deriving DecidableEq, Repr

/-- The kinds of a fetch's end (08 R240). -/
inductive FetchEnd
  | ok (data : List Byte)
  | failed
deriving DecidableEq, Repr

/-- The requesters of the arbitrated edge (05 Table 5-8): class code and instance. -/
structure Requester where
  cls : Nat
  inst : Nat
deriving DecidableEq, Repr

/-- PLL domains (14 Table 14-1, Table 14-6 RST_CLK_STAT bit order). -/
inductive PllDomain
  | fab | dle | cc | mem (m : Nat) | ws | pcie | lnk (p : Nat)
deriving DecidableEq, Repr

/-- The end of the boot chain and of the later power-up steps (13 R390, 14 R414, R419). -/
structure BootFacts where
  /-- A hold code and argument of Table 14-5 that the sequence runs into, if any. -/
  hold : Option (Nat × Nat)
  /-- Pans, then DLE clusters, then lanes (16 x port + lane), that power-up BIST fails. -/
  badPans : List Nat
  badClusters : List Nat
  badLanes : List Nat
  /-- Durations in µs of steps 5 to 9. -/
  stepUs : List Nat
  /-- Quality figures found by field verification at step 9, by array index 8 x pan + array (06 R182). -/
  qfs : List (Nat × Nat)
  /-- The newer directory copy of the weight store fails its hash at power-up (07 R208). -/
  dirFault : Bool
  /-- The directory states of the slice's other packages, as the head has read them: the epoch switched to, and the epoch of an image
  that is written and pending (07 R211). -/
  dirs : List (Nat × Option Nat)
  /-- Pages of the own payload that fail their hash on both reads (07 R212). -/
  badPages : List Nat
  /-- What the load of the own payload took, in µs. -/
  loadUs : Nat
deriving DecidableEq, Repr

/-- What a life-cycle token read gives (13 R400). -/
inductive TokenRead
  | none
  | failed
  | ok (bytes : List Byte)
deriving DecidableEq, Repr

/-- The kinds of image operation (07 Table 7-10 OP). -/
inductive ImgOp
  | verify | install | stage | tack
deriving DecidableEq, Repr

/-- The two ends of a dispatch bundle (09 R302). -/
inductive MoeWork
  | route (slot topk : Nat) (scores : List (Nat × Nat × List W32))
  | run (expert : Nat) (positions : List (Nat × Nat × W32 × List W32))
deriving DecidableEq, Repr

/-- The commands. -/
inductive Instr
  -- host commands (08): fn and off name the function and the offset in its BAR2
  | commandSlotWrite (fn off : Nat) (data : List Byte)
  | openCmd (ch : Nat)
  | append (ch : Nat)
  | generate (ch : Nat)
  | cancel (ch : Nat)
  | park (ch : Nat)
  | resume (ch : Nat)
  | close (ch : Nat)
  | embed (ch : Nat)
  | chanReload (ch : Nat)
  | tenantSet (ch : Nat)
  | imageInstall (ch : Nat)
  | imageStage (ch : Nat)
  | imageTack (ch : Nat)
  | imageVerify (ch : Nat)
  | sliceSet (ch : Nat) (facts : SliceFacts)
  | rerig (ch : Nat) (facts : RerigFacts)
  | spareSet (ch : Nat)
  | marginTest (ch : Nat) (facts : MarginFacts)
  /-- `gone`: the unit named, of another member, was already retired. -/
  | retire (ch : Nat) (gone : Bool) (facts : RerigFacts)
  /-- With the package records that the MGMT messages of other members brought, by package ID (08 R263). -/
  | stateQuery (ch : Nat) (gathered : List (Nat × List Byte))
  | attest (ch : Nat)
  | nop (ch : Nat)
  -- events of the serving engine (08, 09, 11)
  | descriptorFetchComplete (ch : Nat) (r : FetchEnd)
  | tickBoundary
  | queuedAdmission (ch : Nat)
  | positionCommit (ch index : Nat)
  | stampFail (stream index : Nat)
  | lmHeadPassComplete (ch index : Nat) (logits : List W32)
  | draftProposal (ch : Nat) (logits : List W32)
  | budgetWindowEnd (tenant : Nat)
  | ttlExpiry (ch : Nat)
  | parkCopyComplete (ch : Nat) (err : Bool)
  | resumeRestore (ch : Nat) (poisoned : Bool)
  -- images and tacks (07)
  | drainMarker
  | drainLimitExpiry
  | tackRewriteStart
  | tackBankSwitch
  | weightStoreCommit
  /-- The next page of the image that an operation streams; a host read may fail. -/
  | imagePageReceive (op : ImgOp) (page : Nat) (r : FetchEnd)
  /-- A package's result code, and whether its K and V head seeds equal those in service (02 R66). -/
  | imageVerified (pkg code : Nat) (seeds : Bool)
  | imageWrite
  | imageWritten (pkg : Nat)
  | imageCommit
  | imageAbort (code : Nat)
  /-- At a spare that replaces a position, with the epoch that the position served at the failure (07 R231). -/
  | payloadLoad (us : Nat) (badPages : List Nat) (epoch : Option Nat)
  /-- A spare's copy of a position's payload for a duty of a kind (1 standing, 2 cold; 0 drops the duty): its epoch, page 0, the hash
  list and the payload's pages. At the covered package: it sends them (07 R230). -/
  | spareDutyCopy (pkg position kind epoch : Nat) (pages : List (Nat × List Byte))
  -- clamp monitor (04)
  | clampWindowClose
  | clampPolicyAction (slot : Nat)
  | dleLayerCopyComplete (slot : Nat) (verified : Bool)
  | clampRestore (slot : Nat)
  -- arrays and bittern path (03, 04)
  /-- `ecc` counts, here and below, the wrong bits of the worst pan-SRAM word read: 0 none, 1 corrected, 2 or more
  uncorrectable (05 R129). -/
  | vector (pan arr ring : Nat) (slot stream index vec : Nat) (ecc : Nat)
  | arrayVectorComplete (pan arr : Nat)
  /-- `pan` is, here and below, the pan that detects the slip (05 R158). -/
  | strictReplay (pan stream index : Nat)
  | bitternEventServe (pan : Nat)
  | ringLoad (pan ring : Nat) (acts : List Byte) (scale : W16)
  /-- A read of `len` bytes at an address of a MEM pair for the prefetch buffer at offset `dst`. -/
  | prefetch (pan stream index : Nat) (res addr len dst : Nat)
  | deadline (pan stream index : Nat)
  | attnReturn (pan stream index : Nat) (complete : Bool)
  | slipSlot (slot : Nat)
  | correctLast (pan scaleArr : Nat) (slot stream index vec : Nat) (ecc : Nat)
  | call (pan slot stream index : Nat) (op : PanOp) (ecc : Nat)
  | spot (pan arr : Nat) (eligible : Nat)
  | canary (pan : Nat)
  | flitForward (pan : Nat) (plane : Plane) (slot : Nat) (flits : List Flit)
  | controlFrameReceive (pan inp : Nat) (bytes : List Byte)
  | kvWriteComplete (stream index : Nat)
  | dleAttention (stream index slot : Nat) (blocks : List Nat) (len : Nat) (q : List W16)
      (fault : Option (Nat × DleFault))
  /-- A TIER2 matrix, or one that a clamp action switched (its arrays), on A8 vectors with their scales; a DLE matrix on the
  vectors that Jesia placed it for: INT8, E4M3, E5M2 or BF16 elements (04 R114, R118, R119). -/
  | dleTier2Pass (slot name : Nat) (arrays : List (Nat × Nat)) (acts : List (Nat × Nat × W16 × List Byte))
      (fault : Option (Nat × DleFault))
  -- checks and faults (11)
  | unitRetireDecision (kind unit : Nat)
  | panSubstitution (pan : Nat)
  | denyWrite (entry : Nat) (value : W32)
  -- housekeeping (15)
  | hkConversionComplete (chan : Nat) (value : Int) (good triggered : Bool) (trimEcc : List (Nat × Nat))
  | hkRoundEnd
  | headFractionUpdate (pkg f : Nat) (rate : RateReport)
  /-- A trigger; `busy` says that a round conversion runs or starts in the same HK cycle. -/
  | hkTrigger (busy : Bool)
  | hkFifoDataRead
  | laneMargining (port lane width height : Nat)
  -- trim and verification (06)
  | trimStoreLoad
  | verifyRequest (pan : Nat)
  | verificationComplete (pan : Nat) (qfs : List Nat)
  -- tick machine (05)
  | timeStart
  | timeStop
  | tickPeriodWrite (period : Nat)
  | periodChangeEffect
  | tickMarkerReceive (port : Nat) (m : Marker) (err : Int)
  | markerLost
  | freeTimeout
  | syncLock (pkg : Nat)
  | ptmDialog (masterNs : Option Nat)
  -- links and slices (10)
  | linkRetrain (port : Nat) (cause : RetrainCause)
  | linkTrainingDone (port : Nat) (r : TrainResult)
  /-- A frame with its codewords: corrected symbols by lane, and whether one of them is uncorrectable. -/
  | frameReceive (port : Nat) (bytes : List Byte) (lanes : List (Nat × Nat)) (bad : Bool)
  | linkAck (port seq : Nat)
  | linkNak (port seq : Nat)
  /-- `late` names the pan that finds the bundle's residuals missing at the start of their first slot (05 R158). -/
  | bundleReceive (b : Bundle) (late : Option Nat)
  | verdictReceive (stamps : List Stamp)
  | routeFrame (src : Nat) (entries : List (Nat × W32)) (accept : Option Nat) (role : Option RoleWrite)
      (parent : Option Nat) (switchTick : Option Nat)
  | routeBankSwitch
  /-- At the router package: gate scores of the tick's positions (stream, index, scores), top-k of them. At an expert's
  package: the dispatched positions (stream, index, weight, activations). -/
  | moeDispatch (d : MoeWork)
  /-- At the next layer's package: the outputs with their weights, and the residual, for the MoE layer's number. -/
  | moeReturn (layer stream index : Nat) (outs : List (W32 × List W16)) (residual : List W32)
  | memberLossReport (pkg : Nat)
  | memberLost (pkg cause : Nat)
  | memberRejoin (pkg : Nat) (kept : Bool)
  | rerigWaitExpiry (facts : RerigFacts)
  | streamRebuilt (ch : Nat)
  | routeWrite (value : W32)
  | vlShareWrite (port : Nat) (value : W32)
  -- the arbitrated edge (05)
  /-- `ch` names the channel whose command's read a host-DMA transfer carries. -/
  | arbRequest (res unit : Nat) (who : Requester) (waited : Nat) (ch : Option Nat)
  | backoffExpiry (res unit : Nat) (who : Requester)
  /-- `data` is what a pan's prefetch brings; `ecc` the wrong bits of its worst word, as in a flit. -/
  | arbTransferComplete (res unit : Nat) (bytes : Nat) (write : Bool) (data : List Byte) (ecc : Nat)
  | arbWatchdogBite (res unit : Nat)
  | biteResetEnd (res : Nat)
  -- reply rings and PCIe (08, 12)
  | replyRecordWrite (fn ring : Nat) (ok : Bool)
  | backlogDrain (fn ring : Nat)
  | ringEnable (fn ring : Nat)
  | ringConsWrite (fn ring : Nat) (cons : W32)
  | pendRead (fn : Nat)
  | chanRangeWrite (fn : Nat) (value : W32)
  | msixUnmask (fn entry : Nat)
  | eventRingEnable
  | eventRingConsWrite (cons : W32)
  | lateCompletion
  /-- `ch` names the channel whose command's read a poisoned completion ends. -/
  | poisonedTlp (write : Bool) (ch : Option Nat)
  | atomicOp (fn bar : Nat)
  | flrVf (fn : Nat)
  | flrPf0
  | flrCompletion (fn : Nat)
  | vfEnableClear
  | busMasterDisable (fn : Nat)
  | d3hotEntry (fn : Nat)
  | d3hotExit (fn : Nat)
  | pcieLinkDown
  | pcieHotReset
  | perst (low : Bool)
  | configRequestRetry (fn : Nat)
  -- snapshots and 64-bit reads (00, 01)
  /-- A read of `len` bytes of BAR0, or of BAR2 with `slots`. -/
  | lowWordRead (fn : Nat) (slots : Bool) (off len : Nat)
  | snapHold
  | snapRelease
  | snapHoldExpiry
  -- digital access (03)
  | panDigRead (pan arr row : Nat)
  | panDigWrite (pan arr row : Nat)
  | panDigComplete (pan : Nat)
  -- identity and life cycle (13)
  | keyEnrol (slot : Nat)
  | keyRevoke (slot : Nat)
  | lcChallenge
  | lcTransition (target confirm : Nat) (token : TokenRead) (torn : Bool)
  | fwUpdate (bundle : Option (List (List Byte))) (cut : Bool)
  | commitSvn
  | attestReservation (firstOk retryOk : Bool)
  -- reset, clocks and self-test (14)
  | powerOnReset
  | railsSoftStart (railOk : Bool)
  | ccBoot (facts : BootFacts)
  | auxBrownout
  | coldReset (hottest : Int)
  | warmReset
  | rstCtrlWarm (value : Nat)
  | watchdogKick
  | deviceWatchdogBite
  | pllLossOfLock (dom : PllDomain)
  | referenceFailure
  | thermalTrip (sensor : Nat) (temp : Int)
  | thermalTripRestart (hottest : Int)
  | vinFault
  | vbakLoss
  -- power, islands, self-test, crow's nest (14, 15)
  | furlRequest
  | wakeN
  | islandFurlRetain (isl : Nat)
  | islandFurlDark (isl : Nat)
  | islandUnfurl (isl : Nat)
  | islandFurlComplete (isl : Nat)
  | islandUnfurlComplete (isl : Nat)
  | bistRequest (fclk kind target : Nat)
  | bistComplete (cond : Bool) (badUnits : List Nat)
  | resetCountClear
  | rtcSet
  -- management path (15)
  | mgmtTsRead (block off len : Nat)
  | mgmtDenyWrite (entry : Nat) (value : W32)
  | mgmtReefFloorWrite (value : W32)
  | mgmtFurl
  | mgmtWake
  | mgmtTripRecordRead (i : Nat)
  -- the rest of the table
  | registerWrite (fn off : Nat) (data : List Byte)
  /-- One temperature point: the largest ladder repeat difference in 1/256 count; new tap records and residual RMS errors in
  1/1000 count by array index 8 x pan + array; whether it is the last point. -/
  | factoryCalibration (point ladderDiff : Nat) (taps : List (Nat × List Byte)) (resid : List (Nat × Nat)) (last torn : Bool)
  | attestationKeyGeneration
  | completionTimeout (res unit : Nat)
  | pcieLinkUp (speed width : Nat) (reversed sris : Bool)
  | busMasterEnable (fn : Nat)
  | mgmtI3cCfgWrite (value : W32)
deriving DecidableEq, Repr

end Sys2Proof
end

