-- ==== Sys2Proof/Machine/StFabric.lean ====
section
/-! DEFINITION. State of the fabric: arrays, pans, hop tables, the tick's work, the clamp monitor and the DLE
(spec/03 to spec/06, spec/11). A field's default value is its value after a power-on reset; the tag in brackets names
the file and rule of spec/ that gives the field, and its reset value's source. -/

namespace Sys2Proof.Machine

/-- Array modes (03 Table 3-2). -/
inductive ArrMode
  | idle | digital | compute
deriving DecidableEq, Repr

/-- Array weight formats (02 R45 to R47). -/
inductive Fmt
  | b1 | t2 | q2
deriving DecidableEq, Repr

/-- PAN_ARRa_CFG (03 Table 3-10). -/
structure ArrCfg where
  /-- GROUP_EN, group enables [03 R79; reset 0xFFFF] -/
  groupEn : BitVec 16 := 0xFFFF
  /-- WIDE [03 R79; reset 0] -/
  wide : Bool := false
  /-- FMT [03 Table 3-10; reset Q2] -/
  fmt : Fmt := .q2
  /-- MODE [03 R76; reset IDLE] -/
  mode : ArrMode := .idle
deriving DecidableEq, Repr

/-- A saturation event in a bittern queue (03 R85). -/
structure BtnEvent where
  arr : Nat
  group : Nat
  plane : Nat
  /-- Bit-columns flagged in that group and plane. -/
  mask : List Nat
  /-- Configuration the vector runs under. -/
  cfg : ArrCfg
  ring : Nat
  slot : Nat
  stream : Nat
  index : Nat
  vec : Nat
  /-- An event of a strict replay goes to the queue's head (04 R109). -/
  replay : Bool
  /-- The schedule cycle of its accumulate, as Sys2Proof.Machine.cycleKey gives it (04 R99). -/
  enter : Nat
deriving DecidableEq, Repr

/-- A vector on an array: its tag, the configuration in force at its step 0, and what its steps have formed. -/
structure RunVec where
  slot : Nat
  stream : Nat
  index : Nat
  vec : Nat
  ring : Nat
  cfg : ArrCfg
  /-- The schedule cycle of its last accumulate, as cycleKey gives it (03 R83). -/
  last : Nat
  /-- The vector's scale, which goes with its elements (02 R52). -/
  scale : W16
  /-- Column partial sums, INT32 (02 R54). -/
  sums : List W32
  /-- The check sum Y (11 R335). -/
  y : W32
  /-- Bittern addends of its columns, with their shifts (04 R100). -/
  adds : List (Nat × W32)
  /-- The tick in which its last accumulate fell. -/
  tick : Nat
  /-- Overflowed conversions: (weight column, R106 bound). -/
  clamped : List (Nat × Nat)
  /-- Row-sum judged, and judged a failure. -/
  checked : Bool
  /-- VALID was 0: every count reads 0 (03 R94). -/
  invalid : Bool
  /-- Its segment was read with an uncorrectable error (05 R129). -/
  poison : Bool
deriving DecidableEq, Repr

/-- One array (03 R75). -/
structure Arr where
  /-- Configuration in force [03 R96; reset Table 3-10] -/
  cfg : ArrCfg := {}
  /-- Configuration due at the next boundary [03 R77; reset none] -/
  cfgDue : Option ArrCfg := none
  /-- STAT.VALID [03 R94; reset 0] -/
  valid : Bool := false
  /-- STAT.COMPUTE_INVALID [03 R94; reset 0] -/
  computeInvalid : Bool := false
  /-- STAT.WR_DISCARD [03 R93; reset 0] -/
  wrDiscard : Bool := false
  /-- VEC_CNT [03 Table 3-12; reset 0] -/
  vecCnt : W32 := 0
  /-- SAT_CNT [03 Table 3-12; reset 0] -/
  satCnt : W32 := 0
  /-- SAT_GROUP of the current tick [03 Table 3-13; reset 0] -/
  satGroup : BitVec 16 := 0
  /-- Groups and conversions flagged in steps that the next tick drives: (group bits, conversions) [03 Table 3-12, Table 3-13; reset 0] -/
  satLate : BitVec 16 × Nat := (0, 0)
  /-- The cells, row r at bytes 64r to 64r + 63 [02 R45, 03 R75; reset DESIGN CHOICE 0, entry 7] -/
  cells : Mem := []
  /-- The vector on the array [03 R82; reset none] -/
  run : Option RunVec := none
  /-- Vectors completed in the current tick, for the spot recompute [04 R111; reset none] -/
  done : List RunVec := []
  /-- (stream, index) of positions with a vector since the last passing content check [11 R339; reset none] -/
  since : List (Nat × Nat) := []
  /-- SCRUB part: tick up to which content checks have passed [11 R340; reset 0] -/
  scrub : Nat := 0
  /-- QF.STALE [06 R185; reset 1] -/
  qfStale : Bool := true
  /-- QF.OUT_ENV [06 R184; reset 0] -/
  outEnv : Bool := false
  /-- QF.WARN [06 R184; reset 0] -/
  qfWarn : Bool := false
  /-- QF.QF [06 R184; reset 0] -/
  qf : BitVec 12 := 0
  /-- The array is retired: its pan takes only payloads whose MASK excludes it [11 R352; reset 0] -/
  excluded : Bool := false
  /-- The array is being rewritten in place after a content failure [11 R339; reset 0] -/
  restoring : Bool := false
  /-- TRIM_BAD: no accepted taps [06 R174; reset 0] -/
  trimBad : Bool := false
deriving DecidableEq, Repr

/-- PAN_STAT.ROLE (05 Table 5-10). -/
inductive PanRole
  | active | spareIdle | spareServing | retired
deriving DecidableEq, Repr

/-- What goes with an A8 input segment, whose elements stand in the pan's SRAM (05 R128): the vector's scale (02 R52). -/
structure Seg where
  scale : W16
deriving DecidableEq, Repr

/-- A column accumulation at its destination pan (05 R139, R140). -/
structure SumAcc where
  slot : Nat
  stream : Nat
  index : Nat
  vec : Nat
  /-- Column sums, INT32. -/
  cols : List W32
  /-- First columns of the dense flits that have come: the columns that this destination scales. -/
  cover : List Nat
  /-- The reduced vector's scale s_v (02 R56). -/
  scale : W16
  poison : Bool
  clamped : Bool
deriving DecidableEq, Repr

/-- Names one vector: the layer slot, the position, the vector's number (05 Table 5-3 VEC). -/
structure VecTag where
  slot : Nat
  stream : Nat
  index : Nat
  vec : Nat
deriving DecidableEq, Repr

/-- One pan (05 R127, R162). Pan-dependent reset values (ROLE, ISLAND) come from Pan.reset. -/
structure Pan where
  /-- STAT.ROLE [05 Table 5-10, 01 R26; reset per pan] -/
  role : PanRole := .active
  /-- STAT.SUBST [05 Table 5-10; reset 0xFFF] -/
  subst : BitVec 12 := 0xFFF
  /-- STAT.PROG_VALID [05 Table 5-10; reset 0] -/
  progValid : Bool := false
  /-- VTRIM.STEP in force, -4 to 4 [05 R130; reset 0] -/
  vtrim : Int := 0
  /-- VTRIM due at the next boundary [05 R130; reset none] -/
  vtrimDue : Option Int := none
  /-- SRAM_ECC.CE [05 R129; reset 0] -/
  sramCE : BitVec 16 := 0
  /-- SRAM_ECC.UE [05 R129; reset 0] -/
  sramUE : BitVec 15 := 0
  /-- SRAM_ECC.UE_SEEN [05 R129; reset 0] -/
  ueSeen : Bool := false
  /-- RTR_ECC.CE [05 R133; reset 0] -/
  rtrCE : BitVec 16 := 0
  /-- RTR_ECC.UE [05 R133; reset 0] -/
  rtrUE : BitVec 16 := 0
  /-- RTR_CONFLICT [05 R137; reset 0] -/
  conflicts : W32 := 0
  /-- CTL_CRC [05 R134; reset 0] -/
  ctlCrc : W32 := 0
  /-- VCORE_BUSY of the current tick [05 Table 5-10; reset 0] -/
  vcoreBusy : W32 := 0
  /-- The 8 arrays [03 R75; reset Arr] -/
  arrs : Sparse Arr := []
  /-- Pan SRAM, Table 5-2 map [05 R128; reset DESIGN CHOICE 0, entry 7] -/
  sram : Mem := []
  /-- Scales of the segments in the activation ring's 40 slots [05 R128; reset none] -/
  ring : List (Nat × Seg) := []
  /-- FP32 residual parts in the working store, by stream, index and first element [02 R57, 05 Table 5-2; reset none] -/
  resid : List (Nat × Nat × Nat × List W32) := []
  /-- Amax values that exchanges have agreed on, and FAULT [05 R141; reset none] -/
  amaxes : List (VecTag × W32 × Bool) := []
  /-- Destination accumulations of reductions that end here [05 R139; reset none] -/
  accs : List SumAcc := []
  /-- Outputs scaled here and results of pan program entries, FP32 [02 R56; reset none] -/
  work : List W32 := []
  /-- DIG_CTRL.OP: write [03 Table 3-14; reset 0] -/
  digOp : Bool := false
  /-- DIG_CTRL.ARRAY [03 Table 3-14; reset 0] -/
  digArr : BitVec 3 := 0
  /-- DIG_CTRL.ROW [03 Table 3-14; reset 0] -/
  digRow : BitVec 10 := 0
  /-- DIG_STAT.DENIED [03 R98; reset 0] -/
  digDenied : Bool := false
  /-- DIG_STAT.DONE [03 R97; reset 0] -/
  digDone : Bool := false
  /-- The access that runs: op, array, row and the copied data; BUSY is its presence [03 R97; reset none] -/
  digRun : Option (Bool × Nat × Nat × List Byte) := none
  /-- DIG_DATA0 to 15, 64 bytes [03 Table 3-15; reset 0] -/
  digData : Mem := []
  /-- BTN_EVENTS [04 R124; reset 0] -/
  events : W32 := 0
  /-- BTN_SERVED [04 R124; reset 0] -/
  served : W32 := 0
  /-- BTN_OVERFLOWS [04 R103; reset 0] -/
  overflows : W32 := 0
  /-- BTN_TICK.UNITS_USED of the current tick [04 R102; reset 0] -/
  unitsUsed : Nat := 0
  /-- BTN_TICK.OVF_CAUSE bit 8 of the current tick: queue full or closure passed [04 R103; reset 0] -/
  ovfFull : Bool := false
  /-- BTN_TICK.OVF_CAUSE bit 9 of the current tick: reservation spent [04 R103; reset 0] -/
  ovfSpent : Bool := false
  /-- BTN_TICK.QUEUE_PEAK of the current tick [04 R99; reset 0] -/
  queuePeak : Nat := 0
  /-- BTN_CLAMPED [04 R105; reset 0] -/
  clampedOut : W32 := 0
  /-- BTN_SPOT_RUN [04 R112; reset 0] -/
  spotRun : W32 := 0
  /-- BTN_SPOT_FAIL [04 R112; reset 0] -/
  spotFail : W32 := 0
  /-- BTN_SPOT_SKIP [04 R111; reset 0] -/
  spotSkip : W32 := 0
  /-- The bittern queue, oldest first, 64 events [04 R99; reset empty] -/
  queue : List BtnEvent := []
  /-- Events of running vectors whose accumulate cycle is yet to come [04 R99; reset none] -/
  coming : List BtnEvent := []
  /-- Spot comparisons that wait for events of their vector: array, vector, column [04 R112; reset none] -/
  spots : List (Nat × VecTag × Nat) := []
  /-- TRIM_STAT.LOADED [06 R170; reset 0] -/
  trimLoaded : Bool := false
  /-- TRIM_STAT.TEMP_SUBST [06 R176; reset 0] -/
  tempSubst : Bool := false
  /-- TRIM_STAT.CLAMP [06 R178; reset 0] -/
  trimClamp : Bool := false
  /-- TRIM_STAT.TEMP, 1/16 degree [06 R177; reset 0] -/
  temp : BitVec 12 := 0
  /-- The trim store: the pan record of 4,608 bytes [06 R170; reset DESIGN CHOICE 0, entry 7] -/
  trimStore : Mem := []
  /-- Applied taps, by tap number 512 x array + tap (Numeric.tapIndex) [06 R178; reset 0] -/
  applied : Sparse Int := []
  /-- Target taps [06 R178; reset 0] -/
  target : Sparse Int := []
  /-- Taps jump to their targets at the next boundary [06 R180; reset 0] -/
  tapJump : Bool := false
  /-- TRIM_SEL [06 Table 6-7; reset 0] -/
  trimSel : BitVec 13 := 0
  /-- CHK_ROWSUM [11 R364; reset 0] -/
  rowsumFails : W32 := 0
  /-- CHK_CONTENT [11 R364; reset 0] -/
  contentFails : W32 := 0
  /-- CHK_LAST.ARRAY [11 R364; reset 0] -/
  lastArr : BitVec 3 := 0
  /-- CHK_LAST.CAUSE [11 R364; reset 0] -/
  lastCause : BitVec 3 := 0
  /-- CHK_LAST.TICK [11 R364; reset 0] -/
  lastTick : BitVec 20 := 0
  /-- CHK_CANARY.MISS [11 R341; reset 0] -/
  canaryMiss : Bool := false
  /-- CHK_CANARY.RUN [11 R341; reset 0] -/
  canaryRun : BitVec 31 := 0
  /-- A canary is due in this tick, on this array [11 R341; reset none] -/
  canaryDue : Option Nat := none
  /-- Work of this pan is decided to move: replacing spare and the boundary from which it may take effect [11 R352; reset none] -/
  vacateTo : Option (Nat × Nat) := none
  /-- The vacate retires the pan (else it returns or is denied) [11 R352, R359; reset 0] -/
  vacateRetires : Bool := false
  /-- The pan is under a verification, a margin test or a one-pan tack [06 R183, 11 R357; reset 0] -/
  busy : Bool := false
  /-- A vacated array returns after its rewrite and content check [11 R339; reset none] -/
  returnArr : Option Nat := none
deriving DecidableEq, Repr

/-- Column of a pan (01 R26). -/
def Pan.col (p : Nat) : Nat := p / 32

/-- Row of a pan (01 R26). -/
def Pan.row (p : Nat) : Nat := p % 32

/-- Island of a pan (01 R27). -/
def Pan.island (p : Nat) : Nat := 8 * (if Pan.col p ≤ 32 then 0 else 1) + Pan.row p / 4

/-- A pan after reset: columns 0 and 65 hold the spares as shipped (01 R26). -/
def Pan.reset (p : Nat) : Pan :=
  { role := if Pan.col p = 0 ∨ Pan.col p = 65 then .spareIdle else .active }

/-- An array after reset. -/
def Arr.reset (_ : Nat) : Arr := {}

/-- A hop-table entry (05 Table 5-4). -/
structure HopEntry where
  start : Nat
  len : Nat
  period : Nat
  count : Nat
  inp : Nat
  out : Nat
  op : Nat
  valid : Bool
deriving DecidableEq, Repr

/-- A timetable entry (07 Table 7-6). -/
structure TtEntry where
  cycle : Nat
  tickInFrame : Nat
  action : Nat
  unit : Nat
  arg0 : Nat
  arg1 : Nat
deriving DecidableEq, Repr

/-- Where a layer slot runs (04 Table 4-6 PLACED). -/
inductive Placed
  | image | narrow | dle | running
deriving DecidableEq, Repr

/-- One layer slot of the clamp monitor (04 R107, R125). -/
structure ClampSlot where
  /-- CFG.POLICY [04 Table 4-6; reset from image: DESIGN CHOICE 0 with no image, entry 6] -/
  policy : BitVec 2 := 0
  /-- CFG.THRESH [04 Table 4-6; reset from image: DESIGN CHOICE 0 with no image, entry 6] -/
  thresh : BitVec 16 := 0
  /-- VEC [04 R107; reset 0] -/
  vec : W32 := 0
  /-- CLAMPED [04 R107; reset 0] -/
  clamped : W32 := 0
  /-- Vectors counted in the running window [04 R107; reset 0] -/
  cntVec : W32 := 0
  /-- CLAMPED vectors counted in the running window [04 R107; reset 0] -/
  cntClamped : W32 := 0
  /-- STAT.PLACED [04 Table 4-6; reset image] -/
  placed : Placed := .image
  /-- STAT.VALID [04 Table 4-6; reset 0] -/
  valid : Bool := false
  /-- STAT.HIGH [04 R107; reset 0] -/
  high : Bool := false
  /-- The policy action that runs and the first tick at which it may apply [04 R108; reset none] -/
  actionDue : Option (BitVec 2 × Nat) := none
  /-- A DLE action waits for its copy into DRAM [04 R108; reset 0] -/
  copying : Bool := false
  /-- A RESTORE is due at the next boundary [04 R125; reset 0] -/
  restoreDue : Bool := false
  /-- Arrays whose WIDE the NARROW action cleared: (pan, array) [04 R108; reset none] -/
  narrowed : List (Nat × Nat) := []
deriving DecidableEq, Repr

/-- A slot of the monitor after reset. -/
def ClampSlot.reset (_ : Nat) : ClampSlot := {}

/-- A position in this package (05 R158 to R160, 11 R346, R347). -/
structure Work where
  stream : Nat
  index : Nat
  epoch : Nat
  block : Nat
  bslot : Nat
  provisional : Bool
  rebuild : Bool
  target : Nat
  /-- Acceptance mark that travels with it (09 R280). -/
  mark : Option Nat
  /-- Expert that runs it, at an expert's package (09 R302). -/
  expert : Option Nat
  /-- Tick in which it began its current half. -/
  tick : Nat
  /-- 0: attention half to run; 1: FFN half to run; 2: complete in this tick. -/
  half : Nat
  /-- Slips in this package (NOTE bits 7:3). -/
  slips : Nat
  /-- Strict replays in this package (NOTE bits 2:1). -/
  replays : Nat
  clamped : Bool
  poison : Bool
  /-- It waits for a slip slot. -/
  slipped : Bool
  /-- The tick of the slip that it waits out (05 R160). -/
  slipAt : Nat
  /-- Its next run is a strict replay (04 R109). -/
  replaying : Bool
  /-- The layer slot whose step is a strict replay (04 R109). -/
  replaySlot : Option Nat
  /-- The layer slot in which it became CLAMPED. -/
  clampSlot : Option Nat
  /-- Result so far, as StampEntry.result, with cause, unit kind and unit. -/
  result : Nat
  cause : Nat
  kind : Nat
  unit : Nat
  /-- Attention result returned. -/
  attnDone : Bool
  /-- The residual that came with it, and the layer's result for the next package, BF16 values as FP32. -/
  residual : List W32
  outRes : List W32
deriving DecidableEq, Repr

/-- A pan's DRAM prefetch for a step of the next tick (05 R157): where it reads, where the data go, and whether they have. -/
structure Prefetch where
  pan : Nat
  stream : Nat
  index : Nat
  res : Nat
  addr : Nat
  len : Nat
  /-- Offset in the prefetch buffer (05 Table 5-2). -/
  dst : Nat
  landed : Bool
  poison : Bool
deriving DecidableEq, Repr

/-- A hot-window entry: the KV of one position (05 R128, R157; 09 R280, R288). -/
structure HotEntry where
  stream : Nat
  index : Nat
  /-- Its place in the KV pool. -/
  block : Nat
  bslot : Nat
  provisional : Bool
  /-- Its pool write has completed. -/
  done : Bool
  /-- Quantized K and V with scales, as bytes, by layer slot (02 R59). -/
  data : List (Nat × List Byte)
deriving DecidableEq, Repr

/-- The FAB block and what the fabric's control plane holds (05 R163, 04 R125, 06 R188). -/
structure Fab where
  /-- BTN_CFG.RESERVE [04 R102; reset 0x080] -/
  reserve : BitVec 9 := 0x080
  /-- RES_EFF in force [04 R102; reset 128] -/
  resEff : Nat := 128
  /-- n_spot in force [04 R104; reset 8] -/
  nSpot : Nat := 8
  /-- BTN_SPOT_KEY as written [04 R125; reset 0] -/
  spotKey : W64 := 0
  /-- spot_key in force [04 R125; reset 0] -/
  spotKeyInForce : W64 := 0
  /-- Layer slots 0 to 15 of the clamp monitor [04 R107; reset ClampSlot] -/
  clamps : Sparse ClampSlot := []
  /-- STAT.DEGRADED [05 Table 5-11; reset 0] -/
  degraded : Bool := false
  /-- HOP_CTRL.FRAME, F in ticks [05 R135; reset 1] -/
  frame : Nat := 1
  /-- HOP_CTRL.PENDING [05 R138; reset 0] -/
  hopPending : Bool := false
  /-- HOP_CTRL.BANK [05 R138; reset 0] -/
  bank : Bool := false
  /-- SLIP_CNT [05 R160; reset 0] -/
  slipCnt : W32 := 0
  /-- SLIP_TICK.STRICT of the current tick [05 Table 5-11; reset 0] -/
  slipStrict : BitVec 8 := 0
  /-- SLIP_TICK.LINK of the current tick [05 Table 5-11; reset 0] -/
  slipLink : BitVec 8 := 0
  /-- SLIP_TICK.ATTN of the current tick [05 Table 5-11; reset 0] -/
  slipAttn : BitVec 8 := 0
  /-- SLIP_TICK.PREFETCH of the current tick [05 Table 5-11; reset 0] -/
  slipPrefetch : BitVec 8 := 0
  /-- SLIP_WAIT.WAITING of the current tick [05 R160; reset 0] -/
  slipWaiting : BitVec 16 := 0
  /-- Slip slots filled in the current tick, by layer slot [05 R160; reset 0] -/
  slipUsed : Sparse Nat := []
  /-- Replay pairs used in the current tick, by layer slot [04 R110; reset 0] -/
  pairsUsed : Sparse Nat := []
  /-- CAL_INFO.CAL_COUNT [06 Table 6-8; reset from region: DESIGN CHOICE 0, entry 6] -/
  calCount : BitVec 8 := 0
  /-- CAL_INFO.LADDER_DIFF [06 Table 6-8; reset from region: DESIGN CHOICE 0, entry 6] -/
  ladderDiff : BitVec 16 := 0
  /-- CAL_INFO.POINTS [06 Table 6-8; reset from region: DESIGN CHOICE 0, entry 6] -/
  calPoints : BitVec 3 := 0
  /-- CAL_DAY [06 Table 6-8; reset from region: DESIGN CHOICE 0, entry 6] -/
  calDay : W32 := 0
  /-- VERIFY_CTRL.PAN [06 Table 6-8; reset 0] -/
  verPan : BitVec 12 := 0
  /-- VERIFY_STAT.BUSY [06 Table 6-8; reset 0] -/
  verBusy : Bool := false
  /-- VERIFY_STAT.DONE [06 Table 6-8; reset 0] -/
  verDone : Bool := false
  /-- VERIFY_STAT.REFUSED [06 R183; reset 0] -/
  verRefused : Bool := false
  /-- VERIFY_STAT.REASON [06 R183; reset 0] -/
  verReason : BitVec 4 := 0
  /-- VERIFY_STAT.PAN [06 Table 6-8; reset 0] -/
  verRunPan : BitVec 12 := 0
  /-- The spare that holds the payload of the pan under verification [06 R183; reset none] -/
  verSpare : Option Nat := none
  /-- QF_LIMIT.WARN [06 R184; reset 0x06E] -/
  qfWarnLimit : BitVec 12 := 0x06E
  /-- Hop-table banks, keyed 3 x 2112 x bank + 2112 x plane + router [05 R136; reset empty] -/
  hops : List (Nat × List HopEntry) := []
  /-- Pan timetables of the schedule in force [07 R200; reset empty] -/
  tables : List (Nat × List TtEntry) := []
  /-- Positions in this package, in bundle order [05 R158; reset none] -/
  works : List Work := []
  /-- REVOKE entries due in the next stamp: (stream, index, cause, array) [11 R339; reset none] -/
  revokes : List (Nat × Nat × Nat × Nat) := []
  /-- Stamp entries of positions whose bundle left in the current tick [11 R347; reset none] -/
  leaving : List StampEntry := []
  /-- Stamps received from upstream, to be passed on [11 R346; reset none] -/
  upstream : List Stamp := []
  /-- Prefetches issued for steps to come [05 R157; reset none] -/
  prefetches : List Prefetch := []
  /-- The hot window: KV written in the tick, or provisional, or whose pool write has not completed [09 R280, R288; reset none] -/
  hot : List HotEntry := []
  /-- KV data of this package by (block, slot): quantized K and V with scales, as bytes [02 R59; reset none] -/
  kv : List (Nat × List Byte) := []
  /-- Blocks that carry poison [11 Table 11-4; reset none] -/
  poisonBlocks : List Nat := []
  /-- Positions complete, waiting to leave in this tick's bundle [01 R28; reset none] -/
  outBundle : List BundleEntry := []
  /-- Tick of the tack marker that has passed this package and its epoch [07 R219; reset none] -/
  markerSeen : Option (Nat × Nat) := none
  /-- Positions of the tick in which positions last left this package [07 R220; reset none] -/
  lastLeft : List (Nat × Nat) := []
  /-- Verdict stamps that have come from upstream: ((stream, index), package) [07 R220; 11 R346; reset none] -/
  stamped : List ((Nat × Nat) × Nat) := []
  /-- The marker has been passed on [07 R219; reset 0] -/
  markerSent : Bool := false
  /-- Power-up verification figures stored by array are in the arrays; this is the tick of the last window close [04 R107; reset 0] -/
  windowTick : Nat := 0
  /-- Expert positions taken in the current tick, by expert [09 R302; reset none] -/
  expertUsed : Sparse Nat := []
deriving DecidableEq, Repr

/-- What a DLE or TIER2 matrix gave for a position: its layer slot and name, and the output (04 R114, R118). -/
structure DleOut where
  slot : Nat
  name : Nat
  stream : Nat
  index : Nat
  out : List W32
deriving DecidableEq, Repr

/-- A section of a DLE or TIER2 matrix: the manifest's slot, name and flags, and its bytes (07 Table 7-2, Table 7-3). -/
structure DleSect where
  slot : Nat
  name : Nat
  flags : Nat
  bytes : List Byte
deriving DecidableEq, Repr

/-- A position's attention that the DLE is to compute: the layer slot, its context's blocks, the input's length, and q (04 R115). -/
structure AttnJob where
  stream : Nat
  index : Nat
  slot : Nat
  blocks : List Nat
  len : Nat
  q : List W16
  fault : Option (Nat × DleFault)
deriving DecidableEq, Repr

/-- The DLE block (04 R126). -/
structure Dle where
  /-- STAT.RETIRED [04 Table 4-7; reset 0] -/
  retired : BitVec 4 := 0
  /-- STAT.ONLINE [04 R123; reset 0] -/
  online : BitVec 4 := 0
  /-- FAULT.ATTN_LATE [04 R117; reset 0] -/
  attnLate : Bool := false
  /-- FAULT.ECC_UE [04 R122; reset 0] -/
  eccUE : Bool := false
  /-- FAULT.NUMERIC [04 R122; reset 0] -/
  numeric : Bool := false
  /-- CLc_CFG.CLK_STEP in force, by cluster [04 R123; reset 0] -/
  clkStep : Sparse Nat := []
  /-- CLK_STEP due at the next boundary: (cluster, step) [04 R123; reset none] -/
  clkStepDue : List (Nat × Nat) := []
  /-- CLc_BUSY of the current tick [04 Table 4-7; reset 0] -/
  busy : Sparse Nat := []
  /-- CLc_SRAM_CE [04 Table 4-7; reset 0] -/
  sramCE : Sparse W32 := []
  /-- MAC slots executed [04 Table 4-7; reset 0] -/
  macs : W64 := 0
  /-- ATTN_POS [04 Table 4-7; reset 0] -/
  attnPos : W32 := 0
  /-- ATTN_SLIPS [04 R117; reset 0] -/
  attnSlips : W32 := 0
  /-- TIER2_PASSES [04 R119; reset 0] -/
  tier2Passes : W32 := 0
  /-- FAULT_CNT.UE [04 Table 4-7; reset 0] -/
  ueCnt : BitVec 16 := 0
  /-- FAULT_CNT.NUMERIC [04 Table 4-7; reset 0] -/
  numericCnt : BitVec 16 := 0
  /-- Attention results returned to the pans: (stream, index, BF16 elements) [04 R115; reset none] -/
  attnOut : List (Nat × Nat × List W16) := []
  /-- Positions whose attention is late, oldest slip first: the DLE serves them first [04 R117; reset none] -/
  attnWait : List (Nat × Nat) := []
  /-- Attention that waits until the slipped positions are served, oldest first [04 R117; reset none] -/
  attnHeld : List AttnJob := []
  /-- Outputs of DLE and TIER2 matrices, FP32 [04 R114, R118; reset none] -/
  outs : List DleOut := []
  /-- DLE_MATRIX sections by manifest index [07 Table 7-3, R197; reset none] -/
  mats : List (Nat × DleSect) := []
  /-- TIER2 sections in DRAM by manifest index [07 R197, R215; reset none] -/
  tier2 : List (Nat × DleSect) := []
  /-- SRAM of the four clusters: sections that stand there, by cluster and manifest index [04 Table 4-3, R114; reset none] -/
  sram : List (Nat × Nat) := []
deriving DecidableEq, Repr

end Sys2Proof.Machine
end

