-- ==== Sys2Proof/Machine/StSys.lean ====
section
/-! DEFINITION. State of the blocks around the fabric: GLB, TIME, the arbitrated edge, WS and images, LNK, PCIE, CHK,
SEC and crow's nest NV, RST, HK and CN. A field's default value is its value after a power-on reset; the tag in
brackets names the file and rule of spec/ that gives the field, and its reset value's source. -/

namespace Sys2Proof.Machine

/-- GLB_ROLE (01 Table 1-13), sticky across a warm reset (14 R406). -/
structure Role where
  /-- GLB_ROLE.ASSIGNED [01 Table 1-13; reset 0] -/
  assigned : Bool := false
  /-- GLB_ROLE.SLICE [01 Table 1-13; reset 0x00] -/
  slice : BitVec 8 := 0
  /-- GLB_ROLE.ROLE [01 Table 1-13; reset 0b000] -/
  role : BitVec 3 := 0
  /-- GLB_ROLE.PKG_ID [01 Table 1-13; reset 0x000] -/
  pkg : BitVec 12 := 0
  /-- Timing parent [05 R146, 14 R407; reset none: the package is its own master] -/
  parent : Option Nat := none
  /-- Slice position; 0xFFFF for a spare [07 R195; reset 0xFFFF] -/
  position : Nat := 0xFFFF
  /-- Package ID of the slice's head, as the ROUTE frame that assigned this package gave it [10 R323; reset none] -/
  head : Option Nat := none
  /-- Role, accept mask and timing parent that ROUTE frames wrote and the next bank switch puts in force [10 R325, R329; reset none] -/
  roleDue : Option RoleWrite := none
  acceptDue : Option Nat := none
  parentDue : Option Nat := none
  /-- Source of the frame that wrote roleDue [10 R323; reset none] -/
  headDue : Option Nat := none
deriving DecidableEq, Repr

/-- Tick states (05 Table 5-6). -/
inductive TickState
  | stopped | sync | run | free
deriving DecidableEq, Repr

/-- An announced change of period or stretch (05 R148). -/
structure PendChange where
  effective : Nat
  period : Option Nat
  stretch : Option Nat
  /-- It has been announced in a marker. -/
  announced : Bool
deriving DecidableEq, Repr

/-- TIME (05 R164) and the PTM clock (12 R378). -/
structure Time where
  /-- TIME_STAT.STATE [05 Table 5-12; reset STOPPED] -/
  st : TickState := .stopped
  /-- A STOP takes effect at the next boundary [05 Table 5-12; reset 0] -/
  stopDue : Bool := false
  /-- TIME_TICK, live tick number [05 Table 5-12; reset 0] -/
  tick : Nat := 0
  /-- TIME_CYCLE, live cycle within the tick [05 Table 5-12; reset 0] -/
  cycle : Nat := 0
  /-- TIME_TICK_PERIOD.PERIOD [05 Table 5-12; reset 0x0A] -/
  period : Nat := 10
  /-- TIME_TICK_PERIOD.IN_FORCE [05 Table 5-12; reset 0x0A] -/
  inForce : Nat := 10
  /-- TIME_MIN_PERIOD.MIN [05 Table 5-12; reset 0x04] -/
  minPeriod : Nat := 4
  /-- Pending change: TIME_PEND_TICK, TIME_TICK_PERIOD.PENDING [05 R148; reset none] -/
  pend : Option PendChange := none
  /-- TIME_STRETCH.IDLE in force [05 Table 5-12; reset 0] -/
  stretch : Nat := 0
  /-- Stretch requests the master holds, by package [05 R148; reset none] -/
  requests : List (Nat × Nat) := []
  /-- TIME_STAT.PERIOD_REFUSED [05 Table 5-12; reset 0] -/
  periodRefused : Bool := false
  /-- TIME_STAT.ALIGN_FAULT [05 Table 5-12; reset 0] -/
  alignFault : Bool := false
  /-- TIME_STAT.MARKER_LOST [05 Table 5-12; reset 0] -/
  markerLost : Bool := false
  /-- The last measured |e| was at most 12 [05 Table 5-12 LOCKED; reset 0] -/
  lastGood : Bool := false
  /-- TIME_ALIGN.ADJ: d applied to the last seam [05 R147; reset 0] -/
  adj : Int := 0
  /-- d for the next seam [05 R147; reset 0] -/
  adjNext : Int := 0
  /-- TIME_ALIGN.ERR: last measured e [05 R147; reset 0] -/
  err : Int := 0
  /-- Consecutive ticks with |e| at most 4 [05 Table 5-6; reset 0] -/
  lockRun : Nat := 0
  /-- Consecutive ticks without a marker [05 Table 5-6; reset 0] -/
  missRun : Nat := 0
  /-- A marker for the current tick has arrived [05 R145; reset 0] -/
  markerHere : Bool := false
  /-- The marker of the next tick has arrived ahead of it [05 R145; reset 0] -/
  markerEarly : Bool := false
  /-- A first marker has given the tick number since SYNC was entered [05 R145; reset 0] -/
  synced : Bool := false
  /-- Ticks in FREE [05 Table 5-6; reset 0] -/
  freeTicks : Nat := 0
  /-- Depth in the timing tree, from the last marker [10 Table 10-6 HOP; reset 0] -/
  hop : Nat := 0
  /-- 100 MHz MEMS cycles since AUX [01 Table 1-9; reset 0] -/
  mems : Nat := 0
  /-- FAB cycles not yet counted into a MEMS cycle [01 Table 1-9; reset 0] -/
  memsFrac : Nat := 0
  /-- PCIE_PTM_STAT.VALID [12 R379; reset 0] -/
  ptmValid : Bool := false
  /-- PCIE_PTM_STAT.FAIL [12 R379; reset 0] -/
  ptmFail : Bool := false
  /-- Consecutive unanswered dialogs [12 R379; reset 0] -/
  ptmMisses : Nat := 0
  /-- The last successful dialogs, newest first: (local ns, root ns), at most 2; AGE follows from the newest [12 R378, Table
  12-7; reset none: AGE 0xFFFF] -/
  ptmDialogs : List (Nat × Nat) := []
  /-- TIME_PTM: PTM time at the boundary that opened the current tick [12 R378; reset 0] -/
  ptmAtBoundary : Nat := 0
deriving DecidableEq, Repr

/-- A grant in a grant unit, or a request (05 R151 to R156). -/
structure Grant where
  who : Requester
  /-- Wait from first request to grant, in resource cycles. -/
  waited : Nat
  /-- Consecutive losses of the requester at this unit (R155). -/
  losses : Nat
  /-- It waits in place (else it backs off). -/
  waits : Bool
  /-- The channel whose command's host read the transfer carries, if it carries one (08 R240). -/
  ch : Option Nat
deriving DecidableEq, Repr

/-- One arbitrated resource (05 R165): MEM01, MEM23, MEM45, WS, PCIe DMA. -/
structure Arb where
  /-- ARB_PRIO: STOCKPILE, HOST_DMA, DLE, PAN_KV at bits 1:0, 3:2, 5:4, 7:6 [05 Table 5-13; reset 0xE4] -/
  prio : BitVec 8 := 0xE4
  /-- ARB_WDOG.LIMIT in us [05 Table 5-13; reset 0x032] -/
  limit : BitVec 10 := 0x32
  /-- ARB_BITES [05 Table 5-13; reset 0] -/
  bites : W32 := 0
  /-- ARB_BITE_LOG.TICK [05 Table 5-13; reset 0] -/
  logTick : BitVec 20 := 0
  /-- ARB_BITE_LOG.INSTANCE [05 Table 5-13; reset 0] -/
  logInst : BitVec 8 := 0
  /-- ARB_BITE_LOG.CLASS [05 Table 5-13; reset 0] -/
  logClass : BitVec 4 := 0
  /-- ARB_PREEMPTS [05 Table 5-13; reset 0] -/
  preempts : W32 := 0
  /-- ARB_LOSSES [05 Table 5-13; reset 0] -/
  losses : W32 := 0
  /-- ARB_MAXWAIT of the current tick [05 Table 5-13; reset 0] -/
  maxWait : Nat := 0
  /-- The 2 us after a bite run [05 R156; reset 0] -/
  resetting : Bool := false
  /-- Holders by grant unit [05 R151; reset none] -/
  held : List (Nat × Grant) := []
  /-- Requests that wait or back off: (unit, request), oldest first [05 R154, R155; reset none] -/
  queue : List (Nat × Grant) := []
  /-- Consecutive losses by (unit, class, instance) [05 R155; reset 0] -/
  lost : List (Nat × Requester × Nat) := []
  /-- The requester granted last, by unit, for the round robin [05 R153; reset none] -/
  last : List (Nat × Requester) := []
deriving DecidableEq, Repr

/-- One MEM controller pair (05 R166). -/
structure MemPair where
  /-- MEMm_STAT.TRAINED [05 Table 5-14; reset 0] -/
  trained : Bool := false
  /-- MEMm_STAT.REFRESH [05 Table 5-14; reset 0] -/
  refresh : Bool := false
  /-- MEMm_ECC.CE [05 Table 5-14; reset 0] -/
  ce : BitVec 16 := 0
  /-- MEMm_ECC.UE [05 Table 5-14; reset 0] -/
  ue : BitVec 16 := 0
  /-- MEMm_RD_BYTES [05 Table 5-14; reset 0] -/
  rd : W64 := 0
  /-- MEMm_WR_BYTES [05 Table 5-14; reset 0] -/
  wr : W64 := 0
deriving DecidableEq, Repr

/-- An image header, the fields of 07 Table 7-1. -/
structure ImgHdr where
  flags : Nat := 0
  imageId : W64 := 0
  baseId : W64 := 0
  srSeed : W64 := 0
  pages : Nat := 0
  listPages : Nat := 0
  manPages : Nat := 0
  manEntries : Nat := 0
  positions : Nat := 0
  minPeriod : Nat := 0
  frame : Nat := 0
  kvBlocks : Nat := 0
  minRate : Nat := 0
  vocab : Nat := 0
  keyId : List Byte := []
  root : List Byte := []
  slots : Nat := 0
  draftTicks : Nat := 0
  lmMac : Nat := 0
  attnMac : Nat := 0
  kvBytes : Nat := 0
  draftAttnMac : Nat := 0
deriving DecidableEq, Repr

/-- A matrix descriptor (07 Table 7-5). -/
structure MatDesc where
  rows : Nat
  cols : Nat
  fmt : Nat
  place : Nat
  input : Nat
  name : Nat
  sect : Nat
deriving DecidableEq, Repr

/-- A layer record (07 Table 7-4). -/
structure LayerRec where
  layer : Nat := 0
  slot : Nat := 0
  bound : W32 := 0
  srMask : Nat := 0
  flags : Nat := 0
  policy : Nat := 0
  thresh : Nat := 0
  replayPairs : Nat := 0
  slipSlots : Nat := 0
  softmaxScale : W16 := 0
  kvHeads : Nat := 0
  headDim : Nat := 0
  expertSlots : Nat := 0
  mats : List MatDesc := []
  /-- (length, first seed index, block count) -/
  rots : List (Nat × Nat × Nat) := []
  seeds : List W64 := []
  kSeeds : List W64 := []
  vSeeds : List W64 := []
deriving DecidableEq, Repr

/-- A manifest entry (07 Table 7-2). -/
structure ManEntry where
  kind : Nat
  flags : Nat
  position : Nat
  page : Nat
  length : Nat
  slot : Nat
  name : Nat
deriving DecidableEq, Repr

/-- The tokenizer section (09 Table 9-2). -/
structure Tokenizer where
  vocab : Nat := 0
  eos : Option Nat := none
  bos : Option Nat := none
  cls : List Byte := []
  byteTok : List Nat := []
  /-- (left, right, result), in rank order -/
  merges : List (Nat × Nat × Nat) := []
  strings : List (List Byte) := []
deriving DecidableEq, Repr

/-- Pages kept of one image for one position (07 R195, R208). -/
structure Payload where
  imageId : W64
  epoch : Nat
  /-- OWN (else DUTY). -/
  own : Bool
  position : Nat
  /-- Written and not yet in service. -/
  pending : Bool
  /-- Page 0, the pages of the hash list and the kept pages, by image page number. -/
  pages : List (Nat × List Byte)
  /-- Weight-store pages that hold them (empty for a DRAM copy). -/
  phys : List Nat
deriving DecidableEq, Repr

/-- Where the replies of a command go: its opcode, channel, function, ring and TAG (08 Table 8-4). -/
structure Rep where
  op : Nat
  ch : Nat
  fn : Nat
  ring : Nat
  tag : W64
deriving DecidableEq, Repr

/-- A RETIRE command that waits for its end (11 R455). -/
structure RetireWait where
  kind : Nat
  index : Nat
  pkg : Nat
  rep : Rep
  due : Nat
deriving DecidableEq, Repr

/-- An ATTEST that waits for a reservation (13 R395), with GLB_ROLE, WS_EPOCH and WS_IMAGE_ID of its snapshot (13 R397). -/
structure AttWait where
  rep : Rep
  nonce : List Byte
  addr : W64
  tick : Nat
  role : Nat
  epoch : Nat
  imageId : Nat
deriving DecidableEq, Repr

/-- An image being received or committed (07 R204 to R206). -/
structure ImgRun where
  op : ImgOp
  /-- The command's reply; none at a package that is not the head. -/
  reply : Option Rep
  pagesCmd : Nat
  listMode : Bool
  /-- Host address of the image or of its page list. -/
  addr : W64
  next : Nat
  /-- The next page's address, once it is read from the page list. -/
  pageAt : Option W64
  hdr : Option ImgHdr
  /-- Page 0 and the list pages received, and the kept pages. -/
  kept : List (Nat × List Byte)
  man : List ManEntry
  /-- Body bytes by position, as the pan directories that passed give them (07 R219). -/
  bodies : List (Nat × Nat)
  /-- Own checks: none while they run, then the code of Table 7-8. -/
  result : Option Nat
  /-- Every package that reported has the K and V head seeds of the epoch in service (02 R66). -/
  seeds : Bool
  /-- Packages that reported VERIFIED, WRITTEN. -/
  verified : List Nat
  written : List Nat
  writeSent : Bool
  commitSent : Bool
deriving DecidableEq, Repr

/-- A copy of the firmware region (13 R389): the bundle that Bamvos shipped, whose bytes the spec does not give; empty after
an interrupted update; or a bundle of three images that an update wrote. -/
inductive FwCopy
  | shipped
  | empty
  | bundle (images : List (List Byte))
deriving DecidableEq, Repr

/-- A running tack (07 R218 to R227). -/
structure Tack where
  /-- 0 REBUILD, 1 MIX, 2 DRAIN. -/
  policy : Nat
  reply : Option Rep
  drainLimit : Nat
  collected : Nat
  /-- Tick m of the marker, once placed. -/
  marker : Option Nat
  gap : Nat
deriving DecidableEq, Repr

/-- WS (07 R232), the images on this package and in its DRAM. -/
structure Ws where
  /-- STAT.READY [07 Table 7-10; reset 0] -/
  ready : Bool := false
  /-- STAT.LOADED [07 Table 7-10; reset 0] -/
  loaded : Bool := false
  /-- STAT.DIR_FAULT [07 Table 7-10; reset 0] -/
  dirFault : Bool := false
  /-- STAT.DIR_SEQ: sequence in force, in the directory copies of the store [07 R208; reset 0] -/
  dirSeq : W64 := 0
  /-- WS_EPOCH [07 Table 7-10; reset 0] -/
  epoch : Nat := 0
  /-- WS_STAGE [07 Table 7-10; reset 0] -/
  stage : Nat := 0
  /-- STAGE_STAT.OP [07 Table 7-10; reset 0] -/
  op : Nat := 0
  /-- STAGE_STAT.RESULT [07 Table 7-10; reset 0] -/
  result : Nat := 0
  /-- STAGE_STAT.STATE [07 Table 7-10; reset 0] -/
  state : Nat := 0
  /-- Weight-store pages retired [07 R214; reset none as shipped] -/
  retiredPages : List Nat := []
  /-- Writes by weight-store page [07 R214; reset 0 as shipped] -/
  writes : Sparse Nat := []
  /-- WEAR.WARN [07 Table 7-10; reset 0] -/
  wearWarn : Bool := false
  /-- WS_HASH_FAIL [07 Table 7-10; reset 0] -/
  hashFail : W32 := 0
  /-- WS_LOAD_US [07 Table 7-10; reset 0] -/
  loadUs : W32 := 0
  /-- WS_TACK_TICK [07 Table 7-10; reset 0] -/
  tackTick : Nat := 0
  /-- The directory in force: payloads in the weight store [07 R208; reset none as shipped: DESIGN CHOICE, entry 6] -/
  store : List Payload := []
  /-- The older directory copy: its sequence, and its payloads with what is left of their pages [07 R208; reset as shipped: DESIGN
  CHOICE empty, entry 6] -/
  oldSeq : W64 := 0
  oldStore : List Payload := []
  /-- Weight-store pages of the directory copy in force and of the older one [07 R208, R214; reset DESIGN CHOICE 0 and 1, entry 118] -/
  dirPage : Nat := 0
  oldPage : Nat := 1
  /-- Header of the image in service; none when no image is in service [07 R191; reset none] -/
  img : Option ImgHdr := none
  /-- Layer records in service [07 R196; reset none] -/
  layers : List LayerRec := []
  /-- The tokenizer in service [09 R272; reset none] -/
  tok : Tokenizer := {}
  /-- The service copy in DRAM [07 R213; reset none] -/
  copy : Option Payload := none
  /-- Copies of the payload in service that DLE actions made in DRAM without a service copy, by layer slot [04 R108; reset none] -/
  layerCopy : List (Nat × Payload) := []
  /-- The staged payload in DRAM [07 R216; reset none] -/
  staged : Option Payload := none
  /-- Duties in DRAM: a standing spare's, and the staged ones [07 R228; reset none] -/
  duties : List Payload := []
  /-- Positions that this package covers as a spare: (position, 1 standing or 2 cold) [07 R228; reset none] -/
  cover : List (Nat × Nat) := []
  /-- The staged epoch may be tacked under MIX: DELTA, and the seeds equal at every package [02 R66; reset 0] -/
  mixOk : Bool := false
  /-- The LM head of the epoch in service has the page hashes of the one before [07 R222; reset 0] -/
  lmSame : Bool := false
  /-- The image operation that runs [07 R201; reset none] -/
  run : Option ImgRun := none
  /-- The tack that runs [07 R218; reset none] -/
  tack : Option Tack := none
  /-- The store commit after a tack is due [07 R227; reset 0] -/
  commitDue : Bool := false
  /-- Head: packages that have reported WRITTEN in that commit [07 R206, R227; reset none] -/
  commitWritten : List Nat := []
  /-- Body bytes of the staged image's largest position [07 R219; reset 0] -/
  maxBody : Nat := 0
  /-- KV pool of this package in blocks, and the size to which its excess shrinks [07 R457; reset 0] -/
  pool : Nat := 0
  /-- The factory region: its records by pan and the table hash [06 R169; reset as shipped: DESIGN CHOICE empty, entry 6] -/
  region : List (Nat × List Byte) := []
  /-- TABLE_HASH of the region [06 R169; reset DESIGN CHOICE 0, entry 6] -/
  tableHash : List Byte := []
  /-- The hash of the trim tables disagrees with the crow's nest's: the fabric stays furled [06 R171; reset 0] -/
  trimFault : Bool := false
  /-- DRAM copy of the factory region's tables [06 R170; reset none] -/
  regionCopy : Option (List (Nat × List Byte)) := none
  /-- Residual errors of accepted points by 3 x (8 x pan + array) + point: an entry says that the array has accepted taps
  there [06 R174; reset as shipped: DESIGN CHOICE none, entry 6] -/
  resid : List (Nat × Nat) := []
  /-- Tap records that the running calibration has accepted, by the same key [06 R174; reset none] -/
  calTaps : List (Nat × List Byte) := []
  /-- Points that the running calibration has accepted, bit t [06 R173; reset none] -/
  calPts : Nat := 0
  /-- Largest repeat difference of its last accepted ladder measurement [06 Table 6-2; reset 0] -/
  calLadder : Nat := 0
  /-- Firmware region copies A and B [13 R389; reset as shipped: DESIGN CHOICE shipped, entry 6] -/
  fwA : FwCopy := .shipped
  fwB : FwCopy := .shipped
deriving DecidableEq, Repr

/-- A member of the slice, as SLICE_SET's list gives it (08 R260 text). -/
structure Member where
  pkg : Nat
  role : Nat
  position : Nat
  parent : Nat
  /-- RUN reached since the bank switch. -/
  inRun : Bool
  /-- Counted as lost, with cause (10 R327). -/
  lost : Option Nat
  /-- Slot fraction f reported, in 1/16 (15 R427). -/
  frac : Nat
  /-- The rate it reported with it (09 Table 9-5, R299; entry 19). -/
  rate : RateReport
  /-- Ticks in a row without a VERDICT message or a spare's MGMT stretch request. -/
  missed : Nat
deriving DecidableEq, Repr

/-- A spare's duties (08 Table 8-8 SPARE_SET). -/
structure Duty where
  spare : Nat
  /-- 1 standing, 2 cold. -/
  kind : Nat
  ranges : List (Nat × Nat)
  /-- Positions whose copy has been checked. -/
  done : List Nat
deriving DecidableEq, Repr

/-- One Vojor port (10 R332). -/
structure Port where
  /-- CTRL.EN [10 Table 10-12; reset 1] -/
  en : Bool := true
  /-- CTRL.REACH [10 Table 10-12; reset 0b01 for P0 to P3, 0b10 for P4 and P5] -/
  reach : BitVec 2 := 1
  /-- STAT.STATE: 0 DOWN, 1 TRAINING, 2 UP, 3 DEGRADED, 4 RETIRED [10 Table 10-12; reset 0] -/
  state : BitVec 3 := 0
  /-- STAT.RETIRED lanes [10 Table 10-12; reset 0] -/
  retired : BitVec 9 := 0
  /-- PEER: (port, package, serial), VALID when present [10 R310; reset none] -/
  peer : Option (Nat × Nat × Nat) := none
  /-- DELAY in ns [10 R310; reset 0] -/
  delay : Nat := 0
  /-- LANEMAP [10 Table 10-12; reset 0x7654_3210] -/
  laneMap : W32 := 0x76543210
  /-- FEC_CE [10 Table 10-12; reset 0] -/
  fecCE : W32 := 0
  /-- FEC_UE [10 Table 10-12; reset 0] -/
  fecUE : W32 := 0
  /-- CRC [10 Table 10-12; reset 0] -/
  crc : W32 := 0
  /-- RETRY [10 Table 10-12; reset 0] -/
  retry : W32 := 0
  /-- TX_BYTES [10 Table 10-12; reset 0] -/
  tx : W64 := 0
  /-- RX_BYTES [10 Table 10-12; reset 0] -/
  rx : W64 := 0
  /-- VL shares in force, VL0 to VL6 [10 Table 10-13; reset 40 20 10 10 10 5 5] -/
  shares : List Nat := [40, 20, 10, 10, 10, 5, 5]
  /-- VLSHARE0 as written and held [10 R333; reset 0x0A0A1428] -/
  held0 : W32 := 0x0A0A1428
  /-- Shares due at the next boundary [10 R333; reset none] -/
  sharesDue : Option (List Nat) := none
  /-- SEQ of the next frame sent [10 R315; reset DESIGN CHOICE 0, entry 6] -/
  txSeq : BitVec 12 := 0
  /-- Frames in the replay buffer, oldest first: (SEQ, bytes) [10 R315; reset empty] -/
  replay : List (Nat × List Byte) := []
  /-- SEQ expected next [10 R315; reset DESIGN CHOICE 0, entry 6] -/
  rxSeq : BitVec 12 := 0
  /-- NAKs in a row of the oldest frame [10 R315; reset 0] -/
  naks : Nat := 0
  /-- Frames that wait to leave, oldest first: (VL, header, payload) [10 R316, R317; reset none] -/
  waiting : List (Nat × List Byte × List Byte) := []
  /-- Deficit round robin: the VL whose turn it is, and the bytes that each VL may still send [10 R317; reset DESIGN CHOICE 0, entry 126] -/
  turn : Nat := 0
  credit : List Nat := [0, 0, 0, 0, 0, 0, 0]
  /-- A NAK was sent and the SEQ it names has not arrived [10 R315; reset 0] -/
  discard : Bool := false
  /-- Lane faults: (lane, tick), oldest first [10 R311; reset none] -/
  faults : List (Nat × Nat) := []
  /-- Lane eyes by lane: width in 1/128 UI, height in mV [06 R186, R189; reset none measured] -/
  eyes : List (Nat × Nat × Nat) := []
  /-- Lane eye STALE bits [06 R185, R189; reset 1] -/
  eyeStale : BitVec 9 := 0x1FF
  /-- The lane that margining measures next, and whether its measurement runs [06 R185, R186; reset 0, not running] -/
  marginLane : Nat := 0
  margining : Bool := false
  /-- Clock step, CHK_PORT_STEP [11 R356, R365; reset 0] -/
  step : Nat := 0
  /-- It trains with kept coefficients [10 R309; reset 0] -/
  kept : Bool := false
deriving DecidableEq, Repr

/-- A port after reset (10 Table 10-12). -/
def Port.reset (p : Nat) : Port := { reach := if p < 4 then 1 else 2 }

/-- A re-rig or a suspension (10 R327, R328). -/
structure Rerig where
  pkg : Nat
  spare : Option Nat
  /-- RERIG_STAT.PHASE. -/
  phase : Nat
  reply : Option Rep
  /-- The tick whose boundary suspended the output. -/
  since : Nat
  position : Nat
  /-- The re-rig is to begin at the next boundary (11 R455, 10 R328). -/
  start : Bool
  /-- The links that its routes go by. -/
  links : List LinkFact
  /-- A link between live members failed (R330). -/
  linkOnly : Bool
  /-- The epoch that the lost position served at the failure (07 R231). -/
  epoch : Nat
deriving DecidableEq, Repr

/-- LNK (10 R332) and the head's view of its slice. -/
structure Lnk where
  /-- The six ports [10 R305; reset Port.reset] -/
  ports : Sparse Port := []
  /-- STAT.SHARE_REFUSED [10 Table 10-11; reset 0] -/
  shareRefused : Bool := false
  /-- STAT.WR_REFUSED [10 Table 10-11; reset 0] -/
  wrRefused : Bool := false
  /-- STAT.SUSPENDED [10 Table 10-11; reset 0] -/
  suspended : Bool := false
  /-- STAT.BANK, sticky [10 Table 10-11, 14 R406; reset 0] -/
  bank : Bool := false
  /-- The ordered bank switch's tick: STAT.PENDING, SWITCH_TICK [10 Table 10-11; reset none] -/
  switchTick : Option Nat := none
  /-- Routing table bank 0, sticky [10 R321, 14 R406; reset 0] -/
  bank0 : Sparse W32 := []
  /-- Routing table bank 1, sticky [10 R321, 14 R406; reset 0] -/
  bank1 : Sparse W32 := []
  /-- IDs whose entries the head has written, and those that PF0 has, sticky [10 R323; reset none] -/
  headIds : List Nat := []
  pf0Ids : List Nat := []
  /-- RERIG_CFG.AUTO [10 Table 10-11; reset 1] -/
  auto : Bool := true
  /-- RERIG_CFG.WAIT in ms [10 Table 10-11; reset 0x0C8] -/
  wait : BitVec 9 := 0xC8
  /-- RERIG_STAT.COUNT [10 Table 10-11; reset 0] -/
  rerigCount : BitVec 16 := 0
  /-- RERIG_STAT.PKG of the last re-rig [10 Table 10-11; reset 0] -/
  rerigPkg : BitVec 12 := 0
  /-- The running suspension or re-rig; PHASE [10 R327, R328; reset none] -/
  rerig : Option Rerig := none
  /-- DROP_SLICE [10 Table 10-11; reset 0] -/
  dropSlice : W32 := 0
  /-- DROP_ROUTE [10 Table 10-11; reset 0] -/
  dropRoute : W32 := 0
  /-- ACCEPT masks, bit i for slice i, sticky [10 R322, 14 R406; reset 0] -/
  accept : W256 := 0
  /-- ROUTE_WR.PORT [10 Table 10-11; reset 0b111] -/
  rwPort : BitVec 3 := 7
  /-- ROUTE_WR.VALID [10 Table 10-11; reset 0] -/
  rwValid : Bool := false
  /-- ROUTE_WR.ID [10 Table 10-11; reset 0] -/
  rwId : BitVec 12 := 0
  /-- Members of the slice, by position and then the spares [10 R325; reset none] -/
  members : List Member := []
  /-- Duties of the spares [08 Table 8-8; reset none] -/
  duties : List Duty := []
  /-- SLICE_SET that waits for RUN at every member: its reply [10 R325; reset none] -/
  sliceSet : Option Rep := none
  /-- SPARE_SETs that wait for their copies: spare and reply [10 R326; reset none] -/
  spareSets : List (Nat × Rep) := []
  /-- Frames of messages whose LAST frame has not come: (TYPE, SRC, DST, TAG, payload) [10 R314; reset none] -/
  msgs : List (Nat × Nat × Nat × Nat × List Byte) := []
  /-- Ticks in a row in which no VERDICT message came from upstream [10 R327; reset 0] -/
  missed : Nat := 0
  /-- The next package on the pipeline path, as the head's ROUTE frame gave it, sticky with the routes [10 R319, R320; reset none] -/
  next : Option Nat := none
  /-- The next package that image pages go to, sticky with the routes [07 R204; reset none] -/
  pageNext : Option Nat := none
  /-- The VERDICT message of the boundary that opened the tick has come by local cycle 64; that of the next boundary has come ahead
  of it [10 R327; reset 0] -/
  verdictHere : Bool := false
  verdictEarly : Bool := false
deriving DecidableEq, Repr

/-- One MSI-X entry (12 R373). -/
structure MsixEntry where
  /-- Message address [12 R373; reset 0] -/
  addr : W64 := 0
  /-- Message data [12 R373; reset 0] -/
  data : W32 := 0
  /-- Vector control mask bit [12 R373; reset PRESUMED 1 (MSI-X capability), entry 6] -/
  masked : Bool := true
  /-- Pending bit [12 R373; reset 0] -/
  pending : Bool := false
deriving DecidableEq, Repr

/-- An MSI-X entry after reset. -/
def MsixEntry.reset (_ : Nat) : MsixEntry := {}

/-- Configuration-space state of one function (12 R368, R380). -/
structure FnCfg where
  /-- Bus Master Enable [12 R380; reset PRESUMED 0 (PCI Express), entry 6] -/
  bme : Bool := false
  /-- D3hot [12 Table 12-6; reset D0] -/
  d3 : Bool := false
  /-- MSI-X function mask [12 R373; reset PRESUMED 0 (PCI Express), entry 6] -/
  fnMask : Bool := false
  /-- The 64 MSI-X entries [12 R373; reset MsixEntry] -/
  msix : Sparse MsixEntry := []
deriving DecidableEq, Repr

/-- A function after reset. -/
def FnCfg.reset (_ : Nat) : FnCfg := {}

/-- PCIE (12 R382). -/
structure Pcie where
  /-- STAT.LINK_UP [12 Table 12-7; reset 0] -/
  linkUp : Bool := false
  /-- STAT.SPEED [12 Table 12-7; reset 0] -/
  speed : BitVec 3 := 0
  /-- STAT.WIDTH [12 Table 12-7; reset 0] -/
  width : BitVec 5 := 0
  /-- STAT.REVERSED [12 Table 12-7; reset 0] -/
  reversed : Bool := false
  /-- STAT.SRIS [12 Table 12-7; reset 0] -/
  sris : Bool := false
  /-- STAT.LINKDOWNS, cleared by cold reset [12 Table 12-7; reset 0] -/
  linkDowns : BitVec 16 := 0
  /-- CFG.PTM_INTERVAL [12 Table 12-7; reset 0x0A] -/
  ptmInterval : BitVec 7 := 0x0A
  /-- CPL_TIMEOUT [12 Table 12-7; reset 0] -/
  cplTimeout : W32 := 0
  /-- LATE_CPL [12 Table 12-7; reset 0] -/
  lateCpl : W32 := 0
  /-- POISON_RX [12 Table 12-7; reset 0] -/
  poisonRx : W32 := 0
  /-- RD_BYTES [12 Table 12-7; reset 0] -/
  rd : W64 := 0
  /-- WR_BYTES [12 Table 12-7; reset 0] -/
  wr : W64 := 0
  /-- EVT_BASE [12 Table 12-7; reset 0] -/
  evtBase : W64 := 0
  /-- EVT_CFG.EN [12 Table 12-7; reset 0] -/
  evtEn : Bool := false
  /-- EVT_CFG.LOST [12 Table 12-7; reset 0] -/
  evtLost : Bool := false
  /-- EVT_CFG.VECTOR [12 Table 12-7; reset 0] -/
  evtVector : BitVec 6 := 0
  /-- EVT_CFG.SIZE [12 Table 12-7; reset 0x06] -/
  evtSize : BitVec 5 := 6
  /-- EVT_PROD [12 Table 12-7; reset 0] -/
  evtProd : W32 := 0
  /-- EVT_CONS [12 Table 12-7; reset 0] -/
  evtCons : W32 := 0
  /-- An entry was mirrored in the current tick [12 R377; reset 0] -/
  evtTick : Bool := false
  /-- NumVFs in effect: VF Enable with NumVFs [12 R368; reset PRESUMED 0 (SR-IOV), entry 6] -/
  numVfs : Nat := 0
  /-- Functions' configuration [12 R380; reset FnCfg] -/
  fns : Sparse FnCfg := []
deriving DecidableEq, Repr

/-- An error-log entry (11 Table 11-9). -/
structure LogEntry where
  code : Nat := 0
  kind : Nat := 0
  persist : Bool := false
  unit : Nat := 0
  tick : Nat := 0
  rtc : Nat := 0
  arg0 : Nat := 0
  arg1 : Nat := 0
deriving DecidableEq, Repr

/-- A log entry before any write. -/
def LogEntry.reset (_ : Nat) : LogEntry := {}

/-- CHK (11 R365). -/
structure Chk where
  /-- CFG.CANARY_EN [11 Table 11-14; reset 1] -/
  canaryEn : Bool := true
  /-- CFG.K [11 Table 11-14; reset 8] -/
  k : BitVec 4 := 8
  /-- SCRUB of the last stamp [11 Table 11-14; reset 0] -/
  scrub : Nat := 0
  /-- ROWSUM_FAIL [11 Table 11-14; reset 0] -/
  rowsum : W32 := 0
  /-- CONTENT_FAIL [11 Table 11-14; reset 0] -/
  content : W32 := 0
  /-- RESIDUE_FAIL [11 Table 11-14; reset 0] -/
  residue : W32 := 0
  /-- CANARY_MISS [11 Table 11-14; reset 0] -/
  canaryMiss : W32 := 0
  /-- POISON [11 Table 11-14; reset 0] -/
  poison : W32 := 0
  /-- NUMERIC [11 Table 11-14; reset 0] -/
  numeric : W32 := 0
  /-- REPLAYS [11 Table 11-14; reset 0] -/
  replays : W32 := 0
  /-- DISAGREE.COUNT [11 Table 11-14; reset 0] -/
  disCount : BitVec 8 := 0
  /-- DISAGREE.KIND [11 Table 11-14; reset 0] -/
  disKind : BitVec 4 := 0
  /-- DISAGREE.UNIT [11 Table 11-14; reset 0] -/
  disUnit : BitVec 20 := 0
  /-- LOG_PROD [11 Table 11-14; reset 0] -/
  logProd : W32 := 0
  /-- The 4,096 log entries [11 R361; reset 0] -/
  log : Sparse LogEntry := []
  /-- Retired units (kind, unit) of this power cycle, the data path's view; RETIRED counts them [11 R365; reset none] -/
  retired : List (Nat × Nat) := []
  /-- DENY entries in force [11 Table 11-14; reset 0] -/
  deny : Sparse W32 := []
  /-- Deny writes due at the next boundary: (entry, value) [11 R359; reset none] -/
  denyDue : List (Nat × W32) := []
  /-- Failure events: (kind, unit, tick) [11 R351; reset none] -/
  events : List (Nat × Nat × Nat) := []
  /-- Units permanent and not yet decided: (kind, unit, cause code) [11 R352; reset none] -/
  toRetire : List (Nat × Nat × Nat) := []
  /-- Units that differ and the boundary since which they do: (kind, unit, tick) [11 R360; reset none] -/
  differ : List (Nat × Nat × Nat) := []
  /-- RETIRE of this package as a whole, due at the next boundary: its reply [11 R455; reset none] -/
  pkgDue : Option Rep := none
  /-- RETIRE commands that wait [11 R455; reset none] -/
  retires : List RetireWait := []
  /-- The package has left its position [11 R353, R455; reset 0] -/
  left : Bool := false
  /-- Islands with a failure that no free spare, or no router, makes good [11 R353; reset none] -/
  exhausted : List Nat := []
deriving DecidableEq, Repr

/-- An entry of the retirement list (11 R354). -/
structure RetEntry where
  kind : Nat
  unit : Nat
  /-- Event code: UNIT_RETIRED 0x20, UNIT_SUSPECT 0x21, CONSISTENCY 0x23. -/
  action : Nat
  arg : Nat
  tick : Nat
  day : Nat
deriving DecidableEq, Repr

/-- A trip record (15 Table 15-3). -/
structure TripRec where
  kind : Nat := 0
  sensor : Nat := 0
  temp : Int := 0
  vin : Nat := 0
  rtc : Nat := 0
  tick : Nat := 0
  counts : List Nat := []
deriving DecidableEq, Repr

/-- A trip record before any write. -/
def TripRec.reset (_ : Nat) : TripRec := {}

/-- Life-cycle states (13 R398). -/
inductive Lc
  | manufacture | provisioned | field | service | retired
deriving DecidableEq, Repr

/-- A publisher key slot (13 R386): state 0 empty, 1 enrolled, 2 revoked; the key's 60 bytes. -/
structure KeySlot where
  state : Nat := 0
  key : List Byte := []
deriving DecidableEq, Repr

/-- A key slot as shipped. -/
def KeySlot.reset (_ : Nat) : KeySlot := {}

/-- Crow's nest NV (13 R404). Nothing resets it. -/
structure Nv where
  /-- Life-cycle record in force [13 R398; reset NV: DESIGN CHOICE PROVISIONED as shipped, entry 6] -/
  lc : Lc := .provisioned
  /-- The debug right of SERVICE's token [13 R400; reset NV: DESIGN CHOICE 0, entry 6] -/
  debug : Bool := false
  /-- Active firmware copy B [13 R391; reset NV: DESIGN CHOICE copy A, entry 6] -/
  fwB : Bool := false
  /-- NV security versions of KIND 1 to 3 [13 R390; reset NV: DESIGN CHOICE 0, entry 6] -/
  svn : List Nat := [0, 0, 0]
  /-- FW0 revoked [13 R391; reset NV: DESIGN CHOICE 0, entry 6] -/
  fw0Revoked : Bool := false
  /-- A verified bundle is pending in the inactive copy [13 R391; reset NV: DESIGN CHOICE 0, entry 6] -/
  fwPending : Bool := false
  /-- The 256 slots of attestation-counter records of 32 bytes, by slot; a slot not listed is erased [13 R393; reset NV: DESIGN
  CHOICE none valid, entry 6] -/
  attSlots : List (Nat × List Byte) := []
  /-- The two alternating life-cycle records of 32 bytes, by slot: as shipped, SEQ 1 with PROVISIONED [13 R398; reset NV: DESIGN
  CHOICE, entries 6, 122] -/
  lcSlots : List (Nat × List Byte) :=
    [(1, [1, 0, 0, 0, 0, 0, 0, 0, 2, 0, 0, 0, 0, 0, 0, 0, 0, 0, 0, 0, 0, 0, 0, 0, 0, 0, 0, 0, 0x27, 0xA3, 0x5B, 0x3B])]
  /-- Attestation seed [13 R388; reset NV: DESIGN CHOICE empty, entry 6] -/
  attSeed : List Byte := []
  /-- Attestation identifier I, 16 bytes [13 R388; reset NV: DESIGN CHOICE empty, entry 6] -/
  attId : List Byte := []
  /-- Device public key [13 R388; reset NV: DESIGN CHOICE empty, entry 6] -/
  devPub : List Byte := []
  /-- Device certificate [13 R388; reset NV: DESIGN CHOICE empty, entry 6] -/
  cert : List Byte := []
  /-- The level-1 tree's nodes of heights 10 to 20 [13 R388; reset NV: DESIGN CHOICE none, entry 6] -/
  tree : List (List Byte) := []
  /-- The 8 publisher key slots [13 R386; reset NV: DESIGN CHOICE empty, entry 6] -/
  keys : Sparse KeySlot := []
  /-- TABLE_HASH copy [06 R169; reset NV: DESIGN CHOICE 0, entry 6] -/
  tableHash : List Byte := []
  /-- The retirement list, 256 entries [11 R354; reset NV: DESIGN CHOICE empty, entry 6] -/
  list : List RetEntry := []
  /-- CHK_NV_LIST.FULL [11 Table 11-14; reset 0] -/
  listFull : Bool := false
  /-- The 64 trip records, by record number mod 64 [15 R437; reset NV: DESIGN CHOICE empty, entry 6] -/
  trips : Sparse TripRec := []
  /-- Records written; TRIP_STAT.TRIPS saturates at 255 [15 Table 15-6; reset NV: DESIGN CHOICE 0, entry 6] -/
  tripCount : Nat := 0
  /-- TRIP_STAT.SENSOR [15 Table 15-6; reset NV: DESIGN CHOICE 0, entry 6] -/
  tripSensor : BitVec 8 := 0
deriving DecidableEq, Repr

/-- SEC (13 R403). -/
structure Sec where
  /-- LC_STAT.REFUSED [13 Table 13-6; reset 0] -/
  lcRefused : Bool := false
  /-- LC_STAT.PENDING: the state record written and due [13 R401; reset none] -/
  lcPending : Option (Lc × Bool) := none
  /-- LC_STAT.REASON [13 Table 13-6; reset 0] -/
  lcReason : BitVec 4 := 0
  /-- The valid challenge, 32 bytes [13 R400; reset none] -/
  challenge : Option (List Byte) := none
  /-- Draws made of the random source [13 R400; reset 0] -/
  draws : Nat := 0
  /-- SEC_TOKEN [13 Table 13-6; reset 0] -/
  token : W64 := 0
  /-- SEC_KEY_DATA, 15 words [13 Table 13-6; reset 0] -/
  keyData : Sparse W32 := []
  /-- KEY_CTRL.OP [13 Table 13-6; reset 0] -/
  keyOp : Bool := false
  /-- KEY_CTRL.SLOT [13 Table 13-6; reset 0] -/
  keySlot : BitVec 3 := 0
  /-- Key operations due at the next boundary, in order: (revoke, slot, key) [13 R386; reset none] -/
  keyDue : List (Bool × Nat × List Byte) := []
  /-- KEY_STAT.REFUSED [13 Table 13-6; reset 0] -/
  keyRefused : Bool := false
  /-- KEY_STAT.REASON [13 Table 13-6; reset 0] -/
  keyReason : BitVec 3 := 0
  /-- NEXT as SEC holds it, from NV at boot [13 R393; reset from NV: DESIGN CHOICE 0, entry 6] -/
  attNext : Nat := 0
  /-- SEQ of the record in force [13 R393; reset from NV: DESIGN CHOICE 0, entry 6] -/
  attSeq : Nat := 0
  /-- ATT_STAT.NV_FAULT [13 Table 13-6; reset 0] -/
  nvFault : Bool := false
  /-- ATT_STAT.EXHAUSTED [13 Table 13-6; reset from NV: DESIGN CHOICE 0, entry 6] -/
  exhausted : Bool := false
  /-- ATT_STAT.RESERVING [13 Table 13-6; reset 0] -/
  reserving : Bool := false
  /-- ATT_STAT.LEFT [13 Table 13-6; reset 0] -/
  left : Nat := 0
  /-- The next unused index of the reserved block [13 R392; reset 0] -/
  attIndex : Nat := 0
  /-- ATTESTs that wait for a reservation: reply, nonce and address [13 R395; reset none] -/
  waiting : List AttWait := []
  /-- SEC_FW_ADDR [13 Table 13-6; reset 0] -/
  fwAddr : W64 := 0
  /-- FW_STAT.BUSY [13 Table 13-6; reset 0] -/
  fwBusy : Bool := false
  /-- FW_STAT.FALLBACK [13 Table 13-6; reset 0] -/
  fallback : Bool := false
  /-- FW_STAT.ERR [13 Table 13-6; reset 0] -/
  fwErr : Bool := false
  /-- The running images' SVN and HASH, KIND 1 to 3, and whether FW1 signed the CC firmware and it carries REVOKE_FW0 [13 R391, R397; reset none] -/
  running : List (Nat × List Byte) := []
  runRevokes : Bool := false
deriving DecidableEq, Repr

/-- RST (14 R420). -/
structure Rst where
  /-- CAUSE.SOURCES [14 Table 14-6; reset per reset: bit 0 POR] -/
  cause : BitVec 10 := 1
  /-- WDOG.LIMIT [14 Table 14-6; reset 0x07D0] -/
  limit : BitVec 14 := 0x7D0
  /-- The watchdog runs [14 R411; reset 0] -/
  wdogRuns : Bool := false
  /-- Kicks since the watchdog started [14 R411; reset 0] -/
  kicks : Nat := 0
  /-- PWRUP_STAT.READY [14 Table 14-6; reset 0] -/
  ready : Bool := false
  /-- PWRUP_STAT.SAFE [14 Table 14-6; reset 0] -/
  safe : Bool := false
  /-- PWRUP_STAT.STEP [14 Table 14-6; reset 0, then 1 as the sequence starts] -/
  step : BitVec 4 := 1
  /-- CLK_STAT.LOCKED [14 Table 14-6; reset 0x0_8000] -/
  locked : BitVec 18 := 0x8000
  /-- BIST_CTRL.FCLK [14 Table 14-6; reset 0b100] -/
  fclk : BitVec 3 := 4
  /-- BIST_CTRL.KIND [14 Table 14-6; reset 0] -/
  kind : BitVec 8 := 0
  /-- BIST_CTRL.TARGET [14 Table 14-6; reset 0xFFF] -/
  target : BitVec 12 := 0xFFF
  /-- BIST_STAT.BUSY [14 Table 14-6; reset 0] -/
  busy : Bool := false
  /-- BIST_STAT.DONE [14 Table 14-6; reset 0] -/
  done : Bool := false
  /-- BIST_STAT.DENIED [14 Table 14-6; reset 0] -/
  denied : Bool := false
  /-- BIST_STAT.RESULT [14 Table 14-6; reset 0] -/
  result : BitVec 2 := 0
  /-- BIST_STAT.UNIT [14 Table 14-6; reset 0] -/
  unit : BitVec 12 := 0
  /-- BIST_STAT.FAILS [14 Table 14-6; reset 0] -/
  fails : BitVec 12 := 0
  /-- STEP_US of steps 1 to 9 [14 Table 14-6; reset 0] -/
  stepUs : Sparse W32 := []
  /-- Reset in progress, held by a land or PERST# [14 R410, R380; reset 0] -/
  perstLow : Bool := false
  /-- The sequence runs from a warm reset: it skips steps 6 and 8 [14 R414; reset 0] -/
  warmSeq : Bool := false
  /-- Step 3 waits for cool trip sensors [15 R438; reset 1] -/
  coolWait : Bool := true
  /-- P, the period in force at the warm reset of a master whose ticks ran, for the number at which it restarts [14 R407; reset none] -/
  restartPeriod : Option Nat := none
  /-- The watchdog limit in force at the last bite, which R411 records in RST_CAUSE; Table 14-6 gives it no bits [14 R411; reset 0] -/
  biteLimit : Nat := 0
  /-- FURL: the power stage is off and only the crow's nest runs [15 Table 15-1; reset 0] -/
  furl : Bool := false
deriving DecidableEq, Repr

/-- Island states (15 Table 15-2a). -/
inductive IslSt
  | up | furlingRetain | furlingDark | retain | dark | unfurling (fromDark : Bool)
deriving DecidableEq, Repr

/-- One voltage island (15 R428). -/
structure Isl where
  /-- HK_ISL_STAT state [15 R428; reset UP] -/
  st : IslSt := .up
  /-- UNFURL_PENDING [15 R429; reset 0] -/
  pending : Bool := false
deriving DecidableEq, Repr

/-- An island after reset. -/
def Isl.reset (_ : Nat) : Isl := {}

/-- One housekeeping channel (15 R442). -/
structure Chan where
  /-- HK_CHn.STALE [15 Table 15-5; reset 1] -/
  stale : Bool := true
  /-- HK_CHn.FAULT [15 Table 15-5; reset 0] -/
  fault : Bool := false
  /-- HK_CHn.VALUE [15 Table 15-5; reset 0] -/
  value : BitVec 16 := 0
deriving DecidableEq, Repr

/-- A channel after reset. -/
def Chan.reset (_ : Nat) : Chan := {}

/-- A result in the housekeeping FIFO (15 R435). -/
structure HkResult where
  gap : Bool
  trig : Bool
  stale : Bool
  chan : BitVec 6
  value : BitVec 16
deriving DecidableEq, Repr

/-- HK (15 R442). -/
structure Hk where
  /-- PWR_STAT.SUPPLY_FAULT [15 Table 15-5; reset 0] -/
  supplyFault : Bool := false
  /-- PWR_STAT.REFUSED [15 Table 15-5; reset 0] -/
  refused : Bool := false
  /-- PWR_STAT.REASON [15 Table 15-5; reset 0] -/
  reason : BitVec 4 := 0
  /-- PWR_STAT.FRACTION [15 Table 15-5; reset 0x10] -/
  frac : Nat := 16
  /-- PWR_STAT.STEP_THERM [15 Table 15-5; reset 0] -/
  therm : Nat := 0
  /-- PWR_STAT.STEP [15 Table 15-5; reset 0] -/
  reef : Nat := 0
  /-- REEF_CFG.DRAM_LIMIT [15 Table 15-5; reset 0x5A] -/
  dramLimit : BitVec 8 := 0x5A
  /-- REEF_CFG.DIE_LIMIT [15 Table 15-5; reset 0x5F] -/
  dieLimit : BitVec 8 := 0x5F
  /-- REEF_CFG.FLOOR [15 Table 15-5; reset 0] -/
  floor : BitVec 4 := 0
  /-- HK_STRETCH.REQUEST s [15 Table 15-5; reset 0] -/
  stretch : Nat := 0
  /-- ISL_CTRL.OP [15 Table 15-5; reset 0b01] -/
  islOp : BitVec 2 := 1
  /-- ISL_CTRL.ISLAND [15 Table 15-5; reset 0] -/
  islSel : BitVec 4 := 0
  /-- Island requests due at the next boundary: (op, island) [15 R429; reset none] -/
  islDue : List (Nat × Nat) := []
  /-- FURL is due at the next boundary [15 R423; reset 0] -/
  furlDue : Bool := false
  /-- The 16 islands [15 R428; reset Isl] -/
  isls : Sparse Isl := []
  /-- The 64 channels [15 R430; reset Chan] -/
  chans : Sparse Chan := []
  /-- The FIFO, oldest first, 64 entries [15 R435; reset empty] -/
  fifo : List HkResult := []
  /-- FIFO_STAT.OVERFLOW [15 Table 15-5; reset 0] -/
  overflow : Bool := false
  /-- FIFO_STAT.LOST [15 Table 15-5; reset 0] -/
  lostN : BitVec 16 := 0
  /-- The next result that enters carries GAP [15 R435; reset 0] -/
  gap : Bool := false
  /-- FIFO_MASK [15 Table 15-5; reset 0] -/
  mask : W64 := 0
  /-- TRIG_CFG.EN [15 Table 15-5; reset 0] -/
  trigEn : Bool := false
  /-- TRIG_CFG.SRC [15 Table 15-5; reset 0] -/
  trigSrc : Bool := false
  /-- TRIG_CFG.CHANNEL [15 Table 15-5; reset 0] -/
  trigChan : BitVec 6 := 0
  /-- TRIG_CFG.DELAY [15 Table 15-5; reset 0] -/
  trigDelay : BitVec 8 := 0
  /-- TRIG_CFG.PHASE [15 Table 15-5; reset 0] -/
  trigPhase : BitVec 4 := 0
  /-- TRIG_CFG.PERIOD [15 Table 15-5; reset 0x3E8] -/
  trigPeriod : BitVec 12 := 0x3E8
  /-- TRIG_MISS [15 Table 15-5; reset 0] -/
  trigMiss : W32 := 0
  /-- The conversion that runs: triggered or not [15 R433, R434; reset none] -/
  running : Option Bool := none
  /-- Round number r [15 R430; reset 0] -/
  round : Nat := 0
  /-- TIME's 100 MHz count at the round's start [15 R430; reset 0] -/
  roundStart : Nat := 0
  /-- Corrected symbols of the current round by (port, lane), for the lane share [10 R311; reset 0] -/
  laneSyms : List (Nat × Nat × Nat) := []
deriving DecidableEq, Repr

/-- CN (14 R421, 15 R443): the always-on domain and the backup domain. -/
structure Cn where
  /-- STAT.TRIPPED [15 Table 15-6; reset 0] -/
  tripped : Bool := false
  /-- STAT.VIN_FAULT [15 Table 15-6; reset 0] -/
  vinFault : Bool := false
  /-- STAT.WAKE_N [15 Table 15-6; reset 1] -/
  wakeN : Bool := true
  /-- STAT.AUX_OK [15 Table 15-6; reset 1] -/
  auxOk : Bool := true
  /-- STAT.VIN_OK [15 Table 15-6; reset 0] -/
  vinOk : Bool := false
  /-- STAT.TRIP_CMP [15 Table 15-6; reset 0] -/
  tripCmp : Bool := false
  /-- RTC_SEC, backup domain [15 Table 15-6; reset kept on VBAK: DESIGN CHOICE 0, entry 6] -/
  rtc : Nat := 0
  /-- RTC_SUB, backup domain [15 Table 15-6; reset kept on VBAK: DESIGN CHOICE 0, entry 6] -/
  sub : Nat := 0
  /-- Part of a 32.768 kHz cycle passed, in units of FAB cycles x 32,768 / 2e9, backup domain [15 R440; reset DESIGN CHOICE 0, entry 6] -/
  subFrac : Nat := 0
  /-- RTC_NEW [15 Table 15-6; reset 0] -/
  rtcNew : BitVec 48 := 0
  /-- SET was written: CN_RTC_NEW is loaded at the next edge of the 32.768 kHz clock [15 R440; reset 0] -/
  rtcDue : Bool := false
  /-- TICK_LAST [15 R440; reset 0] -/
  tickLast : Nat := 0
  /-- 100 MHz cycles since that boundary [15 R440; reset 0] -/
  sinceTick : Nat := 0
  /-- REEF_FLOOR [15 Table 15-6; reset 0] -/
  reefFloor : BitVec 4 := 0
  /-- I3C_CFG.SMBUS, RWS [15 Table 15-6; reset 0] -/
  smbus : Bool := false
  /-- I3C_CFG.FAST, RWS [15 Table 15-6; reset 0] -/
  fast : Bool := false
  /-- I3C_CFG.IBI_EN, RWS [15 Table 15-6; reset 0b111] -/
  ibiEn : BitVec 3 := 7
  /-- I3C_CFG.ADDR, RWS [15 Table 15-6; reset 0x58] -/
  i3cAddr : BitVec 7 := 0x58
  /-- The nine reset counters POR to CLKFAIL, backup domain [14 Table 14-7; reset kept on VBAK: DESIGN CHOICE 0 then POR counts 1, entry 6] -/
  counts : Sparse (BitVec 16) := [(0, 1)]
  /-- VBAK_STAT.LOST, backup domain [14 Table 14-7; reset kept: DESIGN CHOICE 0, entry 6] -/
  vbakLost : Bool := false
  /-- HOLD_CODE.CODE [14 Table 14-7; reset 0] -/
  holdCode : BitVec 8 := 0
  /-- HOLD_CODE.ARG [14 Table 14-7; reset 0] -/
  holdArg : BitVec 16 := 0
  /-- The crow's nest runs on its internal oscillator [14 R413; reset 0] -/
  onOsc : Bool := false
deriving DecidableEq, Repr

end Sys2Proof.Machine
end

