-- ==== Sys2Proof/Machine/StSrv.lean ====
section
/-! DEFINITION. State of the serving engine: functions and reply rings, command slots, descriptors, streams and
generations, KV blocks and the prefix table, tenants, the sluice (spec/08, spec/09). A field's default value is its
value after a power-on reset; the tag in brackets names the file and rule that gives the field. -/

namespace Sys2Proof.Machine

/-- A reply record (08 Table 8-4) without its PHASE, which its ring place gives. -/
structure Record where
  op : Nat
  status : Nat
  released : Bool
  final : Bool
  text : Bool
  tokens : Bool
  detail : Nat
  ch : Nat
  state : Nat
  tag : W64
  tick : Nat
  word0 : W32
  word1 : W32
  payload : List Byte
deriving DecidableEq, Repr

/-- A reply ring (08 Table 8-15). -/
structure Ring where
  /-- RING.BASE [08 Table 8-15; reset 0] -/
  base : W64 := 0
  /-- RING.CFG.EN [08 Table 8-15; reset 0] -/
  en : Bool := false
  /-- RING.CFG.IRQ [08 Table 8-15; reset 0] -/
  irq : Bool := false
  /-- RING.CFG.SIZE, log2 [08 Table 8-15; reset 0x04] -/
  size : Nat := 4
  /-- RING.CONS [08 Table 8-15; reset 0] -/
  cons : W32 := 0
  /-- RING.PROD [08 Table 8-15; reset 0] -/
  prod : W32 := 0
  /-- Records whose write is to be issued, oldest first [08 R250; reset empty] -/
  wq : List Record := []
  /-- The backlog; BACKLOG.RECORDS counts it [08 R249; reset empty] -/
  backlog : List Record := []
deriving DecidableEq, Repr

/-- A ring after reset. -/
def Ring.reset (_ : Nat) : Ring := {}

/-- One function's SRV set (08 Table 8-14). -/
structure Fn where
  /-- CHAN_RANGE.COUNT [08 Table 8-14; reset 0x4000 for f = 0, else 0] -/
  count : Nat := 0
  /-- CHAN_RANGE.BASE [08 Table 8-14; reset 0] -/
  base : Nat := 0
  /-- STAT.FLR_BUSY [08 Table 8-14; reset 0] -/
  flrBusy : Bool := false
  /-- STAT.RANGE_REFUSED [08 Table 8-14; reset 0] -/
  rangeRefused : Bool := false
  /-- STAT.CONS_BAD [08 Table 8-14; reset 0] -/
  consBad : Bool := false
  /-- STAT.FETCH_ERR [08 Table 8-14; reset 0] -/
  fetchErr : Bool := false
  /-- TABLE address [08 Table 8-14; reset 0] -/
  table : W64 := 0
  /-- TENANTS mask [08 Table 8-14; reset all ones for f = 0, else 0] -/
  tenants : W64 := 0
  /-- IRQ.EN [08 Table 8-14; reset 0] -/
  irqEn : Bool := false
  /-- IRQ.HOLDOFF [08 Table 8-14; reset 0] -/
  holdoff : Nat := 0
  /-- IRQ.VECTOR, 0 to 63 [08 Table 8-14, 12 R373; reset 0] -/
  vector : Nat := 0
  /-- PEND [08 Table 8-14; reset 0] -/
  pend : W64 := 0
  /-- A record that requests a message was written and its message has not gone [08 R251; reset 0] -/
  irqWant : Bool := false
  /-- Tick boundary of the last message [08 R251; reset none] -/
  lastMsg : Option Nat := none
  /-- The 64 reply rings [08 R247; reset Ring] -/
  rings : Sparse Ring := []
deriving DecidableEq, Repr

/-- A function after reset (08 R233, Table 8-14). -/
def Fn.reset (f : Nat) : Fn :=
  if f = 0 then { count := 16384, tenants := BitVec.allOnes 64 } else {}

/-- A channel descriptor (08 Table 8-1) with its stop strings, parsed. -/
structure Desc where
  strict : Bool := false
  reprefill : Bool := false
  inTokens : Bool := false
  outTokens : Bool := false
  noPrefix : Bool := false
  priority : Nat := 0
  draftMax : Nat := 0
  tenant : Nat := 0
  ring : Nat := 0
  maxNew : Nat := 1
  maxContext : Nat := 1
  firstDeadline : Nat := 0
  tokenDeadline : Nat := 0
  parkTtl : Nat := 0
  temperature : W32 := 0
  topP : W32 := 0
  topK : Nat := 0
  repPenalty : W32 := 0
  repWindow : Nat := 0
  seed : W64 := 0
  stopAddr : W64 := 0
  stopLen : Nat := 0
  stopCount : Nat := 0
  user : W32 := 0
  /-- Stop strings: bytes, or token IDs. -/
  stops : List (List Nat) := []
deriving DecidableEq, Repr

/-- A descriptor-cache entry (08 R239). -/
structure CacheEntry where
  ch : Nat
  fn : Nat
  bytes : List Byte
  stops : List Byte
  /-- The tick in which a command that uses it last took effect. -/
  used : Option Nat
deriving DecidableEq, Repr

/-- What a waiting command still has to read (08 R237, R252). -/
inductive Need
  | desc | stops | input
deriving DecidableEq, Repr

/-- A collected command (08 Table 8-2). -/
structure Cmd where
  ch : Nat
  fn : Nat
  op : Nat
  seq : W64
  tag : W64
  packet : List Byte
  /-- The tick boundary at which it was collected. -/
  tick : Nat
  needs : List Need
  /-- The read descriptor: its bytes and its stop block; none when not read or not readable. -/
  desc : Option (List Byte)
  stops : List Byte
  input : List Byte
  /-- A read failed: descriptor or stop block, or input. -/
  descFailed : Bool
  inputFailed : Bool
  /-- The descriptor came by a fetch (else from the cache). -/
  fetched : Bool
  /-- Its read ended at the boundary that collected it: it takes effect at the next one. -/
  late : Bool
  /-- Why the packet is refused, and with what DETAIL; its reply waits for the descriptor that names its ring. -/
  refusal : Option (Nat × Nat)
deriving DecidableEq, Repr

/-- Stream states (09 Table 9-1). -/
inductive StreamSt
  | idle | prefill | decode | parked | done | failed
deriving DecidableEq, Repr

/-- What a generation is for. -/
inductive GenKind
  /-- A generation of GENERATE, OPEN, APPEND or RESUME. -/
  | normal
  /-- The re-prefill of a RESUME after its TTL (09 R291). -/
  | resume
  /-- An EMBED's input (09 R303). -/
  | embed
deriving DecidableEq, Repr

/-- A generation (08 R253 to R255). -/
structure Gen where
  kind : GenKind
  rep : Rep
  /-- Tick of its effect. -/
  effect : Nat
  /-- Tick of its admission; none while it is queued. -/
  admitted : Option Nat
  /-- Order of arrival and of admission. -/
  order : Nat
  maxNew : Nat
  /-- MAX_NEW comes from the descriptor, so a CHAN_RELOAD may lower it (R260). -/
  descNew : Bool
  parkAfter : Bool
  /-- Unused part of its block reservation. -/
  reserve : Nat
  firstCommit : Option Nat
  generated : Nat
  delivered : Nat
  prompt : Nat
  prefixHit : Nat
  clamped : Nat
  slips : Nat
  draftAccepted : Nat
  /-- History length at the generation's start. -/
  start : Nat
  /-- Next history index to enter the pipeline. -/
  next : Nat
  /-- History positions [from, to) that prefix matches cover. -/
  skip : Nat × Nat
  /-- Positions below this index are re-prefills that no budget counts (R293). -/
  rebuilt : Nat
  /-- The tick from which the next decode step may enter; none while a step is in flight. -/
  stepFrom : Option Nat
  /-- Draft tokens proposed for the next step. -/
  proposals : List Nat
  /-- Proposals that entered with the step in flight. -/
  inFlight : List Nat
  /-- History index of the first position of the step in flight. -/
  stepAt : Nat
  /-- Tokens sampled and not committed: (history index, token, it came from an accepted proposal). -/
  sampled : List (Nat × Nat × Bool)
  /-- Logits positions of the step in flight that have come back: (index, result so far). -/
  verified : Nat
  /-- Output bytes or token IDs of the generation, for stop strings (R277), committed part. -/
  output : List Nat
  /-- Bytes held back: an incomplete character (R254). -/
  heldText : List Byte
  /-- A generation was held by its budget in the current window (R294). -/
  heldMark : Bool
  /-- Proposals of the step in flight that have committed so far (R280). -/
  mark : Option Nat
  /-- It re-enters in the reprefill class (R349, R224, R328). -/
  reprefill : Bool
  /-- Sum of final hidden states of an EMBED's committed positions (R303). -/
  sum : List W32
deriving DecidableEq, Repr

/-- A parked stream's store (09 R290 to R292). -/
structure Park where
  /-- Copies run: the PARK's reply waits. -/
  copying : Option Rep
  /-- The order in which its PARK took effect, among parks and restores (09 R290). -/
  order : Nat
  ttl : Nat
  /-- Tick p of the end of the copy; the TTL is the window [p, p + ttl). -/
  p : Nat
  expired : Bool
  /-- Its KV was freed by a tack (07 R227). -/
  epochFreed : Bool
  inPlace : Bool
  /-- Private blocks parked, with the history block index of each. -/
  blocks : List (Nat × Nat)
  /-- A RESUME that restores or waits: its reply, START, MAX_NEW, and order. -/
  resuming : Option (Rep × Bool × Nat × Nat)
  /-- Pool blocks have been found for the restore. -/
  restored : Bool
  /-- Its blocks are incomplete at a slice position that was lost: RESUME rebuilds them (10 R328). -/
  incomplete : Option Nat
deriving DecidableEq, Repr

/-- A stream (09 R269, R270). -/
structure Stream where
  ch : Nat
  fn : Nat
  id : Nat
  st : StreamSt
  desc : Desc
  /-- History: token IDs, committed or given as input. -/
  hist : List Nat
  /-- Chain hashes of full blocks (R270, R282). -/
  hashes : List W256
  /-- History positions below this index have committed KV. -/
  kv : Nat
  /-- Positions below this index were written under an older epoch than the one in service (07 R225). -/
  oldKv : Nat
  /-- KV block IDs by block index. -/
  blocks : List Nat
  /-- Epoch of the stream's KV (08 Table 8-11). -/
  epoch : Nat
  /-- Positions below this index held KV before a tack marker that freed it: their prefill counts for no budget (07 R224). -/
  reKv : Nat
  gen : Option Gen
  park : Option Park
  /-- A PARK that waits until no position of the stream is in flight: its reply and TTL (09 R290). -/
  parkWait : Option (Rep × Nat)
  /-- Draft length k, misses and rest (R281). -/
  k : Nat
  misses : Nat
  rest : Nat
  /-- Consecutive failed attempts: (index, count) (11 R345). -/
  attempts : Nat × Nat
  /-- Blocks incomplete at a slice position: that position, and the index ranges [from, to) still to be sent (10 R328). -/
  rebuild : Option (Nat × List (Nat × Nat))
  /-- Counts of the current or last generation: generated, delivered, clamped, slips. -/
  counts : Nat × Nat × Nat × Nat
deriving DecidableEq, Repr

/-- A position in flight, as the head sees it (11 R348). -/
structure Flight where
  ch : Nat
  stream : Nat
  index : Nat
  epoch : Nat
  block : Nat
  slot : Nat
  entered : Nat
  provisional : Bool
  needLogits : Bool
  /-- It entered the LM head pass in this tick. -/
  passTick : Option Nat
  /-- Its residual is back at the head. -/
  arrived : Bool
  /-- The final hidden state of an EMBED's position (R303). -/
  hidden : List W32
  /-- The tick in which its logits came back. -/
  logits : Option Nat
  /-- PASS stamps: (package, tick). -/
  passes : List (Nat × Nat)
  clamped : Bool
  slips : Nat
  /-- The head ignores its logits and its stamps (R349, R300). -/
  dropped : Bool
  /-- The failure that a stamp reports: result and cause. -/
  failed : Option (Nat × Nat)
deriving DecidableEq, Repr

/-- A tenant (09 R456, R293). -/
structure Tenant where
  /-- ENABLE [09 R456; reset 0] -/
  enable : Bool := false
  /-- WEIGHT [09 R456; reset 1] -/
  weight : Nat := 1
  /-- WINDOW in ticks of the running window [09 R456; reset 100,000] -/
  window : Nat := 100000
  /-- WINDOW from the next window on [08 R261; reset 100,000] -/
  nextWindow : Nat := 100000
  /-- BUDGET [09 R456; reset 0] -/
  budget : Nat := 0
  /-- KV_CAP [09 R456; reset 0] -/
  kvCap : Nat := 0
  /-- SCOPE [09 R456; reset the tenant number] -/
  scope : W32 := 0
  /-- Start tick of the running window; none before a TENANT_SET [09 R293; reset none] -/
  start : Option Nat := none
  /-- Tokens counted in the running window [09 R293; reset 0] -/
  counted : Nat := 0
  /-- Refusals since the last TENANT_SET [08 Table 8-11; reset 0] -/
  refusals : Nat := 0
  /-- Fair-queueing finish [09 R295; reset 0] -/
  finish : Rat := 0
deriving DecidableEq, Repr

/-- A tenant after reset. -/
def Tenant.reset (t : Nat) : Tenant := { scope := BitVec.ofNat 32 t }

/-- A prefix-table entry (09 Table 9-4); VALID is its presence. -/
structure PrefixEntry where
  key : BitVec 128
  block : Nat
  refs : Nat
  lastUse : W32
deriving DecidableEq, Repr

/-- A write of results to host memory that waits for its tick (08 R264, R259). -/
structure HostOut where
  rep : Rep
  addr : W64
  bytes : List Byte
deriving DecidableEq, Repr

/-- SRV (08 R268, 09 R304) and the serving engine's state in head DRAM. -/
structure Srv where
  /-- COLLECTED at the boundary that opened the current tick [08 Table 8-13; reset 0] -/
  collected : Nat := 0
  /-- WIN_DROP [08 Table 8-13; reset 0] -/
  winDrop : W32 := 0
  /-- DCACHE_HIT [08 Table 8-13; reset 0] -/
  dHit : W32 := 0
  /-- DCACHE_MISS [08 Table 8-13; reset 0] -/
  dMiss : W32 := 0
  /-- FETCH_ERR [08 Table 8-13; reset 0] -/
  fetchErr : W32 := 0
  /-- BAR2 device SRAM, slot of channel c at 256c [08 R241; reset DESIGN CHOICE 0, entry 7] -/
  window : Mem := []
  /-- SEQ of the last command collected, by slot [08 R242; reset DESIGN CHOICE 0, entry 6] -/
  lastSeq : Sparse W64 := []
  /-- SEALED: slots sealed and not yet collected, with the tick of the seal [08 Table 8-13; reset none] -/
  sealedTab : List (Nat × Nat) := []
  /-- BUSY: slots locked [08 Table 8-13; reset none] -/
  busy : List Nat := []
  /-- Collected commands that wait for reads, in order of collection [08 R240; reset none] -/
  waiting : List Cmd := []
  /-- Commands that take effect at the current boundary, in order [08 R244; reset none] -/
  due : List Cmd := []
  /-- What the boundary has still to do between its due commands: 1, retest queued generations after classes 1 and 2;
  2, act on failed stamps, commit and fill the tick's slots after class 3; 0, nothing [09 R295, R298; reset 0] -/
  phase : Nat := 0
  /-- The 32 functions [08 R268; reset Fn.reset] -/
  fns : Sparse Fn := []
  /-- The descriptor cache, least recently used first [08 R239; reset empty] -/
  dcache : List CacheEntry := []
  /-- The streams by channel [09 R269; reset none] -/
  streams : List (Nat × Stream) := []
  /-- Stream ID of the next OPEN [02 R68, R69; reset DESIGN CHOICE 1, entry 13] -/
  nextId : Nat := 1
  /-- Order number of the next arrival or admission [09 R298; reset 0] -/
  nextOrder : Nat := 0
  /-- EMBEDs that run, as streams without a channel's state, by channel: OUT_ADDR and OUT_LEN [09 R303; reset none] -/
  embeds : List (Nat × HostOut) := []
  /-- Positions in flight, in order of entry [11 R348; reset none] -/
  flights : List Flight := []
  /-- Acceptance marks for the next bundle: (stream, proposals accepted) [09 R280; reset none] -/
  marks : List (Nat × Nat) := []
  /-- Largest SCRUB received, by package [11 R348; reset none] -/
  scrubs : List (Nat × Nat) := []
  /-- Stamps that the head acts on: positions failed, by (stream, index, result, cause) [11 R349; reset none] -/
  failing : List (Nat × Nat × Nat × Nat) := []
  /-- The prefix table, by 8 x bucket + slot [09 R283; reset empty] -/
  prefixTab : List (Nat × PrefixEntry) := []
  /-- The 64 tenants [09 R456; reset Tenant.reset] -/
  tenants : Sparse Tenant := []
  /-- Finish times start at this system virtual time [09 R295; reset 0] -/
  vtime : Rat := 0
  /-- LM-head credit balance in positions [09 R295; reset DESIGN CHOICE 0, entry 6] -/
  credit : Rat := 0
  /-- Slots carried over: f_min x slots x frame not yet used, in 1/4096 slots [09 R295, 15 R427; reset 0] -/
  slotCarry : Rat := 0
  /-- SLUICE_CFG.UTIL [09 Table 9-8; reset 0x5A] -/
  util : BitVec 8 := 0x5A
  /-- SLUICE_CFG.SLIP_ALLOW [09 Table 9-8; reset 0x08] -/
  slipAllow : BitVec 8 := 8
  /-- SLUICE_ADMIT [09 Table 9-8; reset 0] -/
  admitted : W32 := 0
  /-- SLUICE_REFUSE [09 Table 9-8; reset 0] -/
  refused : W32 := 0
  /-- SLUICE_EXPIRE [09 Table 9-8; reset 0] -/
  expired : W32 := 0
  /-- HEAD_LOAD.USED of the current tick, positions that entered the pass [09 Table 9-8; reset 0] -/
  headUsed : Nat := 0
  /-- PREFIX_HITS [09 Table 9-8; reset 0] -/
  hits : W32 := 0
  /-- PREFIX_INSERTS [09 Table 9-8; reset 0] -/
  inserts : W32 := 0
  /-- PREFIX_SKIPS [09 Table 9-8; reset 0] -/
  skips : W32 := 0
  /-- DRAFT_PROPOSED [09 Table 9-8; reset 0] -/
  proposed : W32 := 0
  /-- DRAFT_ACCEPTED [09 Table 9-8; reset 0] -/
  accepted : W32 := 0
  /-- STOCK_BASE [09 Table 9-8; reset 0] -/
  stockBase : W64 := 0
  /-- STOCK_SIZE.EN [09 Table 9-8; reset 0] -/
  stockEn : Bool := false
  /-- STOCK_SIZE.MIB [09 Table 9-8; reset 0] -/
  stockMib : BitVec 21 := 0
  /-- STOCK_STAT.ERR [09 Table 9-8; reset 0] -/
  stockErr : Bool := false
  /-- STOCK_STAT.FULL [09 Table 9-8; reset 0] -/
  stockFull : Bool := false
  /-- EN was cleared or the region moved: parked streams expire at the next boundary [09 R304 Caution; reset 0] -/
  stockLost : Bool := false
  /-- Result bytes whose function cannot write yet, oldest first: function, address, bytes [08 R249, 12 R376; reset none] -/
  hostOuts : List (Nat × W64 × List Byte) := []
  /-- KV_BLOCKS in force for allocation [07 R457; reset 0] -/
  kvTotal : Nat := 0
deriving DecidableEq, Repr

end Sys2Proof.Machine
end

