-- ==== Sys2Proof/Machine/State.lean ====
section
/-! DEFINITION. The state of the block: the device, its visible snapshot, what has left it, the model's own fields, and
the queue of waiting commands; the reasons a step can stop; the state right after a power-on reset. -/

namespace Sys2Proof.Machine

/-- Everything that leaves the block, in order: the model's own record of its outputs (entry 5). -/
inductive Out
  /-- A reply record written to host memory as one write of 64 bytes: function, ring, host address (08 R248, Table 8-4). -/
  | record (fn ring : Nat) (addr : W64) (bytes : List Byte)
  /-- A host read request: function, address, length (08 R237, R252). -/
  | hostRead (fn : Nat) (addr : W64) (len : Nat)
  /-- A host write of result bytes (08 R259, R263, R264). -/
  | hostWrite (fn : Nat) (addr : W64) (bytes : List Byte)
  /-- An MSI-X message: function, entry, address, data (12 R373). -/
  | msix (fn entry : Nat) (addr : W64) (data : W32)
  /-- An event-mirror entry of 32 bytes written to host memory (12 R377). -/
  | event (addr : W64) (bytes : List Byte)
  /-- A 32-bit register read's data. -/
  | readData (value : W32)
  /-- The bytes of a read narrower than 32 bits, of one at an address that is no multiple of 4, or of command slots (01 R42; 08
  R241). -/
  | readBytes (bytes : List Byte)
  /-- A completion with Unsupported Request (12 R372, 14 R415). -/
  | unsupported (fn : Nat)
  /-- A configuration request's completion: true with Configuration Request Retry Status (14 R415). -/
  | configDone (fn : Nat) (retry : Bool)
  /-- A tick marker sent to the timing children (10 R318). -/
  | marker (block : List Byte)
  /-- A VERDICT message to the next package on the pipeline path (10 R319). -/
  | verdict (stamps : List Stamp)
  /-- A bundle to the next package (10 R320). -/
  | bundle (b : Bundle)
  /-- A frame on a port: port, VL, bytes (10 R313). -/
  | frame (port vl : Nat) (bytes : List Byte)
  /-- ACK and NAK control blocks (10 R315). -/
  | ack (port seq : Nat)
  | nak (port seq : Nat)
  /-- A ROUTE message of the head to a member: routing entries, accept mask, role, timing parent, and the tick of the switch
  (10 R323, R325). -/
  | route (dst : Nat) (entries : List (Nat × W32)) (accept : Option Nat) (role : Option RoleWrite) (parent : Option Nat)
      (switchTick : Option Nat)
  /-- A message to another package, by frame TYPE (10 Table 10-4): destination, TYPE, words. -/
  | message (dst ftype : Nat) (words : List Nat)
  /-- An image page forwarded along the pipeline path (07 R204). -/
  | page (n : Nat) (bytes : List Byte)
  /-- A router's flits of one slot: pan, plane, output port (05 R137). -/
  | flits (pan : Nat) (plane : Plane) (port : Nat) (flits : List Flit)
  /-- Activation values, KV bytes or numbers that a pan program leaves, FP32 patterns (05 R127). -/
  | panResult (pan : Nat) (values : List W32)
  /-- The error completion of an aborted transfer: resource, grant unit, requester (05 R156). -/
  | errorCompletion (res unit : Nat) (who : Requester)
  /-- A quantized A8 segment with its vector's scale, which goes with it (02 R52). -/
  | segment (pan : Nat) (acts : List Byte) (scale : W16)
  /-- An I3C in-band interrupt: cause bit 0 trip, 1 VIN fault, 2 reset-hold (15 R441). -/
  | ibi (cause : Nat)
  /-- A management reply: tag and bytes (00 R38, 15 R441). -/
  | mgmt (tag : Nat) (bytes : List Byte)
  /-- A MoE dispatch bundle: expert, its positions and their weights (09 R302). -/
  | moe (expert : Nat) (positions : List (Nat × Nat × W32))
  /-- An expert's output to the next layer's package: expert, stream, index, BF16 elements (09 R302). -/
  | moeOut (expert stream index : Nat) (out : List W16)
deriving DecidableEq, Repr

/-- The device. -/
structure Dev where
  /-- GLB_ROLE and slice membership. -/
  role : Role := {}
  time : Time := {}
  fab : Fab := {}
  /-- Pans by number. -/
  pans : Sparse Pan := []
  dle : Dle := {}
  /-- MEM pairs 0 to 2. -/
  mem : Sparse MemPair := []
  /-- Arbitrated resources: 0 to 2 MEM01, MEM23, MEM45; 3 WS; 4 PCIe DMA (05 Table 5-7). -/
  arb : Sparse Arb := []
  ws : Ws := {}
  lnk : Lnk := {}
  pcie : Pcie := {}
  srv : Srv := {}
  chk : Chk := {}
  sec : Sec := {}
  nv : Nv := {}
  rst : Rst := {}
  hk : Hk := {}
  cn : Cn := {}
deriving DecidableEq, Repr

/-- A MEM pair after reset. -/
def MemPair.reset (_ : Nat) : MemPair := {}

/-- An arbiter after reset. -/
def Arb.reset (_ : Nat) : Arb := {}

/-- A snapshot hold (01 R37): the held snapshot, its tag and the tick in which it was set. -/
structure Hold where
  dev : Dev
  tag : Nat
  setAt : Nat
deriving DecidableEq, Repr

/-- What stood when the current FAB cycle began, by which a bit that hardware sets in the same cycle as software clears it is
kept (00 R18; entry 121). -/
structure CycleStart where
  dev : Dev := {}
  holdExpired : Bool := false
deriving DecidableEq, Repr

/-- The state of the block. -/
structure State where
  dev : Dev := {}
  /-- The latest snapshot: the device as captured, of which the TS fields are read [01 R35; reset as the device] -/
  snap : Dev := {}
  /-- GLB_SNAP_TICK: tag of the latest snapshot [01 R35; reset 0] -/
  snapTick : Nat := 0
  /-- GLB_SNAP_CTRL.HOLD and the held snapshot [01 R37; reset none] -/
  hold : Option Hold := none
  /-- GLB_SNAP_CTRL.HOLD_EXPIRED [01 R37; reset 0] -/
  holdExpired : Bool := false
  /-- High words latched by low-word reads: (function, offset of the high word, value) [00 R14; reset none] -/
  latches : List (Nat × Nat × W32) := []
  /-- What stood when the current FAB cycle began: the model's own field [00 R18, entry 121; DESIGN CHOICE as the device] -/
  begun : CycleStart := {}
  /-- What has left the block: the model's own field, newest last [entry 5; DESIGN CHOICE empty] -/
  out : List Out := []
  /-- Count of free values taken: the model's own field [entry 8; DESIGN CHOICE 0] -/
  freeCtr : Nat := 0
  /-- Commands that wait, first in, first out [the block's queue; reset empty] -/
  pending : List Instr := []
deriving DecidableEq, Repr

/-- Why a step stops. -/
inductive Fault
  /-- Raised by COMMAND_SLOT_WRITE, REGISTER_WRITE and LOW_WORD_READ: an access outside the function's BAR, an address
  the spec says does not exist (12 R370). Safe: the model stops. -/
  | outsideBar
deriving DecidableEq, Repr

/-- Why the model gives no meaning. -/
inductive Refusal
  /-- Raised by exec's arm for a row of the table that the model has not reached. Safe: the model stops. -/
  | notModelled (mnemonic : String)
deriving DecidableEq, Repr

/-- The state right after a power-on reset (14 Table 14-1, Table 14-3): AUX present, step 1 of the power-up sequence
running, ticks STOPPED, every field at the default that its declaration gives. -/
def State.reset : State := {}

end Sys2Proof.Machine
end

