-- ==== Sys2Proof/Config.lean ====
section
/-! DEFINITION. What one unit or one implementation fixes, and the values the spec leaves open. A FREE VALUE is an
opaque constant: nothing can evaluate it or prove a value of it (notes/assumptions/8.md). -/

namespace Sys2Proof.Config

/-- The ordering code of this unit: true for the HTK1-128L, false for the HTK1-64L (00 R6). -/
opaque is128L : Bool

/-- Byte i of an array's rows as the last of the stored verification patterns leaves them; the spec gives no pattern (06 R182). -/
opaque patternByte : Nat → BitVec 8

/-- The 64-bit unit serial number, fixed in MANUFACTURE (01 Table 1-14). -/
opaque serial : BitVec 64

/-- The analogue error of the n-th free conversion, in 1/256 count: input minus true count (03 R87; entry 9), under the
converter's OFFSET and GAIN taps and the PULSE taps of its drive line: one of a narrow group, two of a wide one's halves
(06 R167). The spec bounds its RMS over conversions; of one value it says only what 03 R86 lets a group flag. -/
opaque convError : Int → Int → List Int → Nat → Int

/-- The n-th free 32-bit value of a step whose result the spec does not state (entry 8). -/
opaque free32 : Nat → BitVec 32

/-- exp in FP32, to within 1 ulp, "by the same function on every package of a stepping" (09 R275; entry 11). -/
opaque exp32 : BitVec 32 → BitVec 32

/-- The HSS public keys in mask ROM: 0 FW0, 1 FW1, 2 SVC; byte i (13 R385; entry 12). -/
opaque romKeyByte : Nat → Nat → BitVec 8

/-- Byte i of the HASH of the firmware image of KIND k that the unit was shipped with (13 R389; entry 6). -/
opaque shippedHashByte : Nat → Nat → BitVec 8

/-- Byte i of the device certificate's signature, which Bamvos makes over a message outside the device (13 R388). -/
opaque certByte : List (BitVec 8) → Nat → BitVec 8

/-- The SEC true random source: byte i of draw n (13 R388, R400). -/
opaque trueRandom : Nat → Nat → BitVec 8

/-- What a pan program entry that the spec does not list computes (the RMS norm's or an activation's element i at
entry e over a vector): the vector core's instruction set is not in the spec (05 R127, 07 R200; entry 10). -/
opaque panProgram : Nat → List (BitVec 32) → Nat → BitVec 32

/-- The set point of an island rail in mV, by island and island state code of 15 Table 15-2a: the spec gives none
(15 R432; entry 23). -/
opaque railSetPoint : Nat → Nat → Nat

/-- The TS fields that another member's snapshot holds, where no message brought them: package, tag, block, offset (08 R263;
entry 2). -/
opaque memberWord : Nat → Nat → Nat → Nat → BitVec 32

end Sys2Proof.Config
end

