-- ==== Sys2Proof/Machine/Bits.lean ====
section
/-! DEFINITION. Bit fields, byte order and list helpers (00 R11 to R13: bit 0 is least significant, structures are
little-endian). -/

namespace Sys2Proof.Machine

/-- Bit i of a number. -/
def bitAt (x i : Nat) : Bool := x.testBit i

/-- The field of `len` bits from bit `lo` of a number. -/
def fieldAt (x lo len : Nat) : Nat := (x >>> lo) % 2 ^ len

/-- A Bool as a bit. -/
def b2n (b : Bool) : Nat := if b then 1 else 0

/-- n bits of an integer in two's complement, as a number. -/
def twos (n : Nat) (x : Int) : Nat := (x % (2 ^ n : Nat)).toNat

/-- The signed value of the low n bits. -/
def signed (n : Nat) (x : Nat) : Int :=
  if n ≠ 0 ∧ bitAt x (n - 1) then (x % 2 ^ n : Nat) - (2 ^ n : Nat) else (x % 2 ^ n : Nat)

/-- n bytes of a number, little-endian (00 R12). -/
def leBytes : Nat → Nat → List Byte
  | 0, _ => []
  | n + 1, x => BitVec.ofNat 8 x :: leBytes n (x / 256)

/-- The number that bytes spell, little-endian. -/
def leNat : List Byte → Nat
  | [] => 0
  | b :: bs => b.toNat + 256 * leNat bs

/-- Bytes of a list from an offset; bytes past its end read 0. -/
def sliceAt (l : List Byte) (off n : Nat) : List Byte :=
  let t := (l.drop off).take n
  t ++ List.replicate (n - t.length) 0

/-- The little-endian number at an offset of a structure. -/
def leAt (l : List Byte) (off n : Nat) : Nat := leNat (sliceAt l off n)

/-- A big-endian 32-bit word's bytes (13 R388 u32). -/
def beBytes4 (x : Nat) : List Byte :=
  [BitVec.ofNat 8 (x / 16777216), BitVec.ofNat 8 (x / 65536), BitVec.ofNat 8 (x / 256), BitVec.ofNat 8 x]

/-- Every byte of a range is 0. -/
def zeroAt (l : List Byte) (off n : Nat) : Bool := (sliceAt l off n).all (fun b => b == 0)

/-- A word from its fields: (lowest bit, value). -/
def pack (l : List (Nat × Nat)) : Nat := (l.map (fun (e : Nat × Nat) => e.2 * 2 ^ e.1)).sum

/-- Ceiling division. -/
def ceilDiv (a b : Nat) : Nat := (a + b - 1) / b

/-- The smaller of a number and a limit: a saturating counter's value. -/
def satNat (lim x : Nat) : Nat := min lim x

/-- The first element that a test accepts, with its index. -/
def findIdx1 {α : Type} (p : α → Bool) : List α → Nat → Option (Nat × α)
  | [], _ => none
  | x :: xs, i => if p x then some (i, x) else findIdx1 p xs (i + 1)

/-- Insertion before equal keys, so that the sort is stable. -/
def insertKey {α : Type} (key : α → Nat) (x : α) : List α → List α
  | [] => [x]
  | y :: ys => if key x ≤ key y then x :: y :: ys else y :: insertKey key x ys

/-- Stable sort by a Nat key, ascending. -/
def sortBy {α : Type} (key : α → Nat) : List α → List α
  | [] => []
  | x :: xs => insertKey key x (sortBy key xs)

/-- The numbers from a to a + n - 1. -/
def upFrom (a n : Nat) : List Nat := (List.range n).map (a + ·)

end Sys2Proof.Machine
end

