-- ==== Sys2Proof/Machine/Flags.lean ====
section
/-! DEFINITION. Register-field behaviour: the access codes of 00 Table 0-5 and the counters' wrap and saturation. -/

namespace Sys2Proof.Machine

/-- A W1C flag after a write: a written 1 clears it unless hardware sets it in the same cycle (00 R17, R18). -/
def w1c (flag written hwSet : Bool) : Bool := hwSet || (flag && !written)

/-- Hardware set the bit in this FAB cycle: it is set and was not when the cycle began (00 R18). -/
def hwSet (now before : Bool) : Bool := now && !before

/-- A counter that saturates at its width's largest value. -/
def satInc {n : Nat} (c : BitVec n) (k : Nat := 1) : BitVec n := BitVec.ofNat n (min (2 ^ n - 1) (c.toNat + k))

/-- A counter that wraps. -/
def wrapInc {n : Nat} (c : BitVec n) (k : Nat := 1) : BitVec n := c + BitVec.ofNat n k

/-- A field's new value: a reserved encoding leaves the field unchanged (00 R16). -/
def setField {α : Type} (legal : Bool) (old new : α) : α := if legal then new else old

/-- The bits of a register that a write leaves: a field of `len` bits from `lo` takes the written value's field. -/
def putField (reg lo len val : Nat) : Nat :=
  reg - fieldAt reg lo len * 2 ^ lo + (val % 2 ^ len) * 2 ^ lo

end Sys2Proof.Machine
end

