-- ==== Sys2Proof/Machine/Ops.lean ====
section
/-! DEFINITION. The named operations over the state: each block's one update, outputs, the error log and its event
mirror, MSI-X messages, reply records, time that passes. -/

namespace Sys2Proof.Machine

/-- Changes the device. -/
def State.upd (s : State) (f : Dev → Dev) : State := { s with dev := f s.dev }
def State.updRole (s : State) (f : Role → Role) : State := { s with dev := { s.dev with role := f s.dev.role } }
def State.updTime (s : State) (f : Time → Time) : State := { s with dev := { s.dev with time := f s.dev.time } }
def State.updFab (s : State) (f : Fab → Fab) : State := { s with dev := { s.dev with fab := f s.dev.fab } }
def State.updDle (s : State) (f : Dle → Dle) : State := { s with dev := { s.dev with dle := f s.dev.dle } }
def State.updWs (s : State) (f : Ws → Ws) : State := { s with dev := { s.dev with ws := f s.dev.ws } }
def State.updLnk (s : State) (f : Lnk → Lnk) : State := { s with dev := { s.dev with lnk := f s.dev.lnk } }
def State.updPcie (s : State) (f : Pcie → Pcie) : State := { s with dev := { s.dev with pcie := f s.dev.pcie } }
def State.updSrv (s : State) (f : Srv → Srv) : State := { s with dev := { s.dev with srv := f s.dev.srv } }
def State.updChk (s : State) (f : Chk → Chk) : State := { s with dev := { s.dev with chk := f s.dev.chk } }
def State.updSec (s : State) (f : Sec → Sec) : State := { s with dev := { s.dev with sec := f s.dev.sec } }
def State.updNv (s : State) (f : Nv → Nv) : State := { s with dev := { s.dev with nv := f s.dev.nv } }
def State.updRst (s : State) (f : Rst → Rst) : State := { s with dev := { s.dev with rst := f s.dev.rst } }
def State.updHk (s : State) (f : Hk → Hk) : State := { s with dev := { s.dev with hk := f s.dev.hk } }
def State.updCn (s : State) (f : Cn → Cn) : State := { s with dev := { s.dev with cn := f s.dev.cn } }

/-- Pan p. -/
def Dev.pan (d : Dev) (p : Nat) : Pan := Sparse.get Pan.reset d.pans p
def State.pan (s : State) (p : Nat) : Pan := s.dev.pan p
def State.updPan (s : State) (p : Nat) (f : Pan → Pan) : State :=
  { s with dev := { s.dev with pans := Sparse.upd Pan.reset s.dev.pans p f } }

/-- Array a of a pan. -/
def Pan.arr (p : Pan) (a : Nat) : Arr := Sparse.get Arr.reset p.arrs a
def Pan.updArr (p : Pan) (a : Nat) (f : Arr → Arr) : Pan := { p with arrs := Sparse.upd Arr.reset p.arrs a f }
/-- The mode that holds now: a vector started in COMPUTE finishes in it (03 R77). -/
def Arr.mode (a : Arr) : ArrMode := if a.run.isSome then .compute else a.cfg.mode
def State.arr (s : State) (p a : Nat) : Arr := (s.pan p).arr a
def State.updArr (s : State) (p a : Nat) (f : Arr → Arr) : State := s.updPan p (fun q => q.updArr a f)

def Dev.memPair (d : Dev) (m : Nat) : MemPair := Sparse.get MemPair.reset d.mem m
def State.updMem (s : State) (m : Nat) (f : MemPair → MemPair) : State :=
  { s with dev := { s.dev with mem := Sparse.upd MemPair.reset s.dev.mem m f } }
def Dev.arbiter (d : Dev) (r : Nat) : Arb := Sparse.get Arb.reset d.arb r
def State.updArb (s : State) (r : Nat) (f : Arb → Arb) : State :=
  { s with dev := { s.dev with arb := Sparse.upd Arb.reset s.dev.arb r f } }
def Dev.port (d : Dev) (p : Nat) : Port := Sparse.get Port.reset d.lnk.ports p
def State.updPort (s : State) (p : Nat) (f : Port → Port) : State :=
  s.updLnk (fun l => { l with ports := Sparse.upd Port.reset l.ports p f })
def Dev.fn (d : Dev) (f : Nat) : Fn := Sparse.get Fn.reset d.srv.fns f
def State.updFn (s : State) (f : Nat) (g : Fn → Fn) : State :=
  s.updSrv (fun v => { v with fns := Sparse.upd Fn.reset v.fns f g })
def Dev.ring (d : Dev) (f r : Nat) : Ring := Sparse.get Ring.reset (d.fn f).rings r
def State.updRing (s : State) (f r : Nat) (g : Ring → Ring) : State :=
  s.updFn f (fun n => { n with rings := Sparse.upd Ring.reset n.rings r g })
def Dev.fnCfg (d : Dev) (f : Nat) : FnCfg := Sparse.get FnCfg.reset d.pcie.fns f
def State.updFnCfg (s : State) (f : Nat) (g : FnCfg → FnCfg) : State :=
  s.updPcie (fun p => { p with fns := Sparse.upd FnCfg.reset p.fns f g })
def Dev.msix (d : Dev) (f e : Nat) : MsixEntry := Sparse.get MsixEntry.reset (d.fnCfg f).msix e
def State.updMsix (s : State) (f e : Nat) (g : MsixEntry → MsixEntry) : State :=
  s.updFnCfg f (fun c => { c with msix := Sparse.upd MsixEntry.reset c.msix e g })
def Dev.isl (d : Dev) (i : Nat) : Isl := Sparse.get Isl.reset d.hk.isls i
def State.updIsl (s : State) (i : Nat) (f : Isl → Isl) : State :=
  s.updHk (fun h => { h with isls := Sparse.upd Isl.reset h.isls i f })
def Dev.clamp (d : Dev) (k : Nat) : ClampSlot := Sparse.get ClampSlot.reset d.fab.clamps k
def State.updClamp (s : State) (k : Nat) (f : ClampSlot → ClampSlot) : State :=
  s.updFab (fun b => { b with clamps := Sparse.upd ClampSlot.reset b.clamps k f })
def Dev.tenant (d : Dev) (t : Nat) : Tenant := Sparse.get Tenant.reset d.srv.tenants t
def State.updTenant (s : State) (t : Nat) (f : Tenant → Tenant) : State :=
  s.updSrv (fun v => { v with tenants := Sparse.upd Tenant.reset v.tenants t f })
def Dev.stream (d : Dev) (ch : Nat) : Option Stream := Tab.find d.srv.streams ch
def State.updStream (s : State) (ch : Nat) (f : Stream → Stream) : State :=
  s.updSrv (fun v => { v with streams := Tab.upd v.streams ch f })
def State.updGen (s : State) (ch : Nat) (f : Gen → Gen) : State :=
  s.updStream ch (fun t => { t with gen := t.gen.map f })
def State.setStream (s : State) (t : Stream) : State :=
  s.updSrv (fun v => { v with streams := Tab.put v.streams t.ch t })
def State.delStream (s : State) (ch : Nat) : State :=
  s.updSrv (fun v => { v with streams := Tab.del v.streams ch })

/-- Applies a function over a list of things to the state. -/
def State.each {α : Type} (s : State) (l : List α) (f : State → α → State) : State := l.foldl f s

/-- A byte memory of consecutive bytes. -/
def memOfBytes (off : Nat) (bs : List Byte) : Mem := (bs.zipIdx).filterMap (fun e => if e.1 = 0 then none else some (off + e.2, e.1))

/-- Mark of a history block that holds no pool block: above every block ID (07 Table 7-1 KV_BLOCKS). -/
def noBlock : Nat := 4194304

/-- What a matrix on the DLE gave for a position, in a layer slot that `here` takes (04 R114, R118). -/
def Dle.outOf (d : Dle) (here : Nat → Bool) (name stream index : Nat) : Option (List W32) :=
  (d.outs.find? (fun o => here o.slot && o.name == name && o.stream == stream && o.index == index)).map (·.out)

/-- It has been used. -/
def Dle.dropOut (d : Dle) (here : Nat → Bool) (name stream index : Nat) : Dle :=
  { d with outs := d.outs.filter (fun o => !(here o.slot && o.name == name && o.stream == stream && o.index == index)) }

/-- Sends something out of the block. -/
def State.emit (s : State) (o : Out) : State := { s with out := s.out ++ [o] }

/-- The next free 32-bit value, and the state after taking it (entry 8). -/
def State.take32 (s : State) : W32 × State := (Config.free32 s.freeCtr, { s with freeCtr := s.freeCtr + 1 })

/-- The live tick number. -/
def State.tick (s : State) : Nat := s.dev.time.tick

/-- Ticks run: snapshots are captured (05 Table 5-6). -/
def Time.runs (t : Time) : Bool :=
  match t.st with
  | .stopped => false
  | .sync => t.synced
  | .run => true
  | .free => true

/-- The schedule runs (05 Table 5-6). -/
def Time.serves (t : Time) : Bool :=
  match t.st with
  | .run => true
  | .free => true
  | _ => false

/-- This package is tick master (05 R146): the head of its slice, or in no slice. -/
def Dev.master (d : Dev) : Bool := !d.role.assigned || d.role.role == 1

/-- Head role. -/
def Dev.isHead (d : Dev) : Bool := d.role.assigned && d.role.role == 1

/-- The serving engine runs: head role, image loaded (08 Table 8-13 ENGINE). -/
def Dev.engine (d : Dev) : Bool := d.isHead && d.ws.img.isSome && d.ws.loaded

/-- Cycles of the tick in force: T, the seam's d at a follower, and the stretch (05 R142, R143). -/
def Dev.tickCycles (d : Dev) : Nat :=
  2000 * d.time.inForce + d.time.stretch + (if d.master then 0 else d.time.adjNext.toNat) -
    (if d.master then 0 else (-d.time.adjNext).toNat)

/-- HK re-verifies the channel in this round (15 R431). -/
def Hk.reverifies (h : Hk) (c : Nat) : Bool := h.round % 64 == c && !(decide (26 ≤ c) && decide (c ≤ 31))

/-- The slot of the channel under re-verification has begun, 1,560 HK cycles after the one before it: the channel carries STALE (06
R185; 15 R430, R431). -/
def State.beginReverify (s : State) : State :=
  let h := s.dev.hk
  let c := h.round % 64
  if h.reverifies c && decide (1560 * c ≤ s.dev.time.mems - h.roundStart) then
    s.updHk (fun h => { h with chans := Sparse.upd Chan.reset h.chans c (fun x => { x with stale := true }) })
  else s

/-- A FAB cycle begins (00 R18). -/
def State.beginCycle (s : State) : State := { s with begun := ⟨s.dev, s.holdExpired⟩ }

/-- n FAB cycles pass: TIME_CYCLE, the resonator's count, the RTC, which takes CN_RTC_NEW at the first edge after SET, the crow's
nest's count since the last boundary, and HK's slots. A
tick ends only at its TICK_BOUNDARY, so the cycle stays within the tick (01 Table 1-9, 05 Table 5-12, 15 R440; entry 1). -/
def State.passCycles (s : State) (n : Nat) : State :=
  let m := s.dev.time.memsFrac + n
  let q := s.dev.cn.subFrac + 32768 * n
  let set := s.dev.cn.rtcDue && decide (2000000000 ≤ q)
  let base := if set then s.dev.cn.rtcNew.toNat else s.dev.cn.rtc
  let u := if set then q / 2000000000 - 1 else s.dev.cn.sub + q / 2000000000
  let last := s.dev.tickCycles - 1
  ((s.updTime (fun t => { t with mems := t.mems + m / 20, memsFrac := m % 20,
                                 cycle := if t.runs then min (t.cycle + n) last else t.cycle })).updCn
    (fun c => { c with sinceTick := c.sinceTick + m / 20, subFrac := q % 2000000000, sub := u % 32768,
                       rtc := (base + u / 32768) % 2 ^ 48, rtcDue := c.rtcDue && !set })).beginReverify.beginCycle

/-- PTM time now in ns: the local clock of 10 ns steps, its rate corrected from the last two dialogs (12 R378). -/
def Time.ptmNow (t : Time) : Nat :=
  match t.ptmDialogs with
  | [] => 0
  | [(l, r)] => r + (10 * t.mems - l)
  | (l, r) :: (l', r') :: _ => if l' < l then r + (10 * t.mems - l) * (r - r') / (l - l') else r + (10 * t.mems - l)

/-- The function can issue memory requests (12 Table 12-6, 08 R265). -/
def Dev.canWrite (d : Dev) (f : Nat) : Bool :=
  d.pcie.linkUp && (d.fnCfg f).bme && !(d.fnCfg f).d3 && !(d.fn f).flrBusy && decide (f ≤ d.pcie.numVfs)

/-- Sends, or leaves pending, the MSI-X message of a function's entry (12 R373). -/
def State.sendMsix (s : State) (f e : Nat) : State :=
  if s.dev.canWrite f && !(s.dev.fnCfg f).fnMask && !(s.dev.msix f e).masked then
    s.emit (.msix f e (s.dev.msix f e).addr (s.dev.msix f e).data)
  else s.updMsix f e (fun m => { m with pending := true })

/-- Sends a function's pending messages whose entries are unmasked (12 R373). -/
def State.flushMsix (s : State) (f : Nat) : State :=
  if s.dev.canWrite f && !(s.dev.fnCfg f).fnMask then
    (List.range 64).foldl (fun s e =>
      if (s.dev.msix f e).pending && !(s.dev.msix f e).masked then
        (s.updMsix f e (fun m => { m with pending := false })).emit
          (.msix f e (s.dev.msix f e).addr (s.dev.msix f e).data)
      else s) s
  else s

/-- The event ring's free entries (12 R377, 08 R247). -/
def Pcie.evtFree (p : Pcie) : Nat := 2 ^ p.evtSize.toNat - (p.evtProd - p.evtCons).toNat

/-- An error-log entry's 32 bytes (11 Table 11-9). -/
def LogEntry.bytes (e : LogEntry) : List Byte :=
  leBytes 2 e.code ++ leBytes 1 e.kind ++ leBytes 1 (b2n e.persist) ++ leBytes 4 e.unit ++ leBytes 8 e.tick ++ leBytes 4 e.rtc ++
  leBytes 4 e.arg0 ++ leBytes 8 e.arg1

/-- A mirrored entry's bytes: PHASE is bit 7 of byte 3 (12 R377). -/
def LogEntry.mirrored (e : LogEntry) (phase : Bool) : List Byte :=
  e.bytes.set 3 (BitVec.ofNat 8 (b2n e.persist + 128 * b2n phase))

/-- A reply record's 64 bytes with its PHASE; the payload is filled with zeros (08 Table 8-4, R12). -/
def Record.bytes (r : Record) (phase : Bool) : List Byte :=
  leBytes 1 r.op ++ leBytes 1 r.status ++
  leBytes 1 (b2n phase + 2 * b2n r.released + 4 * b2n r.final + 8 * b2n r.text + 16 * b2n r.tokens) ++ leBytes 1 r.detail ++
  leBytes 2 r.ch ++ leBytes 1 r.state ++ leBytes 1 r.payload.length ++ leBytes 8 r.tag.toNat ++ leBytes 8 r.tick ++
  leBytes 4 r.word0.toNat ++ leBytes 4 r.word1.toNat ++ sliceAt r.payload 0 32

/-- Mirrors a log entry to PF0's event ring, or sets LOST (12 R377). -/
def State.mirrorEvent (s : State) (e : LogEntry) : State :=
  let p := s.dev.pcie
  if p.evtEn then
    if p.evtFree = 0 || !p.linkUp || !(s.dev.fnCfg 0).bme || (s.dev.fn 0).flrBusy then
      s.updPcie (fun p => { p with evtLost := true })
    else
      (s.updPcie (fun p => { p with evtProd := p.evtProd + 1, evtTick := true, wr := p.wr + 32 })).emit
        (.event (p.evtBase + BitVec.ofNat 64 (32 * (p.evtProd.toNat % 2 ^ p.evtSize.toNat)))
          (e.mirrored (decide (p.evtProd.toNat / 2 ^ p.evtSize.toNat % 2 = 0))))
  else s

/-- Event codes with the PERSIST flag (11 Table 11-10). A retired lane or port is not in the list (R354, R312). -/
def persistCode (code kind : Nat) : Bool :=
  code == 0x21 || code == 0x23 || (code == 0x20 && kind != 5 && kind != 6)

/-- Logs an event, appends it to the retirement list when it persists and the list has room, and mirrors it
(11 R354, R361, 12 R377). -/
def State.logEvent (s : State) (code kind unit arg0 arg1 : Nat) : State :=
  let want := persistCode code kind
  let room := decide (s.dev.nv.list.length < 256)
  let e : LogEntry := { code, kind, persist := want && room, unit, tick := s.tick, rtc := s.dev.cn.rtc % 2 ^ 32, arg0, arg1 }
  let s := s.updChk (fun c => { c with log := Sparse.set LogEntry.reset c.log (c.logProd.toNat % 4096) e,
                                       logProd := c.logProd + 1 })
  let s := if want then
      if room then
        s.updNv (fun n => { n with list := n.list ++ [⟨kind, unit, code, arg0, s.tick, s.dev.cn.rtc / 86400⟩] })
      else s.updNv (fun n => { n with listFull := true })
    else s
  s.mirrorEvent e

/-- The unit is retired in the data path's view (11 R358). -/
def Chk.isRetired (c : Chk) (kind unit : Nat) : Bool := c.retired.contains (kind, unit)

/-- The numeric state byte of a stream (08 Table 8-4 STATE). -/
def StreamSt.code : StreamSt → Nat
  | .idle => 1
  | .prefill => 2
  | .decode => 3
  | .parked => 4
  | .done => 5
  | .failed => 6

/-- The STATE byte of a channel's records. -/
def Dev.stateByte (d : Dev) (ch : Nat) : Nat :=
  match d.stream ch with
  | some t => t.st.code
  | none => 0

/-- Free records of a ring, those that wait to be written counted in (08 R247). -/
def Ring.free (r : Ring) : Nat := 2 ^ r.size - ((r.prod - r.cons).toNat + r.wq.length)

/-- Produces a record: it waits for its write, or joins the ring's backlog when the ring is full or disabled, when
the function cannot write, or behind records that wait there (08 R249, R250). An FLR in progress discards it (R265), and a
retired head writes none (11 R455). -/
def State.produce (s : State) (f ring : Nat) (r : Record) : State :=
  if (s.dev.fn f).flrBusy || (s.dev.isHead && s.dev.chk.isRetired 0 0) then s
  else
    let g := s.dev.ring f ring
    if g.en && decide (0 < g.free) && g.backlog.isEmpty && s.dev.canWrite f then
      s.updRing f ring (fun g => { g with wq := g.wq ++ [r] })
    else s.updRing f ring (fun g => { g with backlog := g.backlog ++ [r] })

/-- Result bytes go to host memory ahead of their record; while the function cannot write they wait as its records do
(08 R249, R259, R263, R264). -/
def State.hostOut (s : State) (f : Nat) (addr : W64) (bytes : List Byte) : State :=
  if s.dev.canWrite f then
    (s.updPcie (fun p => { p with wr := wrapInc p.wr bytes.length })).emit (.hostWrite f addr bytes)
  else s.updSrv (fun v => { v with hostOuts := v.hostOuts ++ [(f, addr, bytes)] })

/-- The result bytes that wait for a function go, once it can write. -/
def State.flushOuts (s : State) (f : Nat) : State :=
  let mine := s.dev.srv.hostOuts.filter (fun e => e.1 == f)
  if s.dev.canWrite f && !mine.isEmpty then
    (s.updSrv (fun v => { v with hostOuts := v.hostOuts.filter (fun e => e.1 != f) })).each mine
      (fun s e => s.hostOut e.1 e.2.1 e.2.2)
  else s

/-- The slot of a channel unlocks: its RELEASED record is produced (08 R243). -/
def State.unlock (s : State) (ch : Nat) : State :=
  s.updSrv (fun v => { v with busy := v.busy.filter (· != ch) })

/-- A reply to a command (08 R248): RELEASED unlocks the slot. -/
def State.reply (s : State) (p : Rep) (status detail : Nat) (released final : Bool) (w0 w1 : Nat := 0)
    (payload : List Byte := []) (text tokens : Bool := false) : State :=
  let s := if released then s.unlock p.ch else s
  s.produce p.fn p.ring
    { op := p.op, status, released, final, text, tokens, detail, ch := p.ch, state := s.dev.stateByte p.ch,
      tag := p.tag, tick := s.tick, word0 := BitVec.ofNat 32 w0, word1 := BitVec.ofNat 32 w1, payload }

/-- The members of the slice with a position: head and layer packages, in position order. -/
def Lnk.pipeline (l : Lnk) : List Member := sortBy (·.position) (l.members.filter (fun m => m.position != 0xFFFF))

/-- The function that owns a channel (08 R233). -/
def Dev.owner (d : Dev) (ch : Nat) : Option Nat :=
  (List.range 32).find? (fun f => decide ((d.fn f).base ≤ ch) && decide (ch < (d.fn f).base + (d.fn f).count))

/-- The management view denies the unit (11 R358): a VALID deny entry names it. -/
def Chk.denies (c : Chk) (kind unit : Nat) : Bool :=
  c.deny.any (fun e => e.2.getLsbD 31 && decide (fieldAt e.2.toNat 20 4 = kind) && decide (fieldAt e.2.toNat 0 20 = unit))

end Sys2Proof.Machine
end

