-- ==== Sys2Proof/Machine/Arbiter.lean ====
section
/-! DEFINITION. The arbitrated edge (05 R151 to R156, 12 R374, R375): requests, revocations, backoff, the resource
watchdog's bite. Commands of one cycle come one after another in the queue's order (entry 15). -/

namespace Sys2Proof.Machine

/-- Rank of a requester at a resource: emergency 5, privileged 4, ordinary its priority (05 R152). -/
def Arb.rank (a : Arb) (w : Requester) : Nat :=
  match w.cls with
  | 0 => 5
  | 1 => 5
  | 2 => 4
  | 3 => 4
  | 4 => 4
  | 5 => fieldAt a.prio.toNat 6 2
  | 6 => fieldAt a.prio.toNat 4 2
  | 7 => fieldAt a.prio.toNat 2 2
  | _ => fieldAt a.prio.toNat 0 2

/-- An ordinary requester (05 Table 5-8). -/
def ordinaryReq (w : Requester) : Bool := decide (5 ≤ w.cls)

/-- The DRAM channel of an address in a MEM pair: 4 KiB granules go to consecutive channels (05 Table 5-7). -/
def memChannel (addr : Nat) : Nat := addr / 4096 % 64

/-- The largest transfer of a class's grant, in bytes; a refresh command moves none (05 Table 5-8). -/
def grantMax (cls : Nat) : Nat := if cls = 0 then 0 else if cls = 1 then 64 else if cls = 2 then 65536 else 4096

/-- The unit that a requester's losses are counted at: the engines of the PCIe DMA serve one queue (05 R155, 12 R374). -/
def lossKey (pcie : Bool) (u : Nat) : Nat := if pcie then 0 else u

/-- Consecutive losses of a requester at a unit (05 R155). -/
def Arb.lossesOf (a : Arb) (u : Nat) (w : Requester) : Nat :=
  match a.lost.find? (fun e => e.1 == u && e.2.1 == w) with
  | some e => e.2.2
  | none => 0

/-- Sets that count; 0 removes it. -/
def Arb.setLosses (a : Arb) (u : Nat) (w : Requester) (n : Nat) : Arb :=
  let rest := a.lost.filter (fun e => !(e.1 == u && e.2.1 == w))
  { a with lost := if n = 0 then rest else rest ++ [(u, w, n)] }

/-- A loss: the requester's count and LOSSES rise, and it backs off (05 R155). A privileged or emergency requester
waits in place (R154), and so does a requester of the PCIe DMA engines that does not win (12 R374). -/
def Arb.lose (a : Arb) (pcie : Bool) (u : Nat) (g : Grant) (wait : Bool) : Arb :=
  if wait then { a with queue := a.queue ++ [(u, { g with waits := true })] }
  else
    let n := a.lossesOf (lossKey pcie u) g.who + 1
    let a := a.setLosses (lossKey pcie u) g.who n
    { a with losses := a.losses + 1, queue := a.queue ++ [(u, { g with losses := n, waits := false })] }

/-- Grants a unit: ARB_MAXWAIT takes the wait (05 Table 5-13). -/
def Arb.grant (a : Arb) (u : Nat) (g : Grant) : Arb :=
  { a with held := Tab.put a.held u g, maxWait := max a.maxWait g.waited,
           last := (u, g.who) :: a.last.filter (fun e => e.1 != u) }

/-- Backoff before the next request, in cycles of the resource clock (05 R155). -/
def backoffCycles (n : Nat) : Nat := 8 * 2 ^ min n 10

/-- The engine of the PCIe DMA resource that a request takes or contests: the lowest free one, else the one whose
holder ranks lowest (12 R374). -/
def Arb.engine (a : Arb) : Nat :=
  match (List.range 16).find? (fun u => (Tab.find a.held u).isNone) with
  | some u => u
  | none =>
    ((List.range 16).foldl (fun b u =>
      match Tab.find a.held u with
      | some g => if a.rank g.who < b.2 then (u, a.rank g.who) else b
      | none => b) (0, 6)).1

/-- A request at a unit: granted, waiting, backing off, or revoking a lower grant (05 R152 to R155). -/
def Arb.ask (a : Arb) (pcie : Bool) (unit : Nat) (g : Grant) : Arb :=
  let u := if pcie then a.engine else unit
  if a.resetting then { a with queue := a.queue ++ [(unit, { g with waits := true })] }
  else
    match Tab.find a.held u with
    | none => a.grant u g
    | some h =>
      let revoke := if ordinaryReq h.who then decide (a.rank h.who < a.rank g.who)
                    else decide (a.rank h.who = 4) && decide (a.rank g.who = 5)
      if revoke then
        let a := { a with preempts := a.preempts + 1, held := Tab.del a.held u }
        (a.lose pcie u h (!ordinaryReq h.who)).grant u g
      else a.lose pcie u g (!ordinaryReq g.who || pcie)

/-- The waiting request that a freed unit takes: emergency before privileged, each in code order, then ordinary by
priority and, among equals, round robin: the first after the requester granted last (05 R153, R154). -/
def Arb.choose (a : Arb) (pcie : Bool) (u : Nat) : Option Grant :=
  let cand := (a.queue.filter (fun e => (pcie || e.1 == u) && e.2.waits)).map (·.2)
  let lastKey := match a.last.find? (fun e => e.1 == u) with
    | some e => 256 * e.2.cls + e.2.inst
    | none => 0
  let key := fun (g : Grant) =>
    let k := 256 * g.who.cls + g.who.inst
    8192 * (5 - a.rank g.who) + (if ordinaryReq g.who then (if lastKey < k then k - lastKey - 1 else 4096 + k) else g.who.cls)
  match cand with
  | [] => none
  | c :: cs => some (cs.foldl (fun b g => if key g < key b then g else b) c)

/-- Removes one waiting request. -/
def Arb.drop (a : Arb) (pcie : Bool) (u : Nat) (g : Grant) : Arb :=
  match findIdx1 (fun e => (pcie || e.1 == u) && e.2 == g) a.queue 0 with
  | some (i, _) => { a with queue := a.queue.take i ++ a.queue.drop (i + 1) }
  | none => a

/-- A free unit takes the request that comes first (05 R154). -/
def Arb.serveUnit (a : Arb) (pcie : Bool) (u : Nat) : Arb :=
  if a.resetting || (Tab.find a.held u).isSome then a
  else match a.choose pcie u with
    | some g => (a.drop pcie u g).grant u g
    | none => a

/-- The read of the oldest waiting command that still reads ends: its end is applied by the caller's function. -/
def Cmd.failRead (c : Cmd) : Cmd :=
  match c.needs with
  | [] => c
  | .desc :: _ => { c with needs := [], descFailed := true }
  | .stops :: _ => { c with needs := c.needs.filter (fun n => n != .stops && n != .input), descFailed := true }
  | _ :: ns => { c with needs := ns, inputFailed := true }

/-- The requests that the end of a bite's reset leaves waiting: the ordinary ones have lost an arbitration and back off; those
of the PCIe DMA engines wait (05 R155, R156; 12 R374). -/
def Arb.loseRest (a : Arb) : Arb :=
  let out := a.queue.filter (fun e => e.2.waits && ordinaryReq e.2.who)
  out.foldl (fun a e => a.lose false e.1 e.2 false) { a with queue := a.queue.filter (fun e => !(e.2.waits && ordinaryReq e.2.who)) }

/-- The waiting and restarting requests are arbitrated together at the end of a bite's reset (05 R156). -/
def Arb.restart (a : Arb) (pcie : Bool) : Arb :=
  let a := { a with resetting := false }
  if pcie then (List.range 16).foldl (fun a u => a.serveUnit true u) a
  else ((a.queue.map (·.1)).foldl (fun a u => a.serveUnit false u) a).loseRest

/-- A failed fetch of the oldest waiting command that a test accepts and that still reads: FETCH_ERR (08 R240). -/
def State.failFetch (s : State) (test : Cmd → Bool) : State :=
  match findIdx1 (fun (c : Cmd) => !c.needs.isEmpty && test c) s.dev.srv.waiting 0 with
  | none => s
  | some (i, c) =>
    (s.updSrv (fun v => { v with fetchErr := v.fetchErr + 1, waiting := v.waiting.set i c.failRead })).updFn c.fn
      (fun n => { n with fetchErr := true })

/-- ARB_REQUEST (05 R152 to R154). -/
def stepArbRequest (res unit : Nat) (who : Requester) (waited : Nat) (ch : Option Nat) (s : State) : State :=
  s.updArb res (fun a => a.ask (res == 4) unit ⟨who, waited, a.lossesOf (lossKey (res == 4) unit) who, false, ch⟩)

/-- BACKOFF_EXPIRY: the requester asks again after 8 x 2^n cycles (05 R155). -/
def stepBackoffExpiry (res unit : Nat) (who : Requester) (s : State) : State :=
  s.updArb res (fun a =>
    match a.queue.find? (fun e => e.1 == unit && e.2.who == who && !e.2.waits) with
    | none => a
    | some e =>
      let a := { a with queue := a.queue.filter (fun x => !(x.1 == unit && x.2.who == who && !x.2.waits)) }
      a.ask (res == 4) unit { e.2 with waited := e.2.waited + backoffCycles e.2.losses })

/-- Bytes moved by a completed transfer (05 Table 5-14, 12 Table 12-7). -/
def State.countBytes (s : State) (res bytes : Nat) (write : Bool) : State :=
  if res < 3 then
    s.updMem res (fun m => if write then { m with wr := wrapInc m.wr bytes } else { m with rd := wrapInc m.rd bytes })
  else if res = 4 then
    s.updPcie (fun p => if write then { p with wr := wrapInc p.wr bytes } else { p with rd := wrapInc p.rd bytes })
  else s

/-- A DRAM read's single-bit errors are corrected, an uncorrectable one poisons what it brings; both count in MEMm_ECC
(05 Table 5-14; 11 Table 11-3, R344). -/
def State.eccMem (s : State) (res ecc : Nat) : State :=
  if res < 3 ∧ ecc = 1 then s.updMem res (fun m => { m with ce := satInc m.ce })
  else if res < 3 ∧ 2 ≤ ecc then (s.updMem res (fun m => { m with ue := satInc m.ue })).logEvent 0x10 8 res 5 0
  else s

/-- The oldest prefetch under way at a channel for an island's KV stream. -/
def Fab.fetching (b : Fab) (res unit isl : Nat) : Option Prefetch :=
  b.prefetches.find? (fun f => !f.landed && f.res == res && memChannel f.addr == unit && Pan.island f.pan == isl)

/-- A prefetch's data land in the pan's prefetch buffer; poison goes with them to the step that reads them (05 R157; 05 Table
5-2; 11 R344). -/
def State.landPrefetch (s : State) (f : Prefetch) (data : List Byte) (poison : Bool) : State :=
  (s.updFab (fun b => { b with prefetches := b.prefetches.map (fun x => if x = f then { x with landed := true, poison } else x) })).updPan
    f.pan (fun q => { q with sram := Memory.writeBytes q.sram (0x1A000 + f.dst) (sliceAt data 0 f.len) })

/-- ARB_TRANSFER_COMPLETE: the grant's loss count returns to 0 and the unit serves the next waiting request; what a pan's
prefetch read lands (05 R154, R155, R157). -/
def stepArbTransferComplete (res unit bytes : Nat) (write : Bool) (data : List Byte) (ecc : Nat) (s : State) : State :=
  match Tab.find (s.dev.arbiter res).held unit with
  | none => s
  | some g =>
    let s := s.updArb res (fun a =>
      ({ a with held := Tab.del a.held unit }.setLosses (lossKey (res == 4) unit) g.who 0).serveUnit (res == 4) unit)
    let s := s.countBytes res (min bytes (grantMax g.who.cls)) write
    if write then s
    else
      let s := s.eccMem res ecc
      match s.dev.fab.fetching res unit g.who.inst with
      | some f => if g.who.cls = 5 then s.landPrefetch f data (decide (2 ≤ ecc)) else s
      | none => s

/-- An aborted transfer's error completion: a command's read fails; any other requester is told (05 R156; 08 R240). -/
def State.errorCompletion (s : State) (res unit : Nat) (g : Grant) : State :=
  let s := match g.ch with
    | some c => if res = 4 ∧ g.who.cls = 7 then s.failFetch (fun x => x.ch == c) else s
    | none => s
  s.emit (.errorCompletion res unit g.who)

/-- Unit kind and index of a resource in the error log (11 Table 11-9). -/
def resUnit (res : Nat) : Nat × Nat := if res < 3 then (8, res) else if res = 3 then (9, 0) else (0, 0)

/-- ARB_WATCHDOG_BITE: every transfer of the resource is aborted, the holder gets an error completion, the others
restart after the 2 us reset, and the bite is logged (05 R156). A read of a command that the bite of the PCIe DMA
aborts fails (08 R240). -/
def stepArbWatchdogBite (res unit : Nat) (s : State) : State :=
  match Tab.find (s.dev.arbiter res).held unit with
  | none => s
  | some g =>
    let others := ((s.dev.arbiter res).held.filter (fun e => e.1 != unit)).map (fun e => (e.1, { e.2 with waits := true }))
    let tick := s.tick
    let s := s.updArb res (fun a =>
      { a with held := [], queue := a.queue ++ others, bites := a.bites + 1, resetting := true,
               logTick := BitVec.ofNat 20 tick, logInst := BitVec.ofNat 8 g.who.inst, logClass := BitVec.ofNat 4 g.who.cls })
    (s.errorCompletion res unit g).logEvent 0x30 (resUnit res).1 (resUnit res).2 res g.who.cls

/-- BITE_RESET_END: the waiting and restarting requests are arbitrated together (05 R156). -/
def stepBiteResetEnd (res : Nat) (s : State) : State :=
  if (s.dev.arbiter res).resetting then
    s.updArb res (fun a => a.restart (res == 4))
  else s

/-- COMPLETION_TIMEOUT: a read grant of the PCIe DMA ends in an error completion (12 R375). -/
def stepCompletionTimeout (res unit : Nat) (s : State) : State :=
  match Tab.find (s.dev.arbiter res).held unit with
  | none => s
  | some g =>
    let s := s.updArb res (fun a => ({ a with held := Tab.del a.held unit }).serveUnit (res == 4) unit)
    let s := s.updPcie (fun p => { p with cplTimeout := p.cplTimeout + 1 })
    s.errorCompletion res unit g

def execArbRequest (res unit : Nat) (who : Requester) (waited : Nat) (ch : Option Nat) (s : State) : Host.Outcome State Fault Refusal :=
  .next (stepArbRequest res unit who waited ch s)
def execBackoffExpiry (res unit : Nat) (who : Requester) (s : State) : Host.Outcome State Fault Refusal :=
  .next (stepBackoffExpiry res unit who s)
def execArbTransferComplete (res unit bytes : Nat) (write : Bool) (data : List Byte) (ecc : Nat) (s : State) :
    Host.Outcome State Fault Refusal :=
  .next (stepArbTransferComplete res unit bytes write data ecc s)
def execArbWatchdogBite (res unit : Nat) (s : State) : Host.Outcome State Fault Refusal :=
  .next (stepArbWatchdogBite res unit s)
def execBiteResetEnd (res : Nat) (s : State) : Host.Outcome State Fault Refusal := .next (stepBiteResetEnd res s)
def execCompletionTimeout (res unit : Nat) (s : State) : Host.Outcome State Fault Refusal :=
  .next (stepCompletionTimeout res unit s)

end Sys2Proof.Machine
end

