-- ==== Sys2Proof/Machine/Float.lean ====
section
/-! DEFINITION. FP32 and BF16 arithmetic, rounded to nearest even, subnormal inputs read as zero and subnormal results
flushed to zero with their sign (02 R71, R73). A NaN result is the quiet NaN 0x7FC0_0000 (entry 17). -/

namespace Sys2Proof.Machine

/-- An FP32 pattern taken apart. -/
inductive Fp
  | nan
  | inf (neg : Bool)
  | zero (neg : Bool)
  /-- m x 2^e, m between 2^23 and 2^24. -/
  | num (neg : Bool) (m : Nat) (e : Int)
deriving DecidableEq, Repr

/-- Takes a pattern apart; a subnormal reads as zero with its sign (02 R73). -/
def fpOf (x : W32) : Fp :=
  let neg := x.getLsbD 31
  let ex := fieldAt x.toNat 23 8
  let fr := fieldAt x.toNat 0 23
  if ex = 255 then (if fr = 0 then .inf neg else .nan)
  else if ex = 0 then .zero neg
  else .num neg (2 ^ 23 + fr) ((ex : Int) - 150)

def fpNan : W32 := 0x7FC00000
def fpInf (neg : Bool) : W32 := if neg then 0xFF800000 else 0x7F800000
def fpZero (neg : Bool) : W32 := if neg then 0x80000000 else 0

/-- Rounds m / 2^r to nearest, ties to even; `sticky` says that the true value lies above m by less than one unit. -/
def rneShift (m r : Nat) (sticky : Bool) : Nat :=
  if r = 0 then m
  else
    let q := m >>> r
    let rem := m % 2 ^ r
    let half := 2 ^ (r - 1)
    if rem < half then q
    else if rem = half ∧ sticky = false then q + q % 2
    else q + 1

/-- The FP32 pattern of m x 2^e, rounded to nearest even. -/
def fpRound (neg : Bool) (m : Nat) (e : Int) (sticky : Bool := false) : W32 :=
  if m = 0 then fpZero neg
  else
    let b := Nat.log2 m
    let q0 := if 23 < b then rneShift m (b - 23) sticky else m <<< (23 - b)
    let up := decide (q0 = 2 ^ 24)
    let q := if up then 2 ^ 23 else q0
    let ex := e + (b : Int) + 127 + (if up then 1 else 0)
    if 254 < ex then fpInf neg
    else if ex < 1 then fpZero neg
    else BitVec.ofNat 32 ((if neg then 2 ^ 31 else 0) + ex.toNat * 2 ^ 23 + (q - 2 ^ 23))

/-- The FP32 pattern of an integer, rounded to nearest even (02 R56). -/
def fpOfInt (x : Int) : W32 := fpRound (decide (x < 0)) x.natAbs 0

/-- An exact signed dyadic sum, then one rounding. An exact zero sum is +0, but -0 of two negative zeros. -/
def fpAdd (x y : W32) : W32 :=
  match fpOf x, fpOf y with
  | .nan, _ => fpNan
  | _, .nan => fpNan
  | .inf a, .inf b => if a = b then fpInf a else fpNan
  | .inf a, _ => fpInf a
  | _, .inf b => fpInf b
  | .zero a, .zero b => fpZero (a && b)
  | .zero _, .num n m e => fpRound n m e
  | .num n m e, .zero _ => fpRound n m e
  | .num n m e, .num n' m' e' =>
    -- an operand more than 60 binary places below the other only makes the result inexact
    let big := if e' ≤ e then (n, m, e) else (n', m', e')
    let small := if e' ≤ e then (n', m', e') else (n, m, e)
    let d := (big.2.2 - small.2.2).toNat
    if 60 < d then
      if big.1 = small.1 then fpRound big.1 (big.2.1 <<< 40) (big.2.2 - 40) true
      else fpRound big.1 ((big.2.1 <<< 40) - 1) (big.2.2 - 40) true
    else
      let v : Int := (if big.1 then -1 else 1) * ((big.2.1 <<< d : Nat) : Int) + (if small.1 then -1 else 1) * (small.2.1 : Int)
      if v = 0 then fpZero false else fpRound (decide (v < 0)) v.natAbs small.2.2

def fpNeg (x : W32) : W32 := x ^^^ 0x80000000
def fpAbs (x : W32) : W32 := x &&& 0x7FFFFFFF
def fpSub (x y : W32) : W32 := fpAdd x (fpNeg y)

def fpMul (x y : W32) : W32 :=
  match fpOf x, fpOf y with
  | .nan, _ => fpNan
  | _, .nan => fpNan
  | .inf _, .zero _ => fpNan
  | .zero _, .inf _ => fpNan
  | .inf a, .inf b => fpInf (a != b)
  | .inf a, .num n _ _ => fpInf (a != n)
  | .num n _ _, .inf b => fpInf (n != b)
  | .zero a, .zero b => fpZero (a != b)
  | .zero a, .num n _ _ => fpZero (a != n)
  | .num n _ _, .zero b => fpZero (n != b)
  | .num n m e, .num n' m' e' => fpRound (n != n') (m * m') (e + e')

def fpDiv (x y : W32) : W32 :=
  match fpOf x, fpOf y with
  | .nan, _ => fpNan
  | _, .nan => fpNan
  | .inf _, .inf _ => fpNan
  | .zero _, .zero _ => fpNan
  | .inf a, .zero b => fpInf (a != b)
  | .inf a, .num n _ _ => fpInf (a != n)
  | .zero a, .inf b => fpZero (a != b)
  | .zero a, .num n _ _ => fpZero (a != n)
  | .num n _ _, .inf b => fpZero (n != b)
  | .num n _ _, .zero b => fpInf (n != b)
  | .num n m e, .num n' m' e' =>
    fpRound (n != n') ((m <<< 40) / m') (e - 40 - e') (decide ((m <<< 40) % m' ≠ 0))

/-- The integer square root, floor, by bits from the top: `fuel` bits. -/
def isqrt : Nat → Nat → Nat → Nat
  | 0, _, r => r
  | k + 1, n, r => if (r + 2 ^ k) * (r + 2 ^ k) ≤ n then isqrt k n (r + 2 ^ k) else isqrt k n r

/-- Square root of a finite non-negative number. -/
def fpSqrt (x : W32) : W32 :=
  match fpOf x with
  | .nan => fpNan
  | .inf n => if n then fpNan else fpInf false
  | .zero n => fpZero n
  | .num n m e =>
    if n then fpNan
    else
      let sh := if (e % 2 = 0) then 40 else 41
      let r := isqrt 40 (m <<< sh) 0
      fpRound false r ((e - sh) / 2) (decide (r * r ≠ m <<< sh))

/-- An order on FP32 values: the sign-magnitude integer of the pattern (subnormals and zeros equal 0). -/
def fpKey (x : W32) : Int :=
  match fpOf x with
  | .zero _ => 0
  | _ => if x.getLsbD 31 then -((fpAbs x).toNat : Int) else (fpAbs x).toNat

def fpIsNan (x : W32) : Bool := match fpOf x with
  | .nan => true
  | _ => false
def fpFinite (x : W32) : Bool := decide (fieldAt x.toNat 23 8 ≠ 255)
/-- x < y, false with a NaN. -/
def fpLt (x y : W32) : Bool := !fpIsNan x && !fpIsNan y && decide (fpKey x < fpKey y)
def fpLe (x y : W32) : Bool := !fpIsNan x && !fpIsNan y && decide (fpKey x ≤ fpKey y)

/-- BF16 to FP32: exact. -/
def bf16To32 (x : W16) : W32 := (x.setWidth 32) <<< 16

/-- FP32 to BF16, to nearest even (02 R71); NaN stays NaN, a subnormal result is flushed. -/
def fp32ToBf16 (x : W32) : W16 :=
  match fpOf x with
  | .nan => 0x7FC0
  | .zero n => if n then 0x8000 else 0
  | .inf n => if n then 0xFF80 else 0x7F80
  | .num _ _ _ => BitVec.ofNat 16 (rneShift x.toNat 16 false)

/-- FP8 formats of DLE operands: exponent bits, fraction bits, bias (02 R72). -/
structure Fp8 where
  expBits : Nat
  fracBits : Nat
  bias : Nat
  /-- The top exponent holds infinity and NaN codes (E5M2); else only its all-ones fraction is NaN (E4M3). -/
  ieee : Bool
deriving DecidableEq, Repr

def e4m3 : Fp8 := ⟨4, 3, 7, false⟩
def e5m2 : Fp8 := ⟨5, 2, 15, true⟩

/-- The FP32 pattern of an FP8 code; its subnormals are kept (02 R72). -/
def Fp8.decode (f : Fp8) (b : Byte) : W32 :=
  let neg := b.getLsbD 7
  let ex := fieldAt b.toNat f.fracBits f.expBits
  let fr := fieldAt b.toNat 0 f.fracBits
  let top := 2 ^ f.expBits - 1
  if ex = top ∧ f.ieee then (if fr = 0 then fpInf neg else fpNan)
  else if ex = top ∧ fr = 2 ^ f.fracBits - 1 then fpNan
  else if ex = 0 then fpRound neg fr (1 - (f.bias : Int) - f.fracBits)
  else fpRound neg (2 ^ f.fracBits + fr) ((ex : Int) - f.bias - f.fracBits)

/-- The largest finite code of a format, without its sign. -/
def Fp8.maxCode (f : Fp8) : Nat := (2 ^ f.expBits - 1) * 2 ^ f.fracBits - (if f.ieee then 1 else 0) + (if f.ieee then 0 else 2 ^ f.fracBits - 2)

/-- The code nearest to a finite FP32 value, ties to even, saturating; NaN gives a NaN code, and infinity saturates (02 R71,
R72). -/
def Fp8.encode (f : Fp8) (x : W32) : Byte :=
  let sign : Nat := if x.getLsbD 31 then 128 else 0
  match fpOf x with
  | .nan => BitVec.ofNat 8 (sign + 127)
  | .inf _ => BitVec.ofNat 8 (sign + f.maxCode)
  | .zero _ => BitVec.ofNat 8 sign
  | .num _ m e =>
    -- the value is m x 2^e with 2^23 <= m; its exponent field, before rounding, and the bits that rounding drops
    let ex : Int := e + 23 + f.bias
    let drop : Int := 23 - (f.fracBits : Int) + (if ex < 1 then 1 - ex else 0)
    let q := if 40 < drop then 0 else rneShift m drop.toNat false
    let code := if ex < 1 then q else (ex.toNat - 1) * 2 ^ f.fracBits + q
    BitVec.ofNat 8 (sign + min f.maxCode code)

/-- floor and nearest-even integer of a finite FP32 value. -/
def fpToIntRne (x : W32) : Int :=
  match fpOf x with
  | .num n m e =>
    let a : Nat := if 0 ≤ e then m <<< e.toNat else rneShift m (-e).toNat false
    if n then -(a : Int) else a
  | _ => 0
def fpFloor (x : W32) : Int :=
  match fpOf x with
  | .num n m e =>
    if 0 ≤ e then (if n then -1 else 1) * ((m <<< e.toNat : Nat) : Int)
    else (if n then -(m : Int) else m) / (2 ^ (-e).toNat : Nat)
  | _ => 0

/-- The sum of a list from its first entry, left to right, each addition rounded (09 R275). -/
def fpSum : List W32 → W32
  | [] => 0
  | x :: xs => xs.foldl fpAdd x

end Sys2Proof.Machine
end

