-- ==== Sys2Proof/Machine/Hash.lean ====
section
/-! DEFINITION. CRC-32C (05 R134) and SHA-256 (FIPS 180-4, PRESUMED: the spec names it and does not restate it, entry
12). -/

namespace Sys2Proof.Machine

/-- One bit of the reflected CRC with polynomial 0x1EDC_6F41 (reflected 0x82F6_3B78). -/
def crcBit (c : W32) : W32 := if c.getLsbD 0 then (c >>> 1) ^^^ 0x82F63B78#32 else c >>> 1

def crcByte (c : W32) (b : Byte) : W32 :=
  crcBit (crcBit (crcBit (crcBit (crcBit (crcBit (crcBit (crcBit (c ^^^ b.setWidth 32))))))))

/-- CRC-32C: initial value all ones, final inversion (05 R134). -/
def crc32c (l : List Byte) : W32 := ~~~(l.foldl crcByte 0xFFFFFFFF#32)

def rotr (x : W32) (n : Nat) : W32 := (x >>> n) ||| (x <<< (32 - n))

/-- The largest x below 2^n + acc with x^k ≤ v, one bit at a time. -/
def rootBits (k v : Nat) : Nat → Nat → Nat
  | 0, acc => acc
  | n + 1, acc => rootBits k v n (if (acc + 2 ^ n) ^ k ≤ v then acc + 2 ^ n else acc)

/-- The first 32 bits of the fractional part of the k-th root of p. -/
def rootFraction (k p : Nat) : W32 := BitVec.ofNat 32 (rootBits k (p * 2 ^ (32 * k)) 40 0)

def isPrime (n : Nat) : Bool := decide (2 ≤ n) && (List.range n).all (fun d => decide (d < 2) || n % d != 0)

/-- The primes below n, in ascending order. -/
def primesBelow (n : Nat) : List Nat := (List.range n).filter isPrime

/-- SHA-256 round constants: from the cube roots of the first 64 primes. -/
def shaK : List W32 := (primesBelow 312).map (rootFraction 3)

/-- The eight working words. -/
structure Sha where
  a : W32
  b : W32
  c : W32
  d : W32
  e : W32
  f : W32
  g : W32
  h : W32
deriving DecidableEq, Repr

/-- The initial hash value: from the square roots of the first 8 primes. -/
def Sha.init : Sha :=
  match (primesBelow 20).map (rootFraction 2) with
  | [a, b, c, d, e, f, g, h] => ⟨a, b, c, d, e, f, g, h⟩
  | _ => ⟨0, 0, 0, 0, 0, 0, 0, 0⟩

def Sha.round (s : Sha) (kw : W32) : Sha :=
  let t1 := s.h + (rotr s.e 6 ^^^ rotr s.e 11 ^^^ rotr s.e 25) + ((s.e &&& s.f) ^^^ (~~~s.e &&& s.g)) + kw
  let t2 := (rotr s.a 2 ^^^ rotr s.a 13 ^^^ rotr s.a 22) + ((s.a &&& s.b) ^^^ (s.a &&& s.c) ^^^ (s.b &&& s.c))
  ⟨t1 + t2, s.a, s.b, s.c, s.d + t1, s.e, s.f, s.g⟩

/-- Message schedule: the window of the last 16 words, oldest first; each step appends one. -/
def shaRounds : List W32 → List W32 → Sha → Sha
  | [], _, s => s
  | k :: ks, w, s =>
    let w0 := w.headD 0
    let s0 := let x := w.getD 1 0; rotr x 7 ^^^ rotr x 18 ^^^ (x >>> 3)
    let s1 := let x := w.getD 14 0; rotr x 17 ^^^ rotr x 19 ^^^ (x >>> 10)
    shaRounds ks (w.drop 1 ++ [w0 + s0 + w.getD 9 0 + s1]) (s.round (k + w0))

def Sha.add (x y : Sha) : Sha :=
  ⟨x.a + y.a, x.b + y.b, x.c + y.c, x.d + y.d, x.e + y.e, x.f + y.f, x.g + y.g, x.h + y.h⟩

def beWord : List Byte → W32
  | [a, b, c, d] => a.setWidth 32 <<< 24 ||| b.setWidth 32 <<< 16 ||| c.setWidth 32 <<< 8 ||| d.setWidth 32
  | _ => 0

/-- The sixteen big-endian words of a 64-byte block. -/
def blockWords (l : List Byte) : List W32 := (List.range 16).map (fun i => beWord ((l.drop (4 * i)).take 4))

def shaBlocks : Nat → List Byte → Sha → Sha
  | 0, _, s => s
  | n + 1, l, s => shaBlocks n (l.drop 64) (s.add (shaRounds shaK (blockWords (l.take 64)) s))

/-- The padded message. -/
def shaPad (l : List Byte) : List Byte :=
  let z := (119 - l.length % 64) % 64
  l ++ (0x80#8 :: List.replicate z 0#8) ++ (leBytes 8 (8 * l.length)).reverse

def Sha.bytes (s : Sha) : List Byte :=
  [s.a, s.b, s.c, s.d, s.e, s.f, s.g, s.h].flatMap (fun x => beBytes4 x.toNat)

/-- The SHA-256 digest of a byte string, 32 bytes. -/
def sha256 (l : List Byte) : List Byte :=
  let p := shaPad l
  (shaBlocks (p.length / 64) p Sha.init).bytes

/-- A digest as a number, byte 0 least significant. -/
def digestNat (l : List Byte) : W256 := BitVec.ofNat 256 (leNat l)

end Sys2Proof.Machine
end

