-- ==== Sys2Proof/Machine/Text.lean ====
section
/-! DEFINITION. Tokenizing, detokenizing, stop strings, the random generator, sampling and the chain hash (02 R67; 09
R272 to R282). -/

namespace Sys2Proof.Machine

/-- mix and gen (02 R67). -/
def mix (z : W64) : W64 :=
  let z := (z ^^^ (z >>> 30)) * 0xBF58476D1CE4E5B9#64
  let z := (z ^^^ (z >>> 27)) * 0x94D049BB133111EB#64
  z ^^^ (z >>> 31)
def gen (key ctr : W64) : W64 := mix (key ^^^ mix (ctr + 0x9E3779B97F4A7C15#64))

/-- Continuation bytes that a lead byte announces (09 R273). -/
def announced (b : Byte) : Nat :=
  let n := b.toNat
  if 0xC0 ≤ n ∧ n ≤ 0xDF then 1 else if 0xE0 ≤ n ∧ n ≤ 0xEF then 2 else if 0xF0 ≤ n ∧ n ≤ 0xF7 then 3 else 0

def isCont (b : Byte) : Bool := decide (0x80 ≤ b.toNat) && decide (b.toNat ≤ 0xBF)

/-- The continuation bytes at the front of a list, at most n. -/
def contRun : Nat → List Byte → List Byte
  | 0, _ => []
  | _ + 1, [] => []
  | n + 1, b :: bs => if isCont b then b :: contRun n bs else []

/-- Cuts bytes into characters (09 R273); the fuel is the length. -/
def chars : Nat → List Byte → List (List Byte)
  | 0, _ => []
  | _ + 1, [] => []
  | n + 1, b :: bs =>
    let c := contRun (announced b) bs
    (b :: c) :: chars n (bs.drop c.length)

/-- Joins characters of one class into pieces. -/
def pieces (cls : List Byte) : List (List Byte) → List (List Byte)
  | [] => []
  | c :: cs =>
    match pieces cls cs, cs with
    | p :: ps, d :: _ =>
      if cls.getD (c.headD 0).toNat 0 == cls.getD (d.headD 0).toNat 0 then (c ++ p) :: ps else c :: p :: ps
    | _, _ => [c]

/-- The lowest-ranked adjacent pair, leftmost on ties: (rank, place, result). -/
def bestMerge (m : List (Nat × Nat × Nat)) : List Nat → Nat → Option (Nat × Nat × Nat)
  | a :: b :: rest, i =>
    let here := (findIdx1 (fun e => e.1 == a && e.2.1 == b) m 0).map (fun e => (e.1, i, e.2.2.2))
    match here, bestMerge m (b :: rest) (i + 1) with
    | some x, some y => if y.1 < x.1 then some y else some x
    | some x, none => some x
    | none, r => r
  | _, _ => none

/-- Merges until no adjacent pair has a merge; the fuel is the length. -/
def mergeAll (m : List (Nat × Nat × Nat)) : Nat → List Nat → List Nat
  | 0, l => l
  | n + 1, l =>
    match bestMerge m l 0 with
    | some (_, i, r) => mergeAll m n (l.take i ++ [r] ++ l.drop (i + 2))
    | none => l

/-- Encodes one command's text (09 R273). -/
def encodeText (t : Tokenizer) (l : List Byte) : List Nat :=
  (pieces t.cls (chars l.length l)).flatMap
    (fun p => mergeAll t.merges p.length (p.map (fun b => t.byteTok.getD b.toNat 0)))

/-- Splits an output into complete characters and an incomplete one at its end (08 R254). -/
def splitText (l : List Byte) : List (List Byte) × List Byte :=
  let cs := chars l.length l
  match cs.reverse with
  | last :: before => if last.length < announced (last.headD 0) + 1 then (before.reverse, last) else (cs, [])
  | [] => ([], [])

/-- Packs characters into payloads of at most 32 bytes (08 R254). -/
def packText : List (List Byte) → List Byte → List (List Byte)
  | [], cur => if cur.isEmpty then [] else [cur]
  | c :: cs, cur => if cur.length + c.length ≤ 32 then packText cs (cur ++ c) else cur :: packText cs c

/-- Whether an output ends in, or contains within its new part, a stop string: the least number of output elements
after which a stop string is complete, if any, beyond `old` elements (09 R277). -/
def stopAt (stops : List (List Nat)) (out : List Nat) (old : Nat) : Option Nat :=
  (upFrom (old + 1) (out.length - old)).find? (fun n =>
    stops.any (fun s => decide (s.length ≤ n) && ((out.take n).drop (n - s.length)) == s))

/-- Stop strings that can match: a token ID at or above VOCAB never does (08 R235). -/
def liveStops (d : Desc) (vocab : Nat) : List (List Nat) :=
  if d.outTokens then d.stops.filter (fun s => s.all (fun t => decide (t < vocab))) else d.stops

/-- The repetition penalty, once for each token of the window (09 R275). -/
def penalise (d : Desc) (hist : List Nat) (z : List W32) : List W32 :=
  let w := if d.repWindow = 0 then hist else hist.drop (hist.length - d.repWindow)
  (z.zipIdx).map (fun (x, t) =>
    if w.contains t then (if fpLt 0 x then fpDiv x d.repPenalty else fpMul x d.repPenalty) else x)

/-- argmax, lowest ID on ties. -/
def argmax (z : List W32) : Nat :=
  ((z.zipIdx).foldl (fun (b : Nat × Option W32) (e : W32 × Nat) =>
    match b.2 with
    | none => (e.2, some e.1)
    | some m => if fpLt m e.1 then (e.2, some e.1) else b) (0, none)).1

/-- Insertion into a list in descending order, after equal values. -/
def insertDesc (x : Nat × W32) : List (Nat × W32) → List (Nat × W32)
  | [] => [x]
  | y :: ys => if fpLt y.2 x.2 then x :: y :: ys else y :: insertDesc x ys

/-- The first n (from 1) whose prefix sum, formed in order, meets a test; the whole length if none (09 R275). -/
def firstPrefix (test : W32 → Bool) : List W32 → Nat → W32 → Option Nat
  | [], _, _ => none
  | p :: ps, n, acc =>
    let acc := if n = 0 then p else fpAdd acc p
    if test acc then some (n + 1) else firstPrefix test ps (n + 1) acc

/-- filtered() for a temperature above 0: kept tokens with their p (09 R275). -/
def filtered (z : List W32) (d : Desc) : List (Nat × W32) :=
  let zt := (z.zipIdx).map (fun (x, t) => (t, fpDiv x d.temperature))
  let keep := zt.foldl (fun l x => insertDesc x l) []
  let keep := if d.topK = 0 then keep else keep.take d.topK
  let m := (keep.headD (0, 0)).2
  let e := keep.map (fun k => Config.exp32 (fpSub k.2 m))
  let s := fpSum e
  let p := e.map (fun x => fpDiv x s)
  let n := (firstPrefix (fun acc => fpLe d.topP acc) p 0 0).getD p.length
  ((keep.map (·.1)).zip p).take n

/-- The temperature is 0: greedy. -/
def Desc.greedy (d : Desc) : Bool := decide (fpOf d.temperature = .zero false ∨ fpOf d.temperature = .zero true)

/-- draw() in [0, 1) (09 R275). -/
def draw (d : Desc) (i purpose : Nat) : W32 :=
  let key := gen d.seed 0x53414D50#64
  fpRound false ((gen key (BitVec.ofNat 64 (16 * i + purpose))).toNat / 2 ^ 40) (-24)

/-- The token that u x sum(p) falls on, the last kept one with p above 0 when rounding lifts u to the whole sum. -/
def pick (kp : List (Nat × W32)) (u : W32) : Nat :=
  let u := fpMul u (fpSum (kp.map (·.2)))
  match firstPrefix (fun acc => fpLt u acc) (kp.map (·.2)) 0 0 with
  | some n => (kp.getD (n - 1) (0, 0)).1
  | none => ((kp.filter (fun e => fpLt 0 e.2)).getLastD (0, 0)).1

/-- Samples token index i from logits z (09 R275). -/
def sampleToken (z : List W32) (d : Desc) (hist : List Nat) (i : Nat) : Nat :=
  let z := penalise d hist z
  if d.greedy then argmax z else pick (filtered z d) (draw d i 0)

/-- Checks proposal t at index i: none when accepted, else the replacement (09 R279). -/
def checkProposal (z : List W32) (d : Desc) (hist : List Nat) (i t : Nat) : Option Nat :=
  let z := penalise d hist z
  if d.greedy then (if argmax z = t then none else some (argmax z))
  else
    let kp := filtered z d
    let pt := match kp.find? (fun e => e.1 == t) with
      | some e => e.2
      | none => 0
    if fpLt (draw d i 1) (fpDiv pt (fpSum (kp.map (·.2)))) then none
    else some (pick (kp.map (fun e => if e.1 = t then (e.1, 0) else e)) (draw d i 2))

/-- Chain hash of a block: 300 bytes under SHA-256 (09 R282). -/
def chainHash (epoch : Nat) (scope : W32) (prev : W256) (toks : List Nat) : W256 :=
  digestNat (sha256 (leBytes 8 epoch ++ leBytes 4 scope.toNat ++ leBytes 32 prev.toNat ++ toks.flatMap (leBytes 4)))

/-- Chain hashes of a history's first n full blocks. -/
def chainHashes (epoch : Nat) (scope : W32) (hist : List Nat) : Nat → List W256
  | 0 => []
  | n + 1 =>
    let l := chainHashes epoch scope hist n
    l ++ [chainHash epoch scope (l.getLastD 0) ((hist.drop (64 * n)).take 64)]

end Sys2Proof.Machine
end

