-- ==== Sys2Proof/Machine/Numeric.lean ====
section
/-! DEFINITION. The number formats of the arrays and pans: weights, shifts and scales, quantization, the rake, stochastic
rounding (02 R44 to R73), and what one vector forms on an array (03 R78 to R85). -/

namespace Sys2Proof.Machine

/-- The exact value of a finite FP32 pattern; zero for the others. -/
def fpRat (x : W32) : Rat :=
  match fpOf x with
  | .num n m e => (if n then -1 else 1) * (m : Rat) * (if 0 ≤ e then ((2 ^ e.toNat : Nat) : Rat) else 1 / ((2 ^ (-e).toNat : Nat) : Rat))
  | _ => 0

/-- The nearest integer, ties to even. -/
def ratRne (x : Rat) : Int :=
  let f := x.floor
  let d := x - f
  if d < 1 / 2 then f else if 1 / 2 < d then f + 1 else f + f % 2

/-- An integer held to [-lim, lim]. -/
def clampAt (lim : Nat) (x : Int) : Int := max (-(lim : Int)) (min lim x)

/-- An A8 or INT8 byte of an integer. -/
def byteOfInt (x : Int) : Byte := BitVec.ofInt 8 x

/-- Every element is finite (02 R53). -/
def allFinite (xs : List W32) : Bool := xs.all fpFinite

/-- The largest |x| of a list, as an FP32 pattern compared as an unsigned integer (05 R141). -/
def amaxOf (xs : List W32) : W32 := xs.foldl (fun a x => if a.toNat < (fpAbs x).toNat then fpAbs x else a) 0

/-- A non-negative FP32 pattern rounded toward +∞ to BF16 (02 R52). -/
def bf16Up (x : W32) : W16 := BitVec.ofNat 16 (x.toNat / 65536 + (if x.toNat % 65536 = 0 then 0 else 1))

/-- A scale word: amax ÷ n in FP32, rounded up to BF16, no smaller than 2^−126 when amax is nonzero; 0 when it is 0
(02 R52, R58, R60). -/
def scaleWord (amax : W32) (n : Nat) : W16 :=
  if fpOf amax = .zero false ∨ fpOf amax = .zero true then 0
  else
    let s := bf16Up (fpDiv amax (fpOfInt n))
    if s.toNat < 0x80 then 0x80 else s

/-- The draw r of a stochastic rounding (02 R68). -/
def srDraw (seed : W64) (stream use layer position element : Nat) : Nat :=
  let key := gen seed (BitVec.ofNat 64 (stream * 2 ^ 32 + use * 2 ^ 24 + layer))
  fieldAt (gen key (BitVec.ofNat 64 (position * 2 ^ 20 + element / 8))).toNat (8 * (element % 8)) 8

/-- One element quantized with scale word s: to nearest even, or floor(x ÷ s + r ÷ 256) with a draw; 0 when s is 0
(02 R52, R58, R68). -/
def quantOne (lim : Nat) (s : W16) (draw : Option Nat) (x : W32) : Int :=
  if s = 0 then 0
  else
    let q := fpRat x / fpRat (bf16To32 s)
    clampAt lim (match draw with
      | none => ratRne q
      | some r => (q + (r : Rat) / 256).floor)

/-- A finite FP32 value rounded stochastically to BF16, and whether it exceeded the largest finite BF16 (02 R70). -/
def residualOne (r : Nat) (x : W32) : W16 × Bool :=
  match fpOf x with
  | .num n m e =>
    let q : Int := ((if n then -(m : Int) else m) + 256 * r) / 65536
    let y := fpRound n q.natAbs (e + 16)
    if fpFinite y then (fp32ToBf16 y, false) else (if n then 0xFF7F else 0x7F7F, true)
  | .zero n => (if n then 0x8000 else 0, false)
  | _ => (fp32ToBf16 x, true)

/-- Cuts a list into runs of n; the fuel is its length. -/
def runsOf {α : Type} (n : Nat) : Nat → List α → List (List α)
  | 0, _ => []
  | k + 1, l => if l.isEmpty then [] else l.take n :: runsOf n k (l.drop n)

/-- Hadamard stage t over a list (02 R61). -/
def hadStage (t : Nat) (l : List W32) : List W32 :=
  (runsOf (2 ^ (t + 1)) l.length l).flatMap (fun c =>
    let a := c.take (2 ^ t)
    let b := c.drop (2 ^ t)
    List.zipWith fpAdd a b ++ List.zipWith fpSub a b)

/-- The sign stage: element i is negated where bit i of the generator's words is 1 (02 R61, R62). -/
def signStage (seed : W64) (l : List W32) : List W32 :=
  let words := (List.range (ceilDiv l.length 64)).map (fun k => gen seed (BitVec.ofNat 64 k))
  (l.zipIdx).map (fun e => if (words.getD (e.2 / 64) 0).getLsbD (e.2 % 64) then fpNeg e.1 else e.1)

/-- Full mode over one block of 1,024: signs, stages 0 to 9, division by 32 (02 R61). -/
def rakeBlock (seed : W64) (l : List W32) : List W32 :=
  ((List.range 10).foldl (fun x t => hadStage t x) (signStage seed l)).map (fun x => fpMul x 0x3D000000)

/-- Head mode over one run of 128: signs and stages 0 to 6 (02 R65). -/
def rakeRun (seed : W64) (l : List W32) : List W32 :=
  (List.range 7).foldl (fun x t => hadStage t x) (signStage seed l)

/-- A list padded with zeros to a multiple of n. -/
def padTo (n : Nat) (l : List W32) : List W32 := l ++ List.replicate ((n - l.length % n) % n) 0

/-- The rotation of a whole input: padded, each block with its seed, then element i of block b at i × m + b
(02 R61 to R63). -/
def rotate (seeds : List W64) (xs : List W32) : List W32 :=
  let p := padTo 1024 xs
  let blocks := ((runsOf 1024 p.length p).zipIdx).map (fun e => rakeBlock (seeds.getD e.2 0) e.1)
  (List.range 1024).flatMap (fun i => blocks.map (fun b => b.getD i 0))

/-- Head-mode rotation of Q or K: run r belongs to head 128 r ÷ HEAD_DIM, which takes the seed of KV head
⌊h × KV heads ÷ heads⌋ (02 R65). -/
def rotateHeads (kSeeds : List W64) (heads headDim : Nat) (xs : List W32) : List W32 :=
  ((runsOf 128 xs.length xs).zipIdx).flatMap (fun e =>
    let h := if headDim = 0 then 0 else 128 * e.2 / headDim
    let kv := if heads = 0 then 0 else h * kSeeds.length / heads
    rakeRun (kSeeds.getD kv 0) e.1)

/-- Weight columns of an array by format (02 R45 to R47). -/
def Fmt.cols : Fmt → Nat
  | .b1 => 512
  | _ => 256

/-- The bit-columns of weight column j with their counts' factors (03 Table 3-3). -/
def Fmt.parts (f : Fmt) (j : Nat) : List (Nat × Int) :=
  match f with
  | .b1 => [(j, 2)]
  | .t2 => [(2 * j, 1), (2 * j + 1, -1)]
  | .q2 => [(2 * j, 2), (2 * j + 1, 4)]

/-- The factor of X in the plane equation (03 Table 3-3). -/
def Fmt.xFactor : Fmt → Int
  | .b1 => 1
  | .t2 => 0
  | .q2 => 3

/-- F of 02 R74. -/
def Fmt.errFactor : Fmt → Nat
  | .b1 => 4
  | .t2 => 2
  | .q2 => 20

/-- Weight column and factor of a bit-column. -/
def Fmt.colOf (f : Fmt) (c : Nat) : Nat × Int :=
  match f with
  | .b1 => (c, 2)
  | .t2 => (c / 2, if c % 2 = 0 then 1 else -1)
  | .q2 => (c / 2, if c % 2 = 0 then 2 else 4)

/-- The plane equation on the counts of a weight column and X (03 R81). -/
def planeValue (f : Fmt) (count : Nat → Nat) (x j : Nat) : Int :=
  ((f.parts j).map (fun p => p.2 * (count p.1 : Int))).sum - f.xFactor * (x : Int)

/-- The weight of column j in a row whose bit-columns are given (02 R45 to R47). -/
def weightAt (f : Fmt) (bit : Nat → Nat) (j : Nat) : Int :=
  ((f.parts j).map (fun p => p.2 * (bit p.1 : Int))).sum - f.xFactor

/-- Plane weight: −128 for plane 7, else 2^b (02 R51). -/
def planeWeight (b : Nat) : Int := if b = 7 then -128 else ((2 ^ b : Nat) : Int)

/-- Bit-column c of row r of an array's cells (02 "Weights in the arrays"). -/
def cellBit (cells : Mem) (r c : Nat) : Nat := fieldAt (Memory.read cells (64 * r + c / 8)).toNat (c % 8) 1

/-- Bit b of the A8 element of row r. -/
def actBit (acts : List Byte) (b r : Nat) : Bool := (acts.getD r 0).getLsbD b

/-- Rows of a group, and the number of groups (03 R79). -/
def groupSize (wide : Bool) : Nat := if wide then 128 else 64
def groupCount (wide : Bool) : Nat := if wide then 8 else 16
def groupRows (wide : Bool) (g : Nat) : List Nat := upFrom (groupSize wide * g) (groupSize wide)

/-- The group is enabled (03 R79). -/
def ArrCfg.groupOn (c : ArrCfg) (g : Nat) : Bool := c.groupEn.getLsbD (if c.wide then 2 * g else g)

/-- Rows of a group that drive in plane b: the activation bit is 1 (03 R78). -/
def drivenRows (c : ArrCfg) (acts : List Byte) (g b : Nat) : List Nat :=
  if c.groupOn g then (groupRows c.wide g).filter (actBit acts b) else []

/-- The true count of a bit-column over driven rows (03 R78). -/
def trueCount (cells : Mem) (rows : List Nat) (c : Nat) : Nat := (rows.filter (fun r => cellBit cells r c == 1)).length

/-- A converter's code and flag on an input of 1/256 counts: codes step at the half counts, 63.5 counts or more flags
(03 R84). Only a true count of 63 or more can flag, and in a wide group one of 64 or more always does (03 R86). -/
def convert (wide : Bool) (trueC : Nat) (err : Int) : Nat × Bool :=
  let v := (256 * (trueC : Int) + err + 128) / 256
  if (wide && decide (64 ≤ trueC)) || (decide (63 ≤ trueC) && decide (64 ≤ v)) then (63, true) else (min 63 v.toNat, false)

/-- Group shift of weight column j of array a in block k (02 R50, 05 Table 5-2). -/
def Pan.shift (p : Pan) (a j k : Nat) : Nat :=
  fieldAt (Memory.read p.sram (0x6000 + 0x1000 * a + 8 * j + k / 2)).toNat (4 * (k % 2)) 4

/-- The shift of group g's block: a wide group takes the entry of block 2g (02 R50). -/
def Pan.groupShift (p : Pan) (a : Nat) (wide : Bool) (j g : Nat) : Nat := p.shift a j (if wide then 2 * g else g)

/-- Column scale of weight column j of array a (02 R49, 05 Table 5-2). -/
def Pan.colScale (p : Pan) (a j : Nat) : W16 := BitVec.ofNat 16 (leNat (Memory.readBytes p.sram (0x4000 + 0x400 * a + 2 * j) 2))

/-- RS of row i of array a (11 R334). -/
def Pan.rowSumOf (p : Pan) (a i : Nat) : Int := signed 16 (leNat (Memory.readBytes p.sram (0x800 * a + 2 * i) 2))

/-- A8 elements of a slot of the activation ring in pan SRAM (05 Table 5-2). -/
def Pan.segment (p : Pan) (ring : Nat) : List Byte := Memory.readBytes p.sram (0x10000 + 1024 * ring) 1024

/-- The scale that goes with a ring slot's segment; 0 where none has been loaded (02 R52). -/
def Pan.segScale (p : Pan) (ring : Nat) : W16 :=
  match Tab.find p.ring ring with
  | some s => s.scale
  | none => 0

/-- Applied value of a tap, by tap number 512 x array + i: i 0 to 63 OFFSET, 64 to 127 GAIN of converter i mod 64,
128 + 8g + u PULSE (06 R167, R178). -/
def Pan.appliedTap (p : Pan) (n : Nat) : Int := Sparse.get (fun _ => 0) p.applied n

/-- The analogue error of a conversion under the taps in force: bit-column `col` is converter col / 8 at sub-step col mod 8
(03 R75, R78; 06 R167, R179). A wide group's halves take the PULSE taps of narrow groups 2g and 2g + 1. -/
def Pan.convError (p : Pan) (a : Nat) (wide : Bool) (n g col : Nat) : Int :=
  let tap : Nat → Int := fun i => p.appliedTap (512 * a + i)
  let pulse : Nat → Int := fun h => tap (128 + 8 * h + col % 8)
  Config.convError (tap (col / 8)) (tap (64 + col / 8)) (if wide then [pulse (2 * g), pulse (2 * g + 1)] else [pulse g]) n

/-- What one group and plane of a vector gives: codes and flags of the 512 conversions, and X. -/
structure PlaneOut where
  g : Nat
  b : Nat
  x : Nat
  codes : List (Nat × Bool)
deriving DecidableEq, Repr

/-- The steps of a vector, groups outermost, planes next; the conversion of a bit-column in group g and plane b takes error
`err g b col` (03 R78 to R86). A disabled group's counts and X read 0. -/
def arrayPlanes (cells : Mem) (c : ArrCfg) (acts : List Byte) (err : Nat → Nat → Nat → Int) : List PlaneOut :=
  (List.range (groupCount c.wide)).flatMap (fun g => (List.range 8).map (fun b =>
    let rows := drivenRows c acts g b
    { g, b, x := rows.length,
      codes := if c.groupOn g then (List.range 512).map (fun col => convert c.wide (trueCount cells rows col) (err g b col))
               else List.replicate 512 (0, false) }))

/-- Sum of a weight column over the planes, shifted by blocks (02 R56, R54). -/
def columnSum (f : Fmt) (shift : Nat → Nat) (l : List PlaneOut) (j : Nat) : W32 :=
  BitVec.ofInt 32 ((l.map (fun o => planeValue f (fun c => (o.codes.getD c (0, false)).1) o.x j * planeWeight o.b * ((2 ^ shift o.g : Nat) : Int))).sum)

/-- The check sum Y over the planes, without shifts (11 R335). -/
def checkSum (f : Fmt) (l : List PlaneOut) : W32 :=
  BitVec.ofInt 32 ((l.map (fun o => planeWeight o.b * ((List.range f.cols).map (fun j => planeValue f (fun c => (o.codes.getD c (0, false)).1) o.x j)).sum)).sum)

/-- The exact column sum that the array approximates (02 R56; 04 R112, R118). -/
def exactSum (bit : Nat → Nat → Nat) (c : ArrCfg) (acts : List Byte) (shift : Nat → Nat) (j : Nat) : W32 :=
  BitVec.ofInt 32 (((List.range (groupCount c.wide)).map (fun g =>
    if c.groupOn g then
      ((groupRows c.wide g).map (fun r => (acts.getD r 0).toInt * weightAt c.fmt (bit r) j)).sum * ((2 ^ shift g : Nat) : Int)
    else 0)).sum)

/-- E of the row-sum check: Σ a_i × RS_i over the rows of the enabled groups (11 R335). -/
def rowSumProduct (p : Pan) (a : Nat) (c : ArrCfg) (acts : List Byte) : W32 :=
  BitVec.ofInt 32 (((List.range (groupCount c.wide)).map (fun g =>
    if c.groupOn g then ((groupRows c.wide g).map (fun r => (acts.getD r 0).toInt * p.rowSumOf a r)).sum else 0)).sum)

/-- σ_c = 0.45 counts in FP32. -/
def sigmaC : W32 := fpDiv (fpOfInt 45) (fpOfInt 100)

/-- Enabled groups of a configuration. -/
def ArrCfg.groups (c : ArrCfg) : Nat := ((List.range (groupCount c.wide)).filter c.groupOn).length

/-- TOL of the row-sum check without W, in FP32 (11 R336). -/
def rowTol (k : Nat) (c : ArrCfg) : W32 :=
  fpMul (fpOfInt k) (fpMul sigmaC (fpSqrt (fpOfInt ((c.fmt.cols * c.fmt.errFactor * 21845 * c.groups : Nat) : Int))))

/-- The single-array tolerance of the spot recompute, with the column's own shifts (11 R337, 02 R74). -/
def spotTol (k : Nat) (c : ArrCfg) (shift : Nat → Nat) : W32 :=
  let s := ((List.range (groupCount c.wide)).map (fun g => if c.groupOn g then 4 ^ shift g else 0)).sum
  fpMul (fpOfInt k) (fpMul sigmaC (fpSqrt (fpOfInt ((c.fmt.errFactor * 21845 * s : Nat) : Int))))

/-- Scaling of a reduced sum at its destination, each step in FP32 (02 R56). -/
def scaleSum (total : W32) (col vec : W16) : W32 := fpMul (fpMul (fpOfInt total.toInt) (bf16To32 col)) (bf16To32 vec)

end Sys2Proof.Machine
end

