-- ==== Sys2Proof/Machine/Operands.lean ====
section
/-! DEFINITION. The operand forms of host commands: packet fields (08 Tables 8-2, 8-7, 8-8) and channel descriptors
with their checks (08 Table 8-1, R235, R236). -/

namespace Sys2Proof.Machine

/-- The packet's field of n bytes at an offset. -/
def Cmd.at (c : Cmd) (off n : Nat) : Nat := leAt c.packet off n

/-- Offsets and lengths of a packet that hold fields, by opcode; every other byte is reserved (08 R246). -/
def packetFields (op : Nat) : List (Nat × Nat) :=
  [(0, 1), (2, 2), (8, 16), (0xF8, 8)] ++
  (match op with
   | 0x01 => [(0x18, 13), (0x28, 208)]
   | 0x02 => [(0x18, 13), (0x28, 208)]
   | 0x03 => [(0x18, 5)]
   | 0x05 => [(0x18, 4)]
   | 0x06 => [(0x18, 1), (0x1C, 4)]
   | 0x08 => [(0x18, 13), (0x28, 12), (0x38, 192)]
   | 0x11 => [(0x18, 3), (0x1C, 20)]
   | 0x20 => [(0x18, 13)]
   | 0x21 => [(0x18, 13)]
   | 0x23 => [(0x18, 13)]
   | 0x22 => [(0x18, 1), (0x1C, 4)]
   | 0x30 => [(0x18, 5), (0x20, 8)]
   | 0x31 => [(0x18, 4)]
   | 0x32 => [(0x18, 4), (0x20, 128)]
   | 0x40 => [(0x18, 3), (0x1C, 4)]
   | 0x41 => [(0x18, 3), (0x1C, 4)]
   | 0x50 => [(0x18, 1), (0x1A, 1), (0x1C, 24)]
   | 0x51 => [(0x18, 44)]
   | _ => [])

/-- Every reserved byte of the packet is 0. -/
def packetClean (op : Nat) (p : List Byte) : Bool :=
  (List.range 256).all (fun i => (packetFields op).any (fun f => decide (f.1 ≤ i) && decide (i < f.1 + f.2)) || p.getD i 0 == 0)

/-- The opcodes of 08 Table 8-6. -/
def knownOps : List Nat :=
  [0x01, 0x02, 0x03, 0x04, 0x05, 0x06, 0x07, 0x08, 0x10, 0x11, 0x20, 0x21, 0x22, 0x23, 0x30, 0x31, 0x32, 0x40, 0x41, 0x50, 0x51, 0x7F]

/-- The stream commands (08 R237). -/
def isStreamOp (op : Nat) : Bool := [0x01, 0x02, 0x03, 0x04, 0x05, 0x06, 0x07, 0x08, 0x10].contains op
/-- The management opcodes: issued by "PF0" in Table 8-6 (08 R234). -/
def isMgmtOp (op : Nat) : Bool := [0x11, 0x20, 0x21, 0x22, 0x23, 0x30, 0x31, 0x32, 0x40, 0x41].contains op
/-- The image opcodes, whose replies carry codes of 07 Table 7-8. -/
def isImageOp (op : Nat) : Bool := [0x20, 0x21, 0x22, 0x23].contains op

/-- The class that orders effects at one boundary (08 Table 8-3). -/
def opClass (op : Nat) : Nat :=
  if [0x10, 0x11].contains op then 1
  else if [0x04, 0x07, 0x05].contains op then 2
  else if [0x01, 0x02, 0x03, 0x06, 0x08].contains op then 3
  else if [0x50, 0x51, 0x7F].contains op then 5
  else 4

/-- Statuses (08 Table 8-5). -/
def stOK : Nat := 0
def stQUEUED : Nat := 1
def stDONE : Nat := 2
def stCANCELLED : Nat := 3
def stREFUSED : Nat := 4
def stBUDGET : Nat := 5
def stPOISONED : Nat := 6
def stEXPIRED : Nat := 7
def stCLAMPED : Nat := 8
def stBAD : Nat := 9
def stAUTH : Nat := 10
def stRETIRED : Nat := 11
def stDEGRADED : Nat := 12
def stEPOCH : Nat := 13

/-- The strings of a stop-string block: each a length byte n from 1 to 64 and n elements of `w` bytes; none when the
block is malformed (08 R235). -/
def parseStops (w : Nat) : Nat → List Byte → Option (List (List Nat))
  | 0, rest => if rest.isEmpty then some [] else none
  | k + 1, b :: bs =>
    let n := b.toNat
    if n = 0 ∨ 64 < n ∨ bs.length < n * w then none
    else (parseStops w k (bs.drop (n * w))).map
      (fun l => ((List.range n).map (fun i => leAt bs (i * w) w)) :: l)
  | _ + 1, [] => none

/-- An FP32 field lies in [lo, hi], patterns of non-negative values; −0 counts as 0. -/
def fpIn (x lo hi : Nat) : Bool :=
  let y := if x = 0x80000000 then 0 else x
  decide (lo ≤ y) && decide (y ≤ hi)

/-- Checks and parses a descriptor with its stop block; `vocab` bounds TOP_K, `mask` the tenants. Answers the
descriptor, or status and DETAIL (08 R236, Table 8-9), in the table's order. -/
def checkDesc (b stops : List Byte) (vocab : Nat) (mask : W64) : Except (Nat × Nat) Desc :=
  let ctrl := leAt b 0 4
  let d : Desc :=
    { strict := bitAt ctrl 1, reprefill := bitAt ctrl 2, inTokens := bitAt ctrl 3, outTokens := bitAt ctrl 4,
      noPrefix := bitAt ctrl 5, priority := fieldAt ctrl 6 2, draftMax := fieldAt ctrl 8 4, tenant := fieldAt ctrl 12 6,
      ring := fieldAt ctrl 18 6, maxNew := leAt b 4 4, maxContext := leAt b 8 4, firstDeadline := leAt b 0xC 4,
      tokenDeadline := leAt b 0x10 4, parkTtl := leAt b 0x14 4, temperature := BitVec.ofNat 32 (leAt b 0x18 4),
      topP := BitVec.ofNat 32 (leAt b 0x1C 4), topK := leAt b 0x20 4, repPenalty := BitVec.ofNat 32 (leAt b 0x24 4),
      repWindow := leAt b 0x28 4, seed := BitVec.ofNat 64 (leAt b 0x30 8), stopAddr := BitVec.ofNat 64 (leAt b 0x38 8),
      stopLen := leAt b 0x40 2, stopCount := leAt b 0x42 1, user := BitVec.ofNat 32 (leAt b 0x44 4) }
  let clean := decide (fieldAt ctrl 24 8 = 0) && zeroAt b 0x2C 4 && zeroAt b 0x43 1 && zeroAt b 0x48 56
  let inRange := decide (d.draftMax ≤ 8) && decide (1 ≤ d.maxNew) && decide (d.maxNew ≤ 131072) &&
    decide (1 ≤ d.maxContext) && decide (d.maxContext ≤ 131072) && fpIn d.temperature.toNat 0 0x41800000 &&
    fpIn d.topP.toNat 1 0x3F800000 && decide (d.topK ≤ vocab) && fpIn d.repPenalty.toNat 0x3F000000 0x40800000 &&
    decide (d.stopLen ≤ 520) && decide (d.stopCount ≤ 8)
  if !bitAt ctrl 0 || !clean then .error (stBAD, 0x03)
  else if !inRange then .error (stBAD, 0x06)
  else
    match parseStops (if d.outTokens then 4 else 1) d.stopCount (sliceAt stops 0 d.stopLen) with
    | none => .error (stBAD, 0x07)
    | some l => if mask.getLsbD d.tenant then .ok { d with stops := l } else .error (stAUTH, 0x02)

/-- A change of a field marked "fixed" in Table 8-1 (08 R238). -/
def Desc.fixedDiffers (d e : Desc) : Bool :=
  d.strict != e.strict || d.inTokens != e.inTokens || d.outTokens != e.outTokens || d.noPrefix != e.noPrefix || d.tenant != e.tenant

/-- The VOCAB that bounds TOP_K at a read (08 R236). -/
def Dev.vocabLimit (d : Dev) : Nat := match d.ws.img with
  | some h => h.vocab
  | none => 262144

/-- VOCAB in force. -/
def Dev.vocab (d : Dev) : Nat := match d.ws.img with
  | some h => h.vocab
  | none => 0

/-- OPEN, EMBED and CHAN_RELOAD read the descriptor whether or not the channel has a stream (08 R237). -/
def readsAnyway (op : Nat) : Bool := [0x01, 0x08, 0x10].contains op

/-- The command's descriptor, checked. -/
def State.cmdDesc (s : State) (c : Cmd) : Except (Nat × Nat) Desc :=
  match c.desc with
  | none => .error (stBAD, 0x04)
  | some b => if c.descFailed then .error (stBAD, 0x04)
              else checkDesc b c.stops s.dev.vocabLimit (s.dev.fn c.fn).tenants

/-- Where the command's replies go: the stream's ring, else the ring of its descriptor, else ring 0 (08 R236, R237). -/
def State.repOf (s : State) (c : Cmd) : Rep :=
  let ring := match s.dev.stream c.ch with
    | some t => t.desc.ring
    | none => match s.cmdDesc c with
      | .ok d => d.ring
      | .error _ => 0
  { op := c.op, ch := c.ch, fn := c.fn, ring, tag := c.tag }

/-- The command that takes effect now: the first due one, when it is of this opcode and channel (08 R244). -/
def State.takeDue (s : State) (op ch : Nat) : Option (Cmd × State) :=
  match s.dev.srv.due with
  | c :: rest => if c.op = op ∧ c.ch = ch then some (c, s.updSrv (fun v => { v with due := rest })) else none
  | [] => none

/-- The sum of 16 − step over the online clusters: the DLE's rate in 64ths (04 R123). -/
def Dev.dlePhi (d : Dev) : Nat :=
  (((List.range 4).filter (fun c => d.dle.online.getLsbD c && !d.dle.retired.getLsbD c)).map
    (fun c => 16 - Sparse.get (fun _ => 0) d.dle.clkStep c)).sum

/-- Weights of a layer record's matrices in a placement (07 Table 7-5). -/
def LayerRec.weights (r : LayerRec) (place : Nat) : Nat := ((r.mats.filter (fun m => m.place == place)).map (fun m => m.rows * m.cols)).sum

/-- Weights of a layer that the DLE runs because of a clamp action, its tier-2 ones with them (04 R108). -/
def Dev.switchedWeights (d : Dev) (r : LayerRec) : Nat :=
  if (d.clamp r.slot).placed == .dle then r.weights 0 + r.weights 2 else 0

/-- What this package reports of its rate (04 R108, R123; 09 R299). -/
def Dev.ownRate (d : Dev) : RateReport :=
  { phi := d.dlePhi, narrow := d.ws.layers.any (fun r => (d.clamp r.slot).placed == .narrow),
    dleWeights := (d.ws.layers.map d.switchedWeights).foldl max 0 }

/-- Ticks of a pass: the smallest count m for which a tier-2 read and the KV reads of the pass's positions, `kv` bytes a tick, fit
m ticks of P µs at 12.3 TB/s; 1 where none does (04 R119; entry 113). -/
def passOf (read kv p : Nat) : Nat := max 1 (ceilDiv read (12300000 * p - kv))

/-- Bytes of a layer's matrices that the DLE reads in a pass: B1 has one bit a weight, T2 and Q2 two (04 R120). -/
def LayerRec.readBytes (r : LayerRec) (arrays : Bool) : Nat :=
  ((r.mats.filter (fun m => m.place == 2 || (arrays && m.place == 0))).map (fun m => m.rows * m.cols * (if m.fmt = 0 then 1 else 2) / 8)).sum

/-- Ticks of this package's passes: the most of its layers', at the image's slots and a context of 4,096 tokens (04 R119, R120;
entry 113). -/
def Dev.passTicks (d : Dev) : Nat :=
  let h := d.ws.img.getD {}
  let kv := h.slots * h.kvBytes * 4096 / 256
  (d.ws.layers.map (fun r =>
    let read := r.readBytes ((d.clamp r.slot).placed == .dle)
    if read = 0 then 1 else passOf read kv d.time.inForce)).foldl max 1

end Sys2Proof.Machine
end

