-- ==== Sys2Proof/Machine/Checks.lean ====
section
/-! DEFINITION. Failures and their containment: results of positions, failure events, retirement and substitution, the
deny list and its comparison with the data path (11 R345, R351 to R354, R358 to R360). -/

namespace Sys2Proof.Machine

/-- The position with this stream and index, in this package. -/
def Fab.work (b : Fab) (stream index : Nat) : Option Work := b.works.find? (fun w => w.stream == stream && w.index == index)

/-- Changes a position's work. -/
def State.updWork (s : State) (stream index : Nat) (f : Work → Work) : State :=
  s.updFab (fun b => { b with works := b.works.map (fun w => if w.stream = stream ∧ w.index = index then f w else w) })

/-- A position fails in this tick: the first failure gives its stamp's result, cause and unit; POISONED outranks FAIL
(11 R345, Table 11-4, Table 11-6). -/
def State.failWork (s : State) (stream index result cause kind unit : Nat) : State :=
  s.updWork stream index (fun w =>
    if w.result = 0 ∨ (w.result = 1 ∧ result = 3) then { w with result, cause, kind, unit } else w)

/-- The unit is retired, or its retirement waits for its decision (11 R351). -/
def Chk.gone (c : Chk) (kind unit : Nat) : Bool :=
  c.isRetired kind unit || c.toRetire.any (fun e => e.1 == kind && e.2.1 == unit)

/-- Earlier failure events of a unit within the last n ticks before tick k. -/
def Chk.eventsWithin (c : Chk) (kind unit k n : Nat) : Nat :=
  (c.events.filter (fun e => e.1 == kind && e.2.1 == unit && decide (e.2.2 < k) && decide (k ≤ e.2.2 + n))).length

/-- A failure event of a unit: one in a tick; a second within 999 ticks, or a third within 999,999, makes the unit
permanent (11 R351). -/
def State.failEvent (s : State) (kind unit cause : Nat) : State :=
  let k := s.tick
  let c := s.dev.chk
  if c.gone kind unit || c.events.any (fun e => e.1 == kind && e.2.1 == unit && e.2.2 == k) then s
  else
    let perm := decide (1 ≤ c.eventsWithin kind unit k 999) || decide (2 ≤ c.eventsWithin kind unit k 999999)
    s.updChk (fun c => { c with
      events := (c.events.filter (fun e => decide (k ≤ e.2.2 + 999999))) ++ [(kind, unit, k)],
      toRetire := if perm then c.toRetire ++ [(kind, unit, cause)] else c.toRetire })

/-- A check of an array fails: PAN_CHK_LAST, the log, and the array's failure event (11 R352, R361, R364). -/
def State.arrayFailure (s : State) (p a code lastCause arg0 arg1 : Nat) : State :=
  let tick := s.tick
  let s := s.updPan p (fun q => { q with lastArr := BitVec.ofNat 3 a, lastCause := BitVec.ofNat 3 lastCause,
                                         lastTick := BitVec.ofNat 20 tick })
  (s.logEvent code 1 (8 * p + a) arg0 arg1).failEvent 1 (8 * p + a) code

/-- A numeric fault: the position fails, no unit is blamed (02 R53, 11 R345). -/
def State.numericFault (s : State) (stream index : Nat) : State :=
  let s := s.updChk (fun c => { c with numeric := c.numeric + 1 })
  (s.logEvent 0x05 0 0 stream index).failWork stream index 1 0x05 0 0

/-- A position consumes poisoned data: result FAIL, or POISONED for committed KV (11 R344, Table 11-4). -/
def State.poisonWork (s : State) (stream index result : Nat) : State :=
  let s := s.updWork stream index (fun w => { w with poison := true })
  (s.logEvent 0x12 0 0 stream index).failWork stream index result 0x12 0 0

/-- Arrays of a pan that hold weights. -/
def Pan.mask (p : Pan) : List Nat := (List.range 8).filter (fun a => (p.arr a).cfg.mode == .compute)

/-- The spare can take the pan's payload: idle, its island UP, not under test, allowed by both views, chosen by no other
move, and no array that the payload uses excluded (11 R352, R359, 15 R429). -/
def Dev.canTake (d : Dev) (p q : Nat) : Bool :=
  let x := d.pan q
  x.role == .spareIdle && (d.isl (Pan.island q)).st == .up && !x.busy && !d.chk.denies 2 q && !d.chk.isRetired 2 q && !d.chk.denies 7 (Pan.island q) &&
    !(d.pans.any (fun e => match e.2.vacateTo with
      | some (t, _) => t == q
      | none => false)) && d.fab.verSpare != some q && (d.pan p).mask.all (fun a => !(x.arr a).excluded && !d.chk.denies 1 (8 * q + a))

/-- Pans of an island, in ascending number (01 R26, R27). -/
def islandPans (i : Nat) : List Nat := (List.range 2112).filter (fun p => Pan.island p == i)

/-- The free spare of a pan's island that takes its payload: the lowest numbered (11 R352). -/
def Dev.freeSpare (d : Dev) (p : Nat) : Option Nat :=
  ([0, 65].flatMap (fun c => (List.range 32).map (fun r => 32 * c + r))).find? (fun q =>
    Pan.island q == Pan.island p && q != p && d.canTake p q)

/-- The first frame boundary at least n ticks after tick k (11 R352). -/
def Fab.frameAfter (b : Fab) (k n : Nat) : Nat := ceilDiv (k + n) (max 1 b.frame) * max 1 b.frame

/-- The package leaves its position: the head treats it as a failed member (11 R353). A head has no other head to tell; R353 does not
say that it stops, and it goes on with the failures that its checks find (entry 128). -/
def State.leavePosition (s : State) (isl : Nat) : State :=
  let s := (s.updFab (fun b => { b with degraded := true })).logEvent 0x24 7 isl isl 0
  let first := !s.dev.chk.left
  let s := s.updChk (fun c => { c with left := true, exhausted := if c.exhausted.contains isl then c.exhausted else c.exhausted ++ [isl] })
  if first && s.dev.role.assigned && s.dev.role.role != 1 then
    s.emit (.message (s.dev.role.head.getD 0) 0x08 [0x10, s.dev.role.pkg.toNat])
  else s

/-- The CC decides to move a pan's payload: to a spare at a frame boundary, or there is none (11 R352, R353). Answers
the spare. -/
def State.decideVacate (s : State) (p : Nat) (retires : Bool) : Option Nat × State :=
  if (s.pan p).role == .spareIdle then (none, if retires then s.updPan p (fun q => { q with role := .retired }) else s)
  else if (s.pan p).role == .retired then (none, s)
  else
    match (s.pan p).vacateTo with
    | some (q, _) => (some q, s.updPan p (fun x => { x with vacateRetires := x.vacateRetires || retires }))
    | none =>
      match s.dev.freeSpare p with
      | some q =>
        let b := s.dev.fab.frameAfter s.tick 2
        (some q, s.updPan p (fun x => { x with vacateTo := some (q, b), vacateRetires := retires }))
      | none => (none, s.leavePosition (Pan.island p))

/-- A unit retires: its effect by kind, its log entry, and its place in the retirement list (11 Table 11-7, R354). -/
def State.retireUnit (s : State) (kind unit cause : Nat) : State :=
  if s.dev.chk.isRetired kind unit then s
  else
    let s := s.updChk (fun c => { c with retired := c.retired ++ [(kind, unit)],
                                         toRetire := c.toRetire.filter (fun e => !(e.1 == kind && e.2.1 == unit)) })
    match kind with
    | 1 =>
      let s := s.updArr (unit / 8) (unit % 8) (fun a => { a with excluded := true })
      let uses := (s.pan (unit / 8)).mask.contains (unit % 8) && (s.pan (unit / 8)).role != .spareIdle
      let (q, s) := if uses then s.decideVacate (unit / 8) false else (none, s)
      s.logEvent 0x20 1 unit cause (q.getD 0xFFF)
    | 2 =>
      let (q, s) := s.decideVacate unit true
      s.logEvent 0x20 2 unit cause (q.getD 0xFFF)
    | 3 => (s.logEvent 0x20 3 unit cause 0).leavePosition (Pan.island unit)
    | 4 =>
      (s.updDle (fun d => { d with retired := d.retired ||| BitVec.ofNat 4 (2 ^ unit),
                                   online := d.online &&& ~~~(BitVec.ofNat 4 (2 ^ unit)) })).logEvent 0x20 4 unit cause 0
    | 5 => (s.updPort unit (fun p => { p with state := 4 })).logEvent 0x20 5 unit cause 0
    | 6 => (s.updPort (unit / 16) (fun p => { p with retired := p.retired ||| BitVec.ofNat 9 (2 ^ (unit % 16)) })).logEvent 0x20 6 unit cause 0
    | _ => s.logEvent 0x20 kind unit cause 0

/-- UNIT_RETIRE_DECISION: the boundary after a permanent failure event (11 R352). -/
def stepUnitRetireDecision (kind unit : Nat) (s : State) : State :=
  match s.dev.chk.toRetire.find? (fun e => e.1 == kind && e.2.1 == unit) with
  | some e => s.retireUnit kind unit e.2.2
  | none => s

/-- RETIRE commands that wait for a unit's switch end with OK (11 R455). -/
def State.endRetires (s : State) (kind : Nat) (units : List Nat) : State :=
  let own := s.dev.role.pkg.toNat
  let isOne : RetireWait → Bool := fun r => r.pkg == own && r.kind == kind && units.contains r.index
  let mine := s.dev.chk.retires.filter isOne
  let s := s.updChk (fun c => { c with retires := c.retires.filter (fun r => !isOne r) })
  s.each mine (fun s r => s.reply r.rep stOK 0 false true)

/-- No array of a pan is in COMPUTE while the pan's trim store is not loaded: it waits in IDLE for the next boundary after the load (06
R170; 11 Table 11-3; entry 120). -/
def Arr.gate (x : Arr) (loaded : Bool) : Arr :=
  if loaded || x.cfg.mode != .compute then x else { x with cfg := { x.cfg with mode := .idle }, cfgDue := some (x.cfgDue.getD x.cfg) }

/-- The payload of pan p moves to spare q: contents, configuration, timetable and ring; q stands in for p's home pan. The
pan returns to the spares, or is retired (11 R352, R353); a pan vacated for a verification starts it (06 R183, R185). -/
def State.movePayload (s : State) (p q : Nat) (retires : Bool) : State :=
  let x := s.pan p
  let home := if x.role == .spareServing then x.subst else BitVec.ofNat 12 p
  let s := s.updPan q (fun y => { y with
    role := if home = BitVec.ofNat 12 q then .active else .spareServing,
    subst := if home = BitVec.ofNat 12 q then 0xFFF else home, progValid := x.progValid, sram := x.sram, ring := x.ring, work := x.work,
    accs := x.accs, resid := x.resid, amaxes := x.amaxes,
    arrs := (List.range 8).foldl (fun m a =>
      let from_ := x.arr a
      let to_ := y.arr a
      Sparse.set Arr.reset m a (({ to_ with cfg := from_.cfg, cfgDue := from_.cfgDue, valid := from_.valid,
                                            cells := from_.cells } : Arr).gate y.trimLoaded)) y.arrs })
  s.updPan p (fun y => { y with
    role := if retires then .retired else .spareIdle, subst := 0xFFF, progValid := false, vacateTo := none,
    vacateRetires := false, ring := [], accs := [], resid := [], amaxes := [], queue := [], coming := [], spots := [],
    arrs := (List.range 8).foldl (fun m a =>
      let old := y.arr a
      Sparse.set Arr.reset m a { old with cfg := {}, cfgDue := none, valid := false, run := none, done := [], since := [],
                                          qfStale := old.qfStale || y.busy }) y.arrs })

/-- The payload of a verified pan is back: the verification ends (06 R183). -/
def State.endVerify (s : State) (p q : Nat) : State :=
  if s.dev.fab.verBusy && s.dev.fab.verSpare == some p && s.dev.fab.verRunPan == BitVec.ofNat 12 q then
    (s.updFab (fun b => { b with verBusy := false, verDone := true, verSpare := none })).updPan q (fun x => { x with busy := false })
  else s

/-- PAN_SUBSTITUTION: a decided move takes effect at its frame boundary (11 R352). A home pan that takes its own payload
back serves as itself. -/
def stepPanSubstitution (p : Nat) (s : State) : State :=
  match (s.pan p).vacateTo with
  | none => s
  | some (q, b) =>
    if b ≤ s.tick ∧ s.tick % max 1 s.dev.fab.frame = 0 then
      let retires := (s.pan p).vacateRetires
      let s := (s.movePayload p q retires).endVerify p q
      let s := s.endRetires 2 [p]
      s.endRetires 1 ((List.range 8).map (fun a => 8 * p + a))
    else s

/-- The schedule in service uses the unit: the data path's view (11 R358). -/
def Dev.uses (d : Dev) (kind unit : Nat) : Bool :=
  if d.chk.isRetired kind unit then false
  else match kind with
    | 1 => ((d.pan (unit / 8)).role == .active || (d.pan (unit / 8)).role == .spareServing) && (d.pan (unit / 8)).mask.contains (unit % 8)
    | 2 => ((d.pan unit).role == .active || (d.pan unit).role == .spareServing) && !(d.pan unit).mask.isEmpty
    | 4 => d.dle.online.getLsbD unit
    | 5 => (d.port unit).state == 2 || (d.port unit).state == 3
    | 6 => ((d.port (unit / 16)).state == 2 || (d.port (unit / 16)).state == 3) && !(d.port (unit / 16)).retired.getLsbD (unit % 16)
    | 7 => (islandPans unit).any (fun p => ((d.pan p).role == .active || (d.pan p).role == .spareServing) && !(d.pan p).mask.isEmpty)
    | _ => true

/-- A vacate of the unit is decided and its frame boundary has not come (11 R360). -/
def Dev.vacating (d : Dev) (kind unit : Nat) : Bool :=
  let pending : Nat → Bool := fun p => match (d.pan p).vacateTo with
    | some (_, b) => decide (d.time.tick < b)
    | none => false
  match kind with
  | 1 => pending (unit / 8)
  | 2 => pending unit
  | 7 => (islandPans unit).all (fun p => pending p || !d.uses 2 p)
  | _ => false

/-- A vacate that finds no free spare decides nothing: the unit differs (11 R360). -/
def State.decideVacateQuiet (s : State) (p : Nat) : State :=
  if (s.dev.freeSpare p).isSome then (s.decideVacate p false).2 else s

/-- A unit becomes denied: the CC vacates it as a retirement would, without retiring it (11 R359). -/
def State.vacateUnit (s : State) (kind unit : Nat) : State :=
  match kind with
  | 1 => if s.dev.uses 1 unit then (s.decideVacateQuiet (unit / 8)) else s
  | 2 => if s.dev.uses 2 unit then (s.decideVacateQuiet unit) else s
  | 4 => s.updDle (fun d => { d with online := d.online &&& ~~~(BitVec.ofNat 4 (2 ^ unit)) })
  | 5 => s.updPort unit (fun p => { p with state := if p.state = 4 then 4 else 0 })
  | 7 => s.each (islandPans unit) (fun s p => if s.dev.uses 2 p then s.decideVacateQuiet p else s)
  | _ => s

/-- Both views allow a unit again: a cluster goes back online and a port trains; a pan waits for a payload (11 R359; entry 128). -/
def State.allowUnit (s : State) (kind unit : Nat) : State :=
  if s.dev.chk.denies kind unit || s.dev.chk.isRetired kind unit then s
  else match kind with
    | 4 => if unit < 4 && decide (5 ≤ s.dev.rst.step.toNat) then s.updDle (fun d => { d with online := d.online ||| BitVec.ofNat 4 (2 ^ unit) }) else s
    | 5 => s.updPort unit (fun p => { p with state := if p.en ∧ p.state = 0 then 1 else p.state })
    | _ => s

/-- Deny writes due at the boundary take effect; newly denied units are vacated, and those no longer denied serve again (11 R359). -/
def State.applyDeny (s : State) : State :=
  let due := s.dev.chk.denyDue
  let s := s.updChk (fun c => { c with denyDue := [] })
  s.each due (fun s e =>
    let v := e.2
    let kind := fieldAt v.toNat 20 4
    let unit := fieldAt v.toNat 0 20
    let fresh := v.getLsbD 31 && !s.dev.chk.denies kind unit
    let old := Sparse.get (fun _ => 0) s.dev.chk.deny e.1
    let s := s.updChk (fun c => { c with deny := Sparse.set (fun _ => 0) c.deny e.1 v })
    let s := if old.getLsbD 31 then s.allowUnit (fieldAt old.toNat 20 4) (fieldAt old.toNat 0 20) else s
    if fresh then s.vacateUnit kind unit else s)

/-- The CC writes a deny entry: the lowest entry not in use (11 R360, 15 R432). -/
def State.writeDeny (s : State) (kind unit : Nat) : State :=
  if s.dev.chk.denies kind unit then s
  else match (List.range 64).find? (fun n => !(Sparse.get (fun _ => 0) s.dev.chk.deny n).getLsbD 31) with
    | some n => s.updChk (fun c => { c with deny := Sparse.set (fun _ => 0) c.deny n (BitVec.ofNat 32 (2 ^ 31 + kind * 2 ^ 20 + unit)) })
    | none => s

/-- Housekeeping adds a deny entry for a unit, due at the next boundary: the lowest entry neither in use nor about to be
(11 R358, R359, 15 R432). -/
def State.dueDeny (s : State) (kind unit : Nat) : State :=
  let v := BitVec.ofNat 32 (2 ^ 31 + kind * 2 ^ 20 + unit)
  let c := s.dev.chk
  if c.denies kind unit || c.denyDue.any (fun e => e.2 == v) then s
  else match (List.range 64).find? (fun n => !(Sparse.get (fun _ => 0) c.deny n).getLsbD 31 && !(c.denyDue.any (fun e => e.1 == n && e.2.getLsbD 31))) with
    | some n => s.updChk (fun c => { c with denyDue := c.denyDue.filter (fun e => e.1 != n) ++ [(n, v)] })
    | none => s

/-- CONSISTENCY_COMPARE: units that the two views treat differently; one that has differed for more than 2 ticks is
logged and retired; a unit retired by the data path gets a deny entry (11 R360). -/
def State.compareViews (s : State) : State :=
  let k := s.tick
  let denied := (s.dev.chk.deny.filter (fun e => e.2.getLsbD 31)).map (fun e => (fieldAt e.2.toNat 20 4, fieldAt e.2.toNat 0 20))
  let now := denied.filter (fun u => s.dev.uses u.1 u.2 && !s.dev.vacating u.1 u.2)
  let old := s.dev.chk.differ
  let differ := now.eraseDups.map (fun u => match old.find? (fun e => e.1 == u.1 && e.2.1 == u.2) with
    | some e => e
    | none => (u.1, u.2, k))
  let lasting := differ.filter (fun e => decide (e.2.2 + 2 ≤ k))
  let s := s.updChk (fun c => { c with differ := differ.filter (fun e => !decide (e.2.2 + 2 ≤ k)) })
  let s := s.each lasting (fun s e =>
    let s := s.updChk (fun c => { c with disCount := satInc c.disCount, disKind := BitVec.ofNat 4 e.1, disUnit := BitVec.ofNat 20 e.2.1 })
    (s.logEvent 0x23 e.1 e.2.1 0 0).retireUnit e.1 e.2.1 0x23)
  s.each s.dev.chk.retired (fun s u => s.writeDeny u.1 u.2)

/-- A deny entry as it reads: the last value written (11 Table 11-14). -/
def Chk.denyWord (c : Chk) (n : Nat) : W32 :=
  c.denyDue.foldl (fun b e => if e.1 = n then e.2 else b) (Sparse.get (fun _ => 0) c.deny n)

/-- DENY_WRITE: PF0 or the management path writes CHK_DENYn, due at the next boundary (11 R358, R359). A KIND that Table 11-9 reserves
leaves KIND unchanged (00 R16). -/
def stepDenyWrite (entry : Nat) (v : W32) (s : State) : State :=
  if entry < 64 then
    let kind := if fieldAt v.toNat 20 4 ≤ 10 then v &&& 0x00F00000 else s.dev.chk.denyWord entry &&& 0x00F00000
    s.updChk (fun c => { c with denyDue := c.denyDue.filter (fun e => e.1 != entry) ++ [(entry, (v &&& 0x800FFFFF) ||| kind)] })
  else s

def execUnitRetireDecision (kind unit : Nat) (s : State) : Host.Outcome State Fault Refusal :=
  .next (stepUnitRetireDecision kind unit s)
def execPanSubstitution (pan : Nat) (s : State) : Host.Outcome State Fault Refusal := .next (stepPanSubstitution pan s)
def execDenyWrite (entry : Nat) (value : W32) (s : State) : Host.Outcome State Fault Refusal :=
  .next (stepDenyWrite entry value s)

end Sys2Proof.Machine
end

