-- ==== Sys2Proof/Machine/Arrays.lean ====
section
/-! DEFINITION. Vectors on the arrays, the bittern path, the row-sum check, spot, content and canary checks (03 R78 to
R94; 04 R99 to R112; 11 R334 to R341). -/

namespace Sys2Proof.Machine

/-- The vector has this tag. -/
def RunVec.tagged (v : RunVec) (slot stream index vec : Nat) : Bool :=
  v.slot == slot && v.stream == stream && v.index == index && v.vec == vec
def BtnEvent.of (e : BtnEvent) (slot stream index vec : Nat) : Bool :=
  e.slot == slot && e.stream == stream && e.index == index && e.vec == vec

/-- Changes a vector of an array, running or done. -/
def Arr.updVec (a : Arr) (slot stream index vec : Nat) (f : RunVec → RunVec) : Arr :=
  { a with run := a.run.map (fun v => if v.tagged slot stream index vec then f v else v),
           done := a.done.map (fun v => if v.tagged slot stream index vec then f v else v) }

/-- The R106 bounds of an overflowed event: for each masked bit-column, (rows − 63) × |factor| × |plane weight| × 2^s. -/
def Pan.shortfall (p : Pan) (e : BtnEvent) : List (Nat × Nat) :=
  e.mask.map (fun c =>
    let (j, f) := e.cfg.fmt.colOf c
    (j, (groupSize e.cfg.wide - 63) * f.natAbs * (planeWeight e.plane).natAbs * 2 ^ p.groupShift e.arr e.cfg.wide j e.group))

/-- An overflow: the conversions keep code 63 and the vector is CLAMPED (04 R103, R105). `full` tells the cause bit. -/
def State.overflow (s : State) (p : Nat) (e : BtnEvent) (full : Bool) : State :=
  s.updPan p (fun q =>
    ({ q with overflows := q.overflows + 1, ovfFull := q.ovfFull || full, ovfSpent := q.ovfSpent || !full }).updArr e.arr
      (fun a => a.updVec e.slot e.stream e.index e.vec (fun v => { v with clamped := v.clamped ++ q.shortfall e })))

/-- A schedule cycle counted from this tick's, as a key that rises with time: beyond the tick's schedule cycles, of which the seam
is none, it falls in the next (05 R143). -/
def Dev.cycleKey (d : Dev) (c : Nat) : Nat :=
  let t := 2000 * d.time.inForce - 4
  if c < t then d.time.tick * 2 ^ 24 + c else (d.time.tick + 1) * 2 ^ 24 + (c - t)

/-- An event enters the queue: a replay's ahead of all others; the 65th overflows (04 R99, R103, R109). -/
def State.enqueue (s : State) (p : Nat) (e : BtnEvent) : State :=
  let s := s.updPan p (fun q => { q with events := q.events + 1 })
  if 64 ≤ (s.pan p).queue.length then s.overflow p e true
  else s.updPan p (fun q =>
    let l := if e.replay then q.queue.filter (·.replay) ++ [e] ++ q.queue.filter (fun x => !x.replay) else q.queue ++ [e]
    { q with queue := l, queuePeak := max q.queuePeak l.length })

/-- The events whose accumulate cycle has come enter the queue, in that order; those of one cycle in ascending array number
(04 R99). -/
def State.arrive (s : State) (p limit : Nat) : State :=
  let due := sortBy (fun e => 8 * e.enter + e.arr) ((s.pan p).coming.filter (fun e => decide (e.enter ≤ limit)))
  let s := s.updPan p (fun q => { q with coming := q.coming.filter (fun e => !decide (e.enter ≤ limit)) })
  s.each due (fun s e => s.enqueue p e)

/-- With nothing queued the bittern path waits for the events that come first. -/
def State.arriveNext (s : State) (p : Nat) : State :=
  match (s.pan p).queue, (s.pan p).coming with
  | [], e :: es => s.arrive p (es.foldl (fun m x => min m x.enter) e.enter)
  | _, _ => s

/-- The events of a tick that ends have all entered. -/
def State.arriveAll (s : State) : State :=
  s.each (s.dev.pans.map (·.1)) (fun s p => s.arrive p (s.tick * 2 ^ 24 + 2 ^ 24 - 1))

/-- A pan SRAM read on behalf of a position: a word's single-bit error is corrected and counted; an uncorrectable one counts,
is the pan's failure, and poisons what is formed from the data (05 R129; 11 Table 11-3, R344, R351). -/
def State.eccPan (s : State) (p stream index ecc : Nat) : State :=
  if ecc = 0 then s
  else if ecc = 1 then s.updPan p (fun q => { q with sramCE := satInc q.sramCE })
  else
    let s := s.updPan p (fun q => { q with sramUE := satInc q.sramUE, ueSeen := true })
    ((s.logEvent 0x10 2 p 1 0).failEvent 2 p 0x10).poisonWork stream index 1

/-- The row-sum comparison of a vector: |Y − E| and TOL with W (11 R335, R336). -/
def State.rowCheck (s : State) (p a : Nat) (v : RunVec) (planted : Bool) : Nat × Int :=
  let q := s.pan p
  let tol0 := rowTol s.dev.chk.k.toNat v.cfg
  let tol := fpFloor (fpAdd tol0 (fpOfInt (((v.clamped.map (·.2)).sum : Nat) : Int)))
  let e := (rowSumProduct q a v.cfg (q.segment v.ring)).toInt + (if planted then 2 * tol else 0)
  ((v.y.toInt - e).natAbs, tol)

/-- The canary's comparison against E + 2 × TOL: one that does not fail is a CANARY_MISS, and the pan retires (11 R341). -/
def State.runCanary (s : State) (p a : Nat) (v : RunVec) : State :=
  let (d, tol) := s.rowCheck p a v true
  let s := s.updPan p (fun q => { q with canaryRun := q.canaryRun + 1, canaryDue := none })
  if tol < (d : Int) then s
  else
    let tick := s.tick
    let s := s.updPan p (fun q => { q with canaryMiss := true, lastArr := BitVec.ofNat 3 a, lastCause := 4, lastTick := BitVec.ofNat 20 tick })
    let s := s.updChk (fun c => { c with canaryMiss := c.canaryMiss + 1,
                                         toRetire := if c.gone 2 p then c.toRetire else c.toRetire ++ [(2, p, 0x04)] })
    s.logEvent 0x04 2 p a 0

/-- Events of a vector in an array are still to be served. -/
def State.waits (s : State) (p a slot stream index vec : Nat) : Bool :=
  ((s.pan p).queue ++ (s.pan p).coming).any (fun e => e.arr == a && e.of slot stream index vec)

/-- The spot recompute's comparison of column j of a vector, its addends included: a vector CLAMPED in the array is skipped
(04 R112; 11 R337). -/
def State.spotCompare (s : State) (p a j : Nat) (v : RunVec) : State :=
  if !v.clamped.isEmpty then s.updPan p (fun q => { q with spotSkip := q.spotSkip + 1 })
  else
    let q := s.pan p
    let exact := exactSum (cellBit (s.arr p a).cells) v.cfg (q.segment v.ring) (q.groupShift a v.cfg.wide j) j
    let own := (v.adds.filter (fun e => e.1 == j)).foldl (fun y e => y + e.2) (v.sums.getD j 0)
    let diff := (own.toInt - exact.toInt).natAbs
    let s := s.updPan p (fun q => { q with spotRun := q.spotRun + 1 })
    if fpFloor (spotTol s.dev.chk.k.toNat v.cfg (q.groupShift a v.cfg.wide j)) < (diff : Int) then
      ((s.updPan p (fun q => { q with spotFail := q.spotFail + 1 })).arrayFailure p a 0x02 2 j diff).failWork
        v.stream v.index 1 0x02 1 (8 * p + a)
    else s

/-- Spot comparisons that waited for the vector's events are made (04 R112). -/
def State.settleSpots (s : State) (p a slot stream index vec : Nat) : State :=
  let mine := (s.pan p).spots.filter (fun e => e.1 == a && decide (e.2.1 = ⟨slot, stream, index, vec⟩))
  let s := s.updPan p (fun q => { q with spots := q.spots.filter (fun e => !(e.1 == a && decide (e.2.1 = ⟨slot, stream, index, vec⟩))) })
  match (s.arr p a).done.find? (fun v => v.tagged slot stream index vec) with
  | none => s
  | some v => s.each mine (fun s e => s.spotCompare p a e.2.2 v)

/-- The row-sum check of a vector whose events have all been served or overflowed, and the spot comparison that waited for
them (11 R335; 04 R112). -/
def State.judge (s : State) (p a slot stream index vec : Nat) : State :=
  match (s.arr p a).done.find? (fun v => v.tagged slot stream index vec && !v.checked) with
  | none => s
  | some v =>
    if s.waits p a slot stream index vec then s
    else
      let s := s.settleSpots p a slot stream index vec
      let s := if (s.pan p).canaryDue = some a then s.runCanary p a v else s
      let s := s.updArr p a (fun x => x.updVec slot stream index vec (fun v => { v with checked := true }))
      let (d, tol) := s.rowCheck p a v false
      if tol < (d : Int) then
        let s := s.updPan p (fun q => { q with rowsumFails := q.rowsumFails + 1 })
        let s := s.updChk (fun c => { c with rowsum := c.rowsum + 1 })
        (s.arrayFailure p a 0x01 1 (min d 0xFFFFFFFF) tol.toNat).failWork stream index 1 0x01 1 (8 * p + a)
      else s

/-- Dense sum-plane flits of a vector's column sums, eight columns a flit (05 R139). -/
def denseFlits (v : RunVec) (sums : List W32) : List Flit :=
  ((runsOf 8 sums.length sums).zipIdx).map (fun e =>
    { inp := 4, words := e.1, sparse := false, poison := v.poison, ecc := 0, amax := false, slot := v.slot, stream := v.stream,
      index := v.index, vec := v.vec, col := 8 * e.2, scale := v.scale })

/-- ARRAY_VECTOR_COMPLETE: the last accumulate is done; the partial sums leave for the sum plane; the vector counts, and
is checked unless events of it wait (03 R83, 11 R335). -/
def stepArrayVectorComplete (p a : Nat) (s : State) : State :=
  match (s.arr p a).run with
  | none => s
  | some v =>
    let tick := s.tick
    let s := s.arrive p v.last
    let v := ((s.arr p a).run).getD v
    let s := s.updArr p a (fun x => { x with
      run := none, vecCnt := x.vecCnt + 1, done := x.done ++ [{ v with tick }],
      scrub := if x.since.isEmpty then tick else x.scrub,
      since := if x.since.contains (v.stream, v.index) then x.since else x.since ++ [(v.stream, v.index)] })
    let s := s.emit (.flits p .sum 4 (denseFlits v v.sums))
    s.judge p a v.slot v.stream v.index v.vec

/-- Flagged conversions of a plane that the tick drives, and those that the next tick drives: sub-step u of group g and plane b is
step 64g + 8b + u, driven that many schedule cycles after step 0 (03 R82, Table 3-13; 05 R143). -/
def PlaneOut.flagged (o : PlaneOut) (start limit : Nat) (late : Bool) : Nat :=
  ((o.codes.zipIdx).filter (fun e => e.1.2 && decide (start + 64 * o.g + 8 * o.b + e.2 % 8 < limit) != late)).length

/-- Group bits of the planes with a flagged conversion on that side of the tick's end. -/
def satMask (planes : List PlaneOut) (start limit : Nat) (late : Bool) : BitVec 16 :=
  planes.foldl (fun g o => if o.flagged start limit late = 0 then g else g ||| BitVec.ofNat 16 (2 ^ o.g)) 0

/-- A step of this position in this layer slot is a strict replay (04 R109). -/
def Fab.replays (b : Fab) (slot stream index : Nat) : Bool :=
  match b.work stream index with
  | some w => w.replaySlot == some slot
  | none => false

/-- VECTOR: step 0 of a vector on an array in COMPUTE mode, and its steps in order (03 R77, R82 to R86, R94), under the taps in
force at step 0 (06 R179). A vector that still runs on the array completes first. A strict replay runs in narrow groups
(04 R109). -/
def stepVector (p a ring slot stream index vec ecc : Nat) (s : State) : State :=
  if (s.arr p a).cfg.mode != .compute then s
  else
    let s := (stepArrayVectorComplete p a s).eccPan p stream index ecc
    let replay := s.dev.fab.replays slot stream index
    let x := s.arr p a
    let cfg : ArrCfg := if replay then { x.cfg with wide := false } else x.cfg
    let q := s.pan p
    let acts := q.segment ring
    let n0 := s.freeCtr
    let start := s.dev.time.cycle
    let limit := 2000 * s.dev.time.inForce - 4
    let planes := arrayPlanes x.cells cfg acts (fun g b col => q.convError a cfg.wide (n0 + 512 * (8 * g + b) + col) g col)
    let planes := if x.valid then planes else planes.map (fun (o : PlaneOut) => { o with codes := List.replicate 512 (0, false) })
    let sums := (List.range cfg.fmt.cols).map (fun j => columnSum cfg.fmt (q.groupShift a cfg.wide j) planes j)
    let v : RunVec := { slot, stream, index, vec, ring, cfg, last := s.dev.cycleKey (start + 64 * groupCount cfg.wide + 1),
                        scale := q.segScale ring, sums, y := checkSum cfg.fmt planes, adds := [], tick := s.tick, clamped := [],
                        checked := false, invalid := !x.valid, poison := decide (2 ≤ ecc) }
    let flagged := planes.filter (fun o => o.codes.any (·.2))
    let s := { s with freeCtr := n0 + 4096 * groupCount cfg.wide }
    let s := s.updArr p a (fun x => { x with
      run := some v, computeInvalid := x.computeInvalid || !x.valid,
      satCnt := wrapInc x.satCnt ((planes.map (fun o => o.flagged start limit false)).sum),
      satGroup := x.satGroup ||| satMask planes start limit false,
      satLate := (x.satLate.1 ||| satMask planes start limit true, x.satLate.2 + (planes.map (fun o => o.flagged start limit true)).sum) })
    let s := if x.valid then s else s.failWork stream index 1 0 1 (8 * p + a)
    let events := flagged.map (fun o =>
      ({ arr := a, group := o.g, plane := o.b, mask := (List.range 512).filter (fun c => (o.codes.getD c (0, false)).2),
         cfg, ring, slot, stream, index, vec, replay, enter := s.dev.cycleKey (start + 64 * o.g + 8 * o.b + 9) } : BtnEvent))
    s.updPan p (fun q => { q with coming := q.coming ++ events })

/-- The addends of an event: (weight column, with shift, without shift) (04 R100). -/
def eventAddends (q : Pan) (cells : Mem) (acts : List Byte) (e : BtnEvent) : List (Nat × Int × Int) :=
  let rows := drivenRows e.cfg acts e.group e.plane
  let parts := e.mask.map (fun c =>
    let (j, f) := e.cfg.fmt.colOf c
    (j, ((trueCount cells rows c : Int) - 63) * f * planeWeight e.plane))
  (parts.map (·.1)).eraseDups.map (fun j =>
    let v := ((parts.filter (fun x => x.1 == j)).map (·.2)).sum
    (j, v * ((2 ^ q.groupShift e.arr e.cfg.wide j e.group : Nat) : Int), v))

/-- Sparse flits of addends, four to a flit (05 R140). -/
def sparseFlits (e : BtnEvent) (l : List (Nat × Int)) : List Flit :=
  (runsOf 4 l.length l).map (fun (r : List (Nat × Int)) =>
    { inp := 4, words := (r.flatMap (fun (x : Nat × Int) => [BitVec.ofNat 32 x.1, BitVec.ofInt 32 x.2])) ++
        (List.replicate (4 - r.length) [0xFFFF#32, 0#32]).flatten,
      sparse := true, poison := false, ecc := 0, amax := false, slot := e.slot, stream := e.stream, index := e.index,
      vec := e.vec, col := 0, scale := 0 })

/-- BITTERN_EVENT_SERVE: the event at the head of the queue is served from the tick's reservation: exact counts, addends
on the sum plane, and Y corrected. One that the units left cannot pay waits for the next tick (04 R100, R102, R103). -/
def stepBitternEventServe (p : Nat) (s : State) : State :=
  let s := s.arriveNext p
  match (s.pan p).queue with
  | [] => s
  | e :: rest =>
    let cost := if e.cfg.wide then 2 else 1
    if s.dev.fab.resEff < (s.pan p).unitsUsed + cost then s.updPan p (fun q => { q with ovfSpent := true })
    else
      let q := s.pan p
      let adds := eventAddends q (s.arr p e.arr).cells (q.segment e.ring) e
      let s := s.updPan p (fun q =>
        ({ q with queue := rest, unitsUsed := q.unitsUsed + cost, served := q.served + 1 }).updArr e.arr
          (fun a => a.updVec e.slot e.stream e.index e.vec (fun v => { v with
            adds := v.adds ++ adds.map (fun (x : Nat × Int × Int) => (x.1, BitVec.ofInt 32 x.2.1)),
            y := v.y + BitVec.ofInt 32 ((adds.map (fun (x : Nat × Int × Int) => x.2.2)).sum) })))
      let s := s.emit (.flits p .sum 4 (sparseFlits e (adds.map (fun (x : Nat × Int × Int) => (x.1, x.2.1)))))
      s.judge p e.arr e.slot e.stream e.index e.vec

/-- RING_LOAD: an A8 segment of 1,024 elements, with its vector's scale, stands in a ring slot of pan SRAM, from which the arrays'
row buffers take it (02 R52; 03 R83; 05 R128). -/
def stepRingLoad (p ring : Nat) (acts : List Byte) (scale : W16) (s : State) : State :=
  if ring < 40 then
    s.updPan p (fun q => { q with ring := Tab.put q.ring ring { scale },
                                  sram := Memory.writeBytes q.sram (0x10000 + 1024 * ring) (sliceAt acts 0 1024) })
  else s

/-- Pending events of a vector in a pan overflow when its last correction slot has passed (04 R103). -/
def State.closeVector (s : State) (p slot stream index vec : Nat) : State :=
  let late := ((s.pan p).queue ++ (s.pan p).coming).filter (fun e => e.of slot stream index vec)
  let s := s.updPan p (fun q => { q with queue := q.queue.filter (fun e => !e.of slot stream index vec),
                                         coming := q.coming.filter (fun e => !e.of slot stream index vec) })
  let s := s.each late (fun s e => s.overflow p e true)
  s.each ((late.map (·.arr)).eraseDups) (fun s a => s.judge p a slot stream index vec)

/-- The parts of a vector that the arrays of the package still hold. -/
def Dev.parts (d : Dev) (slot stream index vec : Nat) : List RunVec :=
  d.pans.flatMap (fun e => e.2.arrs.flatMap (fun x => (x.2.run.toList ++ x.2.done).filter (fun v => v.tagged slot stream index vec)))

/-- Some part of the vector holds an overflowed conversion of a weight column that the destination scales: of those that its
dense flits of eight brought (04 R105, 05 R139). -/
def Dev.vecClamped (d : Dev) (slot stream index vec : Nat) (cover : List Nat) : Bool :=
  (d.parts slot stream index vec).any (fun v => v.clamped.any (fun e => cover.any (fun c => decide (c ≤ e.1) && decide (e.1 < c + 8))))

/-- The clamp monitor counts an output vector in the window of its last accumulate; one whose window has closed meanwhile joins
the closed window's counts, whose comparison with THRESH stands (04 R107; entry 110). -/
def ClampSlot.count (c : ClampSlot) (clamped closed : Bool) : ClampSlot :=
  let n : W32 := if clamped then 1 else 0
  if closed then { c with vec := c.vec + 1, clamped := c.clamped + n } else { c with cntVec := c.cntVec + 1, cntClamped := c.cntClamped + n }

/-- CORRECT_LAST: the vector's last correction slot passes; events that wait overflow, and the destination pan scales the
columns and judges the CLAMPED flag; the clamp monitor counts the output vector (02 R56; 04 R103, R105, R107). -/
def stepCorrectLast (p scaleArr slot stream index vec ecc : Nat) (s : State) : State :=
  let s := s.each (s.dev.pans.map (·.1)) (fun s q => s.closeVector q slot stream index vec)
  let isIt : SumAcc → Bool := fun a => a.slot == slot && a.stream == stream && a.index == index && a.vec == vec
  match (s.pan p).accs.find? isIt with
  | none => s
  | some acc =>
    let s := s.eccPan p stream index ecc
    let clamped := acc.clamped || s.dev.vecClamped slot stream index vec acc.cover
    let last := (s.dev.parts slot stream index vec).map (·.tick)
    let closed := !last.isEmpty && decide (last.foldl max 0 < s.dev.fab.windowTick)
    let q := s.pan p
    let out := (acc.cols.zipIdx).map (fun e => scaleSum e.1 (q.colScale scaleArr e.2) acc.scale)
    let s := s.updPan p (fun q => { q with accs := q.accs.filter (fun a => !isIt a), work := out,
                                           clampedOut := if clamped then q.clampedOut + 1 else q.clampedOut })
    let s := s.updClamp slot (fun c => c.count clamped closed)
    let s := if clamped then s.updWork stream index (fun w => { w with clamped := true, clampSlot := some slot }) else s
    let s := if acc.poison then s.poisonWork stream index 1 else s
    s.emit (.panResult p out)

/-- n_spot arrays of a pan are checked in tick k (04 R111). -/
def Fab.spotTurn (b : Fab) (k a : Nat) : Bool := (List.range b.nSpot).any (fun i => (b.nSpot * k + i) % 8 == a)

/-- The first row whose weights do not add up to its RS (11 R338). -/
def badRow (q : Pan) (a : Nat) (x : Arr) : Option Nat :=
  (List.range 1024).find? (fun r => ((List.range x.cfg.fmt.cols).map (fun j => weightAt x.cfg.fmt (cellBit x.cells r) j)).sum != q.rowSumOf a r)

/-- A content failure: every position since the last passing check fails, or is revoked once it has left; the array is
restored on a spare, or in DIGITAL mode (11 R339). -/
def State.contentFailure (s : State) (p a row : Nat) : State :=
  let since := (s.arr p a).since
  let gone := since.filter (fun e => (s.dev.fab.work e.1 e.2).isNone)
  let s := s.updPan p (fun q => { q with contentFails := q.contentFails + 1 })
  let s := s.updChk (fun c => { c with content := c.content + 1 })
  let s := s.arrayFailure p a 0x03 3 row gone.length
  let s := s.each since (fun s e => s.failWork e.1 e.2 1 0x03 1 (8 * p + a))
  let s := s.updFab (fun b => { b with revokes := b.revokes ++ gone.map (fun e => (e.1, e.2, 0x03, 8 * p + a)) })
  let s := s.updArr p a (fun x => { x with since := [], restoring := true })
  if (s.dev.freeSpare p).isSome then
    (s.decideVacate p false).2.updPan p (fun q => { q with returnArr := some a })
  else s.updArr p a (fun x => { x with cfgDue := some { x.cfg with mode := .digital } })

/-- SPOT: the spot read of an array: one column of one eligible vector against its exact sum, and every row against its
row sum (04 R111, R112; 11 R337, R338). `eligible` of the vectors done in the tick came before the read. -/
def stepSpot (p a eligible : Nat) (s : State) : State :=
  let k := s.tick
  if !s.dev.fab.spotTurn k a then s
  else
    let skip : State → State := fun s => s.updPan p (fun q => { q with spotSkip := q.spotSkip + 1 })
    let x := s.arr p a
    if x.cfg.mode != .compute then skip s
    else
      let vs := (x.done.filter (fun v => v.tick == k)).take eligible
      let r := (gen s.dev.fab.spotKeyInForce (BitVec.ofNat 64 (k * 65536 + p * 8 + a))).toNat
      let s := match vs[(r / 65536) % max 1 vs.length]? with
        | none => skip s
        | some v =>
          let j := r % v.cfg.fmt.cols
          if s.waits p a v.slot v.stream v.index v.vec then
            s.updPan p (fun q => { q with spots := q.spots ++ [(a, ⟨v.slot, v.stream, v.index, v.vec⟩, j)] })
          else s.spotCompare p a j v
      if vs.isEmpty ∧ x.since.isEmpty then s
      else match badRow (s.pan p) a x with
        | some row => s.contentFailure p a row
        | none => s.updArr p a (fun x => { x with since := [] })

/-- CANARY: in the pan's tick, the first vector of the array in turn is compared against E + 2 × TOL; a vector yet to come
is compared at its check (11 R341). -/
def stepCanary (p : Nat) (s : State) : State :=
  let k := s.tick
  if s.dev.chk.canaryEn && decide ((k + p) % 1024 = 0) && (s.pan p).canaryDue.isNone then
    let a := (k / 1024) % 8
    match (s.arr p a).done.find? (fun v => v.tick == k) with
    | some v => s.runCanary p a v
    | none => s.updPan p (fun q => { q with canaryDue := some a })
  else s

def execVector (pan arr ring slot stream index vec ecc : Nat) (s : State) : Host.Outcome State Fault Refusal :=
  .next (stepVector pan arr ring slot stream index vec ecc s)
def execArrayVectorComplete (pan arr : Nat) (s : State) : Host.Outcome State Fault Refusal :=
  .next (stepArrayVectorComplete pan arr s)
def execBitternEventServe (pan : Nat) (s : State) : Host.Outcome State Fault Refusal := .next (stepBitternEventServe pan s)
def execRingLoad (pan ring : Nat) (acts : List Byte) (scale : W16) (s : State) : Host.Outcome State Fault Refusal :=
  .next (stepRingLoad pan ring acts scale s)
def execCorrectLast (pan scaleArr slot stream index vec ecc : Nat) (s : State) : Host.Outcome State Fault Refusal :=
  .next (stepCorrectLast pan scaleArr slot stream index vec ecc s)
def execSpot (pan arr eligible : Nat) (s : State) : Host.Outcome State Fault Refusal := .next (stepSpot pan arr eligible s)
def execCanary (pan : Nat) (s : State) : Host.Outcome State Fault Refusal := .next (stepCanary pan s)

end Sys2Proof.Machine
end

