-- ==== Sys2Proof/Machine/Collect.lean ====
section
/-! DEFINITION. The command window: writes and seals of slots, collection at a boundary, the reads a command waits for,
the descriptor cache (08 R237 to R246, R267; 12 R370, R372). -/

namespace Sys2Proof.Machine

/-- A function's BARs answer: the link is up, power-up step 7 has come, the function exists (14 R415, 12 R369). -/
def Dev.barUp (d : Dev) (f : Nat) : Bool :=
  d.pcie.linkUp && decide (7 ≤ d.rst.step.toNat) && !d.rst.perstLow && !d.rst.furl && decide (f ≤ d.pcie.numVfs) && decide (f < 32)

/-- The channel of a slot number in a function's BAR2 (08 R241). -/
def Dev.slotChannel (d : Dev) (f i : Nat) : Nat := if f = 0 then i else (d.fn f).base + i

/-- The function owns the channel (08 R233). -/
def Fn.owns (n : Fn) (ch : Nat) : Bool := decide (n.base ≤ ch) && decide (ch < n.base + n.count)

/-- The slot's bytes meet the seal's three conditions (08 R242). -/
def Srv.sealOk (v : Srv) (ch : Nat) : Bool :=
  let seq := BitVec.ofNat 64 (leNat (Memory.readBytes v.window (256 * ch + 8) 8))
  decide (BitVec.ofNat 64 (leNat (Memory.readBytes v.window (256 * ch + 0xF8) 8)) = seq) && decide (seq ≠ 0) &&
    decide (seq ≠ Sparse.get (fun _ => 0) v.lastSeq ch)

/-- One slot's part of a write: bytes from `off` of channel ch's slot (08 R241 to R243, R267). -/
def State.storeSlot (s : State) (f ch off : Nat) (data : List Byte) : State :=
  if (s.dev.fn f).flrBusy || !(s.dev.fn f).owns ch || s.dev.srv.busy.contains ch then
    s.updSrv (fun v => { v with winDrop := v.winDrop + 1 })
  else
    let s := s.updSrv (fun v => { v with window := Memory.writeBytes v.window (256 * ch + off) data })
    if off + data.length = 256 ∧ data ≠ [] ∧ s.dev.srv.sealOk ch then
      let tick := s.tick
      s.updSrv (fun v => { v with sealedTab := Tab.put v.sealedTab ch tick, busy := v.busy ++ [ch] })
    else s

/-- A write that spans slots stores each part in its own slot, in ascending slot order (12 R372); the fuel is the number
of bytes. -/
def State.storeSpan (f : Nat) : Nat → Nat → List Byte → State → State
  | 0, _, _, s => s
  | n + 1, off, data, s =>
    if data.isEmpty then s
    else
      let room := 256 - off % 256
      State.storeSpan f n (off + room) (data.drop room) (s.storeSlot f (s.dev.slotChannel f (off / 256)) (off % 256) (data.take room))

/-- COMMAND_SLOT_WRITE: a memory write to a function's BAR2 of 4 MiB (08 R241 to R243). Before power-up step 7 has ended
it completes as an Unsupported Request (14 R415). -/
def stepCommandSlotWrite (f off : Nat) (data : List Byte) (s : State) : State :=
  if s.dev.barUp f then State.storeSpan f data.length off data s else s.emit (.unsupported f)

/-- Puts a descriptor in the cache, its stop block when read; the least recently used entry that no command of this tick
uses makes room, if there is one (08 R239). -/
def Srv.cachePut (v : Srv) (e : CacheEntry) (tick : Nat) : Srv :=
  let rest := v.dcache.filter (fun x => x.ch != e.ch)
  if rest.length < 2048 then { v with dcache := rest ++ [e] }
  else match findIdx1 (fun (x : CacheEntry) => x.used != some tick) rest 0 with
    | some (i, _) => { v with dcache := rest.take i ++ rest.drop (i + 1) ++ [e] }
    | none => v

/-- Bytes of the stop-string block that a descriptor names. -/
def stopLenOf (b : List Byte) : Nat := leAt b 0x40 2

/-- A descriptor's stop block is read too: its length is within the table (08 Table 8-1, R236). -/
def hasStops (b : List Byte) : Bool := decide (stopLenOf b ≠ 0) && decide (stopLenOf b ≤ 520)

/-- Input bytes that the command reads from host memory (08 R252). -/
def Cmd.inputLen (c : Cmd) : Nat :=
  if [0x01, 0x02, 0x08].contains c.op && c.refusal.isNone && !bitAt (c.at 0x24 1) 0 && decide (c.at 0x20 4 ≤ 16777216) then c.at 0x20 4 else 0

/-- Issues the host read that a command needs next, or fails it when the function cannot read (08 R237, R240). -/
def State.issueRead (s : State) (c : Cmd) : Cmd × State :=
  match c.needs with
  | [] => (c, s)
  | n :: _ =>
    if s.dev.canWrite c.fn then
      let d := c.desc.getD []
      (c, match n with
        | .desc => s.emit (.hostRead c.fn ((s.dev.fn c.fn).table + BitVec.ofNat 64 (128 * (c.ch - (s.dev.fn c.fn).base))) 128)
        | .stops => s.emit (.hostRead c.fn (BitVec.ofNat 64 (leAt d 0x38 8)) (stopLenOf d))
        | .input => s.emit (.hostRead c.fn (BitVec.ofNat 64 (c.at 0x18 8)) c.inputLen))
    else (c.failRead, (s.updSrv (fun v => { v with fetchErr := v.fetchErr + 1 })).updFn c.fn (fun n => { n with fetchErr := true }))

/-- The package's role accepts the opcode (08 Table 8-6). RERIG is accepted at the spare whose duty covers position 0 once the loss
of the head, its tick master, has left it in SYNC (10 R331). -/
def Dev.accepts (d : Dev) (op : Nat) : Bool :=
  if [0x50, 0x51, 0x7F].contains op then true
  else if [0x30, 0x40, 0x41].contains op then d.isHead || !d.role.assigned
  else if op = 0x31 then d.isHead || (d.role.assigned && d.time.st == .sync && ((d.ws.duties ++ d.ws.store.filter (fun p => !p.own)).any (fun p => p.position == 0)))
  else d.isHead

/-- Why the packet itself is refused: status and DETAIL (08 R234, R246, R201), in R246's order. -/
def Dev.packetRefusal (d : Dev) (c : Cmd) : Option (Nat × Nat) :=
  let img := isImageOp c.op
  let bad : Nat → Option (Nat × Nat) := fun x => some (stBAD, if img then 0x14 else x)
  if !knownOps.contains c.op then bad 0x01
  else if !packetClean c.op c.packet then bad 0x01
  else if c.at 2 2 ≠ c.ch then bad 0x02
  else if !d.accepts c.op then bad 0x0A
  else if isMgmtOp c.op && c.fn != 0 then some (stAUTH, if img then 0x15 else 0x01)
  else none

/-- Collects the command of one sealed slot: it waits for its reads or is ready. A refused one on a channel without a stream reads
the descriptor that names its ring (08 R237, R244, R246). -/
def State.collectOne (s : State) (ch : Nat) : State :=
  let packet := Memory.readBytes s.dev.srv.window (256 * ch) 256
  let op := leAt packet 0 1
  let c : Cmd :=
    { ch, fn := (s.dev.owner ch).getD 0, op, seq := BitVec.ofNat 64 (leAt packet 8 8), tag := BitVec.ofNat 64 (leAt packet 0x10 8),
      packet, tick := s.tick, needs := [], desc := none, stops := [], input := [], descFailed := false, inputFailed := false,
      fetched := false, late := false, refusal := none }
  let c := { c with refusal := s.dev.packetRefusal c }
  let s := s.updSrv (fun v => { v with sealedTab := Tab.del v.sealedTab ch, collected := v.collected + 1,
                                       lastSeq := Sparse.set (fun _ => 0) v.lastSeq ch c.seq })
  let want := (readsAnyway op && c.refusal.isNone) || (s.dev.stream ch).isNone
  let hit := if want && op != 0x10 then s.dev.srv.dcache.find? (fun e => e.ch == ch && e.fn == c.fn) else none
  let (c, s) : Cmd × State := match want, hit with
    | false, _ => (c, s)
    | true, none => ({ c with needs := [.desc] }, s.updSrv (fun v => { v with dMiss := v.dMiss + 1 }))
    | true, some e =>
      let more := hasStops e.bytes && decide (e.stops.length ≠ stopLenOf e.bytes)
      ({ c with desc := some e.bytes, stops := e.stops, needs := if more then [.stops] else [] },
       s.updSrv (fun v => { v with dHit := v.dHit + 1,
                                   dcache := v.dcache.filter (fun x => x.ch != ch) ++ [e] }))
  let c := { c with needs := c.needs ++ (if c.inputLen ≠ 0 then [.input] else []) }
  let reads := !c.needs.isEmpty
  let (c, s) := s.issueRead c
  let late := reads && c.needs.isEmpty
  s.updSrv (fun v => { v with waiting := v.waiting ++ [{ c with late }] })

/-- Collects every slot sealed before the tick that begins, in ascending channel order (08 R244). While no ticks run
every seal came before the boundary (entry 3). -/
def State.collect (s : State) : State :=
  let tick := s.tick
  let runs := s.dev.time.runs
  let s := s.updSrv (fun v => { v with waiting := v.waiting.map (fun (c : Cmd) => { c with late := false }) })
  s.each ((s.dev.srv.sealedTab.filter (fun e => !runs || decide (e.2 < tick))).map (·.1)) State.collectOne

/-- The command's reads ended before this boundary (08 R240). -/
def Cmd.ready (c : Cmd) : Bool := c.needs.isEmpty && !c.late

/-- Cache entries that these commands use take effect's tick, which keeps them (08 R239). -/
def Srv.useEntries (v : Srv) (l : List Cmd) (tick : Nat) : Srv :=
  { v with dcache := v.dcache.map (fun e =>
      if l.any (fun (c : Cmd) => c.ch == e.ch && c.desc == some e.bytes) then { e with used := some tick } else e) }

/-- The commands whose reads have ended take effect at this boundary, by class and then by channel; those whose packet is refused are
answered (08 R240, R244, R246). -/
def State.schedule (s : State) : State :=
  let tick := s.tick
  let now := s.dev.srv.waiting.filter Cmd.ready
  let s := s.updSrv (fun v => { v.useEntries now tick with
    due := sortBy (fun c => 16384 * opClass c.op + c.ch) (v.due ++ now.filter (fun c => c.refusal.isNone)),
    waiting := v.waiting.filter (fun c => !c.ready) })
  s.each now (fun s c =>
    match c.refusal with
    | some (st, d) => s.reply (s.repOf c) st d true true
    | none => s)

/-- A read that a waiting command needs has come: the command's next form, and the cache (08 R237, R239, R252). -/
def State.takeRead (s : State) (c : Cmd) (data : List Byte) : Cmd × State :=
  match c.needs with
  | [] => (c, s)
  | .desc :: ns =>
    let b := sliceAt data 0 128
    let tick := s.tick
    ({ c with desc := some b, fetched := true, needs := (if hasStops b then [.stops] else []) ++ ns },
     s.updSrv (fun v => v.cachePut ⟨c.ch, c.fn, b, [], none⟩ tick))
  | .stops :: ns =>
    let b := c.desc.getD []
    let l := sliceAt data 0 (stopLenOf b)
    ({ c with stops := l, needs := ns },
     s.updSrv (fun v => { v with dcache := v.dcache.map (fun e => if e.ch = c.ch ∧ e.bytes = b then { e with stops := l } else e) }))
  | _ :: ns => ({ c with input := sliceAt data 0 c.inputLen, needs := ns }, s)

/-- DESCRIPTOR_FETCH_COMPLETE: the read that the channel's waiting command needs next completes or fails; the next read
is issued; the command takes effect at the first boundary after its last (08 R240, R252). A failed read sets FETCH_ERR. What comes
for a function whose FLR is under way is discarded and counted (12 R375, R376). -/
def stepDescriptorFetchComplete (ch : Nat) (r : FetchEnd) (s : State) : State :=
  match findIdx1 (fun (c : Cmd) => c.ch == ch && !c.needs.isEmpty) s.dev.srv.waiting 0 with
  | none => s
  | some (i, c) =>
    if (s.dev.fn c.fn).flrBusy then (match r with
      | .ok _ => s.updPcie (fun p => { p with lateCpl := p.lateCpl + 1 })
      | .failed => s)
    else
    let (c', s) : Cmd × State := match r with
      | .ok data => s.takeRead c data
      | .failed => (c.failRead, (s.updSrv (fun v => { v with fetchErr := v.fetchErr + 1 })).updFn c.fn (fun n => { n with fetchErr := true }))
    let (c', s) := s.issueRead c'
    s.updSrv (fun v => { v with waiting := v.waiting.set i c' })

/-- A write past the 4 MiB of BAR2 has no address (12 R370). -/
def execCommandSlotWrite (fn off : Nat) (data : List Byte) (s : State) : Host.Outcome State Fault Refusal :=
  if 4194304 < off + data.length then .fault .outsideBar else .next (stepCommandSlotWrite fn off data s)
def execDescriptorFetchComplete (ch : Nat) (r : FetchEnd) (s : State) : Host.Outcome State Fault Refusal :=
  .next (stepDescriptorFetchComplete ch r s)

end Sys2Proof.Machine
end

