-- ==== Sys2Proof/Machine/Links.lean ====
section
/-! DEFINITION. Vojor ports: lanes and margining, training, frames with retry, routes and their banks, VL shares
(06 R186; 10 R305 to R333). -/

namespace Sys2Proof.Machine

/-- The port carries frames: UP or DEGRADED (10 Table 10-12). -/
def Port.up (p : Port) : Bool := p.state == 2 || p.state == 3

/-- Physical lane of a logical lane; 15 for none (10 Table 10-12 LANEMAP). -/
def Port.laneOf (p : Port) (l : Nat) : Nat := fieldAt p.laneMap.toNat (4 * l) 4

/-- The spare lane: carries no logical lane and is not retired (10 R305, R312). -/
def Port.spareLane (p : Port) : Option Nat :=
  (List.range 9).find? (fun n => !p.retired.getLsbD n && !((List.range 8).any (fun l => p.laneOf l == n)))

/-- Lanes retired. -/
def Port.retiredLanes (p : Port) : Nat := ((List.range 9).filter (fun n => p.retired.getLsbD n)).length

/-- A frame is put on the wire when its port is up (10 R313). -/
def State.sendRaw (s : State) (p : Nat) (bytes : List Byte) : State :=
  if (s.dev.port p).up then s.emit (.frame p (fieldAt (leAt bytes 1 1) 0 3) bytes) else s

/-- A port starts training: EN is 1, the port is neither retired nor denied, and the CC has booted (10 R309). -/
def State.startTraining (s : State) (p : Nat) : State :=
  let x := s.dev.port p
  if x.en && x.state != 4 && !s.dev.chk.denies 5 p && decide (5 ≤ s.dev.rst.step.toNat) then
    s.updPort p (fun x => { x with state := 1, kept := x.kept || x.peer.isSome, naks := 0, eyeStale := 0x1FF })
  else s

/-- A lane retires: its traffic moves to the spare lane; without one the port stripes over 7 lanes and is DEGRADED; a
third retired lane retires the port (10 R312). -/
def State.retireLane (s : State) (p n : Nat) : State :=
  let spare := (s.dev.port p).spareLane.filter (· != n)
  let s := s.retireUnit 6 (16 * p + n) 0x40
  if 3 ≤ (s.dev.port p).retiredLanes then s.retireUnit 5 p 0x40
  else s.updPort p (fun x =>
    match (List.range 8).find? (fun l => x.laneOf l == n) with
    | none => x
    | some l =>
      let x := { x with laneMap := BitVec.ofNat 32 (putField x.laneMap.toNat (4 * l) 4 (spare.getD 15)) }
      if spare.isNone && x.state == 2 then { x with state := 3 } else x)

/-- A lane fault: logged; the first retrains the lane alone, a second within 1,000 ticks or a third within 10^6 retires it
(10 R311). -/
def State.laneFault (s : State) (p n width height : Nat) : State :=
  let x := s.dev.port p
  if x.retired.getLsbD n then s
  else
    let k := s.tick
    let s := s.logEvent 0x40 6 (16 * p + n) width height
    let within : Nat → Nat := fun w => (x.faults.filter (fun e => e.1 == n && decide (k ≤ e.2 + w))).length
    if 1 ≤ within 999 ∨ 2 ≤ within 999999 then
      (s.updPort p (fun x => { x with faults := x.faults.filter (fun e => e.1 != n) })).retireLane p n
    else s.updPort p (fun x => { x with faults := (x.faults.filter (fun e => decide (k ≤ e.2 + 999999))) ++ [(n, k)] })

/-- One lane's eye is measured; a low eye is a lane fault (06 R185, R186; 10 R311). -/
def State.measureLane (s : State) (p n width height : Nat) : State :=
  let s := s.updPort p (fun x => { x with eyes := Tab.put x.eyes n (width, height), eyeStale := x.eyeStale &&& ~~~(BitVec.ofNat 9 (2 ^ n)) })
  if width < 24 ∨ height < 12 then s.laneFault p n width height else s

/-- A round begins: each port that carries traffic starts to measure its next lane, whose figures carry STALE meanwhile (06 R185,
R186; entry 120). -/
def State.beginMargining (s : State) : State :=
  s.each (List.range 6) (fun s p => if (s.dev.port p).up then
      s.updPort p (fun x => { x with margining := true, eyeStale := x.eyeStale ||| BitVec.ofNat 9 (2 ^ x.marginLane) })
    else s)

/-- LANE_MARGINING: the measurement of the round's lane of a port ends; lanes follow in order 0 to 8, one a round (06 R186). -/
def stepLaneMargining (p n width height : Nat) (s : State) : State :=
  let x := s.dev.port p
  if p < 6 ∧ x.up ∧ x.margining ∧ n = x.marginLane then
    (s.updPort p (fun x => { x with margining := false, marginLane := (x.marginLane + 1) % 9 })).measureLane p n width height
  else s

/-- At a round's end: lanes that account for more than 10^−4 of the corrected symbols of their port's codewords, by symbol
count (10 R311; entry 25). -/
def State.laneShares (s : State) : State :=
  let l := s.dev.hk.laneSyms
  let total : Nat → Nat := fun p => ((l.filter (fun (x : Nat × Nat × Nat) => x.1 == p)).map (fun (x : Nat × Nat × Nat) => x.2.2)).sum
  let bad := l.filter (fun (e : Nat × Nat × Nat) => decide (total e.1 < 10000 * e.2.2))
  let s := s.updHk (fun h => { h with laneSyms := [] })
  s.each bad (fun s e =>
    let eye := (Tab.find (s.dev.port e.1).eyes e.2.1).getD (0, 0)
    s.laneFault e.1 e.2.1 eye.1 eye.2)

/-- LINK_RETRAIN: a RETRAIN write, EN set, or a link-down starts training (10 R309). -/
def stepLinkRetrain (p : Nat) (cause : RetrainCause) (s : State) : State :=
  match cause with
  | .enable => (s.updPort p (fun x => { x with en := true })).startTraining p
  | .linkDown => (s.updPort p (fun x => { x with state := if x.state = 4 then 4 else 0 })).startTraining p
  | .retrain => s.startTraining p

/-- Pads with zeros to whole 256-bit blocks (10 R313). -/
def padFrame (l : List Byte) : List Byte := l ++ List.replicate ((32 - l.length % 32) % 32) 0

/-- Length in bytes of a frame's payload. -/
def frameLen (f : List Byte) : Nat := fieldAt (leAt f 8 2) 0 13

/-- Bytes of a frame with its CRC and padding (10 R313). -/
def frameBytes (payload : List Byte) : Nat := (20 + payload.length + 31) / 32 * 32

/-- The VL that sends next by deficit round robin. The VL in turn goes on while its credit covers its oldest frame; a VL whose turn
comes gains its share in frames of full size, and one without a frame keeps no credit (10 R317; entry 126). -/
def Port.robin : Nat → Port → Option (Nat × Port)
  | 0, _ => none
  | n + 1, x =>
    let left := x.credit.getD x.turn 0
    let next := (x.turn + 1) % 7
    let pass : Nat → Option (Nat × Port) := fun c =>
      Port.robin n { x with turn := next, credit := (x.credit.set x.turn c).set next (x.credit.getD next 0 + 4128 * x.shares.getD next 0) }
    match x.waiting.find? (fun f => f.1 == x.turn) with
    | none => pass 0
    | some f =>
      if frameBytes f.2.2 ≤ left then some (x.turn, { x with credit := x.credit.set x.turn (left - frameBytes f.2.2) }) else pass left

/-- The VL that sends next: VL7 strictly first (10 R316, R317). -/
def Port.nextVl (x : Port) : Option (Nat × Port) :=
  if x.waiting.any (fun f => f.1 == 7) then some (7, x) else Port.robin 8 x

/-- The replay buffer of 2 MiB, and the SEQ numbers, leave room for a frame (10 R315; entry 126). -/
def Port.room (x : Port) (bytes : Nat) : Bool :=
  decide ((x.replay.map (fun f => f.2.length)).sum + bytes ≤ 2097152) && decide (x.replay.length < 4095)

/-- A frame leaves on a port: link sequence number and CRC of this hop, and its copy for retry (10 R313, R315). -/
def State.putOut (s : State) (p vl : Nat) (hdr payload : List Byte) : State :=
  let x := s.dev.port p
  let h := putField (leNat hdr) 8 3 vl
  let h := putField h 80 12 x.txSeq.toNat
  let body := leBytes 16 h ++ payload
  let f := padFrame (body ++ leBytes 4 (crc32c body).toNat)
  let s := s.updPort p (fun x => { x with txSeq := x.txSeq + 1, replay := x.replay ++ [(x.txSeq.toNat, f)],
                                          tx := x.tx + BitVec.ofNat 64 payload.length })
  s.sendRaw p f

/-- Waiting frames leave while the port is up and its replay buffer has room (10 R315 to R317). -/
def State.drainPort (p : Nat) : Nat → State → State
  | 0, s => s
  | n + 1, s =>
    match (s.dev.port p).nextVl with
    | none => s
    | some (vl, y) =>
      match findIdx1 (fun (f : Nat × List Byte × List Byte) => f.1 == vl) y.waiting 0 with
      | none => s
      | some (i, f) =>
        if y.up && y.room (frameBytes f.2.2) then
          State.drainPort p n ((s.updPort p (fun _ => { y with waiting := y.waiting.eraseIdx i })).putOut p vl f.2.1 f.2.2)
        else s

/-- Waiting frames of a port leave, as many as can. -/
def State.drain (s : State) (p : Nat) : State := State.drainPort p (s.dev.port p).waiting.length s

/-- A frame goes to a port on a VL, and leaves when its turn comes (10 R316, R317). -/
def State.transmit (s : State) (p vl : Nat) (hdr payload : List Byte) : State :=
  (s.updPort p (fun x => { x with waiting := x.waiting ++ [(vl, hdr, payload)] })).drain p

/-- LINK_TRAINING_DONE: lanes measured, delay and peer known, UP; frames not acknowledged are sent again; a peer of another
identity is reported to the head (10 R309, R310, R315; 06 R186). -/
def stepLinkTrainingDone (p : Nat) (r : TrainResult) (s : State) : State :=
  let x := s.dev.port p
  if x.state != 1 then s
  else
    let now := (r.peerPort, r.peerPkg, r.peerSerial)
    let changed := match x.peer with
      | some old => old != now
      | none => false
    let deg := decide (2 ≤ x.retiredLanes)
    let s := s.updPort p (fun x => { x with state := if deg then 3 else 2, delay := r.delayNs, peer := some now, kept := false, marginLane := 0,
                                            margining := false,
                                            retry := wrapInc x.retry x.replay.length })
    let s := s.each ((r.eyes.take 9).zipIdx) (fun s e => s.measureLane p e.2 e.1.1 e.1.2)
    let s := (s.each (s.dev.port p).replay (fun s f => s.sendRaw p f.2)).drain p
    if changed then s.emit (.message (s.dev.role.head.getD s.dev.role.pkg.toNat) 0x08 [0x12, s.dev.role.pkg.toNat, p]) else s

/-- A frame of a type may use this VL: the frame's own for bundles, Table 10-4's for the others (10 R316). -/
def typeVl (ty : Nat) : Nat :=
  match ty with
  | 0x03 => 2 | 0x04 => 2 | 0x05 => 3 | 0x06 => 5 | 0x07 => 4 | 0x08 => 5 | 0x09 => 7 | 0x0A => 5 | 0x0B => 6
  | _ => 0

/-- The bank in force, and its entry for a package ID (10 R321, Table 10-8). -/
def Lnk.table (l : Lnk) : Sparse W32 := if l.bank then l.bank1 else l.bank0
def Lnk.route (l : Lnk) (id : Nat) : W32 := Sparse.get (fun _ => 0) l.table id

/-- A frame drops for want of a route (10 R322). -/
def State.dropRoute (s : State) : State := s.updLnk (fun l => { l with dropRoute := l.dropRoute + 1 })

/-- A frame header: TYPE, FLAGS, DST, SRC, SLICE, LEN, TAG; HOPS 0 (10 Table 10-3). -/
def frameHdr (type flags dst src slice len tag : Nat) : List Byte :=
  leBytes 1 type ++ leBytes 1 flags ++ leBytes 2 dst ++ leBytes 2 src ++ leBytes 1 slice ++ leBytes 1 0 ++ leBytes 2 len ++ leBytes 2 0 ++
    leBytes 4 tag

/-- A message leaves as frames of up to 4,096 bytes, the last with LAST, through the port that the entry for its destination names
(10 R313, R314, R321). -/
def State.sendMsg (s : State) (type dst : Nat) (poison : Bool) (tag : Nat) (payload : List Byte) : State :=
  let e := (s.dev.lnk.route dst).toNat
  let port := fieldAt e 28 3
  let parts := if payload.isEmpty then [[]] else runsOf 4096 payload.length payload
  if bitAt e 31 && decide (port < 6) then
    s.each parts.zipIdx (fun s e =>
      let flags := 8 * b2n (e.2 + 1 == parts.length) + 16 * b2n poison
      s.transmit port (typeVl type) (frameHdr type flags dst s.dev.role.pkg.toNat s.dev.role.slice.toNat e.1.length tag) e.1)
  else s.dropRoute

/-- One entry of a bundle descriptor (10 Table 10-7). -/
def bundleEntryBytes (e : BundleEntry) : List Byte :=
  leBytes 4 e.stream ++ leBytes 4 e.index ++ leBytes 4 e.epoch ++ leBytes 4 (e.block % 2 ^ 22 + 2 ^ 22 * e.slot) ++
  leBytes 1 (pack [(0, b2n e.noPos), (1, b2n e.provisional), (2, b2n e.mark.isSome), (3, b2n e.poison), (4, b2n e.rebuild)]) ++
  leBytes 1 (e.mark.getD 0) ++ leBytes 2 e.target ++ leBytes 4 0

/-- A bundle descriptor (10 R320, Table 10-7). -/
def bundleDesc (b : Bundle) : List Byte :=
  leBytes 4 b.entries.length ++ leBytes 4 (pack [(0, b2n b.tack), (1, b2n b.rebuildOnly)]) ++ leBytes 4 b.epoch ++ leBytes 4 0 ++
    b.entries.flatMap bundleEntryBytes

/-- The residuals of a bundle's positions in descriptor order, in BF16 (01 R28; 10 R320). -/
def bundleData (b : Bundle) : List Byte :=
  (b.entries.filter (fun e => !e.noPos)).flatMap (fun e => e.residual.flatMap (fun x => leBytes 2 (fp32ToBf16 x).toNat))

/-- The package that the pipeline's messages go to next: as the head's plan or its ROUTE frame says (10 R319, R325). -/
def Dev.nextPkg (d : Dev) : Option Nat := d.lnk.next

/-- A bundle leaves for the next package: a BUNDLE_DESC message, then a BUNDLE_DATA message, both tagged with the tick
(01 R28; 10 R320). -/
def State.sendBundle (s : State) (b : Bundle) : State :=
  let s := s.emit (.bundle b)
  match s.dev.nextPkg with
  | none => s
  | some q =>
    let s := s.sendMsg 0x01 q false (b.tick % 2 ^ 32) (bundleDesc b)
    if (bundleData b).isEmpty then s else s.sendMsg 0x02 q (b.entries.any (·.poison)) (b.tick % 2 ^ 32) (bundleData b)

/-- One entry of a verdict stamp (11 Table 11-6). -/
def stampEntryBytes (e : StampEntry) : List Byte :=
  leBytes 4 e.stream ++ leBytes 4 e.index ++ leBytes 1 e.result ++ leBytes 1 e.cause ++ leBytes 1 e.kind ++
  leBytes 1 (pack [(0, b2n e.clamped), (1, min 3 e.replays), (3, min 31 e.slips)]) ++ leBytes 4 e.unit

/-- A verdict stamp (11 Table 11-5). -/
def stampBytes (x : Stamp) : List Byte :=
  leBytes 2 x.pkg ++ leBytes 2 0 ++ leBytes 8 x.tick ++ leBytes 8 x.scrub ++ leBytes 4 x.stretch ++ leBytes 4 x.entries.length ++
    leBytes 4 0 ++ x.entries.flatMap stampEntryBytes

/-- A VERDICT message leaves for the next package on the pipeline path (10 R319; 11 R346). -/
def State.sendVerdict (s : State) (stamps : List Stamp) : State :=
  let s := s.emit (.verdict stamps)
  match s.dev.nextPkg with
  | none => s
  | some q => s.sendMsg 0x09 q false (s.tick % 2 ^ 32) (leBytes 4 stamps.length ++ leBytes 12 0 ++ stamps.flatMap stampBytes)

/-- An image page goes on: along the pipeline path in position order, then to the spares (07 R204; 10 Table 10-4). -/
def State.sendPage (s : State) (n : Nat) (page : List Byte) : State :=
  let s := s.emit (.page n page)
  match s.dev.lnk.pageNext with
  | none => s
  | some q => s.sendMsg 0x05 q false n page

/-- Header with HOPS raised by 1. -/
def bumpHops (hdr : List Byte) : List Byte := leBytes 16 (putField (leNat hdr) 56 8 (leAt hdr 7 1 + 1))

/-- A frame for another package is forwarded by the entry for DST (10 R322 step 4). -/
def State.forward (s : State) (hdr payload : List Byte) : State :=
  let e := (s.dev.lnk.route (fieldAt (leAt hdr 2 2) 0 12)).toNat
  let port := fieldAt e 28 3
  let ty := leAt hdr 0 1
  let own := s.dev.lnk.accept.getLsbD (leAt hdr 6 1)
  let vl := if ty = 1 ∨ ty = 2 then (if own then 0 else 1) else typeVl ty
  if bitAt e 31 && decide (port < 6) then s.transmit port vl (bumpHops hdr) payload else s.dropRoute

/-- An accepted frame joins its message, which is complete with its LAST frame (10 R314); what a complete message does is
the row of its type (entry 26). -/
def State.acceptFrame (s : State) (hdr payload : List Byte) : State :=
  let key := (leAt hdr 0 1, fieldAt (leAt hdr 4 2) 0 12, fieldAt (leAt hdr 2 2) 0 12, leAt hdr 12 4)
  let same : Nat × Nat × Nat × Nat × List Byte → Bool := fun m => (m.1, m.2.1, m.2.2.1, m.2.2.2.1) == key
  s.updLnk (fun l =>
    if bitAt (leAt hdr 1 1) 3 then { l with msgs := l.msgs.filter (fun m => !same m) }
    else if l.msgs.any same then
      { l with msgs := l.msgs.map (fun m => if same m then (m.1, m.2.1, m.2.2.1, m.2.2.2.1, m.2.2.2.2 ++ payload) else m) }
    else { l with msgs := l.msgs ++ [(key.1, key.2.1, key.2.2.1, key.2.2.2, payload)] })

/-- SRC is the head of this package's slice. -/
def Dev.fromHead (d : Dev) (src : Nat) : Bool := d.role.assigned && d.role.head == some src

/-- A DIRECTED frame: its path is 16 port numbers of 4 bits at the payload's start, 0xF after its end (10 R323;
entry 27). -/
def State.directed (s : State) (hdr payload : List Byte) : State :=
  let path := leAt payload 0 8
  let next := path % 16
  let ty := leAt hdr 0 1
  if leAt hdr 7 1 = 16 then s.dropRoute
  else if next = 15 then
    if (ty = 0x0A ∨ ty = 0x08) ∧ (s.dev.role.assigned = false ∨ s.dev.fromHead (fieldAt (leAt hdr 4 2) 0 12) = true) then
      s.acceptFrame hdr (payload.drop 8)
    else s
  else if next < 6 then
    s.transmit next (fieldAt (leAt hdr 1 1) 0 3) (bumpHops hdr) (leBytes 8 (path / 16 + 15 * 2 ^ 60) ++ payload.drop 8)
  else s.dropRoute

/-- A frame that passed its CRC (10 R322). A reserved TYPE is dropped and counted (10 Table 10-4; entry 28). -/
def State.takeFrame (s : State) (hdr payload : List Byte) : State :=
  let ty := leAt hdr 0 1
  if ty = 0 ∨ 0x0B < ty then s.dropRoute
  else if bitAt (leAt hdr 1 1) 5 then s.directed hdr payload
  else if leAt hdr 7 1 = 8 then s.dropRoute
  else if fieldAt (leAt hdr 2 2) 0 12 = s.dev.role.pkg.toNat then
    if s.dev.lnk.accept.getLsbD (leAt hdr 6 1) then s.acceptFrame hdr payload
    else s.updLnk (fun l => { l with dropSlice := l.dropSlice + 1 })
  else s.forward hdr payload

/-- A NAK names the SEQ expected next; frames are discarded until it arrives (10 R315). -/
def State.sendNak (s : State) (p : Nat) : State :=
  (s.updPort p (fun x => { x with discard := true })).emit (.nak p (s.dev.port p).rxSeq.toNat)

/-- The codewords of a frame: corrected and uncorrectable symbols count (10 R307, Table 10-12). -/
def State.countFec (s : State) (p : Nat) (lanes : List (Nat × Nat)) (bad : Bool) : State :=
  let s := s.updPort p (fun x => { x with fecCE := wrapInc x.fecCE (lanes.map (·.2)).sum, fecUE := wrapInc x.fecUE (b2n bad) })
  s.updHk (fun h => { h with laneSyms := lanes.foldl (fun l e =>
    if l.any (fun x => x.1 == p && x.2.1 == e.1) then l.map (fun x => if x.1 = p ∧ x.2.1 = e.1 then (p, e.1, x.2.2 + e.2) else x)
    else l ++ [(p, e.1, e.2)]) h.laneSyms })

/-- FRAME_RECEIVE: CRC, order and retry at the port, then acceptance, forwarding or a drop (10 R313, R315, R322, R323). -/
def stepFrameReceive (p : Nat) (bytes : List Byte) (lanes : List (Nat × Nat)) (bad : Bool) (s : State) : State :=
  if !(s.dev.port p).up then s
  else
    let s := s.countFec p lanes bad
    let n := frameLen bytes
    let body := bytes.take (16 + n)
    let crcOk := !bad && decide (20 + n ≤ bytes.length) && crc32c body == BitVec.ofNat 32 (leAt bytes (16 + n) 4)
    if !crcOk then (if bad then s else s.updPort p (fun x => { x with crc := x.crc + 1 })).sendNak p
    else
      let x := s.dev.port p
      let seq := fieldAt (leAt bytes 10 2) 0 12
      if seq ≠ x.rxSeq.toNat then (if x.discard then s else s.sendNak p)
      else
        let s := s.updPort p (fun x => { x with rxSeq := x.rxSeq + 1, discard := false, rx := x.rx + BitVec.ofNat 64 n })
        (s.emit (.ack p seq)).takeFrame (bytes.take 16) ((bytes.drop 16).take n)

/-- LINK_ACK: a cumulative ACK frees the frames up to the one it names (10 R315). -/
def stepLinkAck (p seq : Nat) (s : State) : State :=
  match findIdx1 (fun (f : Nat × List Byte) => f.1 == seq) (s.dev.port p).replay 0 with
  | none => s
  | some (i, _) => (s.updPort p (fun x => { x with replay := x.replay.drop (i + 1), naks := 0 })).drain p

/-- LINK_NAK: the transmitter resends from the named frame; the eighth in a row of one frame takes the port down, and it
retrains (10 R315). -/
def stepLinkNak (p seq : Nat) (s : State) : State :=
  match findIdx1 (fun (f : Nat × List Byte) => f.1 == seq) (s.dev.port p).replay 0 with
  | none => if seq = (s.dev.port p).txSeq.toNat then (s.updPort p (fun x => { x with replay := [], naks := 0 })).drain p else s
  | some (i, _) =>
    let s := s.updPort p (fun x => { x with replay := x.replay.drop i, naks := if i = 0 then x.naks + 1 else 1 })
    if 8 ≤ (s.dev.port p).naks then
      (s.updPort p (fun x => { x with state := if x.state = 4 then 4 else 0 })).startTraining p
    else
      let fs := (s.dev.port p).replay
      ((s.updPort p (fun x => { x with retry := wrapInc x.retry fs.length })).each fs (fun s f => s.sendRaw p f.2)).drain p

/-- A share register's packing: VL0 to VL3, VL4 to VL6 (10 Table 10-13). -/
def packShares (l : List Nat) : W32 := BitVec.ofNat 32 (leNat (l.map (BitVec.ofNat 8)))

/-- VL_SHARE_WRITE: a write of VLSHARE1 checks both registers (10 R333). -/
def stepVlShareWrite (p : Nat) (v : W32) (s : State) : State :=
  let x := s.dev.port p
  let l := (List.range 4).map (fun i => fieldAt x.held0.toNat (8 * i) 8) ++ (List.range 3).map (fun i => fieldAt v.toNat (8 * i) 8)
  if l.all (fun n => decide (1 ≤ n)) && l.sum == 100 then s.updPort p (fun x => { x with sharesDue := some l })
  else (s.updPort p (fun x => { x with held0 := packShares (x.shares.take 4) })).updLnk (fun k => { k with shareRefused := true })

/-- Shares that are due take effect (10 R333). -/
def State.applyShares (s : State) : State :=
  s.each (List.range 6) (fun s p =>
    match (s.dev.port p).sharesDue with
    | some l => s.updPort p (fun x => { x with shares := l, sharesDue := none })
    | none => s)

/-- ROUTE_WRITE: LNK_ROUTE_WR; GO writes the entry into both banks, for an ID that the head does not own (10 R323). -/
def stepRouteWrite (v : W32) (s : State) : State :=
  let id := fieldAt v.toNat 0 12
  let e := BitVec.ofNat 32 (fieldAt v.toNat 27 1 * 2 ^ 31 + fieldAt v.toNat 28 3 * 2 ^ 28)
  let s := s.updLnk (fun l => { l with rwPort := BitVec.ofNat 3 (fieldAt v.toNat 28 3), rwValid := v.getLsbD 27, rwId := BitVec.ofNat 12 id })
  if !v.getLsbD 31 then s
  else if s.dev.lnk.headIds.contains id then s.updLnk (fun l => { l with wrRefused := true })
  else s.updLnk (fun l => { l with
    bank0 := Sparse.set (fun _ => 0) l.bank0 id e, bank1 := Sparse.set (fun _ => 0) l.bank1 id e,
    pf0Ids := if l.pf0Ids.contains id then l.pf0Ids else l.pf0Ids ++ [id] })

/-- The head's writes to the idle bank; an ID that PF0 owns is refused (10 R321, R323). -/
def State.writeIdle (s : State) (entries : List (Nat × W32)) : State :=
  s.each entries (fun s e =>
    if s.dev.lnk.pf0Ids.contains e.1 then s.updLnk (fun l => { l with wrRefused := true })
    else s.updLnk (fun l =>
      let v := e.2 &&& 0xF0000000
      let l := { l with headIds := if l.headIds.contains e.1 then l.headIds else l.headIds ++ [e.1] }
      if l.bank then { l with bank0 := Sparse.set (fun _ => 0) l.bank0 e.1 v } else { l with bank1 := Sparse.set (fun _ => 0) l.bank1 e.1 v }))

/-- ROUTE_FRAME: a package that is unassigned, or whose head sent it, takes routing entries, accept mask, role and timing
parent, and the tick of the switch that puts them in force (10 R321, R323, R325). A package retired as a whole takes no place in a
slice (11 R455). -/
def stepRouteFrame (src : Nat) (entries : List (Nat × W32)) (accept : Option Nat) (role : Option RoleWrite)
    (parent switchTick : Option Nat) (s : State) : State :=
  if s.dev.role.assigned && !s.dev.fromHead src then s
  else
    let role := role.filter (fun w => !w.assigned || !s.dev.chk.isRetired 0 0)
    let s := s.writeIdle (entries.filter (fun e => decide (e.1 < 4096)))
    let s := s.updRole (fun r => { r with
      roleDue := if role.isSome then role else r.roleDue, headDue := if role.isSome then some src else r.headDue,
      acceptDue := if accept.isSome then accept else r.acceptDue, parentDue := if parent.isSome then parent else r.parentDue })
    s.updLnk (fun l => { l with switchTick := if switchTick.isSome then switchTick else l.switchTick })

/-- The role, parent and accept mask that were written take effect. A package that takes a parent enters SYNC; one without
a slice is its own master and has no routes of a head (05 R146; 10 R325, R328). -/
def State.switchRole (s : State) : State :=
  let r := s.dev.role
  let s := match r.acceptDue with
    | some m => s.updLnk (fun l => { l with accept := BitVec.ofNat 256 m })
    | none => s
  let s := match r.roleDue with
    | some w =>
      let s := s.updRole (fun x => { x with
        assigned := w.assigned, slice := if w.assigned then BitVec.ofNat 8 w.slice else 0,
        role := if w.assigned then BitVec.ofNat 3 w.role else 0, pkg := BitVec.ofNat 12 w.pkg,
        position := if w.assigned then w.position else 0xFFFF, parent := if w.assigned && w.role != 1 then x.parent else none,
        head := if w.assigned then x.headDue else none })
      s.updLnk (fun l => { l with next := w.next, pageNext := w.pageNext, headIds := if w.assigned then l.headIds else [] })
    | none => s
  let s := if r.parentDue.isSome then s.updRole (fun x => { x with parent := x.parentDue }) else s
  let sync := r.parentDue.isSome && !s.dev.master && s.dev.time.st != .stopped
  let s := if sync || (r.parentDue.isSome && r.roleDue.isSome && !s.dev.master) then
      s.updTime (fun t => { t with st := .sync, synced := false, lockRun := 0, missRun := 0, freeTicks := 0 })
    else s
  s.updRole (fun x => { x with roleDue := none, acceptDue := none, parentDue := none, headDue := none })

/-- ROUTE_BANK_SWITCH: at the boundary that opens the ordered tick (10 R321). -/
def stepRouteBankSwitch (s : State) : State :=
  match s.dev.lnk.switchTick with
  | some t => if t ≤ s.tick then (s.updLnk (fun l => { l with bank := !l.bank, switchTick := none })).switchRole else s
  | none => s

def execLaneMargining (port lane width height : Nat) (s : State) : Host.Outcome State Fault Refusal :=
  .next (stepLaneMargining port lane width height s)
def execLinkRetrain (port : Nat) (cause : RetrainCause) (s : State) : Host.Outcome State Fault Refusal :=
  .next (stepLinkRetrain port cause s)
def execLinkTrainingDone (port : Nat) (r : TrainResult) (s : State) : Host.Outcome State Fault Refusal :=
  .next (stepLinkTrainingDone port r s)
def execFrameReceive (port : Nat) (bytes : List Byte) (lanes : List (Nat × Nat)) (bad : Bool) (s : State) :
    Host.Outcome State Fault Refusal := .next (stepFrameReceive port bytes lanes bad s)
def execLinkAck (port seq : Nat) (s : State) : Host.Outcome State Fault Refusal := .next (stepLinkAck port seq s)
def execLinkNak (port seq : Nat) (s : State) : Host.Outcome State Fault Refusal := .next (stepLinkNak port seq s)
def execVlShareWrite (port : Nat) (value : W32) (s : State) : Host.Outcome State Fault Refusal := .next (stepVlShareWrite port value s)
def execRouteWrite (value : W32) (s : State) : Host.Outcome State Fault Refusal := .next (stepRouteWrite value s)
def execRouteFrame (src : Nat) (entries : List (Nat × W32)) (accept : Option Nat) (role : Option RoleWrite)
    (parent switchTick : Option Nat) (s : State) : Host.Outcome State Fault Refusal :=
  .next (stepRouteFrame src entries accept role parent switchTick s)
def execRouteBankSwitch (s : State) : Host.Outcome State Fault Refusal := .next (stepRouteBankSwitch s)

end Sys2Proof.Machine
end

