-- ==== Sys2Proof/Machine/Kv.lean ====
section
/-! DEFINITION. KV blocks and the prefix table at the head (09 R282 to R292; 07 R457). -/

namespace Sys2Proof.Machine

/-- Epoch of positions that enter now: the staged one once the tack marker has gone (07 R219). -/
def Dev.entryEpoch (d : Dev) : Nat :=
  if d.fab.markerSeen.isSome && d.ws.stage != 0 then d.ws.stage else d.ws.epoch

/-- Pool blocks that a stream holds: its blocks, and those parked in place or under copy (09 R290, R292). -/
def Stream.poolBlocks (t : Stream) : List Nat :=
  t.blocks.filter (· != noBlock) ++
  (match t.park with
   | some p => if !p.expired && !p.epochFreed && (p.inPlace || p.copying.isSome || p.restored) then p.blocks.map (·.2) else []
   | none => [])

/-- Blocks that streams and EMBEDs hold. -/
def Srv.heldBlocks (v : Srv) : List Nat := (v.streams.flatMap (fun e => e.2.poolBlocks)).eraseDups

/-- Blocks that only entries with REFS 0 hold (09 Table 9-8 KV_CACHED). -/
def Srv.cachedBlocks (v : Srv) : List Nat :=
  (v.prefixTab.filter (fun e => decide (e.2.refs = 0))).map (·.2.block)

/-- Reservations of admitted generations (09 R297). -/
def Srv.reserved (v : Srv) : Nat :=
  (v.streams.map (fun e => match e.2.gen with
    | some g => g.reserve
    | none => 0)).sum

/-- A block is in use: held or cached. -/
def Srv.inUse (v : Srv) (b : Nat) : Bool := v.heldBlocks.contains b || v.prefixTab.any (fun e => e.2.block == b)

/-- Blocks neither held nor cached, below the pool size in force. -/
def Srv.unheld (v : Srv) : Nat :=
  v.kvTotal - ((v.heldBlocks ++ (v.prefixTab.map (·.2.block))).eraseDups.filter (fun b => decide (b < v.kvTotal))).length

/-- SRV_KV_FREE: blocks neither held, reserved nor cached (09 Table 9-8). -/
def Srv.freeBlocks (v : Srv) : Nat := v.unheld - v.reserved

/-- The lowest free block ID; the order is the model's (entry 13). -/
def Srv.nextBlock (v : Srv) : Option Nat :=
  let used := (v.heldBlocks ++ v.prefixTab.map (·.2.block)).filter (fun b => decide (b < v.kvTotal))
  (List.range (min v.kvTotal (used.length + 1))).find? (fun b => !used.contains b)

/-- The prefix entry that names a block. -/
def Srv.entryOf (v : Srv) (b : Nat) : Option (Nat × PrefixEntry) := v.prefixTab.find? (fun e => e.2.block == b)

/-- Drops a stream's references to shared blocks (09 R287). -/
def Srv.dropRefs (v : Srv) (bs : List Nat) : Srv :=
  { v with prefixTab := v.prefixTab.map (fun e => if bs.contains e.2.block then (e.1, { e.2 with refs := e.2.refs - 1 }) else e) }

/-- A block is private to a stream: it is its only holder and no entry names it (09 R290). -/
def Srv.isPrivate (v : Srv) (ch b : Nat) : Bool :=
  (v.entryOf b).isNone && !(v.streams.any (fun e => e.1 != ch && e.2.blocks.contains b))

/-- Frees a stream's blocks and references, parked blocks included (09 R287). -/
def State.freeStream (s : State) (ch : Nat) : State :=
  match s.dev.stream ch with
  | none => s
  | some t =>
    let s := s.updSrv (fun v => v.dropRefs (t.blocks.filter (· != noBlock)))
    s.updStream ch (fun t => { t with blocks := [], kv := 0, oldKv := 0, rebuild := none,
                                      park := t.park.map (fun p => { p with blocks := [], restored := false }) })

/-- Key, bucket of a hash (09 R283). -/
def hashKey (h : W256) : BitVec 128 := h.setWidth 128
def hashBucket (h : W256) : Nat := fieldAt h.toNat 128 32 % 262144

/-- The entry for a hash. -/
def Srv.lookup (v : Srv) (h : W256) : Option (Nat × PrefixEntry) :=
  v.prefixTab.find? (fun e => e.1 / 8 == hashBucket h && e.2.key == hashKey h)

/-- The age of an entry (09 R285). -/
def PrefixEntry.age (e : PrefixEntry) (tick : Nat) : Nat := (BitVec.ofNat 32 tick - e.lastUse).toNat

/-- The entry with REFS 0 and the oldest LAST_USE; the lowest key among equals (09 R285, R286). -/
def oldestCached (tick : Nat) (l : List (Nat × PrefixEntry)) : Option (Nat × PrefixEntry) :=
  (l.filter (fun e => decide (e.2.refs = 0))).foldl (fun b e =>
    match b with
    | none => some e
    | some x => if x.2.age tick < e.2.age tick then some e else some x) none

/-- The chain hashes of a stream's full blocks follow its history and the epoch (09 R270, R282). -/
def State.rehash (s : State) (ch : Nat) : State :=
  let e := s.dev.entryEpoch
  let d := s.dev
  s.updStream ch (fun t => { t with hashes := chainHashes e (d.tenant t.desc.tenant).scope t.hist (t.hist.length / 64) })

/-- An acceptance mark of a stream: its first n provisional entries become ordinary and drain to the pool, the others go (09 R280). -/
def Fab.applyMark (b : Fab) (stream n : Nat) : Fab :=
  let prov := sortBy id ((b.hot.filter (fun h => h.stream == stream && h.provisional)).map (·.index))
  let keep := prov.take n
  { b with hot := b.hot.filterMap (fun h =>
      if h.stream = stream ∧ h.provisional = true then (if keep.contains h.index then some { h with provisional := false } else none)
      else some h) }

/-- Inserts a stream's block b under its hash (09 R285). A skipped insertion leaves the block private. -/
def State.insertPrefix (s : State) (h : W256) (block : Nat) : State :=
  let v : Srv := s.dev.srv
  let bucket : List (Nat × PrefixEntry) := v.prefixTab.filter (fun e => e.1 / 8 == hashBucket h)
  let skip := s.updSrv (fun v => { v with skips := v.skips + 1 })
  if (v.lookup h).isSome || (v.entryOf block).isSome || s.dev.fab.poisonBlocks.contains block then skip
  else
    let free := (upFrom (8 * hashBucket h) 8).find? (fun k => !(bucket.any (fun e => e.1 == k)))
    let place := match free with
      | some k => some k
      | none => (oldestCached s.tick bucket).map (fun (e : Nat × PrefixEntry) => e.1)
    match place with
    | none => skip
    | some k =>
      let refs := (v.streams.filter (fun (e : Nat × Stream) => e.2.blocks.contains block)).length
      s.updSrv (fun v => { v with inserts := v.inserts + 1,
                                  prefixTab := Tab.put v.prefixTab k ⟨hashKey h, block, refs, BitVec.ofNat 32 s.tick⟩ })

/-- Frees one cached block, the oldest (09 R286). -/
def State.freeOneCached (s : State) : State :=
  match oldestCached s.tick s.dev.srv.prefixTab with
  | some (k, _) => s.updSrv (fun v => { v with prefixTab := Tab.del v.prefixTab k })
  | none => s

/-- A parked stream expires: its blocks are freed and its references dropped (09 R291). -/
def State.expirePark (s : State) (ch : Nat) : State :=
  (s.freeStream ch).updStream ch (fun t => { t with park := t.park.map (fun p => { p with expired := true }) })

/-- The stream parked in place with the earliest p whose blocks can be reclaimed (09 R292). -/
def Srv.earliestInPlace (v : Srv) : Option Nat :=
  (v.streams.foldl (fun (b : Option (Nat × Nat)) e =>
    match e.2.park with
    | some p =>
      if e.2.st == .parked && p.inPlace && !p.expired && p.copying.isNone && p.resuming.isNone then
        (match b with
         | none => some (p.p, e.1)
         | some x => if p.p < x.1 then some (p.p, e.1) else some x)
      else b
    | none => b) none).map (·.2)

/-- Frees cached blocks, then blocks parked in place, until n blocks are free and unreserved or none is left
(09 R286, R292); the fuel bounds the entries and streams. -/
def State.reclaim (n : Nat) : Nat → State → State
  | 0, s => s
  | k + 1, s =>
    if n ≤ s.dev.srv.freeBlocks then s
    else if (oldestCached s.tick s.dev.srv.prefixTab).isSome then State.reclaim n k s.freeOneCached
    else match s.dev.srv.earliestInPlace with
      | some ch => State.reclaim n k (s.expirePark ch)
      | none => s

def State.reclaimFor (s : State) (n : Nat) : State :=
  State.reclaim n (s.dev.srv.prefixTab.length + s.dev.srv.streams.length) s

/-- Blocks that can be had: free, cached, and parked in place (09 R297 test 6). -/
def Srv.available (v : Srv) : Nat :=
  v.freeBlocks + v.cachedBlocks.length +
  (v.streams.map (fun e => match e.2.park with
    | some p => if e.2.st == .parked && p.inPlace && !p.expired && p.resuming.isNone then p.blocks.length else 0
    | none => 0)).sum

/-- The KV pool of the package and the count that MIX keeps above the new size (07 R457): a smaller pool frees its
excess at the first boundary at which no stream holds a block there. The streams are the head's (entry 117). -/
def State.shrinkPool (s : State) : State :=
  if s.dev.isHead && decide (s.dev.srv.kvTotal < s.dev.ws.pool) &&
      !(s.dev.srv.heldBlocks.any (fun b => decide (s.dev.srv.kvTotal ≤ b))) then
    s.updWs (fun w => { w with pool := s.dev.srv.kvTotal })
  else s

/-- A pool block is poisoned slice-wide: its prefix entry goes (11 Table 11-4, 09 R286). -/
def State.poisonBlock (s : State) (b : Nat) : State :=
  (s.updFab (fun f => { f with poisonBlocks := if f.poisonBlocks.contains b then f.poisonBlocks else f.poisonBlocks ++ [b] })).updSrv
    (fun v => { v with prefixTab := v.prefixTab.filter (fun e => e.2.block != b) })

end Sys2Proof.Machine
end

