-- ==== Sys2Proof/Machine/Sluice.lean ====
section
/-! DEFINITION. The sluice: quantities, admission tests, prefix matches at admission (09 R284, R296 to R299). Rates are
exact rationals (entry 18). -/

namespace Sys2Proof.Machine

/-- Rate factor of this package's DLE, 0 to 1 (04 R123). -/
def Dev.dleFactor (d : Dev) : Rat := (d.dlePhi : Rat) / 64

/-- Number of layer packages. -/
def Dev.layerCount (d : Dev) : Nat := (d.lnk.members.filter (fun m => m.role == 2)).length

/-- The least slot fraction f reported by any member, in 1/16, this package's own among them (15 R427). -/
def Dev.fMin (d : Dev) : Nat := (d.lnk.members.map (·.frac)).foldl min d.hk.frac

/-- The image in service, or an empty header. -/
def Dev.hdr (d : Dev) : ImgHdr := d.ws.img.getD {}

/-- Ticks of a full LM head pass: its bytes, one per weight, at 12.3 TB/s (01 R30). -/
def Dev.lmTicks (d : Dev) : Nat := ceilDiv d.hdr.lmMac (12300000 * d.time.inForce)

/-- Step length T_s(k) (09 R278). -/
def Dev.stepLen (d : Dev) (k : Nat) : Nat := 2 * d.layerCount + d.lmTicks + 2 + d.hdr.draftTicks * k

/-- Admitted generations: (stream, generation). -/
def Dev.admittedGens (d : Dev) : List (Stream × Gen) :=
  d.srv.streams.filterMap (fun e => match e.2.gen with
    | some g => if g.admitted.isSome then some (e.2, g) else none
    | none => none)

/-- Mean context of the admitted streams, 0 with none. -/
def Dev.meanContext (d : Dev) : Rat :=
  let l := d.admittedGens
  if l.isEmpty then 0 else ((l.map (fun e => e.1.hist.length)).sum : Rat) / l.length

/-- The rates that the layer packages reported, this one's own among them where it runs layers (09 Table 9-5, R299; entry 19). -/
def Dev.rates (d : Dev) : List RateReport :=
  (d.lnk.members.filter (fun m => m.role == 2)).map (·.rate) ++ (if d.ws.layers.isEmpty then [] else [d.ownRate])

/-- Φ: the smallest DLE rate factor among the layer packages (09 Table 9-5). -/
def Dev.phiMin (d : Dev) : Rat := ((d.rates.map (·.phi)).foldl min 64 : Nat) / 64

/-- Positions per tick that a package admits whose DLE runs x weights of a layer and its attention at context c: n of 04 R120 under
the package's rate factor. -/
def Dev.tier2Slots (d : Dev) (r : RateReport) (c : Rat) : Rat :=
  (d.time.inForce : Rat) * r.phi / 64 / ((r.dleWeights : Rat) / 420000000 + d.hdr.attnMac * c / 512000000)

/-- S of Table 9-5: the least of the image's slots under f_min, the KV bound and the attention bound; a layer that a clamp action
switched lowers it: half the slots under NARROW, R120's count on the DLE (04 R108; 09 R299). -/
def Dev.slotsS (d : Dev) : Rat :=
  let img := (d.hdr.slots : Rat) / 256 * d.fMin / 16
  let c := d.meanContext
  let p : Rat := d.time.inForce
  let kv := if c = 0 ∨ d.hdr.kvBytes = 0 then img else 12300000 * p / (d.hdr.kvBytes * c)
  let at_ := if c = 0 ∨ d.hdr.attnMac = 0 then img else 512000000 * d.phiMin * p / (d.hdr.attnMac * c)
  let narrow := if d.rates.any (·.narrow) then img / 2 else img
  ((d.rates.filter (fun r => r.dleWeights != 0)).map (fun r => d.tier2Slots r c)).foldl min (min narrow (min kv at_))

/-- L: LM-head rate in positions per µs (09 Table 9-5). -/
def Dev.lmRate (d : Dev) : Rat :=
  if d.hdr.lmMac = 0 then 0 else 512000000 * d.dleFactor / d.hdr.lmMac

/-- A decoding stream's head load per µs (09 Table 9-5 h_i). -/
def Dev.headLoad (d : Dev) (k ctx : Nat) : Rat :=
  let rho : Rat := if d.hdr.lmMac = 0 then 0 else (d.hdr.draftAttnMac * ctx : Nat) / d.hdr.lmMac
  (k + 1 + rho * k) / (d.stepLen k * d.time.inForce : Nat)

/-- A decoding stream's slot load per tick (d_i). -/
def Dev.slotLoad (d : Dev) (k : Nat) : Rat := ((k + 1 : Nat) : Rat) / (d.stepLen k : Nat)

/-- Decoding streams. -/
def Dev.decoders (d : Dev) : List (Stream × Gen) := d.admittedGens.filter (fun e => e.1.st == .decode)

def Dev.sumHead (d : Dev) : Rat := (d.decoders.map (fun e => d.headLoad e.1.k e.1.hist.length)).sum
def Dev.sumSlots (d : Dev) : Rat := (d.decoders.map (fun e => d.slotLoad e.1.k)).sum

/-- Positions a generation still has to prefill. -/
def Gen.left (g : Gen) (t : Stream) : Nat :=
  let stop := t.hist.length
  let a := max g.next t.kv
  let skipped := if a ≤ g.skip.1 then g.skip.2 - g.skip.1 else g.skip.2 - a
  (stop - a) - min (stop - a) skipped

/-- The ceiling of a non-negative rational. -/
def ratCeil (x : Rat) : Nat := (-((-x).floor)).toNat

/-- History blocks whose 64 positions have KV. -/
def Stream.filled (t : Stream) : Nat := min t.kv t.hist.length / 64

/-- What prefix matches give a stream at admission: matched entries in index order, from the first full block that is not filled;
never the block of the last position (09 R284). -/
def Dev.prefixMatch (d : Dev) (t : Stream) : List (Nat × PrefixEntry) :=
  if t.desc.noPrefix || t.hist.isEmpty then []
  else
    let full := t.hist.length / 64
    let hs := chainHashes d.entryEpoch (d.tenant t.desc.tenant).scope t.hist full
    let cand := (hs.drop t.filled).map d.srv.lookup
    let got := (cand.takeWhile (·.isSome)).filterMap id
    got.take ((t.hist.length - 1) / 64 - t.filled)

/-- Positions below this index are held or matched: those with KV, and those that n matched blocks cover. -/
def Stream.covered (t : Stream) (n : Nat) : Nat := max (min t.kv t.hist.length) (if n = 0 then 0 else 64 * (t.filled + n))

/-- Admission answers (09 R297). -/
inductive Verdict
  | refuse (detail : Nat)
  | queue
  | expire
  | admitted
deriving DecidableEq, Repr

/-- New blocks of a generation: a match may stand in for a block that is held partly filled (09 R284, Table 9-5 B_g). -/
def newBlocks (t : Stream) (maxNew matched : Nat) : Nat :=
  ceilDiv (t.hist.length + maxNew) 64 - max t.blocks.length (if matched = 0 then 0 else t.filled + matched)

/-- Positions that the generation prefills after matches, the last position always among them (09 R271). -/
def prefillCount (t : Stream) (matched : Nat) : Nat :=
  max 1 (t.hist.length - t.covered matched)

/-- Blocks a tenant holds, a shared block once (09 R297). -/
def Dev.tenantBlocks (d : Dev) (tn : Nat) : Nat :=
  ((d.srv.streams.filter (fun e => e.2.desc.tenant == tn)).flatMap (fun e => e.2.poolBlocks)).eraseDups.length

def Dev.tenantReserve (d : Dev) (tn : Nat) : Nat :=
  ((d.srv.streams.filter (fun e => e.2.desc.tenant == tn)).map (fun e => match e.2.gen with
    | some g => g.reserve
    | none => 0)).sum

/-- A stream in PREFILL with work left, as test 9 sees it: tenant, priority, order, positions left, effect tick,
FIRST_DEADLINE. -/
structure Backlog where
  tenant : Nat
  priority : Nat
  order : Nat
  left : Nat
  effect : Nat
  deadline : Nat
deriving DecidableEq, Repr

/-- Test 9: every first-token deadline still holds after admission (09 Table 9-6). -/
def Dev.test9 (d : Dev) (l : List Backlog) (load : Rat) (now : Nat) : Bool :=
  let w : Rat := (((l.filter (fun b => decide (0 < b.left))).map (·.tenant)).eraseDups.map (fun t => (d.tenant t).weight)).sum
  l.all (fun b => b.deadline == 0 ||
    (let q := ((l.filter (fun x => x.tenant == b.tenant && (decide (b.priority < x.priority) ||
        (x.priority == b.priority && decide (x.order < b.order))))).map (·.left)).sum
     let r := (d.slotsS - load) * (d.tenant b.tenant).weight / w
     if r ≤ 0 ∨ w = 0 then false
     else decide (now + ratCeil ((q + b.left : Nat) / r) + d.stepLen 0 + d.srv.slipAllow.toNat ≤ b.effect + b.deadline)))

/-- Under DRAIN no generation is admitted from the command's collection to tick m + g (07 R226). -/
def Dev.draining (d : Dev) : Bool :=
  match d.ws.tack with
  | some k => k.policy == 2 && (match k.marker with
    | none => true
    | some m => decide (d.time.tick ≤ m + k.gap))
  | none => false

/-- The tick m whose bundle the tack marker ends, once it is placed (07 R219). -/
def Ws.markerAt (w : Ws) : Option Nat := w.tack.bind (·.marker)

/-- The tests that an EMBED meets: the tenant's ENABLE (09 R456), and blocks for its positions as tests 2, 3, 6 and 7
give them; no rule gives it the deadline and load tests (entry 20). -/
def Dev.sluiceEmbed (d : Dev) (t : Stream) : Verdict :=
  let tn := d.tenant t.desc.tenant
  let bg := newBlocks t 0 0
  if !tn.enable then .refuse 0x05
  else if d.srv.kvTotal < bg then .refuse 0x01
  else if tn.kvCap ≠ 0 ∧ tn.kvCap < bg then .refuse 0x04
  else if d.draining || d.srv.available < bg then .queue
  else if tn.kvCap ≠ 0 ∧ tn.kvCap < d.tenantBlocks t.desc.tenant + d.tenantReserve t.desc.tenant + bg then .queue
  else .admitted

/-- The admission tests in order; the first that fails decides. `queued` is a retest: test 5 then uses the time that
remains and expires the generation (09 R297, R298). -/
def Dev.sluice (d : Dev) (t : Stream) (maxNew order effect now : Nat) (queued : Bool) : Verdict :=
  let tn := d.tenant t.desc.tenant
  let matched := (d.prefixMatch t).length
  let bg := newBlocks t maxNew matched
  let pg := prefillCount t matched
  let a := d.srv.slipAllow.toNat
  let s := d.slotsS
  let ts := d.stepLen 0
  let firstNeed := (if s ≤ 0 then 1000000000 else ratCeil ((pg : Rat) / s)) + ts + a
  let remaining := effect + t.desc.firstDeadline - now
  if !tn.enable then .refuse 0x05
  else if d.srv.kvTotal < bg then .refuse 0x01
  else if tn.kvCap ≠ 0 ∧ tn.kvCap < bg then .refuse 0x04
  else if t.desc.tokenDeadline ≠ 0 ∧ t.desc.tokenDeadline < ts + a then .refuse 0x03
  else if t.desc.firstDeadline ≠ 0 ∧ remaining < firstNeed then (if queued then .expire else .refuse 0x02)
  else if d.draining then .queue
  else if d.srv.available < bg then .queue
  else if tn.kvCap ≠ 0 ∧ tn.kvCap < d.tenantBlocks t.desc.tenant + d.tenantReserve t.desc.tenant + bg then .queue
  else
    let u : Rat := (d.srv.util.toNat : Rat) / 100
    let load := d.sumSlots + d.slotLoad 0
    if u * d.lmRate < d.sumHead + d.headLoad 0 t.hist.length ∨ u * s < load then .queue
    else
      let me : Backlog := ⟨t.desc.tenant, t.desc.priority, order, pg, effect, t.desc.firstDeadline⟩
      let others := (d.admittedGens.filter (fun e => e.1.st == .prefill)).map
        (fun e => (⟨e.1.desc.tenant, e.1.desc.priority, e.2.order, e.2.left e.1, e.2.effect, e.1.desc.firstDeadline⟩ : Backlog))
      if d.test9 (me :: others) load now then .admitted else .queue

end Sys2Proof.Machine
end

