-- ==== Sys2Proof/Machine/Serve.lean ====
section
/-! DEFINITION. Streams and generations at the head: admission, the end of a generation, commits with their token
records, failed stamps, and the fill of a tick's position slots (08 R253 to R255; 09 R269 to R301; 11 R348, R349). -/

namespace Sys2Proof.Machine

/-- The payload of a generation's final record (08 Table 8-10). -/
def Gen.payload (g : Gen) : List Byte :=
  leBytes 4 g.generated ++ leBytes 4 g.delivered ++ leBytes 4 g.prompt ++ leBytes 4 g.prefixHit ++
  leBytes 4 g.clamped ++ leBytes 4 g.slips ++ leBytes 4 g.draftAccepted ++ leBytes 4 0

/-- WORD0 of a final record: ticks from admission to the first token's commit (08 R255). -/
def Gen.word0 (g : Gen) : Nat :=
  match g.firstCommit, g.admitted with
  | some c, some a => c - a
  | _, _ => 0xFFFFFFFF

/-- The stream state that a final status leaves (09 Table 9-1). -/
def endState (status detail : Nat) : StreamSt :=
  if status = stDONE ∨ status = stCANCELLED then .done
  else if status = stREFUSED ∨ (status = stEXPIRED ∧ detail = 2) then .idle
  else .failed

/-- Positions in flight of a stream stop counting for it: their logits are ignored, provisional ones are retracted,
and those whose input token is in the history still commit their KV (09 R300). -/
def State.dropWork (s : State) (ch : Nat) : State :=
  s.updSrv (fun v => { v with flights := v.flights.map (fun f =>
    if f.ch = ch then
      (match Tab.find v.streams ch with
       | some t => if f.provisional || decide (t.hist.length ≤ f.index) then { f with dropped := true } else { f with needLogits := false }
       | none => { f with dropped := true })
    else f) })

/-- An acceptance mark goes out with the next bundle; the head applies it to the draft's KV (09 R278, R280). -/
def State.addMark (s : State) (stream n : Nat) : State :=
  let place : HotEntry → Nat := fun h =>
    if h.stream = stream ∧ h.block = noBlock then
      (match s.dev.srv.streams.find? (fun e => e.2.id == stream) with
       | some e => e.2.blocks.getD (h.index / 64) noBlock
       | none => noBlock)
    else h.block
  (s.updSrv (fun v => { v with marks := v.marks ++ [(stream, n)] })).updFab (fun b =>
    let b' := b.applyMark stream n
    { b' with hot := b'.hot.map (fun h => { h with block := place h }) })

/-- Ends a stream's generation with its final record; FAILED frees its blocks (08 R255, 09 R287, R300). -/
def State.endGen (s : State) (ch status detail : Nat) : State :=
  match s.dev.stream ch with
  | none => s
  | some t =>
    match t.gen with
    | none => s
    | some g =>
      let st := endState status detail
      let s := if g.heldText.isEmpty then s
        else s.reply { g.rep with ring := t.desc.ring } stOK 0 false false 0 t.hist.length g.heldText true false
      let s := s.dropWork ch
      let s := if g.inFlight.isEmpty then s else s.addMark t.id (g.mark.getD 0)
      let s := s.updStream ch (fun t => { t with st, gen := none, kv := min t.kv t.hist.length, park := if g.kind == .resume then none else t.park,
                                                 reKv := if t.reKv ≤ t.kv then 0 else t.reKv,
                                                 counts := (g.generated, g.delivered, g.clamped, g.slips) })
      let s := if st == .failed then s.freeStream ch else s
      let s := if g.kind == .embed then
          (s.delStream ch).updSrv (fun v => { v with embeds := Tab.del v.embeds ch })
        else s
      s.reply { g.rep with ring := t.desc.ring } status detail false true g.word0 (s.tick - g.effect) g.payload

/-- A sluice refusal counts for the tenant and in SRV_SLUICE_REFUSE (08 Table 8-11, 09 Table 9-8). -/
def State.countRefusal (s : State) (tn : Nat) : State :=
  (s.updTenant tn (fun t => { t with refusals := t.refusals + 1 })).updSrv (fun v => { v with refused := v.refused + 1 })

/-- Admission: the matches join the stream's blocks, the rest is reserved, cached and parked blocks give way
(09 R284, R286, R292, R297). -/
def State.admitGen (s : State) (ch : Nat) : State :=
  match s.dev.stream ch with
  | none => s
  | some t =>
    match t.gen with
    | none => s
    | some g =>
      let m := s.dev.prefixMatch t
      let keys := m.map (·.1)
      let bg := newBlocks t g.maxNew m.length
      let tick := s.tick
      let s := s.updSrv (fun v => { v with
        prefixTab := v.prefixTab.map (fun e => if keys.contains e.1 then (e.1, { e.2 with refs := e.2.refs + 1,
                                                                                          lastUse := BitVec.ofNat 32 tick }) else e),
        hits := wrapInc v.hits m.length, admitted := v.admitted + 1, nextOrder := v.nextOrder + 1 })
      let s := s.reclaimFor bg
      let had := min t.kv t.hist.length
      let b0 := t.filled
      let order := s.dev.srv.nextOrder
      let kv := min (t.covered m.length) (t.hist.length - 1)
      (s.updStream ch (fun t => { t with
        st := .prefill, blocks := t.blocks.take b0 ++ m.map (·.2.block) ++ t.blocks.drop (b0 + m.length), kv := kv, epoch := s.dev.entryEpoch,
        gen := some { g with admitted := some tick, order, reserve := bg, prefixHit := t.covered m.length - had,
                             prompt := prefillCount t m.length, start := t.hist.length, next := kv,
                             skip := (64 * b0, 64 * (b0 + m.length)) } })).rehash ch

/-- The tests on a stream's waiting generation and their outcome (09 R297, R298). A refusal of a new generation is
reported by the caller. -/
def State.testGen (s : State) (ch : Nat) (queued : Bool) : Verdict × State :=
  match s.dev.stream ch with
  | none => (.queue, s)
  | some t =>
    match t.gen with
    | none => (.queue, s)
    | some g =>
      match (if g.kind == .embed then s.dev.sluiceEmbed t
             else s.dev.sluice t g.maxNew s.dev.srv.nextOrder g.effect s.tick queued) with
      | .admitted => (.admitted, s.admitGen ch)
      | r => (r, s)

/-- QUEUED_ADMISSION's action: a queued generation is admitted, refused, expired, or stays queued (09 R298). -/
def State.retest (s : State) (ch : Nat) : State :=
  match s.dev.stream ch with
  | none => s
  | some t =>
    match t.gen with
    | none => s
    | some g =>
      if g.admitted.isSome then s
      else match s.testGen ch true with
        | (.admitted, s) => s
        | (.refuse d, s) => (s.countRefusal t.desc.tenant).endGen ch stREFUSED d
        | (.expire, s) => (s.updSrv (fun v => { v with expired := v.expired + 1 })).endGen ch stEXPIRED 2
        | (.queue, s) => s

/-- Queued generations in tenant order of priority, then of arrival (09 R298). -/
def Srv.queuedOrder (v : Srv) : List Nat :=
  let l := v.streams.filterMap (fun e => match e.2.gen with
    | some g => if g.admitted.isNone then some (e.2.desc.priority, g.order, e.1) else none
    | none => none)
  (sortBy (fun e => 4294967296 * (3 - e.1) + e.2.1) l).map (·.2.2)

/-- Place of a queued generation among its tenant's (08 R253). -/
def Dev.queuePlace (d : Dev) (t : Stream) (order : Nat) : Nat :=
  (d.srv.streams.filter (fun e => e.2.desc.tenant == t.desc.tenant && e.1 != t.ch && (match e.2.gen with
    | some g => g.admitted.isNone && (decide (t.desc.priority < e.2.desc.priority) ||
        (e.2.desc.priority == t.desc.priority && decide (g.order < order)))
    | none => false))).length

/-- A fresh generation of a stream, not yet tested. -/
def newGen (kind : GenKind) (rep : Rep) (tick order maxNew : Nat) (descNew parkAfter : Bool) (start : Nat) : Gen :=
  { kind, rep, effect := tick, admitted := none, order, maxNew, descNew, parkAfter, reserve := 0, firstCommit := none,
    generated := 0, delivered := 0, prompt := 0, prefixHit := 0, clamped := 0, slips := 0, draftAccepted := 0, start,
    next := 0, skip := (0, 0), rebuilt := 0, stepFrom := none, proposals := [], inFlight := [], stepAt := 0, sampled := [],
    verified := 0, output := [], heldText := [], heldMark := false, mark := none, reprefill := false,
    sum := [] }

/-- Starts a generation; its first records follow 08 Table 8-16. `ack` is none for GENERATE, whose first record says the
outcome; else the OK of OPEN, APPEND or RESUME that precedes: its WORD0, WORD1, and RELEASED. -/
def State.startGen (s : State) (rep : Rep) (maxNew : Nat) (descNew parkAfter : Bool) (ack : Option (Nat × Nat × Bool)) : State :=
  match s.dev.stream rep.ch with
  | none => s
  | some t =>
    let order := s.dev.srv.nextOrder
    let g := { newGen .normal rep s.tick order maxNew descNew parkAfter t.hist.length with rebuilt := t.reKv }
    let s := s.updStream rep.ch (fun t => { t with gen := some g, st := .idle, counts := (0, 0, 0, 0) })
    let ok : State → State := fun s => match ack with
      | some (w0, w1, released) => s.reply rep stOK 0 released false w0 w1
      | none => s
    match s.testGen rep.ch false with
    | (.admitted, s) => if ack.isNone then s.reply rep stOK 0 true false else ok s
    | (.refuse d, s) =>
      let s := s.countRefusal t.desc.tenant
      let s := s.updStream rep.ch (fun t => { t with gen := none, st := .idle })
      (ok s).reply rep stREFUSED d ack.isNone true 0xFFFFFFFF 0 g.payload
    | (_, s) =>
      let s := s.updSrv (fun v => { v with nextOrder := v.nextOrder + 1 })
      (ok s).reply rep stQUEUED 0 ack.isNone false (s.dev.queuePlace t order) 0

/-- The bytes of a token's string. -/
def Tokenizer.str (t : Tokenizer) (tok : Nat) : List Byte := t.strings.getD tok []

/-- Counts tokens or positions against the running budget window of a tenant (09 R293). -/
def State.countBudget (s : State) (tn n : Nat) : State := s.updTenant tn (fun t => { t with counted := t.counted + n })

/-- The end condition that a commit of a token meets: DETAIL of DONE (08 Table 8-5, 09 R274, R277). -/
def endDetail (tok : Tokenizer) (d : Desc) (g : Gen) (histLen token vocab oldOut : Nat) : Option Nat :=
  if tok.eos = some token then some 1
  else if (stopAt (liveStops d vocab) g.output oldOut).isSome then some 2
  else if g.maxNew ≤ g.delivered then some 3
  else if d.maxContext ≤ histLen ∨ 131072 ≤ histLen then some 4
  else none

/-- Commits sampled tokens one after another until one ends the generation; answers the stream, the tokens committed
with their first index, the text that became deliverable so far, and the end's DETAIL (09 R274, R277). -/
def commitTokens (tok : Tokenizer) (vocab tick : Nat) :
    List (Nat × Nat × Bool) → Stream → Gen → List Nat → List Byte → Stream × Gen × List Nat × List Byte × Option Nat
  | [], t, g, toks, txt => (t, g, toks, txt, none)
  | (_, x, acc) :: rest, t, g, toks, txt =>
    let str := if tok.eos = some x then [] else tok.str x
    let old := g.output.length
    let g := { g with output := g.output ++ (if t.desc.outTokens then [x] else str.map (·.toNat)),
                      delivered := g.delivered + 1, draftAccepted := g.draftAccepted + b2n acc,
                      firstCommit := some (g.firstCommit.getD tick) }
    let t := { t with hist := t.hist ++ [x] }
    let e := endDetail tok t.desc g t.hist.length x vocab old
    let keep := match stopAt (liveStops t.desc vocab) g.output old with
      | some n => if t.desc.outTokens then str else str.take (n - old)
      | none => str
    match e with
    | some d => (t, { g with generated := g.generated - rest.length }, toks ++ [x], txt ++ keep, some d)
    | none => commitTokens tok vocab tick rest t g (toks ++ [x]) (txt ++ keep)

/-- Splits a list into runs of n; the fuel is its length. -/
def chunks (n : Nat) : Nat → List Nat → List (List Nat)
  | 0, _ => []
  | k + 1, l => if l.isEmpty then [] else l.take n :: chunks n k (l.drop n)

/-- Token records of one commit tick (08 R254). -/
def State.tokenRecords (s : State) (t : Stream) (g : Gen) (first : Nat) (toks : List Nat) (texts : List (List Byte)) : State :=
  let rep := { g.rep with ring := t.desc.ring }
  if t.desc.outTokens then
    ((chunks 8 toks.length toks).foldl (fun (p : State × Nat) l =>
      (p.1.reply rep stOK 0 false false l.length p.2 (l.flatMap (leBytes 4)) false true, p.2 + l.length)) (s, first)).1
  else
    match texts with
    | [] => s.reply rep stOK 0 false false toks.length first [] true false
    | x :: xs =>
      (xs.foldl (fun s x => s.reply rep stOK 0 false false 0 first x true false)
        (s.reply rep stOK 0 false false toks.length first x true false))

/-- The private blocks of a stream leave the pool for the stockpile, or stay parked in place (09 R290, R292). -/
def State.startPark (s : State) (ch : Nat) (rep : Rep) (ttl : Nat) : State :=
  match s.dev.stream ch with
  | none => s
  | some t =>
    let priv : List (Nat × Nat) := (t.blocks.zipIdx).filter (fun e => e.1 != noBlock && s.dev.srv.isPrivate ch e.1)
    let bytes := 64 * s.dev.hdr.kvBytes
    let used := ((s.dev.srv.streams.map (fun e => match e.2.park with
      | some p => if p.inPlace then 0 else p.blocks.length
      | none => 0)).sum + priv.length) * bytes
    let full := s.dev.srv.stockEn && decide (s.dev.srv.stockMib.toNat * 1048576 < used)
    let s := if full then s.updSrv (fun v => { v with stockFull := true }) else s
    let order := s.dev.srv.nextOrder
    let s := s.updSrv (fun v => { v with nextOrder := v.nextOrder + 1 })
    s.updStream ch (fun t => { t with
      st := .parked,
      blocks := (t.blocks.zipIdx).map (fun e => if priv.any (fun p => p.2 == e.2) then noBlock else e.1),
      park := some { copying := some rep, order, ttl, p := 0, expired := false, epochFreed := false,
                     inPlace := !s.dev.srv.stockEn || full, blocks := priv.map (fun e => (e.2, e.1)), resuming := none,
                     restored := false, incomplete := none } })

/-- A generation ends with DONE; PARK_AFTER parks the stream unless its PARK_TTL is 0 (08 R258). -/
def State.finishGen (s : State) (ch detail : Nat) : State :=
  match s.dev.stream ch with
  | none => s
  | some t =>
    match t.gen with
    | none => s
    | some g =>
      let s := s.endGen ch stDONE detail
      if g.parkAfter && t.desc.parkTtl != 0 then s.startPark ch { g.rep with op := 0 } t.desc.parkTtl else s

/-- A RESUME's re-prefill is complete: its OK, and the generation that it starts (08 R253, R258). In the re-prefill's
generation, parkAfter is START, descNew says that MAX_NEW is the descriptor's, and output holds another MAX_NEW. -/
def State.finishResume (s : State) (ch : Nat) (g : Gen) : State :=
  match s.dev.stream ch with
  | none => s
  | some t =>
    let rep := { g.rep with ring := t.desc.ring }
    let s := s.updStream ch (fun t => { t with gen := none, st := .idle, park := none })
    if g.parkAfter then
      s.startGen rep (if g.descNew then t.desc.maxNew else g.output.headD 0) g.descNew false (some (0, 0, false))
    else s.reply rep stOK 0 false true

/-- The DLE matrix of a name: of several, the largest, so that the main model's goes before the draft model's (07 R197, Table
7-5; entry 114). -/
def Dle.named (d : Dle) (name : Nat) : List Byte :=
  ((d.mats.filter (fun e => e.2.name == name)).map (·.2.bytes)).foldl (fun b x => if b.length < x.length then x else b) []

/-- BF16 value of a row of a matrix that stands as rows of BF16, then a BF16 scale per output column (07 Table 7-3 DLE_MATRIX). -/
def bf16Row (m : List Byte) (cols row : Nat) : List W16 :=
  (List.range cols).map (fun i => BitVec.ofNat 16 (leAt m (2 * (row * cols + i)) 2))

/-- The embedding of a token: its BF16 row as FP32 (01 Table 1-3). -/
def Dev.embedding (d : Dev) (tok : Nat) : List W32 :=
  let m := d.dle.named 8
  let cols := if d.vocab = 0 then 0 else m.length / 2 / d.vocab
  (bf16Row m cols tok).map bf16To32

/-- The EMBED's vector: the mean of the final hidden states in FP32, through the output projection where the image
has one, rounded to BF16 (09 R303). -/
def Dev.embedVector (d : Dev) (sum : List W32) (n : Nat) : List Byte :=
  let mean := sum.map (fun x => fpDiv x (fpOfInt n))
  let m := d.dle.named 15
  let rows := mean.length
  let cols := if rows = 0 then 0 else m.length / 2 / rows
  let out := if m.isEmpty then mean else
      (List.range cols).map (fun j => fpSum ((mean.zipIdx).map (fun (e : W32 × Nat) =>
        fpMul e.1 (bf16To32 (BitVec.ofNat 16 (leAt m (2 * (e.2 * cols + j)) 2))))))
  out.flatMap (fun x => leBytes 2 (fp32ToBf16 x).toNat)

/-- An EMBED completes: its vector goes to OUT_ADDR, then its OK record; its KV is discarded (08 R259, 09 R303). -/
def State.finishEmbed (s : State) (ch : Nat) (g : Gen) (n : Nat) : State :=
  match Tab.find s.dev.srv.embeds ch with
  | none => s
  | some h =>
    let v := s.dev.embedVector g.sum n
    let s := (s.freeStream ch).delStream ch
    let s := (s.updSrv (fun x => { x with embeds := Tab.del x.embeds ch })).hostOut h.rep.fn h.addr v
    s.reply h.rep stOK 0 false true v.length 0

/-- Every stage's PASS stamp for the position has come, and a SCRUB beyond each (11 R348). -/
def Dev.stamped (d : Dev) (f : Flight) : Bool :=
  d.lnk.pipeline.all (fun m => m.lost.isNone && f.passes.any (fun p => p.1 == m.pkg &&
    (match Tab.find d.srv.scrubs m.pkg with
     | some sc => decide (p.2 < sc)
     | none => false)))

/-- The position may commit in this tick (11 R348); a CLAMPED one of a strict stream never does (04 R109). -/
def Dev.committable (d : Dev) (f : Flight) : Bool :=
  !f.dropped && f.failed.isNone && d.stamped f && !d.lnk.suspended &&
  !(f.clamped && (match d.stream f.ch with
    | some t => t.desc.strict
    | none => false)) &&
  (!f.needLogits || (match f.logits with
    | some t => decide (t < d.time.tick)
    | none => false)) &&
  !(d.srv.flights.any (fun x => x.ch == f.ch && decide (x.index < f.index) && !x.dropped && decide (x.entered ≤ f.entered)))

/-- The first flight of a stream's position that counts. -/
def Srv.flight (v : Srv) (ch index : Nat) : Option Flight :=
  v.flights.find? (fun f => f.ch == ch && f.index == index && !f.dropped)

/-- Adds a vector to a running FP32 sum. -/
def addVec (sum xs : List W32) : List W32 := if sum.isEmpty then xs else List.zipWith fpAdd sum xs

/-- Commits one position: its KV counts, a prompt position counts against the budget (09 R293; 11 R347). -/
def State.commitPosition (s : State) (f : Flight) : State :=
  let s := s.updSrv (fun v => { v with flights := v.flights.filter (fun x => !(x == f)) })
  match s.dev.stream f.ch with
  | none => s
  | some t =>
    let next := match t.gen with
      | some g => if f.index + 1 = g.skip.1 then max (f.index + 1) g.skip.2 else f.index + 1
      | none => f.index + 1
    let s := s.updStream f.ch (fun t => { t with kv := max t.kv next,
                                                 gen := t.gen.map (fun g => { g with
                                                   clamped := g.clamped + b2n f.clamped, slips := g.slips + f.slips,
                                                   sum := if g.kind == .embed then addVec g.sum f.hidden else g.sum }) })
    let s := match t.gen with
      | some g => if f.index < g.start ∧ g.rebuilt ≤ f.index then s.countBudget t.desc.tenant 1 else s
      | none => s
    let s := s.updFab (fun b => { b with hot := b.hot.map (fun h => if h.stream = f.stream ∧ h.index = f.index then { h with provisional := false } else h) })
    s

/-- Blocks of a stream that the commit of positions [from, from + n) completes may enter the prefix table: none of their positions is
of an older epoch (09 R285; 07 R225). -/
def State.insertBlocks (s : State) (ch from_ n epoch : Nat) : State :=
  match s.dev.stream ch with
  | none => s
  | some t =>
    if t.desc.noPrefix || epoch != s.dev.entryEpoch then s
    else
      let full := (List.range (t.hist.length / 64)).filter (fun b =>
        decide (from_ < 64 * (b + 1)) && decide (64 * (b + 1) ≤ from_ + n) && decide (t.oldKv ≤ 64 * b) && decide (b < t.blocks.length))
      s.each full (fun s b => s.insertPrefix (t.hashes.getD b 0) (t.blocks.getD b noBlock))

/-- Commits positions of a stream from an index on while they may; answers how many (11 R348). -/
def State.commitRun (ch : Nat) : Nat → Nat → State → Nat × State
  | 0, _, s => (0, s)
  | n + 1, i, s =>
    match s.dev.srv.flight ch i with
    | none => (0, s)
    | some f =>
      if s.dev.committable f then
        let (k, s) := State.commitRun ch n (i + 1) (s.commitPosition f)
        (k + 1, s)
      else (0, s)

/-- Delivers the tokens sampled from committed positions below `upto`, and ends the generation where one of them ends
it (08 R254; 09 R274, R277, R278). -/
def State.deliver (s : State) (ch upto : Nat) : State :=
  match s.dev.stream ch with
  | none => s
  | some t =>
    match t.gen with
    | none => s
    | some g =>
      let now := g.sampled.filter (fun e => decide (e.1 ≤ upto))
      let later := g.sampled.filter (fun e => !decide (e.1 ≤ upto))
      match now with
      | [] =>
        if g.kind == .embed then
          (if t.hist.length ≤ upto then s.finishEmbed ch g t.hist.length else s)
        else if t.hist.length ≤ upto then
          (if g.kind == .resume then s.finishResume ch g else if g.maxNew = 0 then s.finishGen ch 5 else s)
        else s
      | (first, _, _) :: _ =>
        let (t2, g2, toks, txt, e) := commitTokens s.dev.ws.tok s.dev.vocab s.tick now t g [] []
        let (cs, held) := splitText (g2.heldText ++ txt)
        let texts := packText (match e with
          | some _ => if held.isEmpty then cs else cs ++ [held]
          | none => cs) []
        let ended := later.isEmpty && (s.dev.srv.flights.all (fun f => f.ch != ch || f.dropped || !f.needLogits))
        let took := g.mark.getD 0 + ((now.take toks.length).filter (·.2.2)).length
        let s := if ended && e.isNone && !g.inFlight.isEmpty then s.addMark t.id took else s
        let g3 := { g2 with sampled := later, heldText := if e.isSome then [] else held, stepFrom := if ended then some s.tick else none,
                            mark := if ended && e.isNone then none else some took,
                            inFlight := if ended && e.isNone then [] else g.inFlight,
                            next := if later.isEmpty then t2.hist.length - 1 else g2.next,
                            generated := if e.isSome then g2.generated - later.length else g2.generated }
        let s := (s.updStream ch (fun _ => { t2 with st := .decode, gen := some g3 })).rehash ch
        let s := s.countBudget t.desc.tenant toks.length
        let s := s.tokenRecords t2 g3 first toks texts
        match e with
        | some d => s.finishGen ch d
        | none => s

/-- POSITION_COMMIT's action: the run of positions from `index` that may commit at the start of this tick, and the
tokens sampled from them (11 R348). -/
def State.commitFrom (s : State) (ch index : Nat) : State :=
  let epoch := match s.dev.srv.flight ch index with
    | some f => f.epoch
    | none => 0
  let (n, s) := State.commitRun ch s.dev.srv.flights.length index s
  if n = 0 then s else (s.deliver ch (index + n)).insertBlocks ch index n epoch

/-- A position whose work counts no more leaves the head's list when its stamps are in (09 R300, 11 R348). -/
def State.dropOld (s : State) : State :=
  let d := s.dev
  s.updSrv (fun v => { v with flights := v.flights.filter (fun f => !(f.dropped && (f.failed.isSome || d.stamped f))) })

/-- A PARK that waits takes place once no position of its stream is in flight (09 R290). -/
def State.parkWaiting (s : State) : State :=
  s.each (s.dev.srv.streams.map (·.2)) (fun s t =>
    match t.parkWait with
    | some (rep, ttl) =>
      if s.dev.srv.flights.any (fun f => f.stream == t.id) then s
      else (s.updStream t.ch (fun t => { t with parkWait := none })).startPark t.ch rep ttl
    | none => s)

/-- Commits every position that may, streams in channel order. -/
def State.commitAll (s : State) : State :=
  s.each (s.dev.srv.streams.map (·.1)) (fun s ch =>
    match s.dev.srv.flights.find? (fun f => f.ch == ch && !f.dropped) with
    | some f => s.commitFrom ch f.index
    | none => s)

/-- The stream's work from an index on counts no more: its logits and its stamps are ignored (11 R349). -/
def State.dropFrom (s : State) (ch index : Nat) : State :=
  s.updSrv (fun v => { v with flights := v.flights.map (fun (f : Flight) =>
    if f.ch = ch ∧ index ≤ f.index then { f with dropped := true } else f) })

/-- The stream's work from `cut` on is to enter again, ahead of other work; an acceptance mark of 0 retracts the provisional
KV of a step in flight (11 R349). -/
def State.reenter (s : State) (ch cut : Nat) : State :=
  match s.dev.stream ch with
  | none => s
  | some t =>
    let s := s.updStream ch (fun t => { t with kv := min t.kv cut })
    let s := match t.gen with
      | some g => if g.inFlight.isEmpty then s else s.addMark t.id 0
      | none => s
    let decoding := t.st == .decode
    let tick := s.tick
    s.updGen ch (fun g => { g with
      mark := none, next := cut, reprefill := true, generated := g.generated - g.sampled.length, sampled := [],
      proposals := if g.inFlight.isEmpty then g.proposals else g.inFlight, inFlight := [], verified := 0,
      stepFrom := if decoding then some tick else none })

/-- A stamp names a position with another result than PASS: replay, POISONED or CLAMPED_STRICT_RETRY (11 R345, R349).
A decode step is replayed whole: its acceptance mark of 0 retracts all its provisional KV (11 Table 11-4; entry 22). -/
def State.failStamp (s : State) (stream index result : Nat) : State :=
  let s := s.updSrv (fun v => { v with failing := v.failing.filter (fun e => !(e.1 == stream && e.2.1 == index)) })
  match s.dev.srv.streams.find? (fun e => e.2.id == stream) with
  | none => s
  | some (ch, t) =>
    match t.gen with
    | none => s.dropFrom ch index
    | some _ =>
      let cut := if t.st == .decode then min index (t.hist.length - 1) else index
      let tries := if t.attempts.1 = index then t.attempts.2 + 1 else 1
      let lost := s.dev.srv.flights.filter (fun f => f.ch == ch && decide (cut ≤ f.index) && !f.dropped)
      let s := s.dropFrom ch cut
      if result = 4 then s.endGen ch stCLAMPED 0
      else if result = 3 ∨ 4 ≤ tries then s.endGen ch stPOISONED 0
      else
        let s := (s.updStream ch (fun t => { t with attempts := (index, tries) })).reenter ch cut
        s.updChk (fun c => { c with replays := wrapInc c.replays lost.length })

/-- Failed stamps act at the boundary after they reach the head (11 R349). -/
def State.failAll (s : State) : State :=
  s.each s.dev.srv.failing (fun s e => s.failStamp e.1 e.2.1 e.2.2.1)

/-- The head sends no position: suspended, in a tack's gap, or the schedule does not run (07 R219, 10 R327). -/
def Dev.sendsNothing (d : Dev) : Bool :=
  d.lnk.suspended || !d.engine || !d.time.serves ||
  (match d.ws.tack, d.ws.markerAt with
   | some k, some m => decide (m < d.time.tick) && decide (d.time.tick ≤ m + k.gap)
   | _, _ => false)

/-- A stream's replies go to a ring with a backlog: no new step (08 R249). -/
def Dev.ringBlocked (d : Dev) (t : Stream) : Bool := !(d.ring t.fn t.desc.ring).backlog.isEmpty

/-- The tenant is held by its budget (09 R294). -/
def Tenant.held (t : Tenant) : Bool := decide (t.budget ≠ 0) && decide (t.budget ≤ t.counted)

/-- The planned head load exceeds UTIL: no step drafts (09 R281). -/
def Dev.noDraft (d : Dev) : Bool := decide ((d.srv.util.toNat : Rat) / 100 * d.lmRate < d.sumHead)

/-- Kinds of work of a stream (09 R295). -/
inductive WorkKind
  | reprefill | decode | prefill
deriving DecidableEq, Repr

/-- Lists of index ranges [from, to): how many indices, which, and what is left after the first n. -/
def rangeSum (l : List (Nat × Nat)) : Nat := (l.map (fun r => r.2 - r.1)).sum
def rangeList (l : List (Nat × Nat)) : List Nat := l.flatMap (fun r => upFrom r.1 (r.2 - r.1))
def rangeDrop : Nat → List (Nat × Nat) → List (Nat × Nat)
  | _, [] => []
  | n, r :: rest => if r.2 - r.1 ≤ n then rangeDrop (n - (r.2 - r.1)) rest else (r.1 + n, r.2) :: rest

/-- Proposals that the next step of a stream waits for. -/
def Dev.wantDraft (d : Dev) (t : Stream) : Nat :=
  if d.noDraft ∨ d.hdr.draftTicks = 0 then 0 else min t.k t.desc.draftMax

/-- Provisional positions of the steps in flight (09 R281). -/
def Dev.provSum (d : Dev) : Nat :=
  (d.srv.streams.map (fun e => match e.2.gen with
    | some g => g.inFlight.length
    | none => 0)).sum

/-- The work that a stream has ready in this tick; a decode step enters D ticks per proposal after its drafting began (09 R271, R278,
R295, R328). -/
def Dev.workOf (d : Dev) (t : Stream) : Option WorkKind :=
  if d.ringBlocked t then none
  else match t.rebuild with
    | some (_, l) => if 0 < rangeSum l then some .reprefill else none
    | none =>
      match t.gen with
      | none => none
      | some g =>
        if g.admitted.isNone then none
        else if g.next < t.hist.length ∧ (g.next < g.start ∨ g.reprefill) ∧ t.st != .decode then
          some (if g.reprefill then .reprefill else .prefill)
        else match g.stepFrom with
          | some from_ =>
            if t.st == .decode && decide (from_ + (if g.reprefill then 0 else d.hdr.draftTicks * g.proposals.length) ≤ d.time.tick) &&
                decide (d.provSum + g.proposals.length ≤ 8192) && decide (d.wantDraft t ≤ g.proposals.length ∨ g.reprefill) then
              some (if g.reprefill then .reprefill else .decode)
            else none
          | none => none

/-- Positions of a stream's work that fit: a decode step whole or not at all; the last position of a prefill only with
credit (09 R295). In a tick no more than 256 enter, for which a hot window has room (09 R288; entry 125). -/
def fitWork (t : Stream) (g : Gen) (free : Nat) (credit : Rat) : Nat :=
  if t.st == .decode then
    let n := g.proposals.length + 1
    if n ≤ free ∧ (n : Rat) ≤ credit then n else 0
  else
    let left := g.left t
    let n := min (min free left) 256
    if n = left ∧ g.maxNew ≠ 0 ∧ g.kind == .normal ∧ credit < 1 then n - 1 else n

/-- One position enters the pipeline: its block is allocated when it is the first in it (09 R287), it joins the tick's
bundle, and the head follows it. -/
def State.enter (s : State) (ch index token : Nat) (provisional needLogits : Bool) (mark : Option Nat) : State :=
  match s.dev.stream ch with
  | none => s
  | some t =>
    let bi := index / 64
    let s := if bi < t.blocks.length then s
      else
        let s := if s.dev.srv.unheld = 0 then s.freeOneCached else s
        match s.dev.srv.nextBlock with
        | some b => s.updStream ch (fun t => { t with blocks := t.blocks ++ [b],
                                                      gen := t.gen.map (fun g => { g with reserve := g.reserve - 1 }) })
        | none => s
    let block := match s.dev.stream ch with
      | some t => t.blocks.getD bi noBlock
      | none => noBlock
    let e : BundleEntry := { stream := t.id, index, epoch := s.dev.entryEpoch, block, slot := index % 64, noPos := false,
                             provisional, mark, poison := false, rebuild := false, target := 0xFFFF, residual := s.dev.embedding token }
    let fl : Flight := { ch, stream := t.id, index, epoch := s.dev.entryEpoch, block, slot := index % 64, entered := s.tick,
                         provisional, needLogits, passTick := none, arrived := false, hidden := [], logits := none, passes := [], clamped := false, slips := 0,
                         dropped := false, failed := none }
    let s := s.updSrv (fun v => { v with flights := v.flights ++ [fl], credit := if needLogits then v.credit - 1 else v.credit,
                                         headUsed := v.headUsed + b2n needLogits })
    s.updFab (fun b => { b with outBundle := b.outBundle ++ [e],
                                leaving := b.leaving ++ [⟨t.id, index, 0, 0, 0, false, 0, 0, 0⟩] })

/-- A rebuild position: it computes upstream of its target, which writes KV; it needs no logits (10 R328). -/
def State.enterRebuild (s : State) (t : Stream) (target index : Nat) : State :=
  let e : BundleEntry := { stream := t.id, index, epoch := t.epoch, block := t.blocks.getD (index / 64) noBlock, slot := index % 64,
                           noPos := false, provisional := false, mark := none, poison := false, rebuild := true, target,
                           residual := s.dev.embedding (t.hist.getD index 0) }
  s.updFab (fun b => { b with outBundle := b.outBundle ++ [e] })

/-- A stream's ready work takes n slots (09 R295). -/
def State.takeSlots (s : State) (ch n : Nat) : State :=
  match s.dev.stream ch with
  | none => s
  | some t =>
    match t.rebuild with
    | some (target, l) =>
      let s := s.each ((rangeList l).take n) (fun s i => s.enterRebuild t target i)
      s.updStream ch (fun t => { t with rebuild := some (target, rangeDrop n l) })
    | none =>
      match t.gen with
      | none => s
      | some g =>
        if t.st == .decode then
          let i0 := t.hist.length - 1
          let mk := Tab.find s.dev.srv.marks t.id
          let s := s.updSrv (fun v => { v with marks := Tab.del v.marks t.id })
          let s := s.enter ch i0 (t.hist.getD i0 0) false true mk
          let s := s.each (g.proposals.zipIdx) (fun s e => s.enter ch (i0 + 1 + e.2) e.1 true true none)
          s.updGen ch (fun g => { g with stepFrom := none, inFlight := g.proposals, stepAt := i0, proposals := [], verified := 0, mark := none,
                                         reprefill := false })
        else
          let idx := (List.range t.hist.length).filter (fun i => decide (g.next ≤ i) && !(decide (g.skip.1 ≤ i) && decide (i < g.skip.2)))
          let now := idx.take n
          let last := t.hist.length - 1
          let s := s.each now (fun s i => s.enter ch i (t.hist.getD i 0) false (i == last && g.maxNew != 0 && g.kind == .normal) none)
          let nx := (now.getLastD 0) + 1
          s.updGen ch (fun g => { g with next := nx, stepAt := last, reprefill := g.reprefill && decide (nx < t.hist.length) })

/-- One round of the fair queue for a kind of work: the tenant with the least finish, its first stream; the fuel bounds
the rounds (09 R295). Deferred streams keep their place for the next tick. -/
def State.fillKind (kind : WorkKind) : Nat → Nat → List Nat → State → Nat × State
  | 0, free, _, s => (free, s)
  | k + 1, free, deferred, s =>
    if free = 0 then (0, s)
    else
      let ready := s.dev.srv.streams.filter (fun e => s.dev.workOf e.2 == some kind && !deferred.contains e.1 &&
        (kind == .reprefill || !(s.dev.tenant e.2.desc.tenant).held))
      let key : Nat × Stream → Rat := fun e => (s.dev.tenant e.2.desc.tenant).finish
      let best := ready.foldl (fun (b : Option (Nat × Stream)) e =>
        match b with
        | none => some e
        | some x =>
          let ord : Nat × Stream → Nat := fun y => match y.2.gen with
            | some g => g.order
            | none => 0
          if kind == .reprefill then (if e.1 < x.1 then some e else b)
          else if key e < key x ∨ (key e = key x ∧ e.2.desc.tenant < x.2.desc.tenant) ∨
              (e.2.desc.tenant = x.2.desc.tenant ∧ (x.2.desc.priority < e.2.desc.priority ∨
                (e.2.desc.priority = x.2.desc.priority ∧ ord e < ord x))) then some e else b) none
      match best with
      | none => (free, s)
      | some (ch, t) =>
        let n := match t.rebuild, t.gen with
          | some (_, l), _ => min (min free (rangeSum l)) 256
          | none, some g => fitWork t g free s.dev.srv.credit
          | none, none => 0
        if n = 0 then State.fillKind kind k free (ch :: deferred) s
        else
          let s := s.takeSlots ch n
          let s := s.updTenant t.desc.tenant (fun x => { x with finish := x.finish + (n : Rat) / x.weight })
          State.fillKind kind k (free - n) deferred s

/-- The budget's first hold of a generation in a window: one BUDGET_EXHAUSTED record (09 R294). -/
def State.holdRecords (s : State) : State :=
  s.each (s.dev.srv.streams.map (·.2)) (fun s t =>
    match t.gen with
    | none => s
    | some g =>
      if (s.dev.tenant t.desc.tenant).held && g.admitted.isSome && !g.heldMark && !g.reprefill && (s.dev.workOf t).isSome then
        (s.updGen t.ch (fun g => { g with heldMark := true })).reply { g.rep with ring := t.desc.ring } stBUDGET 0 false false
      else s)

/-- The position slots of the tick: f_min x slots, its fractions carried within a schedule frame (09 R295, 15 R427). -/
def State.slotBudget (s : State) : Nat × State :=
  let per : Rat := (s.dev.hdr.slots : Rat) / 256 * s.dev.fMin / 16
  let carry := if s.tick % s.dev.fab.frame = 0 then 0 else s.dev.srv.slotCarry
  let n := (carry + per).floor.toNat
  (n, s.updSrv (fun v => { v with slotCarry := carry + per - n }))

/-- The bundle of the tick leaves for the next package: marks of streams without positions as entries of their own; `tack` says that
the tack marker ends it (07 R219; 09 R280; 10 R320). -/
def State.sendHeadBundle (s : State) (tack : Bool) : State :=
  let extra := s.dev.srv.marks.map (fun m => ({ stream := m.1, index := 0, epoch := 0, block := 0, slot := 0, noPos := true,
                                                provisional := false, mark := some m.2, poison := false, rebuild := false,
                                                target := 0xFFFF, residual := [] } : BundleEntry))
  let s := s.updSrv (fun v => { v with marks := [] })
  let entries := s.dev.fab.outBundle ++ extra
  let b : Bundle := { tick := s.tick, tack, rebuildOnly := !entries.isEmpty && entries.all (·.rebuild),
                      epoch := if tack then s.dev.ws.stage else 0, entries }
  if entries.isEmpty && !tack then s else (s.updFab (fun f => { f with outBundle := [] })).sendBundle b

/-- POSITION_SLOT_FILL: the head fills the tick's slots with reprefill, decode and prefill work (09 R295). -/
def State.fillSlots (s : State) : State :=
  let l : Rat := s.dev.lmRate * s.dev.time.inForce
  let s := s.updSrv (fun v => { v with credit := min (v.credit + l) (l + 1) })
  if s.dev.sendsNothing then s
  else
    let s := s.holdRecords
    let back := (s.dev.srv.streams.filter (fun e => (s.dev.workOf e.2).isSome)).map (·.2.desc.tenant) |>.eraseDups
    let v := (back.map (fun t => (s.dev.tenant t).finish)).foldl (fun (b : Option Rat) x => match b with
      | none => some x
      | some y => some (min x y)) none
    let s := s.each back (fun s t => s.updTenant t (fun x => { x with finish := max x.finish (v.getD 0) }))
    let (n, s) := s.slotBudget
    let fuel := n + s.dev.srv.streams.length
    let (n, s) := State.fillKind .reprefill fuel n [] s
    let (n, s) := State.fillKind .decode fuel n [] s
    (State.fillKind .prefill fuel n [] s).2

end Sys2Proof.Machine
end

