-- ==== Sys2Proof/Machine/Streams.lean ====
section
/-! DEFINITION. Windows and waits of streams at a boundary: park and restore, TTL, budget windows, and the order in which
a boundary's work follows its commands (09 R290 to R294, R298; 08 R244, R258). -/

namespace Sys2Proof.Machine

/-- n free block IDs, lowest first (entry 13). -/
def Srv.nextBlocks (v : Srv) (n : Nat) : List Nat :=
  let used := (v.heldBlocks ++ v.prefixTab.map (·.2.block)).filter (fun b => decide (b < v.kvTotal))
  ((List.range (min v.kvTotal (used.length + n))).filter (fun b => !used.contains b)).take n

/-- The order in which a stream's RESUME took effect, when it waits or restores. -/
def Stream.resumeOrder (t : Stream) : Option Nat :=
  match t.park with
  | some p => p.resuming.map (·.2.2.2)
  | none => none

/-- Streams whose RESUME waits for blocks, in the order in which the RESUMEs took effect. -/
def Srv.restoreOrder (v : Srv) : List Nat :=
  (sortBy (·.1) (v.streams.filterMap (fun e => match e.2.park with
    | some p => if p.restored || p.copying.isSome then none else e.2.resumeOrder.map (fun o => (o, e.1))
    | none => none))).map (·.2)

/-- The blocks of a restored stream return to its list, and its RESUME ends with OK; with START its generation takes
effect now (08 R253, R258). Poisoned data end the stream (11 Table 11-4, 12 R375). -/
def State.finishRestore (s : State) (ch : Nat) (poisoned : Bool) : State :=
  match s.dev.stream ch with
  | none => s
  | some t =>
    match t.park with
    | none => s
    | some p =>
      match p.resuming with
      | none => s
      | some (rep, start, maxNew, _) =>
        let rep := { rep with ring := t.desc.ring }
        if poisoned then
          let s := (s.updStream ch (fun t => { t with st := .failed })).freeStream ch
          (s.updStream ch (fun t => { t with park := none })).reply rep stPOISONED 0 false true
        else
          let s := s.updStream ch (fun t => { t with
            blocks := (t.blocks.zipIdx).map (fun e => match p.blocks.find? (fun b => b.1 == e.2) with
              | some b => b.2
              | none => e.1) })
          match p.incomplete with
          | some pos => s.updStream ch (fun t => { t with
              rebuild := some (pos, (p.blocks.map (fun b => (64 * b.1, min t.kv (64 * b.1 + 64)))).filter (fun r => decide (r.1 < r.2))),
              park := some { p with blocks := [], incomplete := none, restored := true } })
          | none =>
          let s := s.updStream ch (fun t => { t with st := .idle, park := none })
          if start then
            s.startGen rep (if maxNew = 0xFFFFFFFF then t.desc.maxNew else maxNew) (maxNew == 0xFFFFFFFF) false (some (0, 0, false))
          else s.reply rep stOK 0 false true

/-- Tries to give a waiting RESUME its pool blocks: cached blocks and blocks parked in place give way (09 R291). A
stream parked in place has them, and its RESUME ends at once. Answers whether the blocks were there. -/
def State.tryRestore (s : State) (ch : Nat) : Bool × State :=
  match s.dev.stream ch with
  | none => (true, s)
  | some t =>
    match t.park with
    | none => (true, s)
    | some p =>
      if p.resuming.isNone || p.restored || p.copying.isSome then (true, s)
      else if p.inPlace then (true, s.finishRestore ch false)
      else
        let n := p.blocks.length
        let s := s.reclaimFor n
        if n ≤ s.dev.srv.freeBlocks then
          let ids := s.dev.srv.nextBlocks n
          (true, s.updStream ch (fun t => { t with park := t.park.map (fun p =>
            { p with restored := true, blocks := (p.blocks.zip ids).map (fun e => (e.1.1, e.2)) }) }))
        else (false, s)

/-- The stream whose blocks the stockpile mover carries: of the parks and restores that run, the one that took effect first (09
R290). -/
def Srv.moverAt (v : Srv) : Option Nat :=
  (sortBy (·.1) (v.streams.filterMap (fun e => match e.2.park with
    | some p =>
      if p.blocks.isEmpty then none
      else if p.copying.isSome then some (p.order, e.1)
      else if p.restored && e.2.rebuild.isNone then e.2.resumeOrder.map (fun o => (o, e.1))
      else none
    | none => none))).head?.map (·.2)

/-- Nothing of the stream's is left to move, or the mover is at it. -/
def Srv.moves (v : Srv) (ch : Nat) (p : Park) : Bool := p.blocks.isEmpty || v.moverAt == some ch

/-- Waiting RESUMEs try in order, until one must wait on (09 R291). -/
def State.restoreList : List Nat → State → State
  | [], s => s
  | ch :: rest, s =>
    match s.tryRestore ch with
    | (true, s) => State.restoreList rest s
    | (false, s) => s

/-- RESUME_RESTORE: the restore of the stream's blocks ends, once the pool has had them, and OK is reported; a data error
poisons the stream (09 R291, 12 R375). -/
def stepResumeRestore (ch : Nat) (poisoned : Bool) (s : State) : State :=
  let s := match s.dev.srv.restoreOrder with
    | c :: _ => if c = ch then (s.tryRestore ch).2 else s
    | [] => s
  match s.dev.stream ch with
  | none => s
  | some t =>
    match t.park with
    | some p => if p.restored && t.rebuild.isNone && s.dev.srv.moves ch p then s.finishRestore ch poisoned else s
    | none => s

/-- PARK_COPY_COMPLETE: the last package's copy, in the mover's order, ends in tick p, the TTL window starts, and PARK's final OK carries its
end (08 R258, 09 R290). A transfer error parks the stream in place (09 Table 9-8 ERR). -/
def stepParkCopyComplete (ch : Nat) (err : Bool) (s : State) : State :=
  match s.dev.stream ch with
  | none => s
  | some t =>
    match t.park with
    | none => s
    | some p =>
      match (if s.dev.srv.moves ch p then p.copying else none) with
      | none => s
      | some rep =>
        let tick := s.tick
        let s := if err then s.updSrv (fun v => { v with stockErr := true }) else s
        let s := s.updStream ch (fun t => { t with park := t.park.map (fun p =>
          { p with copying := none, p := tick, inPlace := p.inPlace || err }) })
        if rep.op = 0 then s
        else s.reply { rep with ring := t.desc.ring } stOK 0 false true ((tick + p.ttl) % 2 ^ 32) ((tick + p.ttl) / 2 ^ 32)

/-- The TTL of a parked stream has ended at tick p + TTL, and no RESUME has stopped it (09 R291). -/
def Stream.ttlOver (t : Stream) (tick : Nat) : Bool :=
  match t.park with
  | some p => t.st == .parked && p.copying.isNone && p.resuming.isNone && !p.expired && decide (p.p + p.ttl ≤ tick)
  | none => false

/-- TTL_EXPIRY: at the end of the TTL the parked blocks are freed, shared references dropped, the stream marked expired
(09 R291). -/
def stepTtlExpiry (ch : Nat) (s : State) : State :=
  match s.dev.stream ch with
  | none => s
  | some t => if t.ttlOver s.tick then s.expirePark ch else s

/-- BUDGET_WINDOW_END: the window [start, start + WINDOW) has ended; the excess over BUDGET opens the next (09 R293,
R294; 08 R261). -/
def stepBudgetWindowEnd (tn : Nat) (s : State) : State :=
  let t := s.dev.tenant tn
  match t.start with
  | none => s
  | some st =>
    if st + t.window ≤ s.tick then
      let s := s.updTenant tn (fun t => { t with
        start := some (st + t.window), window := t.nextWindow, counted := if t.budget = 0 then 0 else t.counted - t.budget })
      s.updSrv (fun v => { v with streams := v.streams.map (fun e =>
        if e.2.desc.tenant = tn then (e.1, { e.2 with gen := e.2.gen.map (fun g => { g with heldMark := false }) }) else e) })
    else s

/-- Parked streams whose stockpile region went away expire (09 Table 9-8 Caution). -/
def State.expireLostStock (s : State) : State :=
  if s.dev.srv.stockLost then
    let gone := (s.dev.srv.streams.filter (fun e => match e.2.park with
      | some p => e.2.st == .parked && !p.inPlace && !p.expired
      | none => false)).map (·.1)
    (s.each gone State.expirePark).updSrv (fun v => { v with stockLost := false })
  else s

/-- The ending windows of a boundary run their end actions before any command (05 R150; 09 R291, R293). -/
def State.endWindows (s : State) : State :=
  let s := s.each (List.range 64) (fun s t => stepBudgetWindowEnd t s)
  let s := s.expireLostStock
  s.each (s.dev.srv.streams.map (·.1)) (fun s ch => stepTtlExpiry ch s)

/-- Between the due commands of a boundary: once no command of class 1 or 2 is left, waiting RESUMEs and then queued
generations are tried; once none of class 3 is left, failed stamps act, positions commit and the tick's slots are filled
(08 Table 8-3; 09 R291, R295, R298; 11 R349). -/
def State.advance (s : State) : State :=
  let s :=
    if s.dev.srv.phase = 1 ∧ (s.dev.srv.due.all (fun c => decide (2 < opClass c.op))) then
      let s := State.restoreList s.dev.srv.restoreOrder s
      (s.each s.dev.srv.queuedOrder State.retest).updSrv (fun v => { v with phase := 2 })
    else s
  if s.dev.srv.phase = 2 ∧ (s.dev.srv.due.all (fun c => decide (3 < opClass c.op))) then
    ((s.failAll.commitAll.dropOld.parkWaiting).fillSlots).updSrv (fun v => { v with phase := 0 })
  else s

/-- QUEUED_ADMISSION: a queued generation is tested again (09 R298). -/
def stepQueuedAdmission (ch : Nat) (s : State) : State := s.retest ch

/-- POSITION_COMMIT: the position commits when every stage's PASS stamp and SCRUB confirmation is there and the earlier
ones have committed, with those after it that may too (11 R348). No commit of a stream precedes a CANCEL, CLOSE or PARK
of its channel that is due at the boundary (08 R256). -/
def stepPositionCommit (ch index : Nat) (s : State) : State :=
  if s.dev.srv.due.any (fun c => c.ch == ch && decide (opClass c.op ≤ 2)) then s else s.commitFrom ch index

/-- STAMP_FAIL: a stamp that named the position with another result than PASS acts (11 R349). -/
def stepStampFail (stream index : Nat) (s : State) : State :=
  match s.dev.srv.failing.find? (fun e => e.1 == stream && e.2.1 == index) with
  | some e => s.failStamp stream index e.2.2.1
  | none => s

def execResumeRestore (ch : Nat) (poisoned : Bool) (s : State) : Host.Outcome State Fault Refusal :=
  .next (stepResumeRestore ch poisoned s)
def execParkCopyComplete (ch : Nat) (err : Bool) (s : State) : Host.Outcome State Fault Refusal :=
  .next (stepParkCopyComplete ch err s)
def execTtlExpiry (ch : Nat) (s : State) : Host.Outcome State Fault Refusal := .next (stepTtlExpiry ch s)
def execBudgetWindowEnd (tenant : Nat) (s : State) : Host.Outcome State Fault Refusal := .next (stepBudgetWindowEnd tenant s)
def execQueuedAdmission (ch : Nat) (s : State) : Host.Outcome State Fault Refusal := .next (stepQueuedAdmission ch s)
def execPositionCommit (ch index : Nat) (s : State) : Host.Outcome State Fault Refusal := .next (stepPositionCommit ch index s)
def execStampFail (stream index : Nat) (s : State) : Host.Outcome State Fault Refusal := .next (stepStampFail stream index s)

end Sys2Proof.Machine
end

