-- ==== Sys2Proof/Machine/Commands.lean ====
section
/-! DEFINITION. The stream commands, TENANT_SET and NOP: their effect at the boundary where they take effect (08 R252 to
R261; 09 R269, R290, R291, R303). A command's row acts when the command is the first one due. -/

namespace Sys2Proof.Machine

/-- Runs the effect of the first due command when it has this opcode and channel, then what the boundary does next. -/
def State.runDue (s : State) (op ch : Nat) (eff : Cmd → State → State) : State :=
  match s.takeDue op ch with
  | none => s
  | some (c, s) => (eff c s).advance

/-- A refusal of a command: its one record (08 R245, R246). -/
def State.refuse (s : State) (rep : Rep) (status detail : Nat) : State := s.reply rep status detail true true

/-- START of a command's FLAGS. -/
def Cmd.start (c : Cmd) : Bool :=
  match c.op with
  | 0x01 => bitAt (c.at 0x24 1) 1
  | 0x02 => bitAt (c.at 0x24 1) 1
  | 0x03 => true
  | 0x06 => bitAt (c.at 0x18 1) 0
  | _ => false

/-- Reserved FLAGS bits of a stream command are 0 (08 Table 8-7; entry 21). -/
def Cmd.flagsOk (c : Cmd) : Bool :=
  match c.op with
  | 0x01 => decide (c.at 0x24 1 < 4)
  | 0x02 => decide (c.at 0x24 1 < 4)
  | 0x03 => decide (c.at 0x1C 1 < 2)
  | 0x06 => decide (c.at 0x18 1 < 2)
  | 0x08 => decide (c.at 0x24 1 < 2)
  | _ => true

/-- The image in service is an encoder's (07 Table 7-1 FLAGS bit 3). -/
def Dev.encoder (d : Dev) : Bool := bitAt d.hdr.flags 3

/-- Refusals of a stream command before its own checks: a refused descriptor, whose reply goes to ring 0; no image in
service, or a model kind that the command does not suit; FLAGS (08 R236, R237, R259). Answers the ring's choice too. -/
def State.streamRefusal (s : State) (c : Cmd) : Option (Rep × Nat × Nat) :=
  let rep := s.repOf c
  let desc : Option (Rep × Nat × Nat) :=
    if readsAnyway c.op || (s.dev.stream c.ch).isNone then
      match s.cmdDesc c with
      | .error (st, d) => some ({ rep with ring := 0 }, st, d)
      | .ok _ => none
    else none
  match desc with
  | some r => some r
  | none =>
    if [0x01, 0x02, 0x03, 0x05, 0x06, 0x08].contains c.op && (s.dev.ws.img.isNone || (s.dev.encoder && c.start) || (c.op == 0x08 && !s.dev.encoder)) then
      some (rep, stBAD, 0x0C)
    else if !c.flagsOk then some (rep, stBAD, 0x06)
    else none

/-- Runs a stream command's own effect when none of the common refusals holds. -/
def State.streamEff (eff : Cmd → Rep → State → State) (c : Cmd) (s : State) : State :=
  match s.streamRefusal c with
  | some (rep, st, d) => s.refuse rep st d
  | none => eff c (s.repOf c) s

/-- The tokens of a command's input, or the DETAIL of its refusal (08 R252, Table 8-9). `have_` is the history length
that they join. -/
def State.inputTokens (s : State) (c : Cmd) (d : Desc) (have_ : Nat) : Except Nat (List Nat) :=
  let len := c.at 0x20 4
  let inline := bitAt (c.at 0x24 1) 0
  let room := if c.op = 0x08 then 192 else 208
  if 16777216 < len ∨ (inline = true ∧ room < len) ∨ (d.inTokens = true ∧ len % 4 ≠ 0) then .error 0x06
  else if c.inputFailed then .error 0x04
  else
    let bytes := if inline then sliceAt c.packet (if c.op = 0x08 then 0x38 else 0x28) len else c.input
    let toks := if d.inTokens then (List.range (len / 4)).map (fun i => leAt bytes (4 * i) 4) else encodeText s.dev.ws.tok bytes
    if toks.any (fun t => decide (s.dev.vocab ≤ t)) then .error 0x08
    else if min d.maxContext 131072 < have_ + toks.length then .error 0x09
    else .ok toks

/-- A stream as OPEN creates it (09 R269, R281). -/
def newStream (ch fn id epoch : Nat) (desc : Desc) (hist : List Nat) : Stream :=
  { ch, fn, id, st := .idle, desc, hist, hashes := [], kv := 0, oldKv := 0, blocks := [], epoch, reKv := 0, gen := none, park := none,
    parkWait := none, k := min 2 desc.draftMax, misses := 0, rest := 0, attempts := (0, 0), rebuild := none,
    counts := (0, 0, 0, 0) }

/-- OPEN (08 R238, R252, R253; 09 R272 BOS). -/
def effOpen (c : Cmd) (rep : Rep) (s : State) : State :=
  if (s.dev.stream c.ch).isSome then s.refuse rep stBAD 0x05
  else match s.cmdDesc c with
    | .error (st, d) => s.refuse rep st d
    | .ok desc =>
      let bos := match s.dev.ws.tok.bos with
        | some t => [t]
        | none => []
      match s.inputTokens c desc bos.length with
      | .error d => s.refuse rep stBAD d
      | .ok toks =>
        let id := s.dev.srv.nextId
        let t := newStream c.ch c.fn id s.dev.entryEpoch desc (bos ++ toks)
        let s := ((s.updSrv (fun v => { v with nextId := v.nextId + 1 })).setStream t).rehash c.ch
        if c.start then s.startGen rep desc.maxNew true false (some (id, t.hist.length, true))
        else s.reply rep stOK 0 true true id t.hist.length

/-- The stream takes a new generation or more input: IDLE or DONE, no generation runs or is queued, no PARK waits. -/
def Stream.ready (t : Stream) : Bool := (t.st == .idle || t.st == .done) && t.gen.isNone && t.parkWait.isNone

/-- APPEND (08 R252). -/
def effAppend (c : Cmd) (rep : Rep) (s : State) : State :=
  match s.dev.stream c.ch with
  | none => s.refuse rep stBAD 0x05
  | some t =>
    if !t.ready then s.refuse rep stBAD 0x05
    else match s.inputTokens c t.desc t.hist.length with
      | .error d => s.refuse rep stBAD d
      | .ok toks =>
        let s := (s.updStream c.ch (fun t => { t with hist := t.hist ++ toks, st := .idle })).rehash c.ch
        let n := t.hist.length + toks.length
        if c.start then s.startGen rep t.desc.maxNew true false (some (toks.length, n, true))
        else s.reply rep stOK 0 true true toks.length n

/-- MAX_NEW as GENERATE gives it: the number, and whether it is the descriptor's (08 Table 8-7). -/
def maxNewOf (v : Nat) (d : Desc) : Option (Nat × Bool) :=
  if v = 0xFFFFFFFF then some (d.maxNew, true) else if v ≤ 131072 then some (v, false) else none

/-- GENERATE (08 R253, R258). -/
def effGenerate (c : Cmd) (rep : Rep) (s : State) : State :=
  match s.dev.stream c.ch with
  | none => s.refuse rep stBAD 0x05
  | some t =>
    if !t.ready then s.refuse rep stBAD 0x05
    else
      let park := bitAt (c.at 0x1C 1) 0
      match maxNewOf (c.at 0x18 4) t.desc with
      | none => s.refuse rep stBAD 0x06
      | some (n, fromDesc) =>
        if park && t.desc.parkTtl == 0 then s.refuse rep stBAD 0x06
        else s.startGen rep n fromDesc park none

/-- CANCEL: the generation's final record, then its own (08 R256, 09 R300). -/
def effCancel (c : Cmd) (rep : Rep) (s : State) : State :=
  match s.dev.stream c.ch with
  | none => s.reply rep stOK 0x01 true true
  | some t =>
    match t.gen with
    | none => s.reply rep stOK 0x01 true true
    | some _ =>
      (s.endGen c.ch stCANCELLED 0x01).reply rep stOK 0 true true

/-- PARK (08 R258, 09 R290): its blocks move once no position of the stream is in flight. -/
def effPark (c : Cmd) (rep : Rep) (s : State) : State :=
  match s.dev.stream c.ch with
  | none => s.refuse rep stBAD 0x05
  | some t =>
    let ttl := if c.at 0x18 4 = 0 then t.desc.parkTtl else c.at 0x18 4
    if !t.ready then s.refuse rep stBAD 0x05
    else if ttl = 0 then s.refuse rep stBAD 0x06
    else if s.dev.srv.flights.any (fun f => f.stream == t.id) then
      (s.updStream c.ch (fun t => { t with parkWait := some (rep, ttl) })).reply rep stQUEUED 0 true false
    else (s.reply rep stQUEUED 0 true false).startPark c.ch rep ttl

/-- RESUME of a stream whose TTL has ended: EXPIRED, or with REPREFILL a prefill of the history (09 R291, 07 Table 7-9). -/
def State.reprefillOr (s : State) (rep : Rep) (start : Bool) (maxNew status detail : Nat) : State :=
  match s.dev.stream rep.ch with
  | none => s
  | some t =>
    if t.desc.reprefill then
      let g := { newGen .resume rep s.tick s.dev.srv.nextOrder 0 (maxNew == 0xFFFFFFFF) start t.hist.length with
                 output := [maxNew], rebuilt := 0 }
      let s := s.updStream rep.ch (fun t => { t with gen := some g, st := .idle, park := none, kv := 0, oldKv := 0, blocks := [] })
      match s.testGen rep.ch false with
      | (.admitted, s) => s
      | (.refuse d, s) => (s.countRefusal t.desc.tenant).endGen rep.ch stREFUSED d
      | (_, s) => s.updSrv (fun v => { v with nextOrder := v.nextOrder + 1 })
    else
      let s := (s.updStream rep.ch (fun t => { t with st := .failed })).freeStream rep.ch
      (s.updStream rep.ch (fun t => { t with park := none })).reply rep status detail false true

/-- RESUME (08 R253, R258; 09 R291). -/
def effResume (c : Cmd) (rep : Rep) (s : State) : State :=
  match s.dev.stream c.ch with
  | none => s.refuse rep stBAD 0x05
  | some t =>
    match t.park with
    | none => s.refuse rep stBAD 0x05
    | some p =>
      if t.st != .parked || p.resuming.isSome then s.refuse rep stBAD 0x05
      else if c.start && (maxNewOf (c.at 0x1C 4) t.desc).isNone then s.refuse rep stBAD 0x06
      else
        let s := s.reply rep stQUEUED 0 true false
        if p.expired then s.reprefillOr rep c.start (c.at 0x1C 4) stEXPIRED 0x01
        else if p.epochFreed then s.reprefillOr rep c.start (c.at 0x1C 4) stEPOCH 0
        else
          let order := s.dev.srv.nextOrder
          let s := s.updSrv (fun v => { v with nextOrder := v.nextOrder + 1 })
          let s := s.updStream c.ch (fun t => { t with park := t.park.map (fun p =>
            { p with resuming := some (rep, c.start, c.at 0x1C 4, order) }) })
          if s.dev.srv.restoreOrder.head? = some c.ch then (s.tryRestore c.ch).2 else s

/-- CLOSE (08 R257): the generation's final record, then its own; the stream, its blocks and its waits end. -/
def effClose (c : Cmd) (rep : Rep) (s : State) : State :=
  let s := match s.dev.stream c.ch with
    | none => s
    | some t =>
      let s := if t.gen.isSome then s.endGen c.ch stCANCELLED 0x02 else s
      let s := (s.freeStream c.ch).delStream c.ch
      (s.updSrv (fun v => { v with flights := v.flights.map (fun (f : Flight) => if f.ch = c.ch then { f with dropped := true } else f) })).shrinkPool
  s.reply rep stOK 0 true true

/-- A reply's place with the channel's new ring (08 R260). -/
def Rep.toRing (p : Rep) (f ch ring : Nat) : Rep := if p.fn = f ∧ p.ch = ch then { p with ring } else p

/-- A new RING governs the records to come of the commands that still run on the channel (08 R260). -/
def State.moveRings (s : State) (f ch ring : Nat) : State :=
  let g : Rep → Rep := fun p => p.toRing f ch ring
  let s := s.updLnk (fun l => { l with
    sliceSet := l.sliceSet.map g, spareSets := l.spareSets.map (fun e => (e.1, g e.2)),
    rerig := l.rerig.map (fun r => { r with reply := r.reply.map g }) })
  let s := s.updChk (fun c => { c with
    pkgDue := c.pkgDue.map g, retires := c.retires.map (fun r => { r with rep := g r.rep }) })
  let s := s.updWs (fun w => { w with
    run := w.run.map (fun r => { r with reply := r.reply.map g }), tack := w.tack.map (fun t => { t with reply := t.reply.map g }) })
  let s := s.updSec (fun x => { x with waiting := x.waiting.map (fun a => { a with rep := g a.rep }) })
  s.updSrv (fun v => { v with
    embeds := v.embeds.map (fun e => (e.1, { e.2 with rep := g e.2.rep })),
    streams := v.streams.map (fun e => (e.1, if e.2.gen.any (fun n => n.rep.fn == f && n.rep.ch == ch) then
      { e.2 with gen := e.2.gen.map (fun n => { n with rep := g n.rep }), desc := { e.2.desc with ring } } else e.2)) })

/-- CHAN_RELOAD (08 R238, R260): the stream's copy and the running generation's limit follow the descriptor read. -/
def effChanReload (c : Cmd) (rep : Rep) (s : State) : State :=
  match s.cmdDesc c with
  | .error (st, d) => s.refuse { rep with ring := 0 } st d
  | .ok d =>
    match s.dev.stream c.ch with
    | none => (s.moveRings c.fn c.ch d.ring).reply rep stOK 0 true true
    | some t =>
      if t.desc.fixedDiffers d then s.refuse rep stBAD 0x0B
      else
        let s := (s.moveRings c.fn c.ch d.ring).updStream c.ch (fun t => { t with
          desc := d,
          gen := t.gen.map (fun g => if g.descNew && g.kind == .normal then { g with maxNew := min g.maxNew d.maxNew } else g) })
        s.reply { rep with ring := d.ring } stOK 0 true true

/-- Bytes of an EMBED's vector: two for each output element (08 R259, 09 R303). -/
def Dev.embedBytes (d : Dev) : Nat :=
  let hidden := if d.vocab = 0 then 0 else (d.dle.named 8).length / 2 / d.vocab
  let out := d.dle.named 15
  if out.isEmpty then 2 * hidden else if hidden = 0 then 0 else 2 * (out.length / 2 / hidden)

/-- EMBED (08 R259; 09 R303, R456): its positions run as those of a stream kept under a key above the channel numbers. -/
def effEmbed (c : Cmd) (rep : Rep) (s : State) : State :=
  if (s.dev.stream c.ch).isSome then s.refuse rep stBAD 0x05
  else match s.cmdDesc c with
    | .error (st, d) => s.refuse rep st d
    | .ok desc =>
      if c.at 0x30 4 < s.dev.embedBytes then s.refuse rep stBAD 0x0D
      else match s.inputTokens c desc 0 with
        | .error d => s.refuse rep stBAD d
        | .ok toks =>
          if !(s.dev.tenant desc.tenant).enable then (s.countRefusal desc.tenant).reply rep stREFUSED 0x05 true true
          else
            let id := s.dev.srv.nextId
            let key := 16384 + id
            let order := s.dev.srv.nextOrder
            let g := newGen .embed rep s.tick order 0 false false toks.length
            let t := { newStream key c.fn id s.dev.entryEpoch { desc with noPrefix := true } toks with gen := some g }
            let s := s.updSrv (fun v => { v with nextId := v.nextId + 1, nextOrder := v.nextOrder + 1,
                                                 embeds := Tab.put v.embeds key ⟨rep, BitVec.ofNat 64 (c.at 0x28 8), []⟩ })
            let s := (s.setStream t).reply rep stQUEUED 0 true false
            s.retest key

/-- Streams that are open or parked in a tenant. -/
def Srv.tenantStreams (v : Srv) (tn : Nat) : List Stream :=
  (v.streams.filter (fun e => e.2.desc.tenant == tn && decide (e.1 < 16384))).map (·.2)

/-- TENANT_SET (08 R261; 09 R456, R293). -/
def effTenantSet (c : Cmd) (s : State) : State :=
  let rep := s.repOf c
  let tn := c.at 0x18 1
  let en := bitAt (c.at 0x19 1) 0
  let t := s.dev.tenant tn
  let scope := BitVec.ofNat 32 (c.at 0x2C 4)
  let win := if c.at 0x1C 4 = 0 then 100000 else c.at 0x1C 4
  if 63 < tn ∨ 1 < c.at 0x19 1 ∨ c.at 0x1A 1 = 0 then s.refuse rep stBAD 0x06
  else if ((t.enable && !en) || t.scope != scope) && !(s.dev.srv.tenantStreams tn).isEmpty then s.refuse rep stBAD 0x0E
  else
    let tick := s.tick
    let s := s.updTenant tn (fun t => { t with
      enable := en, weight := c.at 0x1A 1, nextWindow := win, window := if t.start.isNone then win else t.window,
      start := some (t.start.getD tick), budget := c.at 0x20 8, kvCap := c.at 0x28 4, scope, refusals := 0 })
    s.reply rep stOK 0 true true

/-- NOP (08 Table 8-6). -/
def effNop (c : Cmd) (s : State) : State := s.reply (s.repOf c) stOK 0 true true

def execOpenCmd (ch : Nat) (s : State) : Host.Outcome State Fault Refusal := .next (s.runDue 0x01 ch (State.streamEff effOpen))
def execAppend (ch : Nat) (s : State) : Host.Outcome State Fault Refusal := .next (s.runDue 0x02 ch (State.streamEff effAppend))
def execGenerate (ch : Nat) (s : State) : Host.Outcome State Fault Refusal := .next (s.runDue 0x03 ch (State.streamEff effGenerate))
def execCancel (ch : Nat) (s : State) : Host.Outcome State Fault Refusal := .next (s.runDue 0x04 ch (State.streamEff effCancel))
def execPark (ch : Nat) (s : State) : Host.Outcome State Fault Refusal := .next (s.runDue 0x05 ch (State.streamEff effPark))
def execResume (ch : Nat) (s : State) : Host.Outcome State Fault Refusal := .next (s.runDue 0x06 ch (State.streamEff effResume))
def execClose (ch : Nat) (s : State) : Host.Outcome State Fault Refusal := .next (s.runDue 0x07 ch (State.streamEff effClose))
def execEmbed (ch : Nat) (s : State) : Host.Outcome State Fault Refusal := .next (s.runDue 0x08 ch (State.streamEff effEmbed))
def execChanReload (ch : Nat) (s : State) : Host.Outcome State Fault Refusal := .next (s.runDue 0x10 ch (State.streamEff effChanReload))
def execTenantSet (ch : Nat) (s : State) : Host.Outcome State Fault Refusal := .next (s.runDue 0x11 ch effTenantSet)
def execNop (ch : Nat) (s : State) : Host.Outcome State Fault Refusal := .next (s.runDue 0x7F ch effNop)

end Sys2Proof.Machine
end

