-- ==== Sys2Proof/Machine/Layout.lean ====
section
/-! DEFINITION. The layout of a weight image: header, manifest, layer records, pan payloads, schedules, tokenizer; and the
checks of their own fields (07 R190 to R200; 09 R272). -/

namespace Sys2Proof.Machine

/-- Bytes of a page (07 R190). -/
def pageBytes : Nat := 65536

/-- The header of page 0 (07 Table 7-1). -/
def hdrOf (p : List Byte) : ImgHdr :=
  { flags := leAt p 6 2, imageId := BitVec.ofNat 64 (leAt p 8 8), baseId := BitVec.ofNat 64 (leAt p 0x10 8),
    srSeed := BitVec.ofNat 64 (leAt p 0x18 8), pages := leAt p 0x20 4, listPages := leAt p 0x24 4, manPages := leAt p 0x28 4,
    manEntries := leAt p 0x2C 4, positions := leAt p 0x30 2, minPeriod := leAt p 0x32 1, frame := leAt p 0x33 1,
    kvBlocks := leAt p 0x34 4, minRate := leAt p 0x38 4, vocab := leAt p 0x3C 4, keyId := sliceAt p 0x40 32,
    root := sliceAt p 0x60 32, slots := leAt p 0xC0 4, draftTicks := leAt p 0xC4 1, lmMac := leAt p 0xC8 8,
    attnMac := leAt p 0xD0 4, kvBytes := leAt p 0xD4 4, draftAttnMac := leAt p 0xD8 4 }

/-- n lies from lo to hi. -/
def within (n lo hi : Nat) : Bool := decide (lo ≤ n) && decide (n ≤ hi)

/-- Page 0 meets Table 7-1 and R192: magic, version, fields within range, reserved bytes 0; the list has an entry for every
page after it (07 R191 to R193, Table 7-8 code 0x01). -/
def hdrOk (p : List Byte) (pagesCmd : Nat) : Bool :=
  let h := hdrOf p
  p.length == pageBytes && leAt p 0 4 == 0x4D49534A && leAt p 4 2 == 1 && decide (h.flags < 16) && h.imageId != 0 &&
  (bitAt h.flags 0 || h.baseId == 0) && within h.positions 1 4096 && within h.minPeriod 4 64 && within h.frame 1 64 &&
  within h.kvBlocks 1 4194304 && decide (h.vocab ≤ 262144) && decide (h.slots < 1048576) && decide (h.draftTicks ≤ 15) &&
  (h.draftTicks != 0 || h.draftAttnMac == 0) && (!bitAt h.flags 3 || h.lmMac == 0) &&
  zeroAt p 0xC5 3 && zeroAt p 0xDC 3876 && leAt p 0x1000 4 == 3284 && leAt p 0x1004 4 == 1 && zeroAt p 7388 (pageBytes - 7388) &&
  h.pages == pagesCmd && decide (1 ≤ h.listPages) && decide (1 ≤ h.manPages) && decide (1 + h.listPages + h.manPages ≤ h.pages) &&
  decide (h.pages ≤ 1 + h.listPages + 2048 * h.listPages) && decide (h.manEntries ≤ 2048 * h.manPages)

/-- The bytes of a page among those kept. -/
def pageOf (pages : List (Nat × List Byte)) (n : Nat) : List Byte := (Tab.find pages n).getD []

/-- Bytes of pages first to first + n − 1. -/
def pagesFrom (pages : List (Nat × List Byte)) (first n : Nat) : List Byte := (upFrom first n).flatMap (pageOf pages)

/-- Entry of the hash list for page n (07 R193). -/
def listEntry (h : ImgHdr) (pages : List (Nat × List Byte)) (n : Nat) : List Byte :=
  let i := n - h.listPages - 1
  sliceAt (pageOf pages (1 + i / 2048)) (32 * (i % 2048)) 32

/-- A manifest entry (07 Table 7-2). -/
def manEntryOf (b : List Byte) : ManEntry :=
  { kind := leAt b 0 1, flags := leAt b 1 1, position := leAt b 2 2, page := leAt b 4 4, length := leAt b 8 8,
    slot := leAt b 16 1, name := leAt b 17 1 }

/-- The manifest. -/
def manifestOf (h : ImgHdr) (pages : List (Nat × List Byte)) : List ManEntry :=
  let b := pagesFrom pages (1 + h.listPages) h.manPages
  (List.range h.manEntries).map (fun i => manEntryOf (sliceAt b (32 * i) 32))

/-- Pages that a section covers (07 Table 7-2). -/
def ManEntry.pages (e : ManEntry) : Nat := ceilDiv e.length pageBytes

/-- One entry of the manifest is within range. -/
def manEntryOk (h : ImgHdr) (e : ManEntry) (raw : List Byte) : Bool :=
  within e.kind 1 6 && decide (e.flags < (if e.kind = 3 then 2 else 1)) && decide (e.position < h.positions) &&
  decide (1 + h.listPages + h.manPages ≤ e.page) && decide (e.page + e.pages ≤ h.pages) && decide (e.slot < 16 ∨ e.slot = 255) &&
  (if e.kind = 4 ∨ e.kind = 5 then within e.name 0 9 || e.name == 15 else e.name == 255) && zeroAt raw 18 14

/-- Sections in ascending page order that share no page (07 R190, R194). -/
def ascending : List ManEntry → Bool
  | [] => true
  | [_] => true
  | a :: b :: r => decide (a.page + a.pages ≤ b.page) && ascending (b :: r)

/-- The manifest's entries are in range and in order, and its page tails are 0 (07 R190, R194). -/
def manifestOk (h : ImgHdr) (pages : List (Nat × List Byte)) : Bool :=
  let b := pagesFrom pages (1 + h.listPages) h.manPages
  let l := manifestOf h pages
  (l.zipIdx).all (fun e => manEntryOk h e.1 (sliceAt b (32 * e.2) 32)) && ascending l &&
  (b.drop (32 * h.manEntries)).all (fun x => x == 0)

/-- Content of a section. -/
def sectBytes (pages : List (Nat × List Byte)) (e : ManEntry) : List Byte := (pagesFrom pages e.page e.pages).take e.length

/-- The tail of a section's last page is 0 (07 R190). -/
def tailOk (pages : List (Nat × List Byte)) (e : ManEntry) : Bool := ((pagesFrom pages e.page e.pages).drop e.length).all (fun x => x == 0)

/-- Sections of a kind for a position. -/
def sections (man : List ManEntry) (kind pos : Nat) : List ManEntry := man.filter (fun e => e.kind == kind && e.position == pos)

/-- Words of 8 bytes from an offset. -/
def words64 (b : List Byte) (off n : Nat) : List W64 := (List.range n).map (fun i => BitVec.ofNat 64 (leAt b (off + 8 * i) 8))

/-- A matrix descriptor (07 Table 7-5). -/
def matOf (b : List Byte) : MatDesc :=
  { rows := leAt b 0 4, cols := leAt b 4 4, fmt := leAt b 8 1, place := leAt b 9 1, input := leAt b 10 1, name := leAt b 11 1,
    sect := leAt b 12 4 }

/-- Number of block seeds of a record's rotated inputs. -/
def seedCount (rots : List (Nat × Nat × Nat)) : Nat := (rots.map (fun (r : Nat × Nat × Nat) => r.2.1 + r.2.2)).foldl max 0

/-- A layer record (07 Table 7-4). -/
def recordOf (b : List Byte) : LayerRec :=
  let w := leAt b 4 4
  let nm := leAt b 0x16 1
  let nr := leAt b 0x17 1
  let kvh := leAt b 0x18 1
  let rots := (List.range nr).map (fun i => let o := 0x20 + 16 * nm + 8 * i; (leAt b o 4, leAt b (o + 4) 2, leAt b (o + 6) 2))
  let so := 0x20 + 16 * nm + 8 * nr
  let ns := seedCount rots
  { layer := fieldAt w 0 24, slot := fieldAt w 24 4, bound := BitVec.ofNat 32 (leAt b 8 4), srMask := leAt b 0xC 2,
    flags := leAt b 0xE 1, policy := leAt b 0xF 1, thresh := leAt b 0x10 2, replayPairs := leAt b 0x12 1, slipSlots := leAt b 0x13 1,
    softmaxScale := BitVec.ofNat 16 (leAt b 0x14 2), kvHeads := kvh, headDim := leAt b 0x1A 2, expertSlots := leAt b 0x1C 2,
    mats := (List.range nm).map (fun i => matOf (sliceAt b (0x20 + 16 * i) 16)), rots, seeds := words64 b so ns,
    kSeeds := words64 b (so + 8 * ns) kvh, vSeeds := words64 b (so + 8 * ns + 8 * kvh) kvh }

/-- Length of a record as its own counts give it (07 R196). -/
def recordLen (b : List Byte) : Nat :=
  let r := recordOf b
  0x20 + 16 * r.mats.length + 8 * r.rots.length + 8 * seedCount r.rots + 16 * r.kvHeads

/-- Formats of Table 7-5 that a placement takes (04 Table 4-4). -/
def fmtPlaced (m : MatDesc) : Bool :=
  match m.place with
  | 0 => decide (m.fmt ≤ 2) && m.sect == 0xFFFFFFFF
  | 1 => within m.fmt 0x10 0x13
  | 2 => decide (m.fmt ≤ 2)
  | _ => false

/-- A record's fields within range (07 Tables 7-4, 7-5; 05 R160). -/
def recordOk (b : List Byte) : Bool :=
  let r := recordOf b
  leAt b 0 4 == recordLen b && decide (leAt b 4 4 < 2 ^ 28) && decide (r.flags < 4) && decide (r.policy < 3) && decide (1 ≤ r.slipSlots) &&
  within r.mats.length 1 16 && decide (r.rots.length ≤ 16) && zeroAt b 0x19 1 && zeroAt b 0x1E 2 && r.headDim % 64 == 0 &&
  (r.kvHeads == 0 || r.headDim != 0) && decide (r.expertSlots ≤ 4096) &&
  r.mats.all (fun m => fmtPlaced m && (within m.name 0 9 || m.name == 15) && (decide (m.input < r.rots.length) || m.input == 255))

/-- The records of a LAYER_RECORDS section, with their bytes; the fuel bounds their number. -/
def recordsOf : Nat → List Byte → List (List Byte)
  | 0, _ => []
  | n + 1, b => if b.length < 32 ∨ leAt b 0 4 < 32 then (if b.isEmpty then [] else [b]) else b.take (leAt b 0 4) :: recordsOf n (b.drop (leAt b 0 4))

/-- Layer records of a position. -/
def layersOf (man : List ManEntry) (pages : List (Nat × List Byte)) (pos : Nat) : List (List Byte) :=
  (sections man 1 pos).flatMap (fun e => recordsOf 64 (sectBytes pages e))

/-- A PAN_ARRa_CFG value (03 Table 3-10). -/
def cfgOf (w : Nat) : ArrCfg :=
  { groupEn := BitVec.ofNat 16 (w / 65536), wide := bitAt w 4,
    fmt := (match fieldAt w 2 2 with
      | 0 => .b1
      | 1 => .t2
      | _ => .q2),
    mode := (match fieldAt w 0 2 with
      | 1 => .digital
      | 2 => .compute
      | _ => .idle) }

/-- A pan directory entry (07 R198): home pan, arrays that hold weights, first page of the body in the section, and the
configuration values. -/
structure PanEntry where
  home : Nat
  mask : List Nat
  body : Nat
  cfgs : List Nat
deriving DecidableEq, Repr

/-- A 48-byte directory entry. -/
def panEntryOf (b : List Byte) : PanEntry :=
  { home := leAt b 0 2, mask := (List.range 8).filter (fun a => bitAt (leAt b 2 1) a), body := leAt b 4 4,
    cfgs := (List.range 8).map (fun a => leAt b (16 + 4 * a) 4) }

/-- The directory of a PAN_PAYLOAD section: up to its first body's page; padding has home 0 (07 R198). -/
def panDir (b : List Byte) : List (PanEntry × List Byte) :=
  let n := min 2048 (pageBytes * leAt b 4 4 / 48)
  ((List.range n).map (fun i => let e := sliceAt b (48 * i) 48; (panEntryOf e, e))).takeWhile (fun e => e.1.home != 0)

/-- An entry is within range: home pan, reserved bytes, MODE by MASK, a legal FMT, a body in the section (07 R198). -/
def panEntryOk (pages : Nat) (e : PanEntry × List Byte) : Bool :=
  within e.1.home 32 2079 && zeroAt e.2 3 1 && zeroAt e.2 8 8 && decide (e.1.body + 1 + e.1.mask.length ≤ pages) &&
  (e.1.cfgs.zipIdx).all (fun c => fieldAt c.1 0 2 == (if e.1.mask.contains c.2 then 2 else 0) && fieldAt c.1 2 2 != 3 && fieldAt c.1 5 11 == 0)

/-- A body: home entry, SRAM page, and (array, rows) pages (07 R198). -/
structure PanBody where
  entry : PanEntry
  sram : List Byte
  arrays : List (Nat × List Byte)
deriving DecidableEq, Repr

/-- Bodies of a position's PAN_PAYLOAD sections. -/
def bodiesOf (man : List ManEntry) (pages : List (Nat × List Byte)) (pos : Nat) : List PanBody :=
  (sections man 2 pos).flatMap (fun s =>
    (panDir (pagesFrom pages s.page (min 2 s.pages))).map (fun e =>
      { entry := e.1, sram := pageOf pages (s.page + e.1.body),
        arrays := (e.1.mask.zipIdx).map (fun a => (a.1, pageOf pages (s.page + e.1.body + 1 + a.2))) }))

/-- A hop-table entry of 16 bytes (05 Table 5-4). -/
def hopOf (b : List Byte) : HopEntry :=
  let w := leAt b 0 16
  { start := fieldAt w 0 21, len := fieldAt w 21 8, period := fieldAt w 29 20, count := fieldAt w 49 12, inp := fieldAt w 64 3,
    out := fieldAt w 72 6, op := fieldAt w 80 2, valid := bitAt w 127 }

/-- A timetable entry of 16 bytes (07 Table 7-6). -/
def ttOf (b : List Byte) : TtEntry :=
  let w := leAt b 0 4
  { cycle := fieldAt w 0 18, tickInFrame := fieldAt w 18 6, action := leAt b 4 1, unit := leAt b 5 1, arg0 := leAt b 6 2, arg1 := leAt b 8 8 }

/-- Bytes of a SCHEDULE section's directory (07 R200). A first-entry index counts entries of 16 bytes from its end, byte 67,584
(DESIGN CHOICE, entry 124). -/
def schedDir : Nat := 67584

/-- The 16-byte entries of router r, table t of a SCHEDULE section (07 R200). -/
def schedTable (b : List Byte) (r t : Nat) : List (List Byte) :=
  let o := 8 * (4 * r + t)
  (List.range (min (leAt b o 4) 65536)).map (fun i => sliceAt b (schedDir + 16 * (leAt b (o + 4) 4 + i)) 16)

/-- The hop tables of a section for one bank, keyed as Fab.hops. -/
def hopTables (b : List Byte) (bank : Bool) : List (Nat × List HopEntry) :=
  (List.range 6336).filterMap (fun k =>
    let l := (schedTable b (k % 2112) (k / 2112)).map hopOf
    if l.isEmpty then none else some (6336 * b2n bank + k, l))

/-- The pan timetables of a section. -/
def timetables (b : List Byte) : List (Nat × List TtEntry) :=
  (List.range 2112).filterMap (fun r =>
    let l := (schedTable b r 3).map ttOf
    if l.isEmpty then none else some (r, l))

/-- The SCHEDULE section of a position: its ordinary one, or the narrow variant of a layer slot (07 R200). -/
def scheduleOf (man : List ManEntry) (pages : List (Nat × List Byte)) (pos : Nat) (narrow : Option Nat) : Option (List Byte) :=
  ((sections man 3 pos).find? (fun e => match narrow with
    | none => !bitAt e.flags 0
    | some k => bitAt e.flags 0 && e.slot == k)).map (sectBytes pages)

/-- The tokenizer of its section (09 Table 9-2). -/
def tokenizerOf (b : List Byte) : Tokenizer :=
  let v := leAt b 4 4
  let m := leAt b 8 4
  let mo := 0x520 + 4 * (v + 1)
  let so := mo + 12 * m
  let opt : Nat → Option Nat := fun x => if x = 0xFFFFFFFF then none else some x
  { vocab := v, eos := opt (leAt b 0xC 4), bos := opt (leAt b 0x10 4), cls := sliceAt b 0x20 256,
    byteTok := (List.range 256).map (fun i => leAt b (0x120 + 4 * i) 4),
    merges := (List.range m).map (fun i => (leAt b (mo + 12 * i) 4, leAt b (mo + 12 * i + 4) 4, leAt b (mo + 12 * i + 8) 4)),
    strings := (List.range v).map (fun i => sliceAt b (so + leAt b (0x520 + 4 * i) 4) (leAt b (0x524 + 4 * i) 4 - leAt b (0x520 + 4 * i) 4)) }

/-- A TOKENIZER section is not refused (09 R272). -/
def tokenizerOk (b : List Byte) (vocab : Nat) : Bool :=
  let v := leAt b 4 4
  let t := tokenizerOf b
  leAt b 0 4 == 0x4B4F5442 && v == vocab && zeroAt b 0x14 12 &&
  (List.range v).all (fun i => decide (leAt b (0x520 + 4 * i) 4 ≤ leAt b (0x524 + 4 * i) 4)) &&
  t.merges.all (fun m => decide (m.1 < v) && decide (m.2.1 < v) && decide (m.2.2 < v))

/-- Bytes of a position's pages of some kinds. -/
def kindBytes (man : List ManEntry) (kinds : List Nat) (pos : Nat) : Nat :=
  ((man.filter (fun e => kinds.contains e.kind && e.position == pos)).map (fun e => pageBytes * e.pages)).sum

/-- A position's own payload in bytes: every section that names it (07 R195). -/
def ownBytes (man : List ManEntry) (pos : Nat) : Nat := kindBytes man [1, 2, 3, 4, 5, 6] pos

/-- Array and SRAM body bytes of a position, its directory taken as two pages (07 R219). -/
def bodyBytes (man : List ManEntry) (pos : Nat) : Nat :=
  ((sections man 2 pos).map (fun e => pageBytes * (e.pages - 2))).sum

/-- Bytes of a KV block of one layer in one package (02 R59, R60). -/
def blockBytes (bits : Nat) (r : LayerRec) : Nat :=
  64 * (r.kvHeads * 2 * (r.headDim * bits / 8) + r.kvHeads * 2 * (r.headDim / 64) * 2)

end Sys2Proof.Machine
end

