-- ==== Sys2Proof/Machine/Lms.lean ====
section
/-! DEFINITION. Verification of two-level HSS signatures in the first row of 13 Table 13-1: LMS_SHA256_M32_H15 over
LMOTS_SHA256_N32_W8, and the device's own attestation keys and signatures in the second row: LMS_SHA256_M32_H20 over H10, with
LMOTS_SHA256_N32_W4 (07 R192; 13 R383, R384, R388, R392). The arithmetic is RFC 8554's, which the spec names (PRESUMED, entry 12). -/

namespace Sys2Proof.Machine

/-- A number in n bytes, big-endian, as RFC 8554 writes its integers (13 R388). -/
def beBytes (n x : Nat) : List Byte := (leBytes n x).reverse

/-- The number that n bytes from an offset hold, big-endian. -/
def beAt (l : List Byte) (off n : Nat) : Nat := leNat (sliceAt l off n).reverse

/-- One hash chain of a one-time key: n steps from position a. -/
def otsChain (lead : List Byte) : Nat → Nat → List Byte → List Byte
  | 0, _, x => x
  | n + 1, a, x => otsChain lead n (a + 1) (sha256 (lead ++ beBytes 1 a ++ x))

/-- Digits in base 256 of a message's digest and of its checksum: 34 chains. -/
def otsDigits (digest : List Byte) : List Nat :=
  let d := digest.map BitVec.toNat
  let c := (d.map (255 - ·)).sum
  d ++ [c / 256, c % 256]

/-- The one-time public key that a one-time signature of 1,124 bytes gives for a message. -/
def otsKey (lead msg sig : List Byte) : List Byte :=
  let digits := otsDigits (sha256 (lead ++ beBytes 2 0x8181 ++ sliceAt sig 4 32 ++ msg))
  sha256 (lead ++ beBytes 2 0x8080 ++ (digits.zipIdx).flatMap (fun e =>
    otsChain (lead ++ beBytes 2 e.2) (255 - e.1) e.1 (sliceAt sig (36 + 32 * e.2) 32)))

/-- From a node up a tree: the path gives the sibling at each height. -/
def lmsClimb (ident : List Byte) : List (List Byte) → Nat → List Byte → List Byte
  | [], _, x => x
  | y :: path, node, x =>
    let pair := if node % 2 = 1 then y ++ x else x ++ y
    lmsClimb ident path (node / 2) (sha256 (ident ++ beBytes 4 (node / 2) ++ beBytes 2 0x8383 ++ pair))

/-- An LMS signature of 1,612 bytes verifies under a public key of 56 bytes; the typecodes of both are the row's (13 R384). -/
def lmsVerify (key msg sig : List Byte) : Bool :=
  let ident := sliceAt key 8 16
  let q := beAt sig 0 4
  let ots := sliceAt sig 4 1124
  let leaf := otsKey (ident ++ beBytes 4 q) msg ots
  let node := 2 ^ 15 + q
  beAt key 0 4 == 7 && beAt key 4 4 == 4 && beAt ots 0 4 == 4 && beAt sig 1128 4 == 7 && decide (q < 2 ^ 15) &&
  lmsClimb ident ((List.range 15).map (fun i => sliceAt sig (1132 + 32 * i) 32)) node
    (sha256 (ident ++ beBytes 4 node ++ beBytes 2 0x8282 ++ leaf)) == sliceAt key 24 32

/-- An HSS signature of 3,284 bytes verifies under a public key of 60 bytes: Nspk 1, the signed second-level key, and the signature
of the message under it (07 R192; 13 R384). -/
def hssVerify (key msg sig : List Byte) : Bool :=
  let second := sliceAt sig 1616 56
  key.length == 60 && sig.length == 3284 && beAt key 0 4 == 2 && beAt sig 0 4 == 1 &&
  lmsVerify (sliceAt key 4 56) second (sliceAt sig 4 1612) && lmsVerify second msg (sliceAt sig 1672 1612)

/-- Digits in base 16 of a message's digest and of its checksum: 67 chains (13 Table 13-1, W4). -/
def otsDigits4 (digest : List Byte) : List Nat :=
  let d := digest.flatMap (fun b => [b.toNat / 16, b.toNat % 16])
  let c := (d.map (15 - ·)).sum
  d ++ [c / 256 % 16, c / 16 % 16, c % 16]

/-- A key of the device's: its seed and its identifier I of 16 bytes (13 R388). -/
structure LmsSecret where
  seed : List Byte
  ident : List Byte
deriving DecidableEq, Repr

/-- What a hash of leaf q begins with. -/
def LmsSecret.lead (x : LmsSecret) (q : Nat) : List Byte := sliceAt x.ident 0 16 ++ beBytes 4 q

/-- The start of chain i of the one-time key of leaf q, derived from the seed (RFC 8554, appendix A; entry 12). -/
def LmsSecret.chainStart (x : LmsSecret) (q i : Nat) : List Byte := sha256 (x.lead q ++ beBytes 2 i ++ beBytes 1 0xFF ++ x.seed)

/-- Chain i of leaf q, n steps on. -/
def LmsSecret.chain (x : LmsSecret) (q i n : Nat) : List Byte := otsChain (x.lead q ++ beBytes 2 i) n 0 (x.chainStart q i)

/-- The one-time signature of leaf q, 2,180 bytes; its randomizer comes from the seed, so that a signature computed twice is the same
(13 R388). -/
def LmsSecret.otsSign (x : LmsSecret) (q : Nat) (msg : List Byte) : List Byte :=
  let c := sha256 (x.seed ++ beBytes 4 q ++ beBytes 1 3)
  let digits := otsDigits4 (sha256 (x.lead q ++ beBytes 2 0x8181 ++ c ++ msg))
  beBytes 4 3 ++ c ++ (digits.zipIdx).flatMap (fun e => x.chain q e.2 e.1)

/-- A node of the tree of 2^h leaves, k levels above the leaves. -/
def LmsSecret.node (x : LmsSecret) (h : Nat) : Nat → Nat → List Byte
  | 0, r =>
    let q := r - 2 ^ h
    let key := sha256 (x.lead q ++ beBytes 2 0x8080 ++ (List.range 67).flatMap (fun i => x.chain q i 15))
    sha256 (x.lead r ++ beBytes 2 0x8282 ++ key)
  | k + 1, r => sha256 (x.lead r ++ beBytes 2 0x8383 ++ x.node h k (2 * r) ++ x.node h k (2 * r + 1))

/-- The LMS public key, 56 bytes, of a tree of 2^h leaves with its typecode. -/
def LmsSecret.pubKey (x : LmsSecret) (h code : Nat) : List Byte := beBytes 4 code ++ beBytes 4 3 ++ sliceAt x.ident 0 16 ++ x.node h h 1

/-- The LMS signature of leaf q: its one-time signature and the path of its siblings. -/
def LmsSecret.sign (x : LmsSecret) (h code q : Nat) (msg : List Byte) : List Byte :=
  beBytes 4 q ++ x.otsSign q msg ++ beBytes 4 code ++
    (List.range h).flatMap (fun i =>
      let r := (2 ^ h + q) / 2 ^ i
      x.node h i (if r % 2 = 1 then r - 1 else r + 1))

/-- The level-2 key of block b (13 R388). -/
def LmsSecret.block (x : LmsSecret) (b : Nat) : LmsSecret :=
  { seed := sha256 (x.seed ++ beBytes 4 b ++ beBytes 1 1), ident := (sha256 (x.seed ++ beBytes 4 b ++ beBytes 1 2)).take 16 }

/-- The device's HSS public key, 60 bytes (13 R384, R388). -/
def LmsSecret.hssPublic (x : LmsSecret) : List Byte := beBytes 4 2 ++ x.pubKey 20 8

/-- The level-1 tree's nodes of heights 10 to 20, 2,047 of 32 bytes (13 R388). -/
def LmsSecret.topNodes (x : LmsSecret) : List (List Byte) :=
  (List.range 11).flatMap (fun d => (List.range (2 ^ d)).map (fun i => x.node 20 (20 - d) (2 ^ d + i)))

/-- The attestation signature at global index n, 5,396 bytes: the level-1 leaf of the block signs the block's public key, and the
block's leaf signs the message (13 R392). -/
def LmsSecret.hssSign (x : LmsSecret) (n : Nat) (msg : List Byte) : List Byte :=
  let y := x.block (n / 1024)
  let key := y.pubKey 10 6
  beBytes 4 1 ++ x.sign 20 8 (n / 1024) key ++ key ++ y.sign 10 6 (n % 1024) msg

end Sys2Proof.Machine
end

