-- ==== Sys2Proof/Machine/Mesh.lean ====
section
/-! DEFINITION. Slips and slip slots, strict replays, routers and their hop tables, control-plane frames, pan program
entries, the hot window (02 R52 to R70; 04 R109, R110; 05 R131 to R141, R157 to R160; 07 R200; 09 R288). -/

namespace Sys2Proof.Machine

/-- Causes of a slip (05 R158). -/
inductive SlipCause
  | strict | link | attn | prefetch | other
deriving DecidableEq, Repr

/-- One position slips: its remaining work moves to the next tick, and the slip counts (05 R158, R161, Table 5-11). -/
def State.slipOne (cause : SlipCause) (s : State) (w : Work) : State :=
  let tick := s.tick
  let s := s.updWork w.stream w.index (fun w => { w with slipped := true, slips := w.slips + 1, tick := tick + 1, slipAt := tick })
  s.updFab (fun b =>
    let b := { b with slipCnt := b.slipCnt + 1 }
    match cause with
    | .strict => { b with slipStrict := satInc b.slipStrict }
    | .link => { b with slipLink := satInc b.slipLink }
    | .attn => { b with slipAttn := satInc b.slipAttn }
    | .prefetch => { b with slipPrefetch := satInc b.slipPrefetch }
    | .other => b)

/-- The CRC of a one-flit control frame, in its last word (05 R134). -/
def sealFlit (x : Flit) : Flit :=
  let w := x.words.take 7
  { x with words := w ++ [crc32c (w.flatMap (fun y => leBytes 4 y.toNat))] }

/-- A one-flit control frame of pan p about a vector of a position: TYPE, FLAGS, DST, the VEC tag, TICK and a BODY word
(05 Table 5-3). -/
def State.controlFlit (s : State) (p type flags dst slot stream index vec : Nat) (body : W32) : Flit :=
  let bundleIdx := match findIdx1 (fun (w : Work) => w.stream == stream && w.index == index) s.dev.fab.works 0 with
    | some (i, _) => i
    | none => 0
  sealFlit { inp := 4, words := [BitVec.ofNat 32 (type + 256 * flags + 65536 * p), BitVec.ofNat 32 (dst + 65536),
                                 BitVec.ofNat 32 (slot * 2 ^ 28 + bundleIdx * 2 ^ 16 + vec), BitVec.ofNat 32 s.tick, body, 0, 0],
             sparse := false, poison := false, ecc := 0, amax := type == 2, slot, stream, index, vec, col := 0, scale := 0 }

/-- The works that slip with a position: its own and every later one of its stream in this package (05 R158). -/
def Fab.slipping (b : Fab) (stream index : Nat) : List Work :=
  b.works.filter (fun w => w.stream == stream && decide (index ≤ w.index) && !w.slipped && decide (w.half < 2))

/-- A position slips, and every later position of its stream in this package with it; only its own slip has the cause (05 R158). -/
def State.slipWorks (s : State) (stream index : Nat) (cause : SlipCause) : State :=
  s.each (s.dev.fab.slipping stream index) (fun s w => s.slipOne (if w.index = index then cause else .other) w)

/-- A pan detects a slip: it sends a SLIP frame to every pan (05 R158, R159). -/
def State.slip (s : State) (p stream index : Nat) (cause : SlipCause) : State :=
  if (s.dev.fab.slipping stream index).isEmpty then s
  else (s.emit (.flits p .control 4 [s.controlFlit p 6 0 0xFFFF 0 stream index 0 0])).slipWorks stream index cause

/-- PREFETCH: a pan issues a DRAM prefetch for a step of the next tick, as its island's KV stream; a prefetch for the same place
takes the place of an earlier one (05 R152, R157). -/
def stepPrefetch (p stream index res addr len dst : Nat) (s : State) : State :=
  let f : Prefetch := { pan := p, stream, index, res, addr, len, dst, landed := false, poison := false }
  let same : Prefetch → Bool := fun x => x.pan == p && x.stream == stream && x.index == index && x.dst == dst
  let s := s.updFab (fun b => { b with prefetches := b.prefetches.filter (fun x => !same x) ++ [f] })
  stepArbRequest res (memChannel addr) ⟨5, Pan.island p⟩ 0 none s

/-- DEADLINE: the pan program reads the data that the position's prefetches brought: with all of them complete the step goes on,
poisoned if they are (11 R344); else it slips (05 R157, R158). -/
def stepDeadline (p stream index : Nat) (s : State) : State :=
  let mine : Prefetch → Bool := fun x => x.pan == p && x.stream == stream && x.index == index
  let fs := s.dev.fab.prefetches.filter mine
  if fs.all (·.landed) then
    let s := s.updFab (fun b => { b with prefetches := b.prefetches.filter (fun x => !mine x) })
    if fs.any (·.poison) then s.poisonWork stream index 1 else s
  else s.slip p stream index .prefetch

/-- A late attention result: the position slips, and the DLE completes it in the next tick, slipped positions first, in the order
of their slips (04 R117). -/
def State.attnLate (s : State) (p stream index : Nat) : State :=
  let s := s.updDle (fun d => { d with
    attnLate := true, attnSlips := d.attnSlips + 1,
    attnWait := if d.attnWait.contains (stream, index) then d.attnWait else d.attnWait ++ [(stream, index)] })
  s.slip p stream index .attn

/-- ATTN_RETURN: the attention result is taken at its return cycle, or the position slips (04 R117). -/
def stepAttnReturn (p stream index : Nat) (complete : Bool) (s : State) : State :=
  match s.dev.dle.attnOut.find? (fun e => e.1 == stream && e.2.1 == index) with
  | some e =>
    if complete then
      let s := s.updDle (fun d => { d with attnOut := d.attnOut.filter (fun x => !(x.1 == stream && x.2.1 == index)),
                                           attnWait := d.attnWait.filter (fun x => x != (stream, index)) })
      (s.updWork stream index (fun w => { w with attnDone := true })).emit (.panResult 0xFFFF (e.2.2.map bf16To32))
    else s.attnLate p stream index
  | none => s.attnLate p stream index

/-- The layer record of a slot. -/
def Ws.layer (w : Ws) (slot : Nat) : Option LayerRec := w.layers.find? (fun l => l.slot == slot)

/-- Slipped positions that may run in tick k, oldest slip first, in bundle order within a tick (05 R160). -/
def Fab.slipOrder (b : Fab) (k : Nat) : List Work := sortBy (·.slipAt) (b.works.filter (fun w => w.slipped && decide (w.tick ≤ k)))

/-- Arrays of a layer slot: with one layer in the payload every array in COMPUTE, else those whose pan timetable starts
vectors with the slot in its tag's top bits (04 R107; 05 Table 5-3 VEC; 07 Table 7-6). -/
def Dev.slotArrays (d : Dev) (slot : Nat) : List (Nat × Nat) :=
  let all := d.pans.flatMap (fun e => (e.2.arrs.filter (fun x => x.2.cfg.mode == .compute)).map (fun x => (e.1, x.1)))
  if d.ws.layers.length ≤ 1 then all
  else all.filter (fun pa => ((Tab.find d.fab.tables pa.1).getD []).any (fun t => t.action == 1 && t.unit == pa.2 && t.arg0 / 4096 == slot))

/-- A layer runs wide groups: Jesia sets WIDE the same for every array of it (03 R79). -/
def Dev.wideLayer (d : Dev) (slot : Nat) : Bool := (d.slotArrays slot).any (fun pa => ((d.pan pa.1).arr pa.2).cfg.wide)

/-- The position's run in a slot takes a replay pair: a strict replay of a wide layer (04 R110). -/
def Dev.takesPair (d : Dev) (slot : Nat) (w : Work) : Bool := w.replaying && d.wideLayer (w.replaySlot.getD slot)

/-- Fills slip slots one at a time; a strict replay of a wide layer also takes a replay pair, and a position behind a
waiting one of its stream waits (05 R160, 04 R110). -/
def State.fillSlips (slot slots pairs : Nat) : List Work → List Nat → State → State
  | [], _, s => s
  | w :: ws, blocked, s =>
    let used := Sparse.get (fun _ => 0) s.dev.fab.slipUsed slot
    let taken := Sparse.get (fun _ => 0) s.dev.fab.pairsUsed slot
    if slots ≤ used then s
    else if blocked.contains w.stream || (s.dev.takesPair slot w && decide (pairs ≤ taken)) then
      State.fillSlips slot slots pairs ws (w.stream :: blocked) s
    else
      let tick := s.tick
      let pair := s.dev.takesPair slot w
      let s := s.updFab (fun b => { b with slipUsed := Sparse.set (fun _ => 0) b.slipUsed slot (used + 1),
                                           pairsUsed := Sparse.set (fun _ => 0) b.pairsUsed slot (taken + b2n pair) })
      State.fillSlips slot slots pairs ws blocked
        (s.updWork w.stream w.index (fun w => { w with slipped := false, replaying := false, tick := tick }))

/-- SLIP_SLOT: slipped positions fill the layer's slip slots (05 R160). -/
def stepSlipSlot (slot : Nat) (s : State) : State :=
  match s.dev.ws.layer slot with
  | none => s
  | some l => State.fillSlips slot l.slipSlots l.replayPairs (s.dev.fab.slipOrder s.tick) [] s

/-- STRICT_REPLAY: a CLAMPED step of a strict stream is discarded and runs again, in full, in the next tick; one CLAMPED on 3
consecutive replays goes on as STRICT_FAIL (04 R109, R110; 05 R158). -/
def stepStrictReplay (p stream index : Nat) (s : State) : State :=
  match s.dev.fab.work stream index with
  | none => s
  | some w =>
    if !w.clamped || w.slipped then s
    else if 3 ≤ w.replays then s.failWork stream index 4 0 0 0
    else
      let s := s.slip p stream index .strict
      let s := s.updWork stream index (fun w => { w with
        half := 0, replays := w.replays + 1, clamped := false, replaying := true, replaySlot := w.clampSlot, clampSlot := none,
        attnDone := false, outRes := [] })
      s.upd (fun d => { d with pans := Sparse.updAll Pan.reset (fun _ q => { q with
        resid := q.resid.filter (fun e => !(e.1 == stream && e.2.1 == index)) }) (d.pans.map (·.1)) d.pans })

/-- An entry applies in a slot (05 R136). -/
def HopEntry.covers (e : HopEntry) (slot : Nat) : Bool :=
  let len := if e.len = 0 then 256 else e.len
  let count := if e.period = 0 then 1 else if e.count = 0 then 4096 else e.count
  e.valid && (List.range count).any (fun i => decide (e.start + i * e.period ≤ slot) && decide (slot < e.start + i * e.period + len))

/-- The plane's number in the hop-table key (05 R131). -/
def planeNum : Plane → Nat
  | .data => 0
  | .sum => 1
  | .control => 2

/-- A router's entries of the bank in force. -/
def Fab.entries (b : Fab) (plane : Plane) (p : Nat) : List HopEntry :=
  (Tab.find b.hops (6336 * b2n b.bank + 2112 * planeNum plane + p)).getD []

/-- The router that feeds an input port: its neighbour, or itself for LOCAL and EDGE (05 R132; 11 Table 11-7). -/
def feeder (p inp : Nat) : Nat :=
  match inp with
  | 0 => if p % 32 = 0 then p else p - 1
  | 1 => if p / 32 = 65 then p else p + 32
  | 2 => if p % 32 = 31 then p else p + 1
  | 3 => if p < 32 then p else p - 32
  | _ => p

/-- What a die-edge router's EDGE port connects to: a DLE cluster on rows 0 and 31; on the inner rows of columns 0 and 65 the west
blocks (CC, PCIE, HK, KV stream ports of islands 0 to 7) and the east blocks (WS, LNK, KV stream ports of islands 8 to 15)
(05 R132). -/
inductive Edge
  | dle (cluster : Nat) | west | east
deriving DecidableEq, Repr

/-- The EDGE port of a router; none inside the die (05 R132). -/
def edgeOf (p : Nat) : Option Edge :=
  if p % 32 = 0 then some (.dle (if p / 32 ≤ 32 then 0 else 1))
  else if p % 32 = 31 then some (.dle (if p / 32 ≤ 32 then 2 else 3))
  else if p / 32 = 0 then some .west
  else if p / 32 = 65 then some .east
  else none

/-- The pan that serves a router's LOCAL port: the spare that stands in for it (11 R353). -/
def Dev.standIn (d : Dev) (p : Nat) : Nat :=
  match d.pans.find? (fun e => e.2.role == .spareServing && e.2.subst == BitVec.ofNat 12 p) with
  | some e => e.1
  | none => p

/-- Two dense flits added element-wise modulo 2^32 (05 R139). -/
def addFlits (x y : Flit) : Flit := { x with words := List.zipWith (· + ·) x.words y.words, poison := x.poison || y.poison }

/-- FAULT of an AMAX frame's FLAGS byte (05 Table 5-3). -/
def flitFault (x : Flit) : Bool := (x.words.headD 0).getLsbD 10

/-- The larger of two AMAX flits, with FAULT when either has it (05 R137, R141). -/
def maxFlits (x y : Flit) : Flit :=
  let big := if (x.words.getD 4 0).toNat < (y.words.getD 4 0).toNat then y else x
  if flitFault x || flitFault y then sealFlit { big with words := (big.words.headD 0 ||| 0x400) :: big.words.drop 1 } else big

/-- Combines the i-th flits of several inputs. -/
def combine (f : Flit → Flit → Flit) : List (List Flit) → List Flit
  | [] => []
  | [l] => l
  | l :: ls =>
    let r := combine f ls
    let n := min l.length r.length
    List.zipWith f l r ++ l.drop n ++ r.drop n

/-- A sum-plane flit arrives at its destination pan (05 R139, R140). -/
def State.accumulate (p : Nat) (s : State) (x : Flit) : State :=
  let isIt : SumAcc → Bool := fun a => a.slot == x.slot && a.stream == x.stream && a.index == x.index && a.vec == x.vec
  s.updPan p (fun q =>
    let old := (q.accs.find? isIt).getD ⟨x.slot, x.stream, x.index, x.vec, [], [], 0, false, false⟩
    let adds : List (Nat × W32) := if x.sparse then
        (List.range 4).filterMap (fun n =>
          let c := fieldAt (x.words.getD (2 * n) 0xFFFF#32).toNat 0 16
          if c = 0xFFFF then none else some (c, x.words.getD (2 * n + 1) 0))
      else (x.words.zipIdx).map (fun (e : W32 × Nat) => (x.col + e.2, e.1))
    let top := adds.foldl (fun m e => max m (e.1 + 1)) old.cols.length
    let cols := old.cols ++ List.replicate (top - old.cols.length) 0
    let cols := adds.foldl (fun (l : List W32) e => l.set e.1 (l.getD e.1 0 + e.2)) cols
    { q with accs := q.accs.filter (fun a => !isIt a) ++ [{ old with
      cols, poison := old.poison || x.poison, scale := if x.sparse then old.scale else x.scale,
      cover := if x.sparse || old.cover.contains x.col then old.cover else old.cover ++ [x.col] }] })

/-- Checks the flits that a router forwards: single-bit errors are corrected and counted, an uncorrectable one sets
POISON and blames the router that feeds the port (05 R133; 11 Table 11-7). -/
def State.eccFlits (s : State) (p : Nat) (l : List Flit) : List Flit × State :=
  let ce := (l.filter (fun x => x.ecc == 1)).length
  let bad := l.filter (fun x => decide (2 ≤ x.ecc))
  let s := s.updPan p (fun q => { q with rtrCE := satInc q.rtrCE ce, rtrUE := satInc q.rtrUE bad.length })
  let s := s.each bad (fun s x => (s.logEvent 0x10 3 (feeder p x.inp) 3 0).failEvent 3 (feeder p x.inp) 0x10)
  (l.map (fun (x : Flit) => { x with poison := x.poison || decide (2 ≤ x.ecc), ecc := 0 }), s)

/-- One output port of a slot: the entries that name it, their flits combined, or a conflict: OP add is for dense flits of the
sum plane, OP max for AMAX flits of the control plane (05 R137, R139, R141). Answers the flits and whether a conflict occurred. -/
def portFlits (plane : Plane) (es : List HopEntry) (flits : List Flit) : List Flit × Bool :=
  let es := sortBy (·.inp) es
  let of : HopEntry → List Flit := fun e => flits.filter (fun x => x.inp == e.inp)
  let all := es.flatMap of
  if es.length ≤ 1 then (all, false)
  else if plane = .sum && es.all (fun e => e.op == 1) && all.all (fun x => !x.sparse) then (combine addFlits (es.map of), false)
  else if plane = .control && es.all (fun e => e.op == 2) && all.all (·.amax) then (combine maxFlits (es.map of), false)
  else ((es.take 1).flatMap of, true)

/-- FLIT_FORWARD: what a router does with the flits of one slot (05 R133, R137, R139, R140). -/
def stepFlitForward (p : Nat) (plane : Plane) (slot : Nat) (flits : List Flit) (s : State) : State :=
  let (flits, s) := if plane = .control then (flits, s) else s.eccFlits p flits
  let es := (s.dev.fab.entries plane p).filter (fun e => e.covers slot)
  let lost := (flits.filter (fun x => !es.any (fun e => e.inp == x.inp))).length
  let s := s.updPan p (fun q => { q with conflicts := wrapInc q.conflicts lost })
  s.each (List.range 6) (fun s n =>
    let (out, clash) := portFlits plane (es.filter (fun e => bitAt e.out n)) flits
    let s := if clash then s.updPan p (fun q => { q with conflicts := q.conflicts + 1 }) else s
    if out.isEmpty || (n == 5 && (edgeOf p).isNone) then s
    else if n = 4 ∧ plane = .sum then s.each out (State.accumulate (s.dev.standIn p))
    else s.emit (.flits p plane n out))

/-- The position that a control frame's VEC tag names: the index in the tick's bundle (05 Table 5-3). -/
def Fab.tagged (b : Fab) (vec : Nat) : Option Work := b.works[fieldAt vec 16 12]?

/-- The final value of an amax exchange is stored at a holder; FAULT makes the vector a numeric fault (05 R141, 02 R53). -/
def State.takeAmax (s : State) (p : Nat) (t : VecTag) (amax : W32) (fault : Bool) : State :=
  let s := s.updPan p (fun q => { q with amaxes := q.amaxes.filter (fun e => e.1 != t) ++ [(t, amax, fault)] })
  if fault then s.numericFault t.stream t.index else s

/-- CONTROL_FRAME_RECEIVE: a frame with a bad CRC is dropped, counted and blamed on the router that feeds the port, and
the vector that awaits it fails; FLAGS and CHECK frames carry CLAMPED, POISON and faults to the position; an AMAX frame
brings the exchange's value, which the root pan multicasts to every holder; with FAULT its holder handles the vector as a
numeric fault (05 R134, R141; 04 R105; 11 Table 11-3). -/
def stepControlFrameReceive (p inp : Nat) (bytes : List Byte) (s : State) : State :=
  let n := bytes.length
  let work := s.dev.fab.tagged (leAt bytes 8 4)
  if n < 4 ∨ crc32c (bytes.take (n - 4)) ≠ BitVec.ofNat 32 (leAt bytes (n - 4) 4) then
    let r := feeder p inp
    let s := s.updPan p (fun q => { q with ctlCrc := q.ctlCrc + 1 })
    let s := (s.logEvent 0x11 3 r inp 0).failEvent 3 r 0x11
    match work with
    | some w => s.failWork w.stream w.index 1 0x11 3 r
    | none => s
  else
    let fl := leAt bytes 1 1
    match work with
    | none => s
    | some w =>
      match leAt bytes 0 1 with
      | 0x02 =>
        let t : VecTag := ⟨fieldAt (leAt bytes 8 4) 28 4, w.stream, w.index, leAt bytes 8 2⟩
        let a := BitVec.ofNat 32 (leAt bytes 16 4)
        let s := s.takeAmax p t a (bitAt fl 2)
        if leAt bytes 4 2 = p then
          s.emit (.flits p .control 4 [s.controlFlit p 2 (fl % 8) 0xFFFF t.slot t.stream t.index t.vec a])
        else s
      | 0x03 =>
        let s := if bitAt fl 0 then
            (s.updPan p (fun q => { q with accs := q.accs.map (fun a =>
              if a.stream = w.stream ∧ a.index = w.index ∧ a.slot = fieldAt (leAt bytes 8 4) 28 4 ∧ a.vec = leAt bytes 8 2 then
                { a with clamped := true } else a) })).updWork w.stream w.index (fun w => { w with
                clamped := true, clampSlot := some (fieldAt (leAt bytes 8 4) 28 4) })
          else s
        let s := if bitAt fl 1 then s.poisonWork w.stream w.index 1 else s
        if bitAt fl 2 then s.failWork w.stream w.index 1 0 0 0 else s
      | 0x04 => if bitAt fl 2 then s.failWork w.stream w.index 1 0 0 0 else s
      | 0x06 => if w.slipped then s else
          let tick := s.tick
          s.updWork w.stream w.index (fun w => { w with slipped := true, tick := tick + 1, slipAt := tick })
      | _ => s

/-- A number of bits of a KV element: 8 with K8/V8, else 4 (02 R58, R60; 07 Table 7-1). -/
def Dev.kvBits (d : Dev) : Nat := if bitAt (d.ws.img.getD {}).flags 1 then 8 else 4

/-- Where KV data of a position lies in this package: by pool block, slot and layer slot (02 R59, 09 R287). -/
def kvKey (block bslot slot : Nat) : Nat := (block * 64 + bslot) * 16 + slot

/-- Replaces bytes of a list from an offset; the list grows as needed. -/
def putBytes (l : List Byte) (off : Nat) (bs : List Byte) : List Byte :=
  let l := l ++ List.replicate (off + bs.length - l.length) 0
  l.take off ++ bs ++ l.drop (off + bs.length)

/-- Offset of run r of K or V in a token's data part, and of its scale word after the data part (02 R59). -/
def kvPlace (l : LayerRec) (bits use r : Nat) : Nat × Nat :=
  let rph := max 1 (l.headDim / 64)
  let h := r / rph
  let v := if use = 2 then 1 else 0
  let data := l.kvHeads * 2 * l.headDim * bits / 8
  (h * (2 * l.headDim * bits / 8) + v * (l.headDim * bits / 8) + (r % rph) * (64 * bits / 8),
   data + h * (4 * rph) + v * (2 * rph) + 2 * (r % rph))

/-- Bytes of 64 quantized elements: element 2e in the low nibble of byte e in K4 and V4 (02 R59, R60). -/
def packKv (bits : Nat) (qs : List Int) : List Byte :=
  if bits = 8 then qs.map byteOfInt
  else (List.range (qs.length / 2)).map (fun e => BitVec.ofNat 8 (twos 4 (qs.getD (2 * e) 0) + 16 * twos 4 (qs.getD (2 * e + 1) 0)))

/-- The hot window takes bytes of a position's KV in a layer slot at an offset (09 R280, R288). -/
def Fab.putHot (b : Fab) (w : Work) (slot : Nat) (f : List Byte → List Byte) : Fab :=
  let isIt : HotEntry → Bool := fun h => h.stream == w.stream && h.index == w.index
  let old := (b.hot.find? isIt).getD ⟨w.stream, w.index, w.block, w.bslot, w.provisional, false, []⟩
  let new := { old with block := w.block, bslot := w.bslot, provisional := w.provisional, done := false,
                        data := Tab.put old.data slot (f ((Tab.find old.data slot).getD [])) }
  { b with hot := b.hot.filter (fun h => !isIt h) ++ [new] }

/-- One 64-element run of K or V of the position's token is quantized once and written to the hot window; its pool write is
posted (02 R58, R60; 05 R157; 09 R280, R288). -/
def State.storeKv (s : State) (slot use run : Nat) (w : Work) (l : LayerRec) (xs : List W32) : State :=
  let bits := s.dev.kvBits
  let lim := if bits = 8 then 127 else 7
  let sc := scaleWord (amaxOf xs) lim
  let seed := (s.dev.ws.img.getD {}).srSeed
  let qs := (xs.zipIdx).map (fun e => quantOne lim sc (some (srDraw seed w.stream use l.layer w.index (64 * run + e.2))) e.1)
  let (dOff, sOff) := kvPlace l bits use run
  s.updFab (fun b => b.putHot w slot (fun old => putBytes (putBytes old dOff (packKv bits qs)) sOff (leBytes 2 sc.toNat)))

/-- A hot-window entry's KV stands in the pool (05 R157, 09 R287). -/
def Fab.drain (b : Fab) (h : HotEntry) : Fab :=
  { b with kv := h.data.foldl (fun m e => Tab.put m (kvKey h.block h.bslot e.1) e.2) b.kv }

/-- A pan leaves a vector in its working store and on its planes. -/
def State.panOut (s : State) (p : Nat) (xs : List W32) : State :=
  (s.updPan p (fun q => { q with work := xs })).emit (.panResult p xs)

/-- The FP32 residual part that a pan keeps for a position from an element on (02 R57). -/
def Pan.residualOf (q : Pan) (stream index base : Nat) : Option (List W32) :=
  match q.resid.find? (fun e => e.1 == stream && e.2.1 == index && e.2.2.1 == base) with
  | some e => some e.2.2.2
  | none => none

/-- An add to the residual: the first one of a layer starts from the residual that came with the position, or from the layer
before it in this package (02 R57). -/
def State.addResidual (s : State) (p stream index base : Nat) (ys : List W32) : State :=
  let start : List W32 := match s.dev.fab.work stream index with
    | some w => ((if w.outRes.length ≤ base then w.residual else w.outRes).drop base).take ys.length
    | none => []
  let old := ((s.pan p).residualOf stream index base).getD (start ++ List.replicate (ys.length - start.length) 0)
  let sums := List.zipWith fpAdd old ys
  (s.updPan p (fun q => { q with
    resid := q.resid.filter (fun e => !(e.1 == stream && e.2.1 == index && e.2.2.1 == base)) ++ [(stream, index, base, sums)] })).panOut p sums

/-- The position whose KV a pan program entry writes: one in this package, or at the head the draft model's, provisional where its input
is a proposal (09 R278, R280). -/
def Dev.kvWork (d : Dev) (stream index : Nat) : Option Work :=
  match d.fab.work stream index with
  | some w => some w
  | none =>
    if !d.isHead then none
    else (d.srv.streams.find? (fun e => e.2.id == stream)).map (fun e =>
      { stream, index, epoch := d.ws.epoch, block := e.2.blocks.getD (index / 64) noBlock, bslot := index % 64,
        provisional := decide (e.2.hist.length ≤ index), rebuild := false, target := 0xFFFF, mark := none, expert := none, tick := d.time.tick,
        half := 0, slips := 0, replays := 0, clamped := false, poison := false, slipped := false, slipAt := 0, replaying := false,
        replaySlot := none, clampSlot := none, result := 0, cause := 0, kind := 0, unit := 0, attnDone := false, residual := [], outRes := [] })

/-- One entry of the pan program: its effect (02 R52, R57, R58, R61, R65, R70; 05 R127, R141). -/
def State.runPanOp (s : State) (p slot stream index : Nat) (op : PanOp) : State :=
  let layer := (s.dev.ws.layer slot).getD {}
  let seed := (s.dev.ws.img.getD {}).srSeed
  let checked : List W32 → (State → State) → State := fun xs f => if allFinite xs then f s else s.numericFault stream index
  match op with
  | .amax root vec xs =>
    let fault := !allFinite xs
    let s := s.emit (.flits p .control 4 [s.controlFlit p 2 (if fault then 4 else 0) root slot stream index vec (amaxOf xs)])
    s.takeAmax p ⟨slot, stream, index, vec⟩ (amaxOf xs) fault
  | .quantA8 q base vec xs =>
    let agreed := (s.pan p).amaxes.find? (fun e => e.1 == ⟨slot, stream, index, vec⟩)
    let amax := match agreed with
      | some e => e.2.1
      | none => amaxOf xs
    checked (amax :: xs) (fun s =>
      let sv := scaleWord amax 127
      let qs := (xs.zipIdx).map (fun e =>
        quantOne 127 sv (if bitAt layer.srMask q then some (srDraw seed stream (0x10 + q) layer.layer index (base + e.2)) else none) e.1)
      (s.updPan p (fun y => { y with work := qs.map (fun x => BitVec.ofInt 32 x) })).emit (.segment p (qs.map byteOfInt) sv))
  | .quantKV use run xs =>
    checked xs (fun s =>
      match s.dev.kvWork stream index with
      | some w => if w.rebuild && s.dev.role.position != w.target then s else s.storeKv slot use run w layer xs
      | none => s)
  | .rakeFull rot xs =>
    checked xs (fun s =>
      match layer.rots[rot]? with
      | some r => s.panOut p (rotate ((layer.seeds.drop r.2.1).take r.2.2) xs)
      | none => s.panOut p xs)
  | .rakeHead isQ heads xs =>
    checked xs (fun s =>
      let r := rotateHeads layer.kSeeds heads layer.headDim xs
      s.panOut p (if isQ then r.map (fun x => bf16To32 (fp32ToBf16 x)) else r))
  | .residualAdd base ys => s.addResidual p stream index base ys
  | .residualRound base =>
    let xs := ((s.pan p).residualOf stream index base).getD []
    checked xs (fun s =>
      let s := s.updPan p (fun q => { q with resid := q.resid.filter (fun e => !(e.1 == stream && e.2.1 == index && e.2.2.1 == base)) })
      let rs := (xs.zipIdx).map (fun e => residualOne (srDraw seed stream 0x03 layer.layer index (base + e.2)) e.1)
      let vals := rs.map (fun r => bf16To32 r.1)
      let s := s.updWork stream index (fun w =>
        let l := w.outRes ++ List.replicate (base + vals.length - w.outRes.length) 0
        { w with outRes := l.take base ++ vals ++ l.drop (base + vals.length) })
      let s := s.panOut p vals
      if rs.any (·.2) then s.numericFault stream index else s)
  | .expertOut base xs =>
    checked xs (fun s =>
      let vals := xs.map (fun x => bf16To32 (fp32ToBf16 x))
      (s.updWork stream index (fun w =>
        let l := w.outRes ++ List.replicate (base + vals.length - w.outRes.length) 0
        { w with outRes := l.take base ++ vals ++ l.drop (base + vals.length) })).panOut p vals)
  | .rowSum a =>
    match (s.arr p a).done.find? (fun v => v.stream == stream && v.index == index && !v.checked) with
    | some v => s.judge p a v.slot stream index v.vec
    | none => s
  | .other entry xs => s.panOut p ((List.range xs.length).map (Config.panProgram entry xs))

/-- Elements that an entry works on. -/
def Pan.opSize (q : Pan) (stream index : Nat) : PanOp → Nat
  | .amax _ _ xs => xs.length
  | .quantA8 _ _ _ xs => xs.length
  | .quantKV _ _ xs => xs.length
  | .rakeFull _ xs => xs.length
  | .rakeHead _ _ xs => xs.length
  | .residualAdd _ ys => ys.length
  | .residualRound base => ((q.residualOf stream index base).getD []).length
  | .expertOut _ xs => xs.length
  | .rowSum _ => 1024
  | .other _ xs => xs.length

/-- CALL: the timetable enters a pan program entry; the vector core's 32 lanes take its elements (05 R127, R129; 07 R200). -/
def stepCall (p slot stream index : Nat) (op : PanOp) (ecc : Nat) (s : State) : State :=
  let n := (s.pan p).opSize stream index op
  ((s.eccPan p stream index ecc).runPanOp p slot stream index op).updPan p (fun q => { q with vcoreBusy := wrapInc q.vcoreBusy (ceilDiv n 32) })

/-- KV_WRITE_COMPLETE: a posted pool write completes; the hot window keeps its copy no longer than the tick that wrote it
(05 R157, 09 R288). Provisional KV has no pool write (09 R280). -/
def stepKvWriteComplete (stream index : Nat) (s : State) : State :=
  s.updFab (fun b =>
    let mine : HotEntry → Bool := fun h => h.stream == stream && h.index == index && !h.provisional
    let b' := (b.hot.filter mine).foldl Fab.drain b
    { b' with hot := b.hot.map (fun h => if mine h then { h with done := true } else h) })

def execPrefetch (pan stream index res addr len dst : Nat) (s : State) : Host.Outcome State Fault Refusal :=
  .next (stepPrefetch pan stream index res addr len dst s)
def execDeadline (pan stream index : Nat) (s : State) : Host.Outcome State Fault Refusal := .next (stepDeadline pan stream index s)
def execAttnReturn (pan stream index : Nat) (complete : Bool) (s : State) : Host.Outcome State Fault Refusal :=
  .next (stepAttnReturn pan stream index complete s)
def execSlipSlot (slot : Nat) (s : State) : Host.Outcome State Fault Refusal := .next (stepSlipSlot slot s)
def execStrictReplay (pan stream index : Nat) (s : State) : Host.Outcome State Fault Refusal :=
  .next (stepStrictReplay pan stream index s)
def execFlitForward (pan : Nat) (plane : Plane) (slot : Nat) (flits : List Flit) (s : State) : Host.Outcome State Fault Refusal :=
  .next (stepFlitForward pan plane slot flits s)
def execControlFrameReceive (pan inp : Nat) (bytes : List Byte) (s : State) : Host.Outcome State Fault Refusal :=
  .next (stepControlFrameReceive pan inp bytes s)
def execCall (pan slot stream index : Nat) (op : PanOp) (ecc : Nat) (s : State) : Host.Outcome State Fault Refusal :=
  .next (stepCall pan slot stream index op ecc s)
def execKvWriteComplete (stream index : Nat) (s : State) : Host.Outcome State Fault Refusal :=
  .next (stepKvWriteComplete stream index s)

end Sys2Proof.Machine
end

