-- ==== Sys2Proof/Machine/ImageChecks.lean ====
section
/-! DEFINITION. The checks of 07 Table 7-8 over a received image, at one package. -/

namespace Sys2Proof.Machine

/-- Positions whose pages the package keeps: its own and those it covers (07 R195). -/
def Dev.served (d : Dev) : List Nat :=
  (if d.role.position = 0xFFFF then [] else [d.role.position]) ++ d.ws.cover.map (·.1)

/-- Page n is kept: the header, the list, the manifest, and the sections that name a served position (07 R195, R205). -/
def Dev.keeps (d : Dev) (h : ImgHdr) (man : List ManEntry) (n : Nat) : Bool :=
  decide (n ≤ h.listPages + h.manPages) ||
  man.any (fun e => d.served.contains e.position && decide (e.page ≤ n) && decide (n < e.page + e.pages))

/-- The enrolled publisher key with a hash (07 R192, 13 R386). -/
def Dev.publisherKey (d : Dev) (keyId : List Byte) : Option (List Byte) :=
  ((List.range 8).map (fun i => Sparse.get KeySlot.reset d.nv.keys i)).findSome? (fun k =>
    if k.state = 1 ∧ sha256 k.key = keyId then some k.key else none)

/-- The codes of page 0: header, key, signature (07 Table 7-8 codes 0x01 to 0x03). -/
def Dev.headerCode (d : Dev) (p : List Byte) (pagesCmd : Nat) : Nat :=
  if !hdrOk p pagesCmd then 0x01
  else match d.publisherKey (hdrOf p).keyId with
    | none => 0x02
    | some k => if hssVerify k (p.take 4096) (sliceAt p 0x1008 3284) then 0x00 else 0x03

/-- The slots of an entry (05 R136). -/
def HopEntry.slots (e : HopEntry) : List Nat :=
  let len := if e.len = 0 then 256 else e.len
  let count := if e.period = 0 then 1 else if e.count = 0 then 4096 else e.count
  (List.range count).flatMap (fun i => upFrom (e.start + i * e.period) len)

/-- Two entries of a plane of one router conflict (05 R137). -/
def hopConflict (plane : Nat) (a b : HopEntry) : Bool :=
  a.valid && b.valid && (List.range 6).any (fun o => bitAt a.out o && bitAt b.out o) &&
  !((a.op == 1 && b.op == 1 && plane == 1) || (a.op == 2 && b.op == 2 && plane == 2)) && a.slots.any b.covers

/-- Some two entries of a list conflict. -/
def anyConflict (plane : Nat) : List HopEntry → Bool
  | [] => false
  | e :: r => r.any (hopConflict plane e) || anyConflict plane r

/-- The router beyond a port in a direction, and the input port there (05 R132). -/
def neighbour (p out : Nat) : Option (Nat × Nat) :=
  match out with
  | 0 => if p % 32 = 0 then none else some (p - 1, 2)
  | 1 => if p / 32 = 65 then none else some (p + 32, 3)
  | 2 => if p % 32 = 31 then none else some (p + 1, 0)
  | _ => if p < 32 then none else some (p - 32, 1)

/-- Hop tables with a conflict, or a flow that reaches an input with no entry to take it, or an EDGE port that its router lacks (05
R132, R137). -/
def hopsBad (tab : List (Nat × List HopEntry)) (slots : Nat) : Bool :=
  tab.any (fun t =>
    let plane := t.1 / 2112
    let edge := (edgeOf (t.1 % 2112)).isSome
    anyConflict plane t.2 || t.2.any (fun e => e.valid && !edge && (bitAt e.out 5 || e.inp == 5)) ||
    t.2.any (fun e => e.valid && (List.range 4).any (fun o => bitAt e.out o &&
      (match neighbour (t.1 % 2112) o with
       | none => true
       | some (q, i) =>
         let there := ((Tab.find tab (2112 * plane + q)).getD []).filter (fun x => x.inp == i)
         e.slots.any (fun k => !(there.any (fun x => x.covers ((k + 1) % slots))))))))

/-- Array energy of a schedule frame in pJ: vectors of the timetables × Table 3-7's energy (03 R91). -/
def frameEnergy (tts : List (Nat × List TtEntry)) (bodies : List PanBody) : Nat :=
  (tts.map (fun t =>
    let cfgs := match bodies.find? (fun b => b.entry.home == t.1) with
      | some b => b.entry.cfgs
      | none => []
    ((t.2.filter (fun e => e.action == 1)).map (fun e => if bitAt (cfgs.getD e.unit 0) 4 then 1520 else 2097)).sum)).sum

/-- Array weights of a layer record. -/
def arrayWeights (r : LayerRec) : Nat := ((r.mats.filter (fun m => m.place == 0)).map (fun m => m.rows * m.cols)).sum

/-- A layer whose clamp policy the image does not allow: NARROW without a narrow variant, or DLE at a rate below MIN_RATE at
a context of 4,096 tokens (04 R108, R120). -/
def policyBad (h : ImgHdr) (narrow : Bool) (r : LayerRec) : Bool :=
  match r.policy with
  | 1 => !(bitAt r.flags 1 && narrow)
  | 2 => decide (420 * 512 * 1000000000000 < h.minRate * (arrayWeights r * 512 + 4096 * h.attnMac * 420))
  | _ => false

/-- DRAM that a position needs, its KV pool counted at `blocks`; `keep` counts its service copy (07 R210). -/
def positionDram (h : ImgHdr) (man : List ManEntry) (pages : List (Nat × List Byte)) (blocks pos : Nat) (keep : Bool) : Nat :=
  let bits := if bitAt h.flags 1 then 8 else 4
  blocks * (((layersOf man pages pos).map (fun b => blockBytes bits (recordOf b))).sum) + kindBytes man [4, 5, 6] pos +
    (if keep && bitAt h.flags 2 then ownBytes man pos else 0)

/-- Header and manifest of a payload. -/
def Payload.hdr (p : Payload) : ImgHdr := hdrOf (pageOf p.pages 0)
def Payload.man (p : Payload) : List ManEntry := manifestOf p.hdr p.pages

/-- Usable weight-store pages: WS_PAGES_USABLE (07 R208, Table 7-10). -/
def Ws.usable (w : Ws) : Nat := (if Config.is128L then 1572864 else 786432) - w.retiredPages.length

/-- The package's weight-store need fits (07 R209). -/
def Dev.storeFits (d : Dev) (h : ImgHdr) (man : List ManEntry) : Bool :=
  let own := if d.role.position = 0xFFFF then 0 else ownBytes man d.role.position
  let cold := ((d.ws.cover.filter (fun c => c.2 == 2)).map (fun c => ownBytes man c.1)).sum
  decide (2 * own + cold + 2 * (1 + h.listPages) * pageBytes ≤ d.ws.usable * pageBytes)

/-- The payload that this package loads: the staged one that a tack put in service, the service copy, else the weight store's; a spare's
duty where it serves a position, from the role that a ROUTE frame gave it on, for the epoch that the position served where one is named,
else for one that is not staged (07 R212, R213, R227, R231; 10 R328). A package in no slice loads the own payload that its store holds.
True: it lies in the weight store. -/
def Dev.payloadFor (d : Dev) (epoch : Option Nat) : Option (Payload × Bool) :=
  let pos := match d.role.roleDue with
    | some w => w.position
    | none => d.role.position
  let free := !d.role.assigned && d.role.roleDue.isNone
  let here : Payload → Bool := fun p => !p.pending && (p.position == pos || (free && p.own))
  let duty : Payload → Bool := fun p => here p && (match epoch with
    | some e => p.epoch == e
    | none => d.ws.stage == 0 || p.epoch != d.ws.stage)
  let dram := if epoch.isSome then [] else (if d.ws.commitDue then d.ws.staged.toList else []) ++ d.ws.copy.toList
  match dram.find? here with
  | some p => some (p, false)
  | none =>
    match d.ws.store.find? (fun p => p.own && here p && epoch.isNone) with
    | some p => some (p, true)
    | none =>
      match d.ws.duties.find? duty with
      | some p => some (p, false)
      | none => (d.ws.store.find? (fun p => !p.own && duty p)).map (fun p => (p, true))

/-- Own payload of the epoch in service. -/
def Dev.ownPayload (d : Dev) : Option (Payload × Bool) := d.payloadFor none

/-- What a spare holds of a position that it covers, for the epoch in service (07 R228). -/
def Ws.dutyOf (w : Ws) (pos : Nat) : Option Payload :=
  (w.duties ++ w.store.filter (fun p => !p.own && !p.pending)).find? (fun p => p.position == pos && (w.stage == 0 || p.epoch != w.stage))

/-- A package's DRAM need: its position's, or at a spare the largest of those it covers, and its standing duties; an IMAGE_STAGE
counts the epoch in service, the pool at the larger size, and beside it the staged payload or standing duties (07 R210, R457). -/
def Dev.dramNeed (d : Dev) (op : ImgOp) (h : ImgHdr) (man : List ManEntry) (pages : List (Nat × List Byte)) : Nat :=
  let standing := (d.ws.cover.filter (fun c => c.2 == 1)).map (·.1)
  let stage := op == .stage
  let need : Option Payload → Nat → Bool → Nat := fun held pos keep => match held with
    | some p => if stage then positionDram p.hdr p.man p.pages (max h.kvBlocks p.hdr.kvBlocks) pos keep
                else positionDram h man pages h.kvBlocks pos keep
    | none => positionDram h man pages h.kvBlocks pos keep
  let dutyBytes := (standing.map (fun c => match d.ws.dutyOf c with
    | some p => if stage then ownBytes p.man c + ownBytes man c else ownBytes man c
    | none => ownBytes man c)).sum
  if d.role.position = 0xFFFF then ((d.ws.cover.map (fun c => need (d.ws.dutyOf c.1) c.1 false)).foldl max 0) + dutyBytes
  else need (d.ownPayload.map (·.1)) d.role.position true + (if stage then ownBytes man d.role.position else 0) + dutyBytes

/-- The need and the fixed reserve fit 288 GiB (07 R210). -/
def Dev.dramOk (d : Dev) (op : ImgOp) (h : ImgHdr) (man : List ManEntry) (pages : List (Nat × List Byte)) : Bool :=
  decide (d.dramNeed op h man pages + 4 * 1073741824 ≤ 288 * 1073741824)

/-- A payload's schedule, or its narrow variant for a layer slot, goes into hop-table banks, and its timetables when asked
(07 R200). -/
def State.loadSchedule (s : State) (p : Payload) (narrow : Option Nat) (tts : Bool) (banks : List Bool) : State :=
  match scheduleOf p.man p.pages p.position narrow with
  | none => s
  | some b =>
    let tabs := banks.flatMap (hopTables b)
    s.updFab (fun f => { f with tables := if tts then timetables b else f.tables,
                                hops := tabs.foldl (fun m e => Tab.put m e.1 e.2) (f.hops.filter (fun e => !banks.contains (decide (6336 ≤ e.1)))) })

/-- Hop tables of the image go to the idle bank, which a frame boundary puts in force (05 R138, 04 R108). -/
def State.turnBank (s : State) (narrow : Option Nat) : State :=
  match s.dev.ownPayload with
  | none => s
  | some (p, _) => (s.loadSchedule p narrow false [!s.dev.fab.bank]).updFab (fun f => { f with hopPending := true })

/-- A pending bank switch takes effect at a frame boundary (05 R138); a tack's own switch is TACK_BANK_SWITCH. -/
def State.switchBank (s : State) : State :=
  if s.dev.fab.hopPending && s.tick % max 1 s.dev.fab.frame == 0 && s.dev.ws.state != 5 then
    s.updFab (fun f => { f with hopPending := false, bank := !f.bank })
  else s

/-- A hop-table entry within range: reserved bits 0, a legal input, OP add on the sum plane and max on the control plane only
(05 Table 5-4). -/
def hopEntryOk (plane : Nat) (b : List Byte) : Bool :=
  let w := leAt b 0 16
  let e := hopOf b
  fieldAt w 61 3 == 0 && fieldAt w 67 5 == 0 && fieldAt w 78 2 == 0 && fieldAt w 82 45 == 0 && decide (e.inp ≤ 5) &&
  (e.op == 0 || e.op == plane && decide (1 ≤ plane))

/-- A timetable entry within range: reserved bits 0, a tick of the frame, a schedule cycle, a named action and unit, ARG1 only of
PREFETCH (07 Table 7-6). -/
def ttEntryOk (h : ImgHdr) (b : List Byte) : Bool :=
  let e := ttOf b
  fieldAt (leAt b 0 4) 24 8 == 0 && decide (e.tickInFrame < h.frame) && decide (e.cycle + 4 < 2000 * h.minPeriod) &&
  within e.action 1 9 && (decide (e.unit < 8) || e.unit == 255) && (e.arg1 == 0 || e.action == 3)

/-- A SCHEDULE section within range: at most 1,024 entries in a bank of a router's plane (05 R136; 07 R200). -/
def schedOk (h : ImgHdr) (b : List Byte) : Bool :=
  (List.range 2112).all (fun r =>
    (List.range 3).all (fun t => decide (leAt b (8 * (4 * r + t)) 4 ≤ 1024) && (schedTable b r t).all (hopEntryOk t)) &&
    (schedTable b r 3).all (ttEntryOk h))

/-- Instants of a schedule frame of `len` cycles: from t on, the first at or after it of a cyclic list. -/
def nextAt (len t : Nat) (l : List Nat) : Nat := (l.map (fun x => if t ≤ x then x else x + len)).foldl min (t + len)

/-- The live segments of one pan at each load of a ring slot: a segment stays from its RING_LOAD to the end of the tick in which the
last vector that reads its slot completes, and to that vector's last correction slot where it lies later, in the next tick at most
(05 R128; entry 116). `tick` is a tick's schedule cycles. -/
def liveSegments (tick len : Nat) (wide : Nat → Bool) (l : List TtEntry) : List Nat :=
  let at_ : TtEntry → Nat := fun e => tick * e.tickInFrame + e.cycle
  let loads := l.filter (fun e => e.action == 2)
  let lives : List (Nat × Nat) := loads.map (fun e =>
    let t := at_ e
    let over_ := nextAt len (t + 1) ((loads.filter (fun x => x.arg0 == e.arg0)).map at_)
    let ends := (l.filter (fun x => x.action == 1 && x.arg0 == e.arg0)).filterMap (fun x =>
      let v := if t ≤ at_ x then at_ x else at_ x + len
      if over_ ≤ v then none
      else
        let c := v + (if wide x.unit then 513 else 1025)
        let fix := nextAt len v ((l.filter (fun y => y.action == 6 && (y.unit == x.unit || y.unit == 255))).map at_)
        let close := (c / tick + 1) * tick
        some (if fix < close + tick then max close (fix + 1) else close))
    (t, ends.foldl max (t + 1) - t))
  lives.map (fun e => (lives.filter (fun x => decide ((e.1 + len - x.1 % len) % len < x.2))).length)

/-- A descriptor's SECTION names a section of its kind for the position; that of an ARRAY matrix is all ones (07 R197). -/
def sectionOk (man : List ManEntry) (pos : Nat) (m : MatDesc) : Bool :=
  match man[m.sect]? with
  | some e => m.place == 0 || (e.position == pos && e.kind == 3 + m.place && e.name == m.name)
  | none => m.place == 0

/-- Column scales of a DLE_MATRIX or TIER2 section, as its descriptor lays it out (02 R49; 07 Table 7-3, R215). -/
def sectScales (m : MatDesc) (b : List Byte) : List Nat :=
  if m.place = 2 then
    let cols := (match m.fmt with
      | 0 => Fmt.b1
      | 1 => .t2
      | _ => .q2).cols
    let stride := 65536 + 10 * cols
    (List.range (b.length / stride)).flatMap (fun k => (List.range cols).map (fun j => leAt b (stride * k + 65536 + 2 * j) 2))
  else
    let body := (if m.fmt = 0x13 then 2 else 1) * m.rows * m.cols
    (List.range ((b.length - body) / 2)).map (fun j => leAt b (body + 2 * j) 2)

/-- A BF16 pattern that is infinite or NaN. -/
def scaleBad (w : Nat) : Bool := fieldAt w 7 8 == 255

/-- A position whose own sections fail a check: its code, 0 for none (07 Table 7-8). -/
def Dev.positionCode (d : Dev) (h : ImgHdr) (man : List ManEntry) (pages : List (Nat × List Byte)) (pos : Nat) : Nat :=
  let raw := layersOf man pages pos
  let recs := raw.map recordOf
  let bodies := bodiesOf man pages pos
  let scheds := (scheduleOf man pages pos none).toList ++ ((List.range 16).filterMap (fun k => scheduleOf man pages pos (some k)))
  let tts := match scheduleOf man pages pos none with
    | some b => timetables b
    | none => []
  let p := d.time.inForce
  let dirOk := (sections man 2 pos).all (fun s =>
    (panDir (pagesFrom pages s.page (min 2 s.pages))).all (panEntryOk s.pages))
  let tokOk := (sections man 6 pos).all (fun e => tokenizerOk (sectBytes pages e) h.vocab)
  let tails := (man.filter (fun e => e.position == pos)).all (tailOk pages)
  let mats := recs.flatMap (·.mats)
  let ticks := 2000 * p - 4
  let wide : Nat → Nat → Bool := fun home a => match bodies.find? (fun b => b.entry.home == home) with
    | some b => (cfgOf (b.entry.cfgs.getD a 0)).wide
    | none => false
  if !(raw.all recordOk && dirOk && tokOk && tails && mats.all (sectionOk man pos) && scheds.all (schedOk h)) then 0x01
  else if recs.any (fun r => decide (2 ^ 31 - 1 < r.bound.toNat)) then 0x09
  else if bodies.any (fun b => b.entry.mask.any (fun a =>
      (List.range (cfgOf (b.entry.cfgs.getD a 0)).fmt.cols).any (fun j => scaleBad (leAt b.sram (0x4000 + 0x400 * a + 2 * j) 2)))) ||
      mats.any (fun m => m.place != 0 && (match man[m.sect]? with
        | some e => (sectScales m (sectBytes pages e)).any scaleBad
        | none => false)) then 0x0A
  else if 70000000 * p * h.frame < frameEnergy tts bodies then 0x0B
  else if recs.any (fun r => policyBad h (scheduleOf man pages pos (some r.slot)).isSome r) then 0x0C
  else if tts.any (fun t => t.2.any (fun e => e.action == 2 && decide (40 ≤ e.arg0)) ||
      (liveSegments ticks (ticks * h.frame) (wide t.1) t.2).any (fun n => decide (40 < n))) then 0x0D
  else if scheds.any (fun b => hopsBad (hopTables b false) (h.frame * (500 * p - 1))) then 0x0E
  else 0

/-- The least nonzero code of a list, 0 for none. -/
def leastCode (l : List Nat) : Nat := ((l.filter (· != 0)).foldl (fun b x => if b = 0 ∨ x < b then x else b) 0)

/-- The checks that depend on the whole image, at this package (07 R201, R202, Table 7-8). -/
def Dev.wholeCode (d : Dev) (op : ImgOp) (h : ImgHdr) (man : List ManEntry) (pages : List (Nat × List Byte)) : Nat :=
  leastCode ((if d.dramOk op h man pages then 0 else 0x07) :: (if d.storeFits h man then 0 else 0x08) ::
    d.served.map (d.positionCode h man pages))

/-- The K and V head seeds of an image's layers at this package equal those in service (02 R66). -/
def Dev.sameSeeds (d : Dev) (man : List ManEntry) (pages : List (Nat × List Byte)) : Bool :=
  let new := (layersOf man pages d.role.position).map recordOf
  new.length == d.ws.layers.length &&
  d.ws.layers.all (fun o => new.any (fun n => n.slot == o.slot && n.kSeeds == o.kSeeds && n.vSeeds == o.vSeeds))

/-- Status of a code of Table 7-8. -/
def imgStatus (code : Nat) : Nat :=
  if code = 0 then stOK else if code = 0x12 then stDEGRADED
  else if [0x02, 0x03, 0x04, 0x05, 0x13, 0x15].contains code then stAUTH else stBAD

end Sys2Proof.Machine
end

