-- ==== Sys2Proof/Machine/Images.lean ====
section
/-! DEFINITION. IMAGE_VERIFY, IMAGE_INSTALL and IMAGE_STAGE: pages, reports, the two-phase commit, the weight store, the
load of a payload, duties of spares (07 R201 to R217, R228 to R231). -/

namespace Sys2Proof.Machine

/-- WS_STAGE_STAT.OP of an operation (07 Table 7-10). -/
def opCode : ImgOp → Nat
  | .verify => 1
  | .install => 2
  | .stage => 3
  | .tack => 4

/-- The result of an operation goes to WS_STAGE_STAT (07 R201). -/
def State.setResult (s : State) (op : ImgOp) (code state : Nat) : State :=
  s.updWs (fun w => { w with op := opCode op, result := code, state })

/-- A refusal with a code of Table 7-8 (07 R201). -/
def State.refuseImage (s : State) (rep : Rep) (op : ImgOp) (code : Nat) : State :=
  (s.updWs (fun w => { w with op := opCode op, result := code })).reply rep (imgStatus code) code true true

/-- Every member of the slice, or the package alone. -/
def Dev.reporters (d : Dev) : List Nat := if d.role.assigned then d.lnk.members.map (·.pkg) else [d.role.pkg.toNat]

/-- Why an image operation is refused before any page is read: life cycle, then a running operation or a serving slice, then
a degraded slice (07 R199, R202, R203, R217, R218, Table 7-8). -/
def Dev.imageRefusal (d : Dev) (op : ImgOp) : Option Nat :=
  if !(d.nv.lc == .field || d.nv.lc == .service) then some 0x13
  else if d.ws.run.isSome || d.ws.tack.isSome || d.ws.commitDue || (op == .install && !d.srv.streams.isEmpty) ||
      (op == .tack && d.ws.staged.isNone) then some 0x11
  else if d.lnk.rerig.isSome || d.lnk.members.any (fun m => m.lost.isSome) || d.chk.left || d.fab.degraded then some 0x12
  else none

/-- The staged epoch is discarded (07 R203, R217). -/
def State.unstage (s : State) : State :=
  s.updWs (fun w => { w with staged := none, stage := 0, mixOk := false,
                             duties := w.duties.filter (fun p => decide (p.epoch ≤ w.epoch)) })

/-- The head reads the next page of a contiguous image; of a list, the page's address first, then the page there (07 R204, 08 Table
8-8). -/
def State.readPage (s : State) : State :=
  match s.dev.ws.run with
  | none => s
  | some r =>
    match r.reply with
    | none => s
    | some rep =>
      match r.listMode, r.pageAt with
      | true, none => s.emit (.hostRead rep.fn (r.addr + BitVec.ofNat 64 (8 * r.next)) 8)
      | true, some a => s.emit (.hostRead rep.fn a pageBytes)
      | false, _ => s.emit (.hostRead rep.fn (r.addr + BitVec.ofNat 64 (pageBytes * r.next)) pageBytes)

/-- A fresh run of an operation. -/
def newRun (op : ImgOp) (reply : Option Rep) (pagesCmd : Nat) (listMode : Bool) (addr : W64) : ImgRun :=
  { op, reply, pagesCmd, listMode, addr, next := 0, pageAt := none, hdr := none, kept := [], man := [], bodies := [], result := none, seeds := true,
    verified := [], written := [], writeSent := false, commitSent := false }

/-- IMAGE_INSTALL, IMAGE_STAGE, IMAGE_VERIFY at the head: refused, or the stream of pages begins (07 R201 to R204, R217). -/
def effImage (op : ImgOp) (c : Cmd) (s : State) : State :=
  let rep := s.repOf c
  if 1 < c.at 0x24 1 then s.reply rep stBAD 0x14 true true
  else match s.dev.imageRefusal op with
    | some code => s.refuseImage rep op code
    | none =>
      let s := s.reply rep stQUEUED 0 true false
      let s := if op == .verify then s else s.unstage
      let s := s.updWs (fun w => { w with op := opCode op, state := 1,
                                          run := some (newRun op (some rep) (c.at 0x20 4) (bitAt (c.at 0x24 1) 0) (BitVec.ofNat 64 (c.at 0x18 8))) })
      s.readPage

/-- Pages of a run that a payload of one position holds: page 0, list, manifest, and the sections that name it (07 R205). -/
def ImgRun.pagesOf (r : ImgRun) (pos : Nat) : List (Nat × List Byte) :=
  let h := r.hdr.getD {}
  r.kept.filter (fun p => decide (p.1 ≤ h.listPages + h.manPages) ||
    r.man.any (fun e => e.position == pos && decide (e.page ≤ p.1) && decide (p.1 < e.page + e.pages)))

/-- The payload of a position from a run. -/
def ImgRun.payload (r : ImgRun) (pos epoch : Nat) (own pending : Bool) : Payload :=
  { imageId := (r.hdr.getD {}).imageId, epoch, own, position := pos, pending, pages := r.pagesOf pos, phys := [] }

/-- The operation ends at the head with a code: its final record (07 R201). -/
def State.endImage (s : State) (code state : Nat) : State :=
  match s.dev.ws.run with
  | none => s
  | some r =>
    let s := (s.setResult r.op code state).updWs (fun w => { w with run := none })
    match r.reply with
    | some rep => s.reply rep (imgStatus code) code false true
    | none => s

/-- A retired page no longer holds what it held; nor does a page that is written anew (07 R208). -/
def Payload.lose (phys : List Nat) (p : Payload) : Payload :=
  let keep := (p.pages.zip p.phys).filter (fun e => !phys.contains e.2)
  { p with pages := keep.map (·.1), phys := keep.map (·.2) }

/-- Usable weight-store pages that a payload, list or directory holds: payloads in force, and both directory copies (07 Table 7-10). -/
def Ws.usedPages (w : Ws) : List Nat :=
  ((w.store.flatMap (·.phys) ++ [w.dirPage, w.oldPage]).eraseDups).filter (fun p => !w.retiredPages.contains p)

/-- The page numbers of the weight store's usable capacity (07 R208). -/
def storePages : Nat := if Config.is128L then 1572864 else 786432

/-- n free pages of the weight store, lowest first, within its capacity (07 R208; entry 13). -/
def Ws.freePages (w : Ws) (n : Nat) : List Nat :=
  let bad := w.usedPages ++ w.retiredPages
  ((List.range (min storePages (n + bad.length))).filter (fun p => !bad.contains p)).take n

/-- Writes to weight-store pages count: at 9,000 a warning, at 10,000 the page retires (07 R214). -/
def State.wearPages (s : State) (pages : List Nat) : State :=
  s.each pages (fun s p =>
    let n := Sparse.get (fun _ => 0) s.dev.ws.writes p + 1
    let s := s.updWs (fun w => { w with writes := Sparse.set (fun _ => 0) w.writes p n })
    let s := if n = 9000 then (s.updWs (fun w => { w with wearWarn := true })).logEvent 0x34 9 0 p n else s
    if n = 10000 then s.updWs (fun w => { w with retiredPages := w.retiredPages ++ [p] }) else s)

/-- A directory write: the new listing goes to the older copy with the sequence raised by 1, and that copy is in force; its page
counts the write, and one that the write retires gives way to a free page (07 R208, R214). -/
def State.writeDirectory (s : State) (listing : List Payload) : State :=
  let s := s.updWs (fun w => { w with store := listing, dirSeq := w.dirSeq + 1, oldSeq := w.dirSeq, oldStore := w.store,
                                      dirPage := w.oldPage, oldPage := w.dirPage })
  let s := s.wearPages [s.dev.ws.dirPage]
  if s.dev.ws.retiredPages.contains s.dev.ws.dirPage then
    s.updWs (fun w => { w with dirPage := (w.freePages 1).headD w.dirPage })
  else s

/-- Pages that all payloads of one image share: the header page, the list and the manifest (07 R206). -/
def Payload.shared (p : Payload) : List (Nat × List Byte) :=
  let h := p.hdr
  p.pages.filter (fun e => decide (e.1 ≤ h.listPages + h.manPages))

/-- Payloads of one image take weight-store pages: those that they share once, then each its own. -/
def placePages (common : List Nat) : List Payload → List Nat → List Payload
  | [], _ => []
  | p :: r, free =>
    let n := p.pages.length - p.shared.length
    { p with phys := common ++ free.take n } :: placePages common r (free.drop n)

/-- Payloads of one image are written to free pages; what the older directory copy held there is gone (07 R206, R208). -/
def State.writePayloads (s : State) (l : List Payload) : List Payload × State :=
  let c := ((l.head?).map (fun p => p.shared.length)).getD 0
  let free := s.dev.ws.freePages (c + (l.map (fun p => p.pages.length - p.shared.length)).sum)
  let s := s.updWs (fun w => { w with oldStore := w.oldStore.map (Payload.lose free) })
  (placePages (free.take c) l (free.drop c), s.wearPages free)

/-- A package drops what the operation brought: its DRAM copy and its unswitched pages (07 R207). -/
def State.dropRun (s : State) : State :=
  let s := s.updWs (fun w => { w with run := none, state := 0 })
  if s.dev.ws.store.any (·.pending) then s.writeDirectory (s.dev.ws.store.filter (fun p => !p.pending)) else s

/-- A message to every other member. -/
def State.tellMembers (s : State) (ftype : Nat) (words : List Nat) : State :=
  s.each (s.dev.reporters.filter (fun p => p != s.dev.role.pkg.toNat)) (fun s p => s.emit (.message p ftype words))

/-- The head aborts the operation, unless COMMIT has been sent (07 R207). -/
def State.abortImage (s : State) (code : Nat) : State :=
  match s.dev.ws.run with
  | none => s
  | some r =>
    if r.commitSent then s
    else
      let s := s.tellMembers 0x06 [5, code]
      let s := s.endImage code 0
      s.dropRun

/-- The package stages what it kept: own payload and duties into DRAM (07 R216, R228). -/
def State.stageOwn (s : State) (r : ImgRun) : State :=
  let pos := s.dev.role.position
  s.updWs (fun w =>
    let e := w.epoch + 1
    { w with stage := e, staged := if pos = 0xFFFF then none else some (r.payload pos e true false),
             duties := w.duties ++ w.cover.map (fun c => r.payload c.1 e false false),
             mixOk := bitAt (r.hdr.getD {}).flags 0 && r.seeds, maxBody := (r.bodies.map (·.2)).foldl max 0 })

/-- Once every package has reported, the operation goes on: the end of a verify; the epoch is staged, of which the head tells every
package; or WRITE (07 R201, R206, R216; entry 119). -/
def State.imageProgress (s : State) : State :=
  match s.dev.ws.run with
  | none => s
  | some r =>
    if s.dev.reporters.all (fun p => r.verified.contains p) && !r.writeSent then
      match r.op with
      | .verify => s.endImage 0 0
      | .stage => ((s.stageOwn r).tellMembers 0x06 [4]).endImage 0 2
      | _ => (s.updWs (fun w => { w with run := some { r with writeSent := true }, state := 3 })).tellMembers 0x06 [2]
    else s

/-- IMAGE_VERIFIED: a package reports VERIFIED or a code to the head (07 R205, R207). -/
def stepImageVerified (pkg code : Nat) (seeds : Bool) (s : State) : State :=
  match s.dev.ws.run with
  | none => s
  | some r =>
    if r.reply.isNone || r.writeSent || !s.dev.reporters.contains pkg then s
    else if code ≠ 0 then s.abortImage code
    else (s.updWs (fun w => { w with run := some { r with verified := r.verified ++ [pkg], seeds := r.seeds && seeds } })).imageProgress

/-- What a page brings to a run: its next form and the code of a check that fails at it (07 R201 to R205). -/
def Dev.takePage (d : Dev) (r : ImgRun) (n : Nat) (b : List Byte) : ImgRun × Nat :=
  let h := if n = 0 then hdrOf b else r.hdr.getD {}
  let last := n + 1 = h.pages
  let r := { r with next := n + 1, hdr := some h }
  if n = 0 then
    let c := d.headerCode b (if r.reply.isSome then r.pagesCmd else h.pages)
    let c := if c ≠ 0 then c
      else if d.isHead && decide (d.lnk.pipeline.length < h.positions) then 0x06
      else if d.time.inForce < h.minPeriod then 0x0F else 0
    ({ r with kept := [(0, b)] }, c)
  else if n ≤ h.listPages then
    let kept := r.kept ++ [(n, b)]
    ({ r with kept }, if n = h.listPages then
        (if sha256 (pagesFrom kept 1 h.listPages) ≠ h.root then 0x04
         else if !((pagesFrom kept 1 h.listPages).drop (32 * (h.pages - 1 - h.listPages))).all (fun x => x == 0) then 0x01 else 0)
      else 0)
  else
    let keep := d.keeps h r.man n
    let bodies := match r.man.find? (fun e => e.kind == 2 && e.page == n) with
      | some e => Tab.put r.bodies e.position ((Tab.find r.bodies e.position).getD 0 + pageBytes * (e.pages - leAt b 4 4))
      | none => r.bodies
    let good := !(d.isHead || keep) || sha256 b == listEntry h r.kept n
    let kept := if keep then r.kept ++ [(n, b)] else r.kept
    let done := n = h.listPages + h.manPages
    let r := { r with kept, bodies, man := if done then manifestOf h kept else r.man }
    let c := if !good then 0x05 else if done && !manifestOk h kept then 0x01
      else if last then d.wholeCode r.op h r.man kept else 0
    (r, c)

/-- The last page has passed, or a page failed: the head goes on or aborts; another package reports, and waits for the head's word
(07 R205, R206, R216). -/
def State.ownResult (s : State) (r : ImgRun) (code : Nat) : State :=
  let same := s.dev.role.position == 0xFFFF || s.dev.sameSeeds r.man r.kept
  let r := { r with result := some code, seeds := r.seeds && same }
  let s := s.updWs (fun w => { w with run := some r, op := opCode r.op, result := code, state := if code = 0 then 2 else w.state })
  if r.reply.isSome then stepImageVerified s.dev.role.pkg.toNat code same s
  else
    let s := s.emit (.message (s.dev.role.head.getD 0) 0x06 [1, s.dev.role.pkg.toNat, code, b2n same])
    match r.op with
    | .verify => s.updWs (fun w => { w with run := none, state := 0 })
    | _ => s

/-- The run that a page belongs to: the head's own, or at another package the one that page 0 opens (07 R204). -/
def Dev.runFor (d : Dev) (op : ImgOp) (n : Nat) : Option ImgRun :=
  match d.ws.run with
  | some r => if r.reply.isNone && n == 0 then some (newRun op none 0 false 0) else some r
  | none => if !d.isHead && d.role.assigned && n == 0 && op != .tack then some (newRun op none 0 false 0) else none

/-- IMAGE_PAGE_RECEIVE: the next page, or at the head its address in a page list; the page is checked, kept if needed, and forwarded; a
failed host read counts as a page that
differs from its list entry. A package that is not the head goes on forwarding after a failed check, and reports after the
last page (07 R204, R205; entry 31). -/
def stepImagePageReceive (op : ImgOp) (n : Nat) (f : FetchEnd) (s : State) : State :=
  match s.dev.runFor op n with
  | none => s
  | some r =>
    if n ≠ r.next then s
    else
      match f with
      | .failed => if r.reply.isSome then s.abortImage 0x05 else s
      | .ok data =>
        if r.reply.isSome && r.listMode && r.pageAt.isNone then
          (s.updWs (fun w => { w with run := some { r with pageAt := some (BitVec.ofNat 64 (leAt data 0 8)) } })).readPage
        else
        let b := sliceAt data 0 pageBytes
        let r := { r with pageAt := none }
        match r.result with
        | some code =>
          let s := (s.updWs (fun w => { w with run := some { r with next := n + 1 } })).sendPage n b
          if n + 1 = (r.hdr.getD {}).pages then s.ownResult r code else s
        | none =>
          let (r, code) := s.dev.takePage r n b
          let s := s.updWs (fun w => { w with run := some r, op := opCode r.op, state := 1 })
          let s := if n = 0 && r.reply.isNone && r.op != .verify then s.unstage else s
          let final := n + 1 = (r.hdr.getD {}).pages
          if r.reply.isSome then
            (if code ≠ 0 then s.ownResult r code
             else
               let s := s.sendPage n b
               if final then s.ownResult r 0 else s.readPage)
          else
            let s := s.sendPage n b
            if final then s.ownResult r code
            else if code ≠ 0 then s.updWs (fun w => { w with run := some { r with result := some code } })
            else s

/-- Payloads that a package writes of an image: its own, and a cold spare's duties (07 R206, R228). -/
def Dev.keptPayloads (d : Dev) (mk : Nat → Bool → Payload) : List Payload :=
  (if d.role.position = 0xFFFF then [] else [mk d.role.position true]) ++
    (d.ws.cover.filter (fun c => c.2 == 2)).map (fun c => mk c.1 false)

/-- A package writes payloads beside those in service: a cold spare first frees its old duty payloads. A directory write lists the new
ones as pending, and the package reports WRITTEN (07 R206, R208, R209, R229). -/
def State.writePending (s : State) (l : List Payload) : State :=
  let old := s.dev.ws.store.filter (fun p => p.own || l.all (·.own))
  let (new, s) := (s.updWs (fun w => { w with store := old })).writePayloads l
  (s.writeDirectory (old ++ new)).updWs (fun w => { w with state := 4 })

/-- The package reports WRITTEN to the head (07 R206). -/
def State.reportWritten (s : State) : State := s.emit (.message (s.dev.role.head.getD 0) 0x06 [3, s.dev.role.pkg.toNat])

/-- IMAGE_WRITE: on WRITE the kept pages go to free weight-store pages, pending, and the package reports WRITTEN (07 R206). -/
def stepImageWrite (s : State) : State :=
  match s.dev.ws.run with
  | none => s
  | some r =>
    if r.op != .install || r.result != some 0 || s.dev.ws.store.any (·.pending) || (r.reply.isSome && !r.writeSent) then s
    else
      let s := s.writePending (s.dev.keptPayloads (fun pos own => r.payload pos (s.dev.ws.epoch + 1) own true))
      if r.reply.isSome then s else s.reportWritten

/-- Head: every package has written its payload in the commit after a tack. -/
def Dev.allWritten (d : Dev) : Bool := d.reporters.all (fun p => d.ws.commitWritten.contains p)

/-- A package has written its payload in the commit after a tack; with the last one the head sends COMMIT (07 R206, R227). -/
def State.commitProgress (s : State) (pkg : Nat) : State :=
  if s.dev.isHead && s.dev.ws.commitDue && s.dev.reporters.contains pkg then
    let s := s.updWs (fun w => { w with commitWritten := w.commitWritten ++ [pkg] })
    if s.dev.allWritten then s.tellMembers 0x06 [4] else s
  else s

/-- IMAGE_WRITTEN: a package reports WRITTEN; with the last one the head sends COMMIT (07 R206). -/
def stepImageWritten (pkg : Nat) (s : State) : State :=
  match s.dev.ws.run with
  | none => s.commitProgress pkg
  | some r =>
    if !r.writeSent || r.commitSent || !s.dev.reporters.contains pkg then s
    else
      let r := { r with written := r.written ++ [pkg] }
      if s.dev.reporters.all (fun p => r.written.contains p) then
        (s.updWs (fun w => { w with run := some { r with commitSent := true } })).tellMembers 0x06 [4]
      else s.updWs (fun w => { w with run := some r })

/-- One directory write puts pending payloads in service and frees what they replace (07 R206, R208). -/
def State.switchDirectory (s : State) (epoch : Nat) : State :=
  (s.writeDirectory ((s.dev.ws.store.filter (·.pending)).map (fun p => { p with pending := false }))).updWs (fun w => { w with epoch })

/-- COMMIT after a tack: the directory switches to the payloads written, and their DRAM copies are freed; a spare turns to the new
duties (07 R227 to R229). -/
def State.commitTack (s : State) : State :=
  if s.dev.ws.run.isSome || (s.dev.isHead && !s.dev.allWritten) || s.dev.ws.state != 4 then s
  else
    let written := (s.dev.ws.store.filter (·.pending)).map (·.position)
    let e := if s.dev.ws.commitDue then s.dev.ws.epoch else s.dev.ws.stage
    let s := if s.dev.ws.store.any (·.pending) then s.switchDirectory e else s.updWs (fun w => { w with epoch := e })
    s.updWs (fun w => { w with
      staged := none, stage := 0, mixOk := false, commitDue := false, commitWritten := [], state := 0,
      duties := w.duties.filter (fun p => p.epoch == e && !written.contains p.position) })

/-- IMAGE_COMMIT: on COMMIT the directory switches to the new image, whose epoch is the old one plus 1, and the payload load
follows (07 R206). In an IMAGE_STAGE it says that the epoch is staged (R216; entry 119); after a tack it ends the store commit (R227). -/
def stepImageCommit (s : State) : State :=
  match s.dev.ws.run with
  | none => s.commitTack
  | some r =>
    if r.op == .stage then
      (if r.reply.isNone && r.result == some 0 then (s.stageOwn r).updWs (fun w => { w with run := none }) else s)
    else if r.op != .install || !s.dev.ws.store.any (·.pending) && s.dev.role.position != 0xFFFF || (r.reply.isSome && !r.commitSent) then s
    else
      let e := s.dev.ws.epoch + 1
      let standing := (s.dev.ws.cover.filter (fun c => c.2 == 1)).map (fun c => r.payload c.1 e false false)
      let s := if s.dev.ws.store.any (·.pending) then s.switchDirectory e else s.updWs (fun w => { w with epoch := e })
      let s := s.updWs (fun w => { w with loaded := false, copy := none, duties := standing, state := 0,
                                          run := if r.reply.isSome then some { r with commitSent := true } else none })
      s.updSrv (fun v => { v with prefixTab := [] })

/-- IMAGE_ABORT: the head gives the operation up, or a package hears ABORT; nothing changes in service, and an operation
whose COMMIT has been sent goes on (07 R207). -/
def stepImageAbort (code : Nat) (s : State) : State :=
  match s.dev.ws.run with
  | none => s
  | some r => if r.reply.isSome then s.abortImage (if code = 0 then 0x12 else code) else s.dropRun

/-- The pan that serves a home pan's payload: itself, or the spare that stands in for it (07 R199). -/
def Dev.serving (d : Dev) (home : Nat) : Option Nat :=
  if (d.pan home).role == .active then some home
  else (d.pans.find? (fun e => e.2.role == .spareServing && e.2.subst == BitVec.ofNat 12 home)).map (·.1)

/-- One body goes into its pan: SRAM, rows, configuration, program (07 R198, R212). `at_` is when PAN_ARRa_CFG changes. -/
def Pan.loadBody (p : Pan) (b : PanBody) (tick : Nat) : Pan :=
  { p with
    sram := memOfBytes 0 (sliceAt b.sram 0 pageBytes) ++ p.sram.filter (fun c => decide (pageBytes ≤ c.1)), progValid := true,
    arrs := (List.range 8).foldl (fun m a =>
      let old := p.arr a
      let cfg := cfgOf (b.entry.cfgs.getD a 0)
      let new := match Tab.find b.arrays a with
        | some rows => { old with cells := memOfBytes 0 (sliceAt rows 0 pageBytes), valid := true, cfgDue := some cfg, since := [],
                                  scrub := tick, restoring := false }
        | none => { old with cfgDue := some cfg }
      Sparse.set Arr.reset m a new) p.arrs }

/-- The bodies of a payload go into the pans that serve their home pans; a home pan that none serves makes the position
unloadable (07 R199, R212). -/
def State.loadBodies (s : State) (bodies : List PanBody) : State :=
  s.each bodies (fun s b =>
    match s.dev.serving b.entry.home with
    | some p => let k := s.tick
                s.updPan p (fun q => q.loadBody b k)
    | none => s.leavePosition (Pan.island b.entry.home))

/-- Every body has a pan that serves it. -/
def Dev.loadable (d : Dev) (bodies : List PanBody) : Bool := bodies.all (fun b => (d.serving b.entry.home).isSome)

/-- A clamp slot starts anew with its layer (04 R107, 07 R220). -/
def clampOf (r : LayerRec) : ClampSlot := { policy := BitVec.ofNat 2 r.policy, thresh := BitVec.ofNat 16 r.thresh, valid := true }

/-- The sections of a kind in a payload, by manifest index (07 Table 7-3, R197). -/
def dleSections (p : Payload) (kind : Nat) : List (Nat × DleSect) :=
  (p.man.zipIdx).filterMap (fun e =>
    if e.1.kind = kind ∧ e.1.position = p.position then some (e.2, ⟨e.1.slot, e.1.name, e.1.flags, sectBytes p.pages e.1⟩) else none)

/-- DLE matrices in manifest order fill one cluster's 16 MiB of SRAM after the other while they fit; the rest stay in DRAM
(04 Tables 4-3, 4-4; entry 114). -/
def allot (cluster used : Nat) : List (Nat × DleSect) → List (Nat × Nat)
  | [] => []
  | e :: r =>
    let n := e.2.bytes.length
    if 4 ≤ cluster then []
    else if used + n ≤ 16777216 then (cluster, e.1) :: allot cluster (used + n) r
    else if n ≤ 16777216 ∧ cluster < 3 then (cluster + 1, e.1) :: allot (cluster + 1) n r
    else allot cluster used r

/-- What a payload brings beside its bodies: layer records, clamp slots, DLE matrices, tokenizer, header (07 R196, R212,
R215, R220; 09 R272). -/
def State.loadRest (s : State) (p : Payload) : State :=
  let h := p.hdr
  let man := p.man
  let pos := p.position
  let layers := (layersOf man p.pages pos).map recordOf
  let s := s.updWs (fun w => { w with
    img := some h, layers, epoch := p.epoch, copy := if bitAt h.flags 2 then some { p with phys := [] } else none, layerCopy := [],
    tok := match sections man 6 pos with
      | e :: _ => tokenizerOf (sectBytes p.pages e)
      | [] => w.tok })
  let s := s.updDle (fun d => { d with
    mats := dleSections p 4, tier2 := dleSections p 5, sram := allot 0 0 (dleSections p 4) })
  let s := s.updFab (fun b => { b with frame := h.frame,
                                       clamps := layers.foldl (fun m r => Sparse.set ClampSlot.reset m r.slot (clampOf r)) [] })
  s.updTime (fun t => { t with minPeriod := h.minPeriod })

/-- The stored payload passes its checks: header signature, list, pages (07 R212). -/
def Dev.storedOk (d : Dev) (p : Payload) : Bool :=
  let h := p.hdr
  d.headerCode (pageOf p.pages 0) h.pages == 0 && sha256 (pagesFrom p.pages 1 h.listPages) == h.root &&
  p.pages.all (fun e => decide (e.1 ≤ h.listPages) || sha256 e.2 == listEntry h p.pages e.1)

/-- Pages that fail their hash twice retire, and the load fails (07 R212). -/
def State.badLoad (s : State) (p : Payload) (bad : List Nat) : State :=
  let phys := ((p.pages.zip p.phys).filter (fun e => bad.contains e.1.1)).map (·.2)
  s.updWs (fun w => { w with hashFail := wrapInc w.hashFail bad.length, retiredPages := w.retiredPages ++ phys, loaded := false })

/-- PAYLOAD_LOAD: the own payload goes from the weight store, or from its copy in DRAM, into the machine; `badPages` fail
their hash on both reads; the load took `us` µs (07 R212, R213, R227). A spare that replaces a position loads it for the epoch that the
position served (R231). At the head it ends a committed install. -/
def stepPayloadLoad (us : Nat) (badPages : List Nat) (epoch : Option Nat) (s : State) : State :=
  let s := match s.dev.payloadFor epoch with
    | none => s
    | some (p, stored) =>
      let bad := badPages.filter (fun n => stored && p.pages.any (fun e => e.1 == n))
      if !bad.isEmpty then s.badLoad p bad
      else if stored && !s.dev.storedOk p then s.updWs (fun w => { w with loaded := false, img := none })
      else
        let bodies := bodiesOf p.man p.pages p.position
        let ok := s.dev.loadable bodies
        let s := ((s.loadBodies bodies).loadSchedule p none true [false, true]).loadRest p
        let s := s.updWs (fun w => { w with loaded := ok, loadUs := BitVec.ofNat 32 us, ready := true,
                                            stage := if epoch = some w.stage then 0 else w.stage })
        (s.updWs (fun w => { w with pool := p.hdr.kvBlocks })).updSrv (fun v => { v with kvTotal := p.hdr.kvBlocks })
  match s.dev.ws.run with
  | some r => if r.op == .install && r.commitSent then s.endImage 0 0 else s
  | none => s

/-- A position that a range list covers. -/
def inRanges (l : List (Nat × Nat)) (pos : Nat) : Bool := l.any (fun r => decide (r.1 ≤ pos) && decide (pos ≤ r.2))

/-- The positions of a duty, of those that the slice has. -/
def Duty.positions (d : Duty) (n : Nat) : List Nat := (List.range n).filter (inRanges d.ranges)

/-- A copy for a duty is complete, as the head sees it; SPARE_SET ends with the spare's last one (07 R230, 10 R326). -/
def State.dutyDone (s : State) (pkg pos : Nat) : State :=
  let n := s.dev.lnk.pipeline.length
  let s := s.updLnk (fun l => { l with duties := l.duties.map (fun d =>
    if d.spare = pkg && !d.done.contains pos then { d with done := d.done ++ [pos] } else d) })
  let all := s.dev.lnk.duties.all (fun d => d.spare != pkg || (d.positions n).all (fun x => d.done.contains x))
  if all then
    let l := s.dev.lnk.spareSets.filter (fun e => e.1 == pkg)
    let s := s.updLnk (fun l => { l with spareSets := l.spareSets.filter (fun e => e.1 != pkg) })
    s.each l (fun s e => s.reply e.2 stOK 0 false true)
  else s

/-- A copied payload agrees with its list (07 R230). -/
def copyOk (pages : List (Nat × List Byte)) : Bool :=
  let h := hdrOf (pageOf pages 0)
  sha256 (pagesFrom pages 1 h.listPages) == h.root &&
  pages.all (fun e => decide (e.1 ≤ h.listPages) || sha256 e.2 == listEntry h pages e.1)

/-- The spare takes a duty's payload: a standing one in DRAM, a cold one in its weight store; kind 0 drops the duty (07 R228, R230). -/
def State.takeDuty (s : State) (pos kind epoch : Nat) (pages : List (Nat × List Byte)) : State :=
  let p : Payload := { imageId := (hdrOf (pageOf pages 0)).imageId, epoch, own := false, position := pos, pending := false, pages, phys := [] }
  let had := s.dev.ws.store.any (fun q => !q.own && q.position == pos)
  let s := s.updWs (fun w => { w with
    cover := w.cover.filter (fun c => c.1 != pos) ++ (if kind = 0 then [] else [(pos, kind)]),
    duties := w.duties.filter (fun q => q.position != pos || (w.stage != 0 && q.epoch == w.stage)) ++ (if kind = 1 then [p] else []) })
  let s := if kind = 0 then s else s.updRole (fun r => { r with role := if kind = 1 then 3 else 4 })
  let left := s.dev.ws.store.filter (fun q => q.own || q.position != pos)
  if kind = 2 then
    let (new, s) := (s.updWs (fun w => { w with store := left })).writePayloads [p]
    s.writeDirectory (left ++ new)
  else if had then s.writeDirectory left
  else s

/-- What a covered package sends to a spare: its service copy, else its weight store's payload (07 R230). -/
def Ws.sends (w : Ws) : Option Payload :=
  match w.copy with
  | some p => some p
  | none => w.store.find? (fun p => p.own && !p.pending)

/-- A package takes a duty unless it is retired as a whole, or the payload places a home pan in an island without a spare (11 R353,
R455). -/
def Dev.takesDuty (d : Dev) (pos : Nat) (pages : List (Nat × List Byte)) : Bool :=
  let p : Payload := { imageId := 0, epoch := 0, own := false, position := pos, pending := false, pages, phys := [] }
  !d.chk.isRetired 0 0 && !((bodiesOf p.man p.pages pos).any (fun b => d.chk.exhausted.contains (Pan.island b.entry.home)))

/-- SPARE_DUTY_COPY: the covered package sends its payload over the links; the spare checks it against the list, and the duty takes
effect when the copy is complete (07 R230; 10 Table 10-4). The head hears of another package's copy. -/
def stepSpareDutyCopy (pkg pos kind epoch : Nat) (pages : List (Nat × List Byte)) (s : State) : State :=
  if pkg = s.dev.role.pkg.toNat ∧ (s.dev.role.role = 3 ∨ s.dev.role.role = 4) then
    if kind = 0 ∨ (kind ≤ 2 ∧ copyOk pages = true ∧ pages.isEmpty = false ∧ s.dev.takesDuty pos pages = true) then
      (s.takeDuty pos kind epoch pages).emit (.message (s.dev.role.head.getD 0) 0x08 [0x14, pkg, pos])
    else s
  else
    let s := if s.dev.role.assigned && s.dev.role.position == pos && kind != 0 then
        (match s.dev.ws.sends with
         | some p => s.each p.pages (fun s e => s.sendMsg 0x07 pkg false e.1 e.2)
         | none => s)
      else s
    if s.dev.isHead then s.dutyDone pkg pos else s

def execImageInstall (ch : Nat) (s : State) : Host.Outcome State Fault Refusal := .next (s.runDue 0x20 ch (effImage .install))
def execImageStage (ch : Nat) (s : State) : Host.Outcome State Fault Refusal := .next (s.runDue 0x21 ch (effImage .stage))
def execImageVerify (ch : Nat) (s : State) : Host.Outcome State Fault Refusal := .next (s.runDue 0x23 ch (effImage .verify))
def execImagePageReceive (op : ImgOp) (page : Nat) (r : FetchEnd) (s : State) : Host.Outcome State Fault Refusal :=
  .next (stepImagePageReceive op page r s)
def execImageVerified (pkg code : Nat) (seeds : Bool) (s : State) : Host.Outcome State Fault Refusal :=
  .next (stepImageVerified pkg code seeds s)
def execImageWrite (s : State) : Host.Outcome State Fault Refusal := .next (stepImageWrite s)
def execImageWritten (pkg : Nat) (s : State) : Host.Outcome State Fault Refusal := .next (stepImageWritten pkg s)
def execImageCommit (s : State) : Host.Outcome State Fault Refusal := .next (stepImageCommit s)
def execImageAbort (code : Nat) (s : State) : Host.Outcome State Fault Refusal := .next (stepImageAbort code s)
def execPayloadLoad (us : Nat) (badPages : List Nat) (epoch : Option Nat) (s : State) : Host.Outcome State Fault Refusal :=
  .next (stepPayloadLoad us badPages epoch s)
def execSpareDutyCopy (pkg position kind epoch : Nat) (pages : List (Nat × List Byte)) (s : State) : Host.Outcome State Fault Refusal :=
  .next (stepSpareDutyCopy pkg position kind epoch pages s)

end Sys2Proof.Machine
end

