-- ==== Sys2Proof/Machine/Security.lean ====
section
/-! DEFINITION. Publisher keys, life cycle and its tokens, firmware updates and their checks (13 R384 to R391, R398 to R402). -/

namespace Sys2Proof.Machine

/-- SEC_LC.STATE (13 R398). -/
def Lc.code : Lc → Nat
  | .manufacture => 1
  | .provisioned => 2
  | .field => 3
  | .service => 4
  | .retired => 7

/-- SEC_LC.DEBUG: JTAG debug open (13 Table 13-4). -/
def Nv.debugOpen (n : Nv) : Bool :=
  match n.lc with
  | .manufacture => true
  | .retired => true
  | .service => n.debug
  | _ => false

/-- An HSS public key's length, levels and typecodes match the first row of Table 13-1 (13 R384). -/
def keyTypesOk (k : List Byte) : Bool :=
  k.take 12 == beBytes4 2 ++ beBytes4 7 ++ beBytes4 4

/-- Key slot s. -/
def Nv.key (n : Nv) (s : Nat) : KeySlot := Sparse.get KeySlot.reset n.keys s

/-- Why a key operation is refused: SEC_KEY_STAT.REASON (13 R386). -/
def Nv.keyRefusal (n : Nv) (revoke : Bool) (slot : Nat) (key : List Byte) : Option Nat :=
  let st := (n.key slot).state
  if revoke then
    (if !(n.lc == .provisioned || n.lc == .field || n.lc == .service) then some 1 else if st ≠ 1 then some 2 else none)
  else if !(n.lc == .provisioned || n.lc == .service) then some 1
  else if !(decide (st = 0) || (n.lc == .service && decide (st = 2))) then some 2
  else if !keyTypesOk key then some 3
  else if (List.range 8).any (fun i => decide (i ≠ slot) && decide ((n.key i).state = 1) && sha256 (n.key i).key == sha256 key) then some 4
  else none

/-- A revoked key ends an image operation that runs under it, with code 0x02, and discards an epoch staged under it
(13 R387). -/
def State.endUnderKey (s : State) (id : List Byte) : State :=
  let s := match s.dev.ws.run with
    | some r =>
      if r.hdr.map (fun (h : ImgHdr) => h.keyId) = some id then
        (if r.reply.isSome then s.abortImage 0x02
         else (s.emit (.message (s.dev.role.head.getD 0) 0x06 [1, s.dev.role.pkg.toNat, 2, 0])).dropRun)
      else s
    | none => s
  match s.dev.ws.staged with
  | some p => if p.hdr.keyId = id && !s.dev.ws.commitDue then s.unstage else s
  | none => s

/-- A key operation takes effect at a boundary (13 R386, R387). -/
def State.keyOperation (s : State) (op : Bool × Nat × List Byte) : State :=
  match s.dev.nv.keyRefusal op.1 op.2.1 op.2.2 with
  | some r => s.updSec (fun x => { x with keyRefused := true, keyReason := BitVec.ofNat 3 r })
  | none =>
    let key := if op.1 then (s.dev.nv.key op.2.1).key else op.2.2
    let s := s.updNv (fun n => { n with keys := Sparse.set KeySlot.reset n.keys op.2.1 ⟨if op.1 then 2 else 1, key⟩ })
    if op.1 then s.endUnderKey (sha256 key) else s

/-- The key operations due at a boundary. -/
def State.applyKeys (s : State) : State :=
  let due := s.dev.sec.keyDue
  (s.updSec (fun x => { x with keyDue := [] })).each due State.keyOperation

/-- The 60 bytes of SEC_KEY_DATA0 to 14 (13 R386). -/
def Sec.keyBytes (x : Sec) : List Byte :=
  (List.range 15).flatMap (fun i => leBytes 4 (Sparse.get (fun _ => 0) x.keyData i).toNat)

/-- A write of SEC_KEY_CTRL with GO (13 R386, Table 13-6). -/
def State.keyGo (s : State) (revoke : Bool) (slot : Nat) : State :=
  let n := slot % 8
  s.updSec (fun x => { x with keyOp := revoke, keySlot := BitVec.ofNat 3 n, keyDue := x.keyDue ++ [(revoke, n, x.keyBytes)] })

def stepKeyEnrol (slot : Nat) (s : State) : State := s.keyGo false slot
def stepKeyRevoke (slot : Nat) (s : State) : State := s.keyGo true slot

/-- LC_CHALLENGE: a new 32-byte challenge (13 R400). -/
def stepLcChallenge (s : State) : State :=
  s.updSec (fun x => { x with challenge := some ((List.range 32).map (Config.trueRandom x.draws)), draws := x.draws + 1 })

/-- The state that an encoding of R398 names. -/
def lcOf (x : Nat) : Option Lc :=
  match x with
  | 1 => some .manufacture
  | 2 => some .provisioned
  | 3 => some .field
  | 4 => some .service
  | 7 => some .retired
  | _ => none

/-- A transition that PF0 may start (13 Table 13-5). -/
def lcStep (now target : Lc) : Bool :=
  match now, target with
  | .provisioned, .field => true
  | .field, .service => true
  | .service, .field => true
  | .provisioned, .retired => true
  | .field, .retired => true
  | .service, .retired => true
  | _, _ => false

/-- A key of mask ROM: 0 FW0, 1 FW1, 2 SVC (13 R385). -/
def romKey (i : Nat) : List Byte := (List.range 60).map (Config.romKeyByte i)

/-- The signed part, its lengths and its signature under SVC are a token's (13 R400). -/
def tokenSigned (t : List Byte) (target : Nat) : Bool :=
  decide (leAt t 0 4 = 0x4E4B544C) && decide (leAt t 4 2 = 1) && decide (leAt t 6 1 = target) && decide (leAt t 7 1 < 2) &&
  zeroAt t 0x30 16 && decide (leAt t 0x40 4 = 3284) && decide (leAt t 0x44 4 = 1) &&
  hssVerify (romKey 2) (sliceAt t 0 0x40) (sliceAt t 0x48 3284)

/-- Why a token is refused: REASON 0x5, 0x3, 0x4 (13 R400, Table 13-6). -/
def Sec.tokenRefusal (x : Sec) (target : Nat) : TokenRead → Option Nat
  | .none => some 5
  | .failed => some 5
  | .ok t =>
    if !tokenSigned t target then some 3
    else if leAt t 8 8 ≠ Config.serial.toNat ∨ x.challenge ≠ some (sliceAt t 0x10 32) then some 4
    else none

/-- Factory firmware's transition from MANUFACTURE to PROVISIONED: attestation key and certificate stored, calibration accepted (13
Table 13-5). -/
def Dev.leavesFactory (d : Dev) : Bool := !d.nv.tree.isEmpty && !d.nv.cert.isEmpty && d.fab.calCount != 0

/-- Why a transition is refused: SEC_LC_STAT.REASON. Factory firmware's own transition comes by the same row of commands, and gets
REASON 1 where its requirement fails (13 R399, R400, Table 13-5, Table 13-6; entry 129). -/
def Dev.lcRefusal (d : Dev) (target confirm : Nat) (token : TokenRead) : Option Nat :=
  match lcOf target with
  | none => some 1
  | some t =>
    if d.nv.lc == .manufacture && t == .provisioned then (if d.leavesFactory && d.sec.lcPending.isNone then none else some 1)
    else if !lcStep d.nv.lc t then some 1
    else if d.role.assigned || d.ws.run.isSome || d.ws.tack.isSome || d.sec.fwBusy || d.sec.lcPending.isSome then some 2
    else match t with
      | .retired => if confirm = 0xA5 then none else some 7
      | _ =>
        if d.nv.lc == .provisioned then
          (if (List.range 8).any (fun i => decide ((d.nv.key i).state = 1)) then none else some 6)
        else d.sec.tokenRefusal target token

/-- An NV record of 32 bytes: SEQ, 20 bytes of content, and the CRC-32C of bytes 0 to 27 (13 R393). -/
def nvRecord (seq : Nat) (content : List Byte) : List Byte :=
  let b := leBytes 8 seq ++ sliceAt content 0 20
  b ++ leBytes 4 (crc32c b).toNat

/-- The record's CRC holds (13 R393). -/
def nvValid (b : List Byte) : Bool := decide (leAt b 28 4 = (crc32c (sliceAt b 0 28)).toNat)

/-- The valid record with the highest SEQ; none of them, 32 bytes of 0 (13 R393). -/
def nvNewest (l : List (Nat × List Byte)) : List Byte :=
  (l.filter (fun e => nvValid e.2)).foldl (fun b e => if leAt b 0 8 ≤ leAt e.2 0 8 then e.2 else b) (List.replicate 32 0)

/-- A counter record goes to slots 2m and 2m + 1, m = s mod 128; where they do not read back, no record stands there (13 R393,
R394). -/
def Nv.writePair (n : Nv) (seq next : Nat) (ok : Bool) : Nv :=
  let m := seq % 128
  let rest := n.attSlots.filter (fun e => e.1 != 2 * m && e.1 != 2 * m + 1)
  let b := nvRecord seq (leBytes 8 next)
  { n with attSlots := if ok then rest ++ [(2 * m, b), (2 * m + 1, b)] else rest }

/-- SEQ and NEXT of the record in force; (0, 0) with none (13 R393). -/
def Nv.counter (n : Nv) : Nat × Nat :=
  let b := nvNewest n.attSlots
  (leAt b 0 8, leAt b 8 8)

/-- A life-cycle record with the next SEQ goes to the slot that the last one left: STATE in byte 8 and the debug right in byte 9
(13 R398; entry 122). -/
def Nv.writeLc (n : Nv) (l : Lc) (debug : Bool) : Nv :=
  let seq := leAt (nvNewest n.lcSlots) 0 8 + 1
  { n with lcSlots := Tab.put n.lcSlots (seq % 2) (nvRecord seq (leBytes 1 l.code ++ leBytes 1 (b2n debug))) }

/-- The newest valid life-cycle record is in force (13 R398, R401). -/
def Nv.readLc (n : Nv) : Nv :=
  let b := nvNewest n.lcSlots
  { n with lc := (lcOf (leAt b 8 1)).getD n.lc, debug := bitAt (leAt b 9 1) 0 }

/-- RETIRED erases seed, identifier, tree nodes and key slots, and writes NEXT = 2^30 (13 R402). -/
def Nv.retireErase (n : Nv) : Nv :=
  { n.writePair (n.counter.1 + 1) (2 ^ 30) true with attSeed := [], attId := [], tree := [], keys := [] }

/-- A life-cycle record that a power loss tears: its CRC fails, and the record before it stays in force (13 R401). -/
def Nv.tearLc (n : Nv) : Nv :=
  let seq := leAt (nvNewest n.lcSlots) 0 8 + 1
  { n with lcSlots := Tab.del n.lcSlots (seq % 2) }

/-- LC_TRANSITION: a write of SEC_LC_CTRL.GO: refused with a REASON, or the new record is written and a warm reset is due at
the next boundary; `torn`: power is lost while the record is written (13 R399 to R402). -/
def stepLcTransition (target confirm : Nat) (token : TokenRead) (torn : Bool) (s : State) : State :=
  match s.dev.lcRefusal target confirm token with
  | some r => s.updSec (fun x => { x with lcRefused := true, lcReason := BitVec.ofNat 4 r })
  | none =>
    let t := (lcOf target).getD .field
    let byToken := !(t == .retired) && (s.dev.nv.lc == .field || s.dev.nv.lc == .service)
    let debug := t == .service && (match token with
      | .ok b => bitAt (leAt b 7 1) 0
      | _ => false)
    let s := if t == .retired then s.updNv Nv.retireErase else s
    if torn then s.updNv Nv.tearLc
    else (s.updNv (fun n => n.writeLc t debug)).updSec (fun x => { x with lcPending := some (t, debug),
                                                                          challenge := if byToken then none else x.challenge })

/-- A firmware image with its header passes R390's checks, as the image of a KIND (13 R390, Table 13-2). -/
def Nv.fwImageOk (n : Nv) (kind : Nat) (b : List Byte) : Bool :=
  let payload := (b.drop 4096).take (leAt b 0x0C 4)
  let under : Nat → Bool := fun k => hssVerify (romKey k) (sliceAt b 0 0x100) (sliceAt b 0x108 3284)
  decide (leAt b 0 4 = 0x57464B54) && decide (leAt b 4 1 = kind) && decide (leAt b 0x0C 4 ≤ 16777216) && sha256 payload == sliceAt b 0x10 32 &&
  (under 1 || (under 0 && !n.fw0Revoked)) && decide (n.svn.getD (kind - 1) 0 ≤ leAt b 5 1)

/-- A bundle's three images pass (13 R389 to R391). -/
def Nv.bundleOk (n : Nv) (l : List (List Byte)) : Bool :=
  decide (l.length = 3) && (l.zipIdx).all (fun e => n.fwImageOk (e.2 + 1) e.1)

/-- A copy of the firmware region boots: the first KIND that fails, or none (13 R390). The bundle that the unit was shipped
with carries SVN 0 (entry 6). -/
def Nv.copyFails (n : Nv) : FwCopy → Option Nat
  | .shipped => ([1, 2, 3].find? (fun k => decide (0 < n.svn.getD (k - 1) 0)))
  | .empty => some 1
  | .bundle l => if l.length ≠ 3 then some 1 else ([1, 2, 3].find? (fun k => !n.fwImageOk k (l.getD (k - 1) [])))

/-- SVN and HASH of a copy's images (13 R397). -/
def FwCopy.running : FwCopy → List (Nat × List Byte)
  | .shipped => [1, 2, 3].map (fun k => (0, (List.range 32).map (Config.shippedHashByte k)))
  | .empty => []
  | .bundle l => l.map (fun b => (leAt b 5 1, sliceAt b 0x10 32))

/-- FW1 signed the CC firmware and it carries REVOKE_FW0 (13 R391). -/
def FwCopy.revokes : FwCopy → Bool
  | .bundle (b :: _) => bitAt (leAt b 6 2) 0 && hssVerify (romKey 1) (sliceAt b 0 0x100) (sliceAt b 0x108 3284)
  | _ => false

/-- Copy B (true) or A. -/
def Ws.fwCopy (w : Ws) (b : Bool) : FwCopy := if b then w.fwB else w.fwA
def Ws.setFw (w : Ws) (b : Bool) (c : FwCopy) : Ws := if b then { w with fwB := c } else { w with fwA := c }

/-- FW_UPDATE: SEC_FW_CTRL.GO; the bundle is read (none: the read failed), checked and written into the inactive copy
(13 R391). Not in RETIRED (13 Table 13-4). `cut`: a reset comes during the read or the write, and the inactive copy is left empty; the
reset itself is the next command. -/
def stepFwUpdate (bundle : Option (List (List Byte))) (cut : Bool) (s : State) : State :=
  if s.dev.nv.lc == .retired || s.dev.sec.fwBusy then s
  else
    let bad := s.updSec (fun x => { x with fwErr := true })
    if cut then (s.updWs (fun w => w.setFw (!s.dev.nv.fwB) .empty)).updNv (fun n => { n with fwPending := false })
    else match bundle with
    | none => bad
    | some l =>
      if s.dev.nv.bundleOk l then
        (s.updWs (fun w => w.setFw (!s.dev.nv.fwB) (.bundle l))).updNv (fun n => { n with fwPending := true })
      else bad

/-- COMMIT_SVN: NV security versions rise to those of the running images, and FW0 may be revoked (13 R391). -/
def stepCommitSvn (s : State) : State :=
  let run := s.dev.sec.running
  let rev := s.dev.sec.runRevokes
  s.updNv (fun n => { n with svn := (n.svn.zipIdx).map (fun e => max e.1 ((run.getD e.2 (0, [])).1)),
                             fw0Revoked := n.fw0Revoked || rev })

/-- ATTESTATION_KEY_GENERATION: in MANUFACTURE, seed and identifier from the true random source, the level-1 tree, the device
public key, and the certificate of the signed message (13 R388). -/
def stepAttestationKeyGeneration (s : State) : State :=
  if s.dev.nv.lc == .manufacture then
    let d := s.dev.sec.draws
    let x : LmsSecret := ⟨(List.range 32).map (Config.trueRandom d), (List.range 16).map (Config.trueRandom (d + 1))⟩
    let pub := x.hssPublic
    (s.updSec (fun x => { x with draws := d + 2 })).updNv (fun n => { n with
      attSeed := x.seed, attId := x.ident, tree := x.topNodes, devPub := pub,
      cert := (List.range 3284).map (Config.certByte (leBytes 8 Config.serial.toNat ++ pub)) })
  else s

def execKeyEnrol (slot : Nat) (s : State) : Host.Outcome State Fault Refusal := .next (stepKeyEnrol slot s)
def execKeyRevoke (slot : Nat) (s : State) : Host.Outcome State Fault Refusal := .next (stepKeyRevoke slot s)
def execLcChallenge (s : State) : Host.Outcome State Fault Refusal := .next (stepLcChallenge s)
def execLcTransition (target confirm : Nat) (token : TokenRead) (torn : Bool) (s : State) : Host.Outcome State Fault Refusal :=
  .next (stepLcTransition target confirm token torn s)
def execFwUpdate (bundle : Option (List (List Byte))) (cut : Bool) (s : State) : Host.Outcome State Fault Refusal :=
  .next (stepFwUpdate bundle cut s)
def execCommitSvn (s : State) : Host.Outcome State Fault Refusal := .next (stepCommitSvn s)
def execAttestationKeyGeneration (s : State) : Host.Outcome State Fault Refusal := .next (stepAttestationKeyGeneration s)

end Sys2Proof.Machine
end

