-- ==== Sys2Proof/Machine/Attest.lean ====
section
/-! DEFINITION. ATTEST: reservations of one-time key indices and the signed evidence (08 R264; 13 R392 to R397). -/

namespace Sys2Proof.Machine

/-- GLB_ID (01 Table 1-12). -/
def glbId : Nat := 0x0B007B01 + (if Config.is128L then 2 else 1) * 2 ^ 16

/-- GLB_ROLE (01 Table 1-13). -/
def Role.word (r : Role) : Nat := b2n r.assigned * 2 ^ 31 + r.slice.toNat * 2 ^ 16 + r.role.toNat * 2 ^ 12 + r.pkg.toNat

/-- WS_IMAGE_ID: the image in service; 0 with none (07 Table 7-10). -/
def Ws.imageId (w : Ws) : Nat := match w.img with
  | some h => h.imageId.toNat
  | none => 0

/-- The signed part of the evidence, bytes 0x000 to 0x20F (13 Table 13-3). -/
def Dev.evidence (d : Dev) (w : AttWait) (n : Nat) : List Byte :=
  let run : Nat → Nat × List Byte := fun k => d.sec.running.getD k (0, [])
  leBytes 4 0x54535441 ++ leBytes 2 1 ++ leBytes 1 d.nv.lc.code ++
  leBytes 1 (b2n d.sec.fallback + 2 * b2n d.nv.fw0Revoked + 4 * b2n d.nv.debugOpen) ++ leBytes 8 Config.serial.toNat ++
  leBytes 4 glbId ++ leBytes 4 w.role ++ leBytes 8 w.tick ++ leBytes 8 n ++ leBytes 4 w.epoch ++
  leBytes 1 (run 0).1 ++ leBytes 1 (run 1).1 ++ leBytes 1 (run 2).1 ++ [0] ++ leBytes 8 w.imageId ++ leBytes 8 0 ++
  sliceAt w.nonce 0 32 ++ sliceAt (run 0).2 0 32 ++ sliceAt (run 1).2 0 32 ++ sliceAt (run 2).2 0 32 ++
  (List.range 8).map (fun s => BitVec.ofNat 8 (d.nv.key s).state) ++ leBytes 8 0 ++
  (List.range 8).flatMap (fun s => if (d.nv.key s).state = 0 then sliceAt [] 0 32 else sha256 (d.nv.key s).key) ++
  sliceAt d.nv.devPub 0 60 ++ leBytes 4 0

/-- Evidence with the signature at index n and the certificate's (13 R392, Table 13-3). -/
def Dev.signedEvidence (d : Dev) (w : AttWait) (n : Nat) : List Byte :=
  let m := d.evidence w n
  m ++ (⟨d.nv.attSeed, d.nv.attId⟩ : LmsSecret).hssSign n m ++ sliceAt d.nv.cert 0 3284

/-- Evidence leaves, then its OK (08 R264; 13 R396). -/
def State.sendEvidence (s : State) (w : AttWait) : State :=
  let n := s.dev.sec.attIndex
  let b := s.dev.signedEvidence w n
  let s := s.updSec (fun x => { x with attIndex := n + 1, left := x.left - 1 })
  (s.hostOut w.rep.fn w.addr b).reply w.rep stOK 0 false true b.length

/-- Why no further index can be had: AUTH_FAIL 0x06, 0x05 (13 R396). -/
def Sec.noIndex (x : Sec) : Option Nat :=
  if x.nvFault then some 0x06 else if x.exhausted then some 0x05 else none

/-- A reservation begins, or every index is used (13 R394, R395). -/
def Sec.startReserve (x : Sec) : Sec :=
  if x.reserving || x.nvFault then x
  else if 2 ^ 20 ≤ x.attNext / 1024 then { x with exhausted := true }
  else { x with reserving := true }

/-- ATTESTs that wait take the indices of the block, in the order in which they took effect; more of them wait for the next
block (13 R395). The fuel is their number. -/
def State.serveAttests : Nat → State → State
  | 0, s => s
  | k + 1, s =>
    match s.dev.sec.waiting with
    | [] => s
    | w :: rest =>
      if 0 < s.dev.sec.left then State.serveAttests k ((s.updSec (fun x => { x with waiting := rest })).sendEvidence w)
      else
        let s := s.updSec Sec.startReserve
        match s.dev.sec.noIndex with
        | some d => State.serveAttests k ((s.updSec (fun x => { x with waiting := rest })).reply w.rep stAUTH d false true)
        | none => s

/-- ATTEST in MANUFACTURE and RETIRED is refused (13 Table 13-4). -/
def Lc.attests : Lc → Bool
  | .manufacture => false
  | .retired => false
  | _ => true

/-- ATTEST takes effect: refused, or QUEUED and, with an index at hand, its evidence (08 R264; 13 R395 to R397). -/
def effAttest (c : Cmd) (s : State) : State :=
  let rep := s.repOf c
  let x := s.dev.sec
  let y := if x.left = 0 then x.startReserve else x
  if !s.dev.nv.lc.attests then s.refuse rep stAUTH 0x03
  else if c.at 0x40 4 < 9208 then s.refuse rep stBAD 0x0D
  else match y.noIndex with
    | some d => (s.updSec (fun _ => y)).refuse rep stAUTH d
    | none =>
      let w : AttWait := { rep, nonce := sliceAt c.packet 0x18 32, addr := BitVec.ofNat 64 (c.at 0x38 8), tick := s.snapTick,
                           role := s.snap.role.word, epoch := s.snap.ws.epoch, imageId := s.snap.ws.imageId }
      let s := (s.reply rep stQUEUED 0 true false).updSec (fun _ => { y with waiting := y.waiting ++ [w] })
      if x.reserving then s else State.serveAttests s.dev.sec.waiting.length s

/-- ATTEST_RESERVATION: the running reservation writes its pair of slots, with one retry on the block after it; `firstOk`
and `retryOk` say that both slots read back correctly (13 R393, R394). -/
def stepAttestReservation (firstOk retryOk : Bool) (s : State) : State :=
  let x := s.dev.sec
  if !x.reserving then s
  else
    let b := x.attNext / 1024
    let s := s.updNv (fun n => n.writePair (x.attSeq + 1) (x.attNext + 1024) firstOk)
    let s :=
      if firstOk then
        s.updSec (fun x => { x with reserving := false, attSeq := x.attSeq + 1, attNext := x.attNext + 1024, attIndex := 1024 * b, left := 1024 })
      else if 2 ^ 20 ≤ b + 1 then s.updSec (fun x => { x with reserving := false, exhausted := true })
      else
        let s := s.updNv (fun n => n.writePair (x.attSeq + 2) (x.attNext + 2048) retryOk)
        if retryOk then
          s.updSec (fun x => { x with reserving := false, attSeq := x.attSeq + 2, attNext := x.attNext + 2048, attIndex := 1024 * (b + 1),
                                      left := 1024 })
        else s.updSec (fun x => { x with reserving := false, nvFault := true })
    State.serveAttests s.dev.sec.waiting.length s

def execAttest (ch : Nat) (s : State) : Host.Outcome State Fault Refusal := .next (s.runDue 0x51 ch effAttest)
def execAttestReservation (firstOk retryOk : Bool) (s : State) : Host.Outcome State Fault Refusal :=
  .next (stepAttestReservation firstOk retryOk s)

end Sys2Proof.Machine
end

