-- ==== Sys2Proof/Machine/Clock.lean ====
section
/-! DEFINITION. The tick machine: start and stop, period and stretch changes, markers and alignment, the PTM clock
(05 R142 to R148; 10 R318; 12 R378, R379). -/

namespace Sys2Proof.Machine

/-- SYNC is entered: the next marker gives the tick number (05 R145). -/
def Time.toSync (t : Time) : Time := { t with st := .sync, synced := false, lockRun := 0, missRun := 0, freeTicks := 0 }

/-- TIME_START: to RUN at the master, to SYNC at a follower (05 Table 5-6). -/
def stepTimeStart (s : State) : State :=
  if s.dev.time.st != .stopped then s
  else if s.dev.master then s.updTime (fun t => { t with st := .run, stopDue := false, missRun := 0, freeTicks := 0 })
  else s.updTime (fun t => { t.toSync with stopDue := false })

/-- TIME_STOP: STOPPED at the next boundary (05 Table 5-12). -/
def stepTimeStop (s : State) : State :=
  if s.dev.time.st == .stopped then s else s.updTime (fun t => { t with stopDue := true })

/-- A change that the master decides in tick k takes effect at k + 17; a second decision of the same tick joins it
(05 R148). -/
def Time.decideChange (t : Time) (period stretch : Option Nat) : Time :=
  match t.pend with
  | none => { t with pend := some ⟨t.tick + 17, period, stretch, false⟩ }
  | some p => { t with pend := some { p with period := if period.isSome then period else p.period,
                                             stretch := if stretch.isSome then stretch else p.stretch } }

/-- No further change may be decided now: one is announced, or was decided in an earlier tick (05 R148). -/
def Time.changePending (t : Time) : Bool :=
  match t.pend with
  | none => false
  | some p => p.announced || p.effective != t.tick + 17

/-- TICK_PERIOD_WRITE (05 R142, R148; 00 R16). -/
def stepTickPeriodWrite (period : Nat) (s : State) : State :=
  if !s.dev.master || decide (64 < period) then s
  else if period < max 4 s.dev.time.minPeriod || s.dev.time.changePending then s.updTime (fun t => { t with periodRefused := true })
  else s.updTime (fun t => { (t.decideChange (some period) none) with period })

/-- The largest stretch request that the master holds, its own among them (05 R148). -/
def Dev.largestStretch (d : Dev) : Nat := (d.time.requests.map (·.2)).foldl max d.hk.stretch

/-- STRETCH_CHANGE_DECISION: at a boundary where the largest request differs from the stretch in force and no change is
pending (05 R148). -/
def State.decideStretch (s : State) : State :=
  if s.dev.master && s.dev.time.pend.isNone && s.dev.largestStretch != s.dev.time.stretch then
    s.updTime (fun t => t.decideChange none (some s.dev.largestStretch))
  else s

/-- The pending change takes effect at its tick (05 R148). -/
def State.applyChange (s : State) : State :=
  match s.dev.time.pend with
  | none => s
  | some p =>
    if p.effective ≤ s.tick then
      s.updTime (fun t => { t with inForce := p.period.getD t.inForce, stretch := p.stretch.getD t.stretch, pend := none })
    else s

/-- PERIOD_CHANGE_EFFECT: the change takes effect, and the master compares the largest request with it (05 R148). -/
def stepPeriodChangeEffect (s : State) : State :=
  match s.dev.time.pend with
  | some p => if p.effective ≤ s.tick then s.applyChange.decideStretch else s
  | none => s

/-- A signed number held to ±lim. -/
def heldTo (lim : Nat) (x : Int) : Int := max (-(lim : Int)) (min lim x)

/-- The port's peer is this package's timing parent (05 R146, 10 R310). -/
def Dev.fromParent (d : Dev) (port : Nat) : Bool :=
  match (d.port port).peer, d.role.parent with
  | some p, some q => p.2.1 == q
  | _, _ => false

/-- The change that a marker announces (05 R148, 10 Table 10-6). -/
def markerChange (m : Marker) : Option PendChange :=
  if m.effective = 0 then none else some ⟨m.effective, if m.newPeriod = 0 then none else some m.newPeriod, m.newStretch, true⟩

/-- An error above 12 cycles sends the follower to SYNC with ALIGN_FAULT (05 R145). -/
def State.alignFault (s : State) (e : Int) : State :=
  (s.updTime (fun t => { t.toSync with alignFault := true })).logEvent 0x43 0 0 (twos 32 e) 0

/-- The marker of a tick counts as present when it comes by local cycle 64 of that tick, or ahead of the tick (05 R145). -/
def Time.noteMarker (t : Time) (k : Nat) : Time :=
  { t with markerHere := t.markerHere || (k == t.tick && decide (t.cycle ≤ 64)), markerEarly := t.markerEarly || k == t.tick + 1 }

/-- TICK_MARKER_RECEIVE: a marker from the timing parent, with the measured error e in cycles (05 R145, R147, R148). -/
def stepTickMarkerReceive (port : Nat) (m : Marker) (e : Int) (s : State) : State :=
  if s.dev.master || !s.dev.fromParent port || s.dev.time.st == .stopped then s
  else
    let s := s.updTime (fun t0 => let t := t0.noteMarker m.tick; { t with hop := m.hop + 1,
                                                                          pend := if (markerChange m).isSome then markerChange m else t.pend })
    let small := decide (e.natAbs ≤ 12)
    if s.dev.time.st == .sync && !s.dev.time.synced then
      s.updTime (fun t => { t with synced := true, tick := m.tick, cycle := 0, markerHere := true, markerEarly := false, missRun := 0,
                                   inForce := m.period, stretch := m.stretch,
                                   lockRun := 0, adjNext := 0 })
    else
      let s := s.updTime (fun t => { t with err := heldTo 127 e, adjNext := heldTo 4 (-e), lastGood := small,
                                            lockRun := if t.st == .sync && decide (e.natAbs ≤ 4) then t.lockRun + 1 else 0 })
      match s.dev.time.st with
      | .run => if small then s else s.alignFault e
      | .free => if small then s.updTime (fun t => { t with st := .run, freeTicks := 0 }) else s.alignFault e
      | _ => s

/-- MARKER_LOST: by local cycle 64 of a third consecutive tick no marker has come: to FREE (05 R145). -/
def stepMarkerLost (s : State) : State :=
  let t := s.dev.time
  if !s.dev.master && t.st == .run && decide (3 ≤ t.missRun + b2n (!t.markerHere)) then
    s.updTime (fun t => { t with st := .free, markerLost := true, freeTicks := 0 })
  else s

/-- FREE_TIMEOUT: 32 ticks in FREE: to SYNC (05 R145). -/
def stepFreeTimeout (s : State) : State :=
  if s.dev.time.st == .free && decide (32 ≤ s.dev.time.freeTicks) then s.updTime Time.toSync else s

/-- A follower with 16 consecutive aligned ticks in SYNC enters RUN (05 R145). -/
def State.lockSync (s : State) : State :=
  if !s.dev.master && s.dev.time.st == .sync && decide (16 ≤ s.dev.time.lockRun) then
    s.updTime (fun t => { t with st := .run, missRun := 0 })
  else s

/-- What the clock does at the end of a tick: a missing marker counts, and so does a tick in FREE (05 R145). -/
def State.closeTick (s : State) : State :=
  let s := if s.dev.master then s
    else s.updTime (fun t => { t with
      missRun := if t.markerHere then 0 else if t.st == .run then t.missRun + 1 else t.missRun,
      lockRun := if t.st == .sync && !t.markerHere then 0 else t.lockRun,
      freeTicks := if t.st == .free then t.freeTicks + 1 else t.freeTicks,
      markerHere := t.markerEarly, markerEarly := false })
  let s := if !s.dev.master && s.dev.time.st == .run && decide (3 ≤ s.dev.time.missRun) then
      s.updTime (fun t => { t with st := .free, markerLost := true, freeTicks := 0 })
    else s
  s.lockSync

/-- A tick-marker block (10 Table 10-6). -/
def Marker.block (m : Marker) : List Byte :=
  leBytes 1 0xA1 ++ leBytes 1 m.hop ++ leBytes 1 m.slice ++ leBytes 1 0 ++ leBytes 8 m.tick ++ leBytes 2 m.master ++ leBytes 1 m.period ++
    leBytes 1 m.newPeriod ++ leBytes 4 m.stretch ++ leBytes 4 (m.newStretch.getD 0 + 2 ^ 31 * b2n m.newStretch.isSome) ++ leBytes 8 m.effective

/-- The marker of the tick that opens: sent by the master of a slice and by its followers to their children. A change is announced
from the tick after its decision on, also by a package of no slice, which is its own master (05 R144, R146, R148; 10 R318). -/
def State.sendMarker (s : State) : State :=
  let t := s.dev.time
  let r := s.dev.role
  let s := if t.runs then s.updTime (fun t => { t with pend := t.pend.map (fun x =>
      if x.effective ≤ t.tick + 16 then { x with announced := true } else x) }) else s
  if !r.assigned || !t.runs then s
  else
    let p : Option PendChange := t.pend.filter (fun p => decide (p.effective ≤ t.tick + 16))
    let m : Marker :=
      { hop := if s.dev.master then 0 else t.hop, slice := r.slice.toNat, tick := t.tick,
        master := if s.dev.master then r.pkg.toNat else r.head.getD 0, period := t.inForce,
        newPeriod := (p.bind (fun (x : PendChange) => x.period)).getD 0, stretch := t.stretch,
        newStretch := p.bind (fun (x : PendChange) => x.stretch), effective := (p.map (fun (x : PendChange) => x.effective)).getD 0 }
    s.emit (.marker (Sys2Proof.Machine.Marker.block m))

/-- PTM_DIALOG: an answered dialog gives the root's time; four unanswered ones in a row clear VALID and set FAIL (12 R378,
R379). -/
def stepPtmDialog (masterNs : Option Nat) (s : State) : State :=
  match masterNs with
  | some r => s.updTime (fun t => { t with ptmDialogs := (10 * t.mems, r) :: t.ptmDialogs.take 1, ptmValid := true, ptmMisses := 0 })
  | none => s.updTime (fun t =>
      if 4 ≤ t.ptmMisses + 1 then { t with ptmMisses := t.ptmMisses + 1, ptmValid := false, ptmFail := true }
      else { t with ptmMisses := t.ptmMisses + 1 })

/-- PCIE_PTM_STAT.AGE: ms since the last successful dialog, saturating (12 Table 12-7). -/
def Time.ptmAge (t : Time) : Nat :=
  match t.ptmDialogs with
  | [] => 0xFFFF
  | (l, _) :: _ => min 0xFFFF ((10 * t.mems - l) / 1000000)

def execTimeStart (s : State) : Host.Outcome State Fault Refusal := .next (stepTimeStart s)
def execTimeStop (s : State) : Host.Outcome State Fault Refusal := .next (stepTimeStop s)
def execTickPeriodWrite (period : Nat) (s : State) : Host.Outcome State Fault Refusal := .next (stepTickPeriodWrite period s)
def execPeriodChangeEffect (s : State) : Host.Outcome State Fault Refusal := .next (stepPeriodChangeEffect s)
def execTickMarkerReceive (port : Nat) (m : Marker) (err : Int) (s : State) : Host.Outcome State Fault Refusal :=
  .next (stepTickMarkerReceive port m err s)
def execMarkerLost (s : State) : Host.Outcome State Fault Refusal := .next (stepMarkerLost s)
def execFreeTimeout (s : State) : Host.Outcome State Fault Refusal := .next (stepFreeTimeout s)
def execPtmDialog (masterNs : Option Nat) (s : State) : Host.Outcome State Fault Refusal := .next (stepPtmDialog masterNs s)

end Sys2Proof.Machine
end

