-- ==== Sys2Proof/Machine/Rings.lean ====
section
/-! DEFINITION. Reply rings, their backlogs and messages, the event ring, channel ranges and MSI-X entries (08 R233,
R247 to R251; 12 R373, R377). -/

namespace Sys2Proof.Machine

/-- The host address and PHASE of record number i (08 R248). -/
def Ring.place (r : Ring) (i : Nat) : W64 × Bool :=
  (r.base + BitVec.ofNat 64 (64 * (i % 2 ^ r.size)), decide (i / 2 ^ r.size % 2 = 0))

/-- Some ring of some function holds an unwritten record of an earlier tick (08 R250: no record of tick k + 1 is written before
every record of tick k). A record in a backlog holds back only its own ring. -/
def Dev.earlier (d : Dev) (tick : Nat) : Bool :=
  d.srv.fns.any (fun e => e.2.rings.any (fun e => e.2.wq.any (fun r => decide (r.tick < tick))))

/-- REPLY_RECORD_WRITE: the write of the ring's next record is granted and issued, or ends in an error, which sends it
and the records behind it to the backlog (08 R248, R250). A record that would pass one of an earlier tick waits. -/
def stepReplyRecordWrite (f r : Nat) (ok : Bool) (s : State) : State :=
  let g := s.dev.ring f r
  match g.wq with
  | [] => s
  | x :: rest =>
    if s.dev.earlier x.tick then s
    else if ok && s.dev.canWrite f then
      let (addr, phase) := g.place g.prod.toNat
      let s := s.updRing f r (fun g => { g with wq := rest, prod := g.prod + 1 })
      let s := s.updFn f (fun n => { n with pend := n.pend ||| (1#64 <<< r),
                                            irqWant := n.irqWant || (n.irqEn && g.irq) })
      let s := s.updPcie (fun p => { p with wr := p.wr + 64 })
      s.emit (.record f r addr (x.bytes phase))
    else s.updRing f r (fun g => { g with wq := [], backlog := g.wq ++ g.backlog })

/-- BACKLOG_DRAIN: as space appears, the backlog drains into the ring in order (08 R249). -/
def stepBacklogDrain (f r : Nat) (s : State) : State :=
  let g := s.dev.ring f r
  if g.en && s.dev.canWrite f then
    s.updRing f r (fun g => { g with wq := g.wq ++ g.backlog.take g.free, backlog := g.backlog.drop g.free })
  else s

/-- A write to RING.CFG: EN from 0 to 1 sets PROD and CONS to 0; a SIZE outside 4 to 16 is reserved (08 R247). -/
def State.writeRingCfg (s : State) (f r : Nat) (v : W32) : State :=
  s.updRing f r (fun g =>
    let en := v.getLsbD 31
    let g := { g with irq := v.getLsbD 30,
                      size := setField (decide (4 ≤ fieldAt v.toNat 0 5) && decide (fieldAt v.toNat 0 5 ≤ 16)) g.size (fieldAt v.toNat 0 5) }
    if en && !g.en then { g with en := true, prod := 0, cons := 0 } else { g with en })

/-- RING_ENABLE: software writes EN = 1, the ring's other fields as they stand (08 R247). -/
def stepRingEnable (f r : Nat) (s : State) : State :=
  let g := s.dev.ring f r
  s.writeRingCfg f r (BitVec.ofNat 32 (2 ^ 31 + 2 ^ 30 * b2n g.irq + g.size))

/-- RING_CONS_WRITE: ignored with CONS_BAD when it would pass PROD, compared modulo 2^32 (08 R247). -/
def stepRingConsWrite (f r : Nat) (cons : W32) (s : State) : State :=
  let g := s.dev.ring f r
  if (g.prod - g.cons).toNat < (cons - g.cons).toNat then s.updFn f (fun n => { n with consBad := true })
  else s.updRing f r (fun g => { g with cons })

/-- Function f's PEND as it stood before this FAB cycle: a record of this cycle is kept for the next read (00 R18). -/
def State.pendSeen (s : State) (f : Nat) : W64 := (s.dev.fn f).pend &&& (s.begun.dev.fn f).pend

/-- A function's latch of a high word. -/
def State.latched (s : State) (f key : Nat) : Option W32 :=
  (s.latches.find? (fun e => e.1 == f && e.2.1 == key)).map (·.2.2)

/-- Removes a function's latch of a high word. -/
def State.unlatch (s : State) (f key : Nat) : State :=
  { s with latches := s.latches.filter (fun e => !(e.1 == f && e.2.1 == key)) }

/-- A function's latch takes a high word (00 R14). -/
def State.latch (s : State) (f key : Nat) (w : W32) : State :=
  let s := s.unlatch f key
  { s with latches := s.latches ++ [(f, key, w)] }

/-- The key under which a function's latch of a word is kept. -/
def regKey (blk o : Nat) : Nat := 2 ^ 26 * blk + o

/-- The key of function g's PEND_HI in SRV (08 R268). -/
def pendKey (g : Nat) : Nat := regKey 9 (0x10000 + 0x1000 * g + 0x024)

/-- PEND loses the bits that a read returned (08 R251; 00 R17, R18). -/
def State.clearPend (s : State) (g : Nat) (seen : W64) : State := s.updFn g (fun n => { n with pend := n.pend &&& ~~~seen })

/-- A read of function g's PEND_LO by function f returns bits 31:0 and clears them, and clears bits 63:32 into f's latch (08 R251; 00
R14). -/
def State.readPendLo (s : State) (f g : Nat) : W32 × State :=
  let p := s.pendSeen g
  (p.setWidth 32, (s.clearPend g p).latch f (pendKey g) ((p >>> 32).setWidth 32))

/-- PEND_READ: the read of PEND_LO and of the PEND_HI that it latched (08 R251, R14). -/
def stepPendRead (f : Nat) (s : State) : State :=
  let p := s.pendSeen f
  (((s.clearPend f p).unlatch f (pendKey f)).emit (.readData (p.setWidth 32))).emit (.readData ((p >>> 32).setWidth 32))

/-- The function has open or parked streams. (An EMBED's positions are kept under a key above the channel numbers.) -/
def Dev.hasStreams (d : Dev) (f : Nat) : Bool := d.srv.streams.any (fun e => e.2.fn == f && decide (e.1 < 16384))

/-- CHAN_RANGE_WRITE: refused on overlap, on a change under open or parked streams, and past 16,384 (08 R233). A range of
COUNT 0 overlaps none (entry 16). -/
def stepChanRangeWrite (f : Nat) (v : W32) (s : State) : State :=
  let count := fieldAt v.toNat 16 15
  let base := fieldAt v.toNat 0 14
  let overlap := (List.range 32).any (fun g => g != f && decide (0 < (s.dev.fn g).count) && decide (0 < count) &&
    decide (base < (s.dev.fn g).base + (s.dev.fn g).count) && decide ((s.dev.fn g).base < base + count))
  let changed := decide (count ≠ (s.dev.fn f).count) || decide (base ≠ (s.dev.fn f).base)
  if overlap || (changed && s.dev.hasStreams f) || decide (16384 < base + count) then
    s.updFn f (fun n => { n with rangeRefused := true })
  else s.updFn f (fun n => { n with count, base })

/-- MSIX_UNMASK: the entry is unmasked and its pending message goes (12 R373). -/
def stepMsixUnmask (f e : Nat) (s : State) : State :=
  let m := s.dev.msix f e
  if m.pending && s.dev.canWrite f && !(s.dev.fnCfg f).fnMask then
    (s.updMsix f e (fun m => { m with masked := false, pending := false })).emit (.msix f e m.addr m.data)
  else s.updMsix f e (fun m => { m with masked := false })

/-- A write to EVT_CFG: EN from 0 to 1 sets PROD and CONS to 0; LOST is W1C; VECTOR above 63 cannot be written; a SIZE
outside 6 to 16 is reserved (12 R377, Table 12-7). -/
def State.writeEvtCfg (s : State) (v : W32) : State :=
  s.updPcie (fun p =>
    let p := { p with evtLost := w1c p.evtLost (v.getLsbD 30) (hwSet p.evtLost s.begun.dev.pcie.evtLost),
                      evtVector := BitVec.ofNat 6 (fieldAt v.toNat 8 6),
                      evtSize := setField (decide (6 ≤ fieldAt v.toNat 0 5) && decide (fieldAt v.toNat 0 5 ≤ 16)) p.evtSize
                        (BitVec.ofNat 5 (fieldAt v.toNat 0 5)) }
    if v.getLsbD 31 && !p.evtEn then { p with evtEn := true, evtProd := 0, evtCons := 0 } else { p with evtEn := v.getLsbD 31 })

/-- EVENT_RING_ENABLE: software writes EN = 1, the other fields as they stand (12 R377). -/
def stepEventRingEnable (s : State) : State :=
  s.writeEvtCfg (BitVec.ofNat 32 (2 ^ 31 + 256 * s.dev.pcie.evtVector.toNat + s.dev.pcie.evtSize.toNat))

/-- EVENT_RING_CONS_WRITE (12 Table 12-7, 08 R247). -/
def stepEventRingConsWrite (cons : W32) (s : State) : State :=
  if (s.dev.pcie.evtProd - s.dev.pcie.evtCons).toNat < (cons - s.dev.pcie.evtCons).toNat then s
  else s.updPcie (fun p => { p with evtCons := cons })

/-- LATE_COMPLETION: a completion for a transfer already ended is discarded and counted (12 R375). -/
def stepLateCompletion (s : State) : State := s.updPcie (fun p => { p with lateCpl := p.lateCpl + 1 })

/-- POISONED_TLP: a poisoned write is discarded whole; a poisoned completion ends its read in error, a command's read where
`ch` names its channel. Both are counted (12 R372, R375). -/
def stepPoisonedTlp (write : Bool) (ch : Option Nat) (s : State) : State :=
  let s := s.updPcie (fun p => { p with poisonRx := p.poisonRx + 1 })
  match ch with
  | some c => if write then s else s.failFetch (fun x => x.ch == c)
  | none => s

/-- ATOMIC_OP: completes as Unsupported Request (12 R372). -/
def stepAtomicOp (f _bar : Nat) (s : State) : State := s.emit (.unsupported f)

/-- CONFIG_REQUEST_RETRY: a configuration request before the end of step 7 completes with Configuration Request Retry
Status; later it completes normally (14 R415). With PERST# low or in FURL the controller is in reset and completes
nothing. -/
def stepConfigRequestRetry (f : Nat) (s : State) : State :=
  if s.dev.rst.perstLow || s.dev.rst.furl then s
  else s.emit (.configDone f (decide (s.dev.rst.step.toNat ≤ 7)))

def execReplyRecordWrite (fn ring : Nat) (ok : Bool) (s : State) : Host.Outcome State Fault Refusal :=
  .next (stepReplyRecordWrite fn ring ok s)
def execBacklogDrain (fn ring : Nat) (s : State) : Host.Outcome State Fault Refusal := .next (stepBacklogDrain fn ring s)
def execRingEnable (fn ring : Nat) (s : State) : Host.Outcome State Fault Refusal := .next (stepRingEnable fn ring s)
def execRingConsWrite (fn ring : Nat) (cons : W32) (s : State) : Host.Outcome State Fault Refusal :=
  .next (stepRingConsWrite fn ring cons s)
def execPendRead (fn : Nat) (s : State) : Host.Outcome State Fault Refusal := .next (stepPendRead fn s)
def execChanRangeWrite (fn : Nat) (value : W32) (s : State) : Host.Outcome State Fault Refusal :=
  .next (stepChanRangeWrite fn value s)
def execMsixUnmask (fn entry : Nat) (s : State) : Host.Outcome State Fault Refusal := .next (stepMsixUnmask fn entry s)
def execEventRingEnable (s : State) : Host.Outcome State Fault Refusal := .next (stepEventRingEnable s)
def execEventRingConsWrite (cons : W32) (s : State) : Host.Outcome State Fault Refusal :=
  .next (stepEventRingConsWrite cons s)
def execLateCompletion (s : State) : Host.Outcome State Fault Refusal := .next (stepLateCompletion s)
def execPoisonedTlp (write : Bool) (ch : Option Nat) (s : State) : Host.Outcome State Fault Refusal :=
  .next (stepPoisonedTlp write ch s)
def execAtomicOp (fn bar : Nat) (s : State) : Host.Outcome State Fault Refusal := .next (stepAtomicOp fn bar s)
def execConfigRequestRetry (fn : Nat) (s : State) : Host.Outcome State Fault Refusal :=
  .next (stepConfigRequestRetry fn s)

end Sys2Proof.Machine
end

