-- ==== Sys2Proof/Machine/Flr.lean ====
section
/-! DEFINITION. Function level reset, Bus Master Enable and D3hot, the PCIe link's rise and fall (08 R265 to R267; 12 R367 to
R369, R376, R380, R381). -/

namespace Sys2Proof.Machine

/-- The reads of a function's waiting commands are abandoned: they fail, with FETCH_ERR (08 R240, 12 R376). -/
def State.abandonReads (s : State) (f : Nat) : State :=
  let mine := s.dev.srv.waiting.filter (fun (c : Cmd) => c.fn == f && !c.needs.isEmpty)
  if mine.isEmpty then s
  else
    (s.updSrv (fun v => { v with
      fetchErr := wrapInc v.fetchErr mine.length,
      waiting := v.waiting.map (fun (c : Cmd) => 
        if c.fn = f ∧ !c.needs.isEmpty then { c.failRead with needs := [], inputFailed := c.inputFailed || c.needs.contains .input }
        else c) })).updFn f
      (fun n => { n with fetchErr := true })

/-- The function's transfers at the PCIe DMA engines are abandoned, with neither a loss nor a bite; the engines go on with what waits
(12 R376). -/
def State.abandonGrants (s : State) (f : Nat) : State :=
  let stays : Nat × Grant → Bool := fun e => match e.2.ch with
    | some c => !(s.dev.fn f).owns c
    | none => true
  s.updArb 4 (fun a => (List.range 16).foldl (fun a u => a.serveUnit true u) { a with held := a.held.filter stays, queue := a.queue.filter stays })

/-- Records of a function whose write was not issued go back to their backlogs, in order (08 R249, R250). -/
def Fn.unissue (n : Fn) : Fn :=
  { n with rings := (n.rings.map (·.1)).foldl (fun m r => Sparse.upd Ring.reset m r (fun g => { g with wq := [], backlog := g.wq ++ g.backlog })) n.rings }

/-- The function stops writing: its transfers are abandoned and its replies wait in its backlogs (12 Table 12-6, R376). -/
def State.stopFn (s : State) (f : Nat) : State := ((s.abandonGrants f).abandonReads f).updFn f Fn.unissue

/-- The function writes again: result bytes go, failed record writes are retried and backlogs drain (08 R249, R250). -/
def State.resumeFn (s : State) (f : Nat) : State :=
  if s.dev.canWrite f then
    let s := s.flushOuts f
    s.each ((s.dev.fn f).rings.map (·.1)) (fun s r => stepBacklogDrain f r s)
  else s

/-- BUS_MASTER_DISABLE (12 Table 12-6). -/
def stepBusMasterDisable (f : Nat) (s : State) : State :=
  if f < 32 then (s.updFnCfg f (fun c => { c with bme := false })).stopFn f else s

/-- Setting NumVFs high enough for a function to exist is part of enabling it (12 R368, R369; entry 6). -/
def stepBusMasterEnable (f : Nat) (s : State) : State :=
  if f < 32 then
    let s := s.updPcie (fun p => { p with numVfs := max p.numVfs f })
    (s.updFnCfg f (fun c => { c with bme := true })).resumeFn f
  else s

/-- D3HOT_ENTRY: as clearing Bus Master Enable; no MSI-X from the function (12 Table 12-6). -/
def stepD3hotEntry (f : Nat) (s : State) : State :=
  if f < 32 then (s.updFnCfg f (fun c => { c with d3 := true })).stopFn f else s

/-- D3HOT_EXIT: no reset; backlogs drain (12 Table 12-6). -/
def stepD3hotExit (f : Nat) (s : State) : State :=
  if f < 32 then (s.updFnCfg f (fun c => { c with d3 := false })).resumeFn f else s

/-- An FLR request reaches the device: no new memory request to the function, FLR_BUSY; its transfers are abandoned (08 R265, 12
R376). -/
def State.requestFlr (s : State) (f : Nat) : State := (s.abandonGrants f).updFn f (fun n => { n with flrBusy := true })

/-- FLR_VF. -/
def stepFlrVf (f : Nat) (s : State) : State := if 1 ≤ f ∧ f < 32 then s.requestFlr f else s

/-- An FLR of PF0 clears VF Enable and acts on every function (08 R266). -/
def stepFlrPf0 (s : State) : State :=
  (s.updPcie (fun p => { p with numVfs := 0 })).each (List.range 32) State.requestFlr

/-- VF_ENABLE_CLEAR acts on every VF as an FLR (12 R369). -/
def stepVfEnableClear (s : State) : State :=
  (s.updPcie (fun p => { p with numVfs := 0 })).each (upFrom 1 31) State.requestFlr

/-- A stream goes without a record: its generation ends, its blocks and parked blocks are freed (08 R265). -/
def State.dropStream (s : State) (ch : Nat) : State :=
  match s.dev.stream ch with
  | none => s
  | some t =>
    let s := match t.gen with
      | some g => if g.inFlight.isEmpty then s else s.addMark t.id (g.mark.getD 0)
      | none => s
    ((s.freeStream ch).delStream ch).updSrv (fun v => { v with
      flights := v.flights.map (fun (f : Flight) => if f.ch = ch then { f with dropped := true } else f) })

/-- Registers of a function that an FLR clears: rings, IRQ, PEND, the table address; range and mask stay (08 R265). -/
def Fn.cleared (n : Fn) : Fn :=
  { n with table := 0, irqEn := false, holdoff := 0, vector := 0, pend := 0, irqWant := false, lastMsg := none,
           rings := [], flrBusy := false }

/-- The latches of the function's reads and of its PEND go with their registers (00 R14; 08 R265). -/
def State.dropLatches (s : State) (f : Nat) : State :=
  { s with latches := s.latches.filter (fun e => e.1 != f && e.2.1 != pendKey f) }

/-- What an FLR does to a function at the boundary: its streams, slots, commands, cache entries, registers, and the
configuration state that PCI Express resets (08 R265, R267; 12 R373; entry 6). -/
def State.clearFn (s : State) (f : Nat) : State :=
  let n := s.dev.fn f
  let s := s.each ((s.dev.srv.streams.filter (fun e => e.2.fn == f)).map (·.1)) State.dropStream
  let mine : Nat → Bool := fun ch => n.owns ch
  let s := s.updSrv (fun v => { v with
    window := Memory.erase v.window (256 * n.base) (256 * n.count),
    lastSeq := v.lastSeq.filter (fun e => !mine e.1),
    sealedTab := v.sealedTab.filter (fun e => !mine e.1),
    busy := v.busy.filter (fun ch => !mine ch),
    waiting := v.waiting.filter (fun (c : Cmd) => c.fn != f),
    due := v.due.filter (fun (c : Cmd) => c.fn != f),
    dcache := v.dcache.filter (fun e => e.fn != f),
    embeds := v.embeds.filter (fun e => e.2.rep.fn != f),
    hostOuts := v.hostOuts.filter (fun e => e.1 != f) })
  let s := s.updSec (fun x => { x with waiting := x.waiting.filter (fun w => w.rep.fn != f) })
  ((s.updFn f Fn.cleared).updFnCfg f (fun _ => FnCfg.reset f)).dropLatches f

/-- Every function's channel range and tenant mask at their reset values (08 R266). -/
def State.resetRanges (s : State) : State :=
  s.each (List.range 32) (fun s f => s.updFn f (fun n =>
    { n with count := (Fn.reset f).count, base := (Fn.reset f).base, tenants := (Fn.reset f).tenants }))

/-- The FLRs requested before a boundary act at it; PF0's covers every function (08 R265, R266). -/
def State.actFlr (s : State) : State :=
  let all := (s.dev.fn 0).flrBusy
  let s := s.each ((List.range 32).filter (fun f => (s.dev.fn f).flrBusy)) State.clearFn
  (if all then s.resetRanges else s).shrinkPool

/-- FLR_COMPLETION: at the boundary after the request (08 R265, R266). -/
def stepFlrCompletion (f : Nat) (s : State) : State :=
  if !(s.dev.fn f).flrBusy then s
  else if (s.dev.fn 0).flrBusy then s.actFlr
  else (s.clearFn f).shrinkPool

/-- The PCIe controller and configuration space after a reset that is not a cold one: LINKDOWNS stays (12 Table 12-7, R380). -/
def Pcie.restart (p : Pcie) : Pcie := { linkDowns := p.linkDowns }

/-- PTM dialogs start afresh (12 R379). -/
def Time.ptmReset (t : Time) : Time := { t with ptmValid := false, ptmFail := false, ptmMisses := 0, ptmDialogs := [] }

/-- PCIE_LINK_DOWN: a surprise link down resets the controller and configuration space, ends stockpile transfers in error and
acts as a PF0 FLR; the fabric goes on (12 Table 12-6, R381). -/
def stepPcieLinkDown (s : State) : State :=
  let s := s.each (List.range 32) State.stopFn
  let parks := s.dev.srv.streams.any (fun e => match e.2.park with
    | some p => p.copying.isSome && !p.inPlace
    | none => false)
  let s := s.updSrv (fun v => { v with stockErr := v.stockErr || parks })
  let s := (s.updPcie (fun p => { p.restart with linkDowns := satInc p.linkDowns })).updTime Time.ptmReset
  stepFlrPf0 (s.updArb 4 (fun _ => {}))

/-- The link trains at x8 or x16 (12 R366, R367). -/
def stepPcieLinkUp (speed width : Nat) (reversed sris : Bool) (s : State) : State :=
  if s.dev.rst.perstLow || s.dev.rst.furl || !(width == 8 || width == 16) || !(decide (1 ≤ speed) && decide (speed ≤ 7)) then s
  else s.updPcie (fun p => { p with linkUp := true, speed := BitVec.ofNat 3 speed, width := BitVec.ofNat 5 width, reversed, sris })

def execFlrVf (fn : Nat) (s : State) : Host.Outcome State Fault Refusal := .next (stepFlrVf fn s)
def execFlrPf0 (s : State) : Host.Outcome State Fault Refusal := .next (stepFlrPf0 s)
def execFlrCompletion (fn : Nat) (s : State) : Host.Outcome State Fault Refusal := .next (stepFlrCompletion fn s)
def execVfEnableClear (s : State) : Host.Outcome State Fault Refusal := .next (stepVfEnableClear s)
def execBusMasterDisable (fn : Nat) (s : State) : Host.Outcome State Fault Refusal := .next (stepBusMasterDisable fn s)
def execBusMasterEnable (fn : Nat) (s : State) : Host.Outcome State Fault Refusal := .next (stepBusMasterEnable fn s)
def execD3hotEntry (fn : Nat) (s : State) : Host.Outcome State Fault Refusal := .next (stepD3hotEntry fn s)
def execD3hotExit (fn : Nat) (s : State) : Host.Outcome State Fault Refusal := .next (stepD3hotExit fn s)
def execPcieLinkDown (s : State) : Host.Outcome State Fault Refusal := .next (stepPcieLinkDown s)
def execPcieLinkUp (speed width : Nat) (reversed sris : Bool) (s : State) : Host.Outcome State Fault Refusal :=
  .next (stepPcieLinkUp speed width reversed sris s)

end Sys2Proof.Machine
end

