-- ==== Sys2Proof/Machine/Pipeline.lean ====
section
/-! DEFINITION. The pipeline: bundles and verdicts in and out, positions between the halves of their step, mixture-of-experts
layers (01 R28, R29; 05 R158 to R160; 07 R219 to R222; 09 R280, R302; 10 R319, R320; 11 R340, R346 to R349). -/

namespace Sys2Proof.Machine

/-- A bundle entry as work of this package, from the attention half on. -/
def workOfEntry (e : BundleEntry) (tick : Nat) : Work :=
  { stream := e.stream, index := e.index, epoch := e.epoch, block := e.block, bslot := e.slot, provisional := e.provisional,
    rebuild := e.rebuild, target := e.target, mark := e.mark, expert := none, tick, half := 0, slips := 0, replays := 0,
    clamped := false, poison := false, slipped := false, slipAt := 0, replaying := false, replaySlot := none, clampSlot := none, result := 0, cause := 0, kind := 0, unit := 0,
    attnDone := false, residual := e.residual, outRes := [] }

/-- The positions of a bundle that came late slip, each for its late residual: one that came in a later tick than the next has missed
that one, and may take a slip slot of this (05 R158, R160). -/
def State.lateBundle (s : State) (b : Bundle) (late : Option Nat) : State :=
  let pos := b.entries.filter (fun e => !e.noPos)
  match late with
  | some p => s.each pos (fun s e => s.slip p e.stream e.index .link)
  | none =>
    if b.tick + 1 < s.tick then
      let k := s.tick
      s.each pos (fun s e => match s.dev.fab.work e.stream e.index with
        | some w => (s.slipOne .link w).updWork e.stream e.index (fun w => { w with tick := k, slipAt := b.tick + 1 })
        | none => s)
    else s

/-- The tack marker at a layer package: SRV_KV_TOTAL and the pool take the new size, but for a pool whose excess MIX may keep in use (07
R219, R457; entry 117). -/
def State.layerMarker (s : State) : State :=
  let size := (s.dev.ws.staged.map (·.hdr.kvBlocks)).getD s.dev.srv.kvTotal
  (s.updWs (fun w => { w with op := 4, pool := match w.staged with
    | some _ => if w.mixOk then max w.pool size else size
    | none => w.pool })).updSrv (fun v => { v with kvTotal := size })

/-- A layer package takes a bundle: marks first, then its positions (09 R280; 10 R320; 11 R344). -/
def State.layerBundle (s : State) (b : Bundle) (late : Option Nat) : State :=
  let tick := s.tick
  let s := s.each b.entries (fun s e => match e.mark with
    | some n => s.updFab (fun f => f.applyMark e.stream n)
    | none => s)
  let pos := b.entries.filter (fun e => !e.noPos)
  let s := s.updFab (fun f => { f with
    outBundle := f.outBundle ++ b.entries.filter (·.noPos), works := f.works ++ pos.map (fun e => workOfEntry e tick),
    markerSeen := if b.tack then some (tick, b.epoch) else f.markerSeen })
  let s := if b.tack then s.layerMarker else s
  (s.each (pos.filter (·.poison)) (fun s e => s.poisonWork e.stream e.index 1)).lateBundle b late

/-- A failure of a position that the head follows, to act at the next boundary; of several, the one that ends the stream
counts (11 R349). -/
def State.noteFailure (s : State) (stream index result cause : Nat) : State :=
  s.updSrv (fun v => { v with
    failing := if v.failing.any (fun e => e.1 == stream && e.2.1 == index) then
        v.failing.map (fun e => if e.1 = stream ∧ e.2.1 = index then (e.1, e.2.1, max e.2.2.1 result, e.2.2.2) else e)
      else v.failing ++ [(stream, index, result, cause)] })

/-- A position of an older epoch that still needs the LM head pass or is in it, when the two epochs' LM heads differ (07 R222). -/
def Dev.lmWaits (d : Dev) (f : Flight) : Bool :=
  !d.ws.lmSame && d.srv.flights.any (fun x => decide (x.epoch < f.epoch) && x.needLogits && !x.dropped && x.logits.isNone)

/-- One position is back at the head: it enters the LM head pass, or its hidden state is kept for an EMBED (01 R30; 07 R222;
09 R303). -/
def State.headEntry (s : State) (e : BundleEntry) : State :=
  match s.dev.srv.flights.find? (fun f => f.stream == e.stream && f.index == e.index && f.epoch == e.epoch && !f.arrived) with
  | none => s
  | some f =>
    let embed := (Tab.find s.dev.srv.embeds f.ch).isSome
    let tick := s.tick
    let pass := f.needLogits && !s.dev.lmWaits f
    let s := s.updSrv (fun v => { v with flights := v.flights.map (fun (x : Flight) =>
      if x = f then { x with arrived := true, passTick := if pass then some tick else none,
                             hidden := if embed then e.residual else [] } else x) })
    if e.poison && !f.dropped then s.noteFailure e.stream e.index 1 0x12 else s

/-- BUNDLE_RECEIVE (10 R320). A package that has no position is on no pipeline path: nothing reaches it. -/
def stepBundleReceive (b : Bundle) (late : Option Nat) (s : State) : State :=
  if s.dev.isHead then s.each (b.entries.filter (fun e => !e.noPos)) State.headEntry
  else if s.dev.role.position = 0xFFFF then s
  else s.layerBundle b late

/-- Positions that waited for the LM head of the older epoch enter the pass (07 R222). -/
def State.admitWaiting (s : State) : State :=
  let d := s.dev
  s.updSrv (fun v => { v with flights := v.flights.map (fun (f : Flight) =>
    if f.needLogits && f.arrived && f.passTick.isNone && !d.lmWaits f then { f with passTick := some d.time.tick } else f) })

/-- A stamp entry reaches the head (11 R347 to R349). -/
def State.takeEntry (s : State) (pkg tick : Nat) (e : StampEntry) : State :=
  if e.result = 2 then
    (if s.dev.srv.flights.any (fun f => f.stream == e.stream && f.index == e.index && !f.dropped) then
       s.noteFailure e.stream e.index 2 e.cause else s)
  else
    match s.dev.srv.flights.find? (fun f => f.stream == e.stream && f.index == e.index && !(f.passes.any (fun p => p.1 == pkg)) &&
        f.failed.isNone) with
    | none => s
    | some f =>
      let s := s.updSrv (fun v => { v with flights := v.flights.map (fun (x : Flight) =>
        if x = f then
          (if e.result = 0 then { x with passes := x.passes ++ [(pkg, tick)], clamped := x.clamped || e.clamped, slips := x.slips + e.slips }
           else { x with failed := some (e.result, e.cause) }) else x) })
      if e.result ≠ 0 ∧ f.dropped = false then s.noteFailure e.stream e.index e.result e.cause else s

/-- A stamp reaches the head: SCRUB, the stretch request, the entries (05 R148; 11 R346, R348). -/
def State.takeStamp (s : State) (st : Stamp) : State :=
  let s := s.updSrv (fun v => { v with scrubs := Tab.put v.scrubs st.pkg (max st.scrub ((Tab.find v.scrubs st.pkg).getD 0)) })
  let s := s.updTime (fun t => { t with requests := Tab.put t.requests st.pkg st.stretch })
  s.each st.entries (fun s e => s.takeEntry st.pkg st.tick e)

/-- VERDICT_RECEIVE: a message has come from upstream; a layer package passes its stamps on, the head acts on them. At the head a
spare's stamp without entries stands for its MGMT stretch request. A message counts as missing unless it comes by local cycle 64 of the
tick that its boundary opens (10 R319, R327; 11 R346; entry 127). -/
def stepVerdictReceive (stamps : List Stamp) (s : State) : State :=
  let early := stamps.any (fun x => decide (s.tick ≤ x.tick))
  let path := !s.dev.isHead || stamps.any (fun x => (s.dev.lnk.pipeline.getLast?).any (fun m => m.pkg == x.pkg))
  let s := s.updLnk (fun l => { l with
    verdictHere := l.verdictHere || (path && !early && decide (s.dev.time.cycle ≤ 64)), verdictEarly := l.verdictEarly || (path && early),
    members := l.members.map (fun m => if m.position = 0xFFFF ∧ stamps.any (fun x => x.pkg == m.pkg) then { m with missed := 0 } else m) })
  if s.dev.isHead then s.each stamps State.takeStamp
  else if s.dev.role.position = 0xFFFF then s
  else s.updFab (fun b => { b with
    upstream := b.upstream ++ stamps,
    stamped := b.stamped ++ stamps.flatMap (fun x => (x.entries.filter (fun e => e.result != 2)).map (fun e => ((e.stream, e.index), x.pkg))) })

/-- SCRUB for the stamp of tick k (11 R340). -/
def Dev.scrubOf (d : Dev) (k : Nat) : Nat :=
  (d.pans.flatMap (fun e => (e.2.arrs.filter (fun a => !a.2.since.isEmpty)).map (fun a => a.2.scrub))).foldl min (k + 1)

/-- The package's stamp for tick k, and the boundary's VERDICT message; the head takes its own (10 R319; 11 R340, R346, R347). -/
def State.sendStamps (s : State) (k : Nat) : State :=
  let d := s.dev
  let sc := d.scrubOf k
  let revs := d.fab.revokes.map (fun (r : Nat × Nat × Nat × Nat) => (⟨r.1, r.2.1, 2, r.2.2.1, 1, false, 0, 0, r.2.2.2⟩ : StampEntry))
  let own : Stamp := { pkg := d.role.pkg.toNat, tick := k, scrub := sc, stretch := d.hk.stretch, entries := d.fab.leaving ++ revs }
  let all := d.fab.upstream ++ [own]
  let s := s.updChk (fun c => { c with scrub := sc })
  let s := s.updFab (fun b => { b with leaving := [], revokes := [], upstream := [] })
  if d.isHead then (s.takeStamp own).sendVerdict [own]
  else if d.role.assigned && d.role.position != 0xFFFF then s.sendVerdict all
  else if d.role.assigned then s.emit (.message (d.role.head.getD 0) 0x08 [0x13, d.role.pkg.toNat, d.hk.stretch])
  else s

/-- What a position does at the end of tick k: it waits for a slip slot, for the new epoch, or for RUN; it goes on to its FFN
half; or it leaves (01 R29; 05 R160; 07 R221; 10 R327). -/
inductive WorkEnd
  | keep (w : Work) (waited : Bool)
  | leave (w : Work)
deriving DecidableEq, Repr

/-- `pass` is the length of the package's tier-2 passes: positions leave in the last tick of a pass, and the wait is no slip
(04 R119). -/
def Work.close (w : Work) (k epoch pass : Nat) (serves : Bool) : WorkEnd :=
  if k < w.tick then .keep w false
  else if w.slipped || !serves || decide (epoch < w.epoch) then .keep { w with tick := k + 1, slips := w.slips + 1 } true
  else if w.half = 0 then .keep { w with half := 1, tick := k + 1 } false
  else if (k + 1) % max 1 pass ≠ 0 then .keep { w with tick := k + 1 } false
  else .leave w

/-- The stamp entry of a position that leaves (11 Table 11-6). -/
def Work.entry (w : Work) : StampEntry :=
  { stream := w.stream, index := w.index, result := w.result, cause := w.cause, kind := w.kind, clamped := w.clamped,
    replays := min 3 w.replays, slips := min 31 w.slips, unit := w.unit }

/-- The bundle entry of a position that leaves (10 Table 10-7). -/
def Work.toEntry (w : Work) : BundleEntry :=
  { stream := w.stream, index := w.index, epoch := w.epoch, block := w.block, slot := w.bslot, noPos := false,
    provisional := w.provisional, mark := w.mark, poison := w.poison, rebuild := w.rebuild, target := w.target,
    residual := if w.outRes.isEmpty then w.residual else w.outRes }

/-- An output of an expert leaves for the next layer's package (09 R302). -/
def State.sendExpert (s : State) (w : Work) : State :=
  match w.expert with
  | some e => s.emit (.moeOut e w.stream w.index (w.outRes.map fp32ToBf16))
  | none => s

/-- Positions leave: of the tick's, those that go on are the last that left, and stamps for others that have left are of no more use
(07 R220). -/
def State.noteLeft (s : State) (left : List Work) : State :=
  let gone := (left.filter (·.rebuild)).map (fun w => (w.stream, w.index))
  let last := (left.filter (fun w => w.expert.isNone && !w.rebuild)).map (fun w => (w.stream, w.index))
  s.updFab (fun b =>
    let old := gone ++ (if last.isEmpty then [] else b.lastLeft.filter (fun p => !last.contains p))
    { b with lastLeft := if last.isEmpty then b.lastLeft else last, stamped := b.stamped.filter (fun e => !old.contains e.1) })

/-- The end of tick k in a package: its positions move on, and its bundle leaves, the tack marker behind the last position of
the old epoch; a package in SYNC sends none (01 R28, R29; 05 R145; 07 R219; 10 R328; 11 R347). -/
def State.closeWorks (s : State) : State :=
  let k := s.tick
  let d := s.dev
  let ends := d.fab.works.map (fun w => w.close k d.ws.epoch d.passTicks d.time.serves)
  let left := ends.filterMap (fun e => match e with
    | .leave w => some w
    | .keep _ _ => none)
  let works := ends.filterMap (fun e => match e with
    | .keep w _ => some w
    | .leave _ => none)
  let waits := (ends.filter (fun e => match e with
    | .keep _ b => b
    | .leave _ => false)).length
  let out := left.filter (fun w => w.expert.isNone && !(w.rebuild && w.target == d.role.position))
  let s := s.each (left.filter (fun w => w.expert.isSome)) State.sendExpert
  let s := s.noteLeft left
  let s := s.updFab (fun b => { b with
    works, slipCnt := wrapInc b.slipCnt waits, slipWaiting := satInc b.slipWaiting waits,
    leaving := b.leaving ++ (left.filter (fun w => w.result != 0 || out.any (fun x => x == w))).map Work.entry })
  if d.isHead || !d.time.serves then s
  else
    let entries := d.fab.outBundle ++ out.map Work.toEntry
    let tack := match d.fab.markerSeen with
      | some (_, e) => if !d.fab.markerSent && works.all (fun w => decide (e ≤ w.epoch)) then some e else none
      | none => none
    let s := s.updFab (fun b => { b with outBundle := [], markerSent := b.markerSent || tack.isSome })
    if entries.isEmpty && tack.isNone then s
    else s.sendBundle { tick := k, tack := tack.isSome, rebuildOnly := !entries.isEmpty && entries.all (·.rebuild),
                        epoch := tack.getD 0, entries }

/-- Indices of the k largest scores, the lower index first on ties (09 R302). -/
def topK (k : Nat) (xs : List W32) : List Nat :=
  ((xs.zipIdx).foldl (fun (l : List (W32 × Nat)) e =>
    let hi := l.takeWhile (fun x => !fpLt x.1 e.1)
    hi ++ [e] ++ l.drop hi.length) []).map (·.2) |>.take k

/-- Softmax in FP32 over the chosen scores (09 R302; entry 11). -/
def softmax32 (xs : List W32) : List W32 :=
  let m := xs.foldl (fun a x => if fpLt a x then x else a) (xs.headD 0)
  let es := xs.map (fun x => Config.exp32 (fpSub x m))
  let t := fpSum es
  es.map (fun e => fpDiv e t)

/-- The router package sends its tick's positions to their experts, by the gate scores that its DLE formed, where it did (04 R114); one
beyond an expert's EXPERT_SLOTS slips (09 R302). -/
def State.routeMoe (s : State) (slot k : Nat) (scores : List (Nat × Nat × List W32)) : State :=
  let limit := ((s.dev.ws.layer slot).getD {}).expertSlots
  let here : Nat → Bool := fun x => x == slot
  let ordered := s.dev.fab.works.filterMap (fun w => (scores.find? (fun x => x.1 == w.stream && x.2.1 == w.index)).map (fun x =>
    (x.1, x.2.1, (s.dev.dle.outOf here 7 x.1 x.2.1).getD x.2.2)))
  let s := s.each ordered (fun s x => s.updDle (fun d => d.dropOut here 7 x.1 x.2.1))
  let n := (ordered.map (fun x => x.2.2.length)).foldl max 0
  let start : State × List (Nat × Nat × Nat × W32) := (s, [])
  let (s, sent) := ordered.foldl (fun (acc : State × List (Nat × Nat × Nat × W32)) x =>
    let s := acc.1
    if !allFinite x.2.2 then (s.numericFault x.1 x.2.1, acc.2)
    else
      let es := topK k x.2.2
      if es.any (fun e => decide (limit ≤ Sparse.get (fun _ => 0) s.dev.fab.expertUsed e)) then (s.slipWorks x.1 x.2.1 .other, acc.2)
      else
        let ws := softmax32 (es.map (fun e => x.2.2.getD e 0))
        let tick := s.tick
        let s := s.updFab (fun b => { b with
          expertUsed := es.foldl (fun m e => Sparse.set (fun _ => 0) m e (Sparse.get (fun _ => 0) m e + 1)) b.expertUsed })
        let s := s.updWork x.1 x.2.1 (fun w => { w with half := 1, tick := tick })
        (s, acc.2 ++ (es.zip ws).map (fun e => (e.1, x.1, x.2.1, e.2)))) start
  s.each (List.range n) (fun s e => s.emit (.moe e ((sent.filter (fun x => x.1 == e)).map (·.2))))

/-- The expert's package runs the FFN of the dispatched positions in this tick (09 R302). -/
def State.runExpert (s : State) (expert : Nat) (positions : List (Nat × Nat × W32 × List W32)) : State :=
  let tick := s.tick
  let epoch := s.dev.ws.epoch
  s.updFab (fun b => { b with works := b.works ++ positions.map (fun p =>
    { workOfEntry ⟨p.1, p.2.1, epoch, noBlock, 0, false, false, none, false, false, 0xFFFF, p.2.2.2⟩ tick with half := 1, expert := some expert }) })

/-- MOE_DISPATCH (09 R302). -/
def stepMoeDispatch (d : MoeWork) (s : State) : State :=
  match d with
  | .route slot k scores => s.routeMoe slot k scores
  | .run e ps => s.runExpert e ps

/-- MOE_RETURN: Σ weight × output + residual in FP32, rounded stochastically to BF16 under the MoE layer's number; then the
position's own step begins (09 R302; 02 R70). -/
def stepMoeReturn (layer stream index : Nat) (outs : List (W32 × List W16)) (residual : List W32) (s : State) : State :=
  let seed := s.dev.hdr.srSeed
  let sums := (residual.zipIdx).map (fun (r : W32 × Nat) =>
    fpAdd (fpSum (outs.map (fun o => fpMul o.1 (bf16To32 (o.2.getD r.2 0))))) r.1)
  let tick := s.tick
  let rs := (sums.zipIdx).map (fun e => residualOne (srDraw seed stream 0x03 layer index e.2) e.1)
  let s := s.updWork stream index (fun w => { w with residual := rs.map (fun r => bf16To32 r.1), half := 0, tick := tick, attnDone := false,
                                                     outRes := [] })
  if !allFinite sums || rs.any (·.2) then s.numericFault stream index else s

def execBundleReceive (b : Bundle) (late : Option Nat) (s : State) : Host.Outcome State Fault Refusal :=
  .next (stepBundleReceive b late s)
def execVerdictReceive (stamps : List Stamp) (s : State) : Host.Outcome State Fault Refusal := .next (stepVerdictReceive stamps s)
def execMoeDispatch (d : MoeWork) (s : State) : Host.Outcome State Fault Refusal := .next (stepMoeDispatch d s)
def execMoeReturn (layer stream index : Nat) (outs : List (W32 × List W16)) (residual : List W32) (s : State) :
    Host.Outcome State Fault Refusal := .next (stepMoeReturn layer stream index outs residual s)

end Sys2Proof.Machine
end

