-- ==== Sys2Proof/Machine/Slices.lean ====
section
/-! DEFINITION. Slices at their head: SLICE_SET, SPARE_SET, lost members, suspension, re-rigs and rebuilds (07 R228 to R231;
10 R324 to R331; 11 R455). -/

namespace Sys2Proof.Machine

/-- The life cycle permits serving and slice commands (13 Table 13-4). -/
def Dev.inService (d : Dev) : Bool := d.nv.lc == .field || d.nv.lc == .service

/-- This package has been retired as a whole (11 R455). -/
def Dev.pkgRetired (d : Dev) : Bool := d.chk.isRetired 0 0

/-- The best path known to a package: hops, delay in ns, and the first port (10 R324, R325). -/
structure Path where
  hops : Nat
  delay : Nat
  port : Nat
deriving DecidableEq, Repr

/-- Fewer hops, or as many with a lower delay (10 R325). -/
def Path.better (p q : Path) : Bool := decide (p.hops < q.hops) || (p.hops == q.hops && decide (p.delay < q.delay))

/-- One link extends a path; each package passed in transit adds 200 ns (10 R324). -/
def relaxLink (src : Nat) (t : List (Nat × Path)) (l : LinkFact) : List (Nat × Path) :=
  if l.next = src then t
  else match Tab.find t l.pkg with
    | none => t
    | some p =>
      let q : Path := { hops := p.hops + 1, delay := p.delay + l.delayNs + (if l.pkg = src then 0 else 200),
                        port := if l.pkg = src then l.port else p.port }
      match Tab.find t l.next with
      | some o => if q.better o then Tab.put t l.next q else t
      | none => Tab.put t l.next q

/-- Paths from a package over the links: n rounds. -/
def pathRounds (src : Nat) (links : List LinkFact) : Nat → List (Nat × Path) → List (Nat × Path)
  | 0, t => t
  | n + 1, t =>
    let t2 := links.foldl (relaxLink src) t
    if t2 = t then t else pathRounds src links n t2

/-- Paths from a package to all that it reaches. -/
def pathsFrom (src : Nat) (links : List LinkFact) : List (Nat × Path) := pathRounds src links links.length [(src, ⟨0, 0, 6⟩)]

/-- A routing entry (10 Table 10-8). -/
def routeWord (port : Nat) : W32 := BitVec.ofNat 32 (2 ^ 31 + port * 2 ^ 28)

/-- The routing entries of a member for all members. -/
def routesOf (links : List LinkFact) (members : List Member) (src : Nat) : List (Nat × W32) :=
  let t := pathsFrom src links
  members.filterMap (fun m => (Tab.find t m.pkg).map (fun p => (m.pkg, routeWord p.port)))

/-- Members with a position, in position order. -/
def inOrder (l : List Member) : List Member := sortBy (·.position) (l.filter (fun m => m.position != 0xFFFF))

/-- The package after a member on the pipeline path; the head's follows the last position (10 R319). -/
def nextOn (l : List Member) (m : Member) : Option Nat :=
  let o := inOrder l
  if m.position = 0xFFFF then none
  else match o.find? (fun x => decide (m.position < x.position)) with
    | some x => some x.pkg
    | none => (o.head?).map (·.pkg)

/-- The package that image pages go to after a member: positions in order, then the spares (07 R204). -/
def pageAfter (l : List Member) (m : Member) : Option Nat :=
  let o := inOrder l ++ l.filter (fun x => x.position == 0xFFFF)
  match findIdx1 (fun (x : Member) => x.pkg == m.pkg) o 0 with
  | some (i, _) => (o[i + 1]?).map (·.pkg)
  | none => none

/-- Every member reaches every other one. -/
def allReach (links : List LinkFact) (l : List Member) : Bool :=
  l.all (fun m => let t := pathsFrom m.pkg links
                  l.all (fun x => (Tab.find t x.pkg).isSome))

/-- Every pipeline hop, the last one back to the head among them, has a path of at most 3,000 ns (10 R324). -/
def hopsFit (links : List LinkFact) (l : List Member) : Bool :=
  let o := (inOrder l).map (·.pkg)
  let next := o.drop 1 ++ o.take 1
  (o.zip next).all (fun e => match Tab.find (pathsFrom e.1 links) e.2 with
    | some p => decide (p.delay ≤ 3000)
    | none => true)

/-- Depth of a member in the timing tree, none when a parent is no member or the tree is deeper than the fuel (05 R147). -/
def depthOf (l : List Member) : Nat → Nat → Option Nat
  | 0, _ => none
  | n + 1, pkg =>
    match l.find? (fun m => m.pkg == pkg) with
    | none => none
    | some m => if m.role = 1 then some 0 else (depthOf l n m.parent).map (· + 1)

/-- The timing tree is at most 12 deep and holds only members (10 Table 10-9). -/
def treeOk (l : List Member) : Bool := l.all (fun m => (depthOf l 13 m.pkg).isSome && (m.role != 1 || m.parent == 0xFFFF))

/-- A member as a list gives it. -/
def memberOf (pkg role position parent : Nat) : Member :=
  { pkg, role, position, parent, inRun := role == 1, lost := none, frac := 16, rate := {}, missed := 0 }

/-- The member list of SLICE_SET (08 R260 text): none when malformed (10 Table 10-9 code 0x20). -/
def parseMembers (bytes : List Byte) (n : Nat) : Option (List Member) :=
  let l := (List.range n).map (fun i => memberOf (leAt bytes (8 * i) 2) (leAt bytes (8 * i + 2) 1) (leAt bytes (8 * i + 4) 2) (leAt bytes (8 * i + 6) 2))
  let pos := (inOrder l).map (·.position)
  let shape := l.all (fun m => match m.role with
    | 1 => m.position == 0
    | 2 => m.position != 0xFFFF && m.position != 0
    | 3 => m.position == 0xFFFF
    | 4 => m.position == 0xFFFF
    | _ => false)
  let ids := l.map (·.pkg)
  if shape && decide (ids.eraseDups.length = ids.length) && ids.all (fun i => decide (i < 4096)) &&
      (List.range n).all (fun i => leAt bytes (8 * i + 3) 1 == 0) && pos == List.range pos.length &&
      decide ((l.filter (fun m => m.role == 1)).length = 1) then some l
  else none

/-- Package of the head in a member list. -/
def headOf (l : List Member) : Nat :=
  match l.find? (fun m => m.role == 1) with
  | some m => m.pkg
  | none => 0

/-- What the head writes to one member: this package applies it itself, another one hears it in a ROUTE message (10 R323,
R325). -/
def State.writeMember (s : State) (head : Nat) (own : Bool) (dst : Nat) (entries : List (Nat × W32)) (accept : Option Nat)
    (role : Option RoleWrite) (parent : Option Nat) (switch : Option Nat) : State :=
  if own then
    let s := s.writeIdle (entries.filter (fun e => decide (e.1 < 4096)))
    let s := s.updRole (fun r => { r with
      roleDue := if role.isSome then role else r.roleDue, headDue := if role.isSome then some head else r.headDue,
      acceptDue := if accept.isSome then accept else r.acceptDue, parentDue := if parent.isSome then parent else r.parentDue })
    s.updLnk (fun l => { l with switchTick := if switch.isSome then switch else l.switchTick })
  else s.emit (.route dst entries accept role parent switch)

/-- The plan goes to a list of its members: routes, accept mask, role and parent (10 R325, R328). -/
def State.writePlan (s : State) (slice : Nat) (links : List LinkFact) (all some_ : List Member) (switch : Option Nat) : State :=
  let head := headOf all
  s.each some_ (fun s m =>
    s.writeMember head (m.role == 1) m.pkg (routesOf links all m.pkg) (some (2 ^ slice))
      (some { assigned := true, slice, role := m.role, pkg := m.pkg, position := m.position, next := nextOn all m, pageNext := pageAfter all m })
      (if m.role = 1 then none else some m.parent) switch)

/-- The switch alone is ordered (10 R325 step 4). -/
def State.orderSwitch (s : State) (all some_ : List Member) (tick : Nat) : State :=
  let head := headOf all
  s.each some_ (fun s m => s.writeMember head (m.role == 1) m.pkg [] none none none (some tick))

/-- Members that leave a slice lose its routes, accept mask and role (10 R325). -/
def State.releaseMembers (s : State) (old gone : List Member) (tick : Nat) : State :=
  let head := headOf old
  s.each gone (fun s m =>
    s.writeMember head (m.role == 1) m.pkg (old.map (fun x => (x.pkg, 0))) (some 0)
      (some { assigned := false, slice := 0, role := 0, pkg := m.pkg, position := 0xFFFF, next := none, pageNext := none }) none (some tick))

/-- A slice command's refusal for the life cycle (08 Table 8-9, 13 R398). -/
def State.ifService (s : State) (rep : Rep) (k : State) : State := if s.dev.inService then k else s.refuse rep stAUTH 0x03

/-- Streams are open or parked, or an image operation runs (10 Table 10-9 code 0x24). -/
def Dev.sliceBusy (d : Dev) : Bool := d.srv.streams.any (fun e => decide (e.1 < 16384)) || d.ws.run.isSome || d.ws.tack.isSome

/-- SLICE_SET's list is checked, in the order of Table 10-9: status and DETAIL of its refusal (10 R324, R325). -/
def checkPlan (f : SliceFacts) (l : List Member) : Option (Nat × Nat) :=
  if l.any (fun m => f.elsewhere.contains m.pkg) then some (stBAD, 0x21)
  else if !hopsFit f.links l then some (stBAD, 0x22)
  else if !treeOk l then some (stBAD, 0x23)
  else if l.any (fun m => f.silent.contains m.pkg) || !allReach f.links l then some (stDEGRADED, 0x26)
  else none

/-- SLICE_SET with DISSOLVE: every member is released at the switch, 16 ticks ahead (10 R325). -/
def State.dissolve (s : State) (rep : Rep) : State :=
  let old := s.dev.lnk.members
  let t := s.tick + 16
  let s := (s.reply rep stQUEUED 0 true false).releaseMembers old old t
  s.updLnk (fun l => { l with members := [], duties := [], sliceSet := some rep, rerig := none, suspended := false,
                              spareSets := [], switchTick := some t })

/-- The period that SLICE_SET gives: announced as a change of the master's, unless the image in service needs a longer one
(05 R142, R148; 08 Table 8-8). -/
def State.slicePeriod (s : State) (p : Nat) : State :=
  if p = s.dev.time.inForce then s
  else if p < s.dev.time.minPeriod then s.updTime (fun t => { t with periodRefused := true })
  else s.updTime (fun t => { t with period := p, pend := match t.pend with
    | none => some ⟨t.tick + 17, some p, none, false⟩
    | some c => some { c with period := some p } })

/-- SLICE_SET (10 R325, Table 10-9). In the safe state it fails (14 R419). -/
def effSliceSet (f : SliceFacts) (c : Cmd) (s : State) : State :=
  let rep := s.repOf c
  let flags := c.at 0x19 1
  let n := c.at 0x1A 2
  let period := c.at 0x1C 1
  let busy := s.dev.isHead && s.dev.sliceBusy
  s.ifService rep (
    if 1 < flags then s.refuse rep stBAD 0x06
    else if flags = 1 then (if busy then s.refuse rep stBAD 0x24 else s.dissolve rep)
    else if n = 0 ∨ 4096 < n ∨ period < 4 ∨ 64 < period then s.refuse rep stBAD 0x06
    else
      let s := s.emit (.hostRead c.fn (BitVec.ofNat 64 (c.at 0x20 8)) (8 * n))
      match f.list with
      | none => s.refuse rep stBAD 0x04
      | some bytes =>
        if busy then s.refuse rep stBAD 0x24
        else if s.dev.pkgRetired then s.refuse rep stRETIRED 0
        else match parseMembers bytes n with
          | none => s.refuse rep stBAD 0x20
          | some l =>
            match (checkPlan f l).orElse (fun _ => if s.dev.rst.safe then some (stDEGRADED, 0x26) else none) with
            | some (st, d) => s.refuse rep st d
            | none =>
              let slice := c.at 0x18 1
              let t := s.tick + 16
              let old := s.dev.lnk.members
              let s := s.reply rep stQUEUED 0 true false
              let s := s.releaseMembers old (old.filter (fun m => m.role != 1 && !l.any (fun x => x.pkg == m.pkg))) t
              let s := (s.writePlan slice f.links l l (some t)).slicePeriod period
              s.updLnk (fun k => { k with members := l, duties := [], sliceSet := some rep, rerig := none, suspended := false, spareSets := [] }))

/-- The slice stands once the switch has taken place and every member is in RUN: SLICE_SET's final OK (10 R325). -/
def State.finishSlice (s : State) : State :=
  match s.dev.lnk.sliceSet with
  | none => s
  | some rep =>
    if s.dev.lnk.switchTick.isNone && s.dev.lnk.members.all (·.inRun) then
      (s.updLnk (fun l => { l with sliceSet := none })).reply rep stOK 0 false true
    else s

/-- The ranges of SPARE_SET. -/
def Cmd.ranges (c : Cmd) : List (Nat × Nat) :=
  (List.range (c.at 0x1B 1)).map (fun i => (c.at (0x20 + 4 * i) 2, c.at (0x22 + 4 * i) 2))

/-- SPARE_SET: the spare's duties from now on; those it keeps stand, new ones take effect with their copies (07 R230; 10
R326). -/
def effSpareSet (c : Cmd) (s : State) : State :=
  let rep := s.repOf c
  let spare := c.at 0x18 2
  let kind := c.at 0x1A 1
  let n := s.dev.lnk.pipeline.length
  let rs := if kind = 0 then [] else c.ranges
  s.ifService rep (
    if 2 < kind ∨ 32 < c.at 0x1B 1 ∨ c.ranges.any (fun r => decide (r.2 < r.1) || decide (n ≤ r.2)) then s.refuse rep stBAD 0x06
    else if !(s.dev.lnk.members.any (fun m => m.pkg == spare && m.position == 0xFFFF && m.lost.isNone)) then s.refuse rep stBAD 0x25
    else
      let old := s.dev.lnk.duties.find? (fun d => d.spare == spare)
      let kept := match old with
        | some d => if d.kind = kind then d.done.filter (inRanges rs) else []
        | none => []
      let d : Duty := { spare, kind, ranges := rs, done := kept }
      let s := s.reply rep stQUEUED 0 true false
      let s := s.updLnk (fun l => { l with
        duties := l.duties.filter (fun x => x.spare != spare) ++ [d],
        members := l.members.map (fun m => if m.pkg = spare ∧ kind ≠ 0 then { m with role := 2 + kind } else m) })
      let s := s.emit (.message spare 0x08 ([0x16, kind] ++ rs.flatMap (fun r => [r.1, r.2])))
      if (d.positions n).all (fun p => kept.contains p) then s.reply rep stOK 0 false true
      else s.updLnk (fun l => { l with spareSets := l.spareSets ++ [(spare, rep)] }))

/-- The spare whose duty covers a position and whose copy is complete: a standing one first (10 R328; 07 R230). -/
def Lnk.covering (l : Lnk) (pos : Nat) : Option Nat :=
  let fit := l.duties.filter (fun d => d.kind != 0 && inRanges d.ranges pos && d.done.contains pos &&
    l.members.any (fun m => m.pkg == d.spare && m.position == 0xFFFF && m.lost.isNone))
  match fit.find? (fun d => d.kind == 1) with
  | some d => some d.spare
  | none => (fit.head?).map (·.spare)

/-- Uncommitted work is discarded; each stream goes on from its last commit (10 R327). -/
def State.discardWork (s : State) : State :=
  let s := s.each (s.dev.srv.streams.map (·.2)) (fun s t =>
    let cut := if t.st == .decode then min t.kv (t.hist.length - 1) else t.kv
    let s := s.dropFrom t.ch cut
    if t.gen.isSome then s.reenter t.ch cut else s)
  s.updSrv (fun v => { v with failing := [] })

/-- The head suspends the slice's output (10 R327). -/
def State.suspend (s : State) (pkg position : Nat) : State :=
  let k := s.tick
  let s := if s.dev.lnk.suspended then s else s.discardWork
  s.updLnk (fun l => { l with
    suspended := true, rerigPkg := BitVec.ofNat 12 pkg,
    rerig := match l.rerig with
      | some r => some { r with since := k }
      | none => some { pkg, spare := none, phase := 1, reply := none, since := k, position, start := false, links := [], linkOnly := false, epoch := 0 } })

/-- One SLICE_DEGRADED record with FINAL 0 for every running generation (10 R328 step 1). -/
def State.degradedRecords (s : State) : State :=
  s.each (s.dev.srv.streams.map (·.2)) (fun s t =>
    match t.gen with
    | some g => if g.admitted.isSome then s.reply { g.rep with ring := t.desc.ring } stDEGRADED 0 false false else s
    | none => s)

/-- The head counts a member as lost: the event, the end of an image operation that needs it (07 R207; 10 R327). A spare that is
lost holds no position, and its duties lapse. -/
def State.noteLost (s : State) (pkg cause : Nat) : State :=
  match s.dev.lnk.members.find? (fun m => m.pkg == pkg) with
  | none => s
  | some m =>
    if m.lost.isSome || m.role == 1 then s
    else
      let s := s.updLnk (fun l => { l with
        members := l.members.map (fun x => if x.pkg = pkg then { x with lost := some cause, inRun := false } else x),
        duties := l.duties.filter (fun d => d.spare != pkg) })
      (s.logEvent 0x41 10 pkg pkg cause).abortImage 0x12

/-- The members after the spare has taken a lost member's place: position, role, parent, children (10 R328, R329). -/
def swapMember (l : List Member) (pkg spare : Nat) : List Member :=
  match l.find? (fun m => m.pkg == pkg) with
  | none => l
  | some old =>
    (l.filter (fun m => m.pkg != pkg)).map (fun m =>
      if m.pkg = spare then
        { m with role := old.role, position := old.position, parent := old.parent, inRun := old.role == 1, lost := none, missed := 0 }
      else if m.parent = pkg then { m with parent := spare, inRun := false } else m)

/-- A re-rig begins: the records, and the order to the spare to load the position's payload of the epoch that it served (07 R231; 10
R328 steps 1 and 2). -/
def State.beginRerig (s : State) (r : Rerig) : State :=
  let s := (s.suspend r.pkg r.position).degradedRecords
  let s := s.updLnk (fun l => { l with rerig := some { r with phase := if r.linkOnly then 3 else 2, since := (l.rerig.map (·.since)).getD r.since,
                                                              start := false } })
  match r.spare with
  | some q => s.emit (.message q 0x08 [0x17, r.position, r.epoch])
  | none => s

/-- A re-rig's plan cannot be carried out: status and DETAIL (10 Table 10-9). -/
def Dev.rerigRefusal (d : Dev) (pkg : Nat) (spare : Option Nat) (f : RerigFacts) : Option (Nat × Nat) :=
  match spare with
  | none => some (stDEGRADED, 0x27)
  | some q =>
    let l := swapMember d.lnk.members pkg q
    let links := f.links.filter (fun x => x.pkg != pkg && x.next != pkg)
    if !f.holds then some (stDEGRADED, 0x27)
    else if !hopsFit links l then some (stBAD, 0x22)
    else if !allReach links l then some (stDEGRADED, 0x26)
    else none

/-- A re-rig record for a lost or cut-out member. -/
def rerigOf (pkg : Nat) (spare : Option Nat) (position tick : Nat) (reply : Option Rep) (f : RerigFacts) (start : Bool) : Rerig :=
  { pkg, spare, phase := 1, reply, since := tick, position, start, links := f.links.filter (fun x => x.pkg != pkg && x.next != pkg), linkOnly := false,
    epoch := f.epoch }

/-- RERIG at the head (10 R328). -/
def State.rerigHead (s : State) (rep : Rep) (pkg spare : Nat) (f : RerigFacts) : State :=
  match s.dev.lnk.members.find? (fun m => m.pkg == pkg) with
  | none => s.refuse rep stBAD 0x25
  | some m =>
    let given := s.dev.lnk.members.any (fun x => x.pkg == spare && x.position == 0xFFFF && x.lost.isNone)
    if m.role = 1 ∨ m.position = 0xFFFF ∨ (spare ≠ 0xFFFF ∧ given = false) then s.refuse rep stBAD 0x25
    else
      let q := if spare = 0xFFFF then s.dev.lnk.covering m.position else some spare
      let running := match s.dev.lnk.rerig with
        | some r => decide (2 ≤ r.phase)
        | none => false
      if running then s.refuse rep stDEGRADED 0
      else match s.dev.rerigRefusal pkg q f with
        | some (st, d) => s.refuse rep st d
        | none => ((s.reply rep stQUEUED 0 true false).noteLost pkg 0).beginRerig (rerigOf pkg q m.position s.tick (some rep) f false)

/-- RERIG naming the lost head, at the spare whose duty covers position 0: it becomes the head of the slice that it finds, with
no channel open (10 R331). -/
def State.rerigSpare (s : State) (rep : Rep) (pkg spare : Nat) (f : RerigFacts) : State :=
  let own := s.dev.role.pkg.toNat
  let l0 := f.members.map (fun m => memberOf m.pkg m.role m.position m.parent)
  let holds := (s.dev.ws.duties ++ s.dev.ws.store.filter (fun p => !p.own)).any (fun p => p.position == 0 && p.epoch == f.epoch)
  if s.dev.role.head ≠ some pkg ∨ (spare ≠ 0xFFFF ∧ spare ≠ own) ∨ !(l0.any (fun m => m.pkg == pkg && m.role == 1)) ∨
      !(l0.any (fun m => m.pkg == own)) then s.refuse rep stBAD 0x25
  else
    let s1 := s.updLnk (fun k => { k with members := l0 })
    match s1.dev.rerigRefusal pkg (some own) { f with holds := holds } with
    | some (st, d) => s.refuse rep st d
    | none =>
      let r := rerigOf pkg (some own) 0 s.tick (some rep) f false
      (s1.reply rep stQUEUED 0 true false).updLnk (fun k => { k with
        suspended := true, rerigPkg := BitVec.ofNat 12 pkg, rerig := some { r with phase := 2 } })

/-- RERIG (10 R328, R331). -/
def effRerig (f : RerigFacts) (c : Cmd) (s : State) : State :=
  let rep := s.repOf c
  s.ifService rep (if s.dev.isHead then s.rerigHead rep (c.at 0x18 2) (c.at 0x1A 2) f else s.rerigSpare rep (c.at 0x18 2) (c.at 0x1A 2) f)

/-- Ranges of a stream's committed positions in blocks that no stream on a lower channel holds (10 R328). -/
def Srv.rebuildRanges (v : Srv) (t : Stream) : List (Nat × Nat) :=
  let lower := (v.streams.filter (fun e => decide (e.1 < t.ch))).flatMap (·.2.blocks)
  (t.blocks.zipIdx).filterMap (fun e =>
    if e.1 = noBlock ∨ lower.contains e.1 ∨ t.kv ≤ 64 * e.2 then none else some (64 * e.2, min t.kv (64 * e.2 + 64)))

/-- Every stream with blocks rebuilds them at the lost position, cached blocks go, parked streams are marked (10 R328 step 5).
After a rejoin, only each stream's last 256 positions are rewritten (10 R327). -/
def State.startRebuild (s : State) (position : Nat) (last256 : Bool) : State :=
  s.updSrv (fun v => { v with
    prefixTab := if last256 then v.prefixTab else v.prefixTab.filter (fun e => decide (0 < e.2.refs)),
    streams := v.streams.map (fun e =>
      let t := e.2
      if t.st == .parked then (e.1, if last256 then t else { t with park := t.park.map (fun p => { p with incomplete := some position }) })
      else if t.blocks.isEmpty then e
      else
        let l := if last256 then (if t.kv = 0 then [] else [(t.kv - 256, t.kv)]) else v.rebuildRanges t
        (e.1, { t with rebuild := some (position, l) })) })

/-- The slice resumes: positions in flight before the suspension are gone (10 R327, R328). -/
def State.resumeSlice (s : State) : State :=
  (s.updLnk (fun l => { l with suspended := false })).updSrv (fun v => { v with flights := v.flights.filter (fun f => !f.dropped) })

/-- Members as they stand from the switch on (10 R328, R329): the lost package goes, with what the head holds of it. -/
def State.swapIn (s : State) (r : Rerig) : State :=
  match r.spare with
  | none => s
  | some q =>
    let s := s.updLnk (fun l => { l with members := swapMember l.members r.pkg q, duties := l.duties.filter (fun d => d.spare != q) })
    (s.updTime (fun t => { t with requests := Tab.del t.requests r.pkg })).updSrv (fun v => { v with scrubs := Tab.del v.scrubs r.pkg })

/-- One boundary of a re-rig: it begins; routes are written; the switch is ordered 16 ticks ahead; after it, with every member in
RUN, the slice resumes; when every stream is rebuilt, it ends (10 R328, R330). -/
def State.stepRerig (s : State) : State :=
  match s.dev.lnk.rerig with
  | none => s
  | some r =>
    let slice := s.dev.role.slice.toNat
    let plan := match r.spare with
      | some q => swapMember s.dev.lnk.members r.pkg q
      | none => s.dev.lnk.members
    match r.phase with
    | 1 => if r.start then s.beginRerig r else s
    | 2 => (s.writePlan slice r.links plan plan none).updLnk (fun l => { l with rerig := some { r with phase := 3 } })
    | 3 =>
      let t := s.tick + 16
      let s := if r.linkOnly then s.writePlan slice r.links plan plan none else s
      (s.orderSwitch plan plan t).updLnk (fun l => { l with rerig := some { r with phase := 4 }, switchTick := some t })
    | 4 =>
      if s.dev.lnk.switchTick.isSome then s
      else
        let s := if s.dev.lnk.members.any (fun m => m.pkg == r.pkg) && !r.linkOnly then s.swapIn r else s
        if s.dev.lnk.members.all (fun m => m.inRun || m.position == 0xFFFF) then
          let s := s.resumeSlice
          let s := s.updLnk (fun l => { l with rerigCount := satInc l.rerigCount, rerig := if r.linkOnly then none else some { r with phase := 5 } })
          let s := s.logEvent 0x42 10 r.pkg r.pkg (r.spare.getD 0xFFFF)
          let s := match r.reply with
            | some rep => s.reply rep stOK 0 false true
            | none => s
          if r.linkOnly then s else s.startRebuild r.position false
        else s
    | _ => if s.dev.srv.streams.all (fun e => e.2.rebuild.isNone) then s.updLnk (fun l => { l with rerig := none }) else s

/-- The boundary after a loss: the head suspends the slice's output for a member with a position (10 R327). -/
def State.suspendLost (s : State) : State :=
  if !s.dev.isHead then s
  else match s.dev.lnk.members.find? (fun m => m.lost.isSome && m.position != 0xFFFF) with
    | some m => if s.dev.lnk.suspended then s else s.suspend m.pkg m.position
    | none => s

/-- MEMBER_LOSS_REPORT: a package without VERDICT messages from upstream at 3 boundaries, or with a dead link to the member, tells
the head; the head takes the report (10 R327). -/
def stepMemberLossReport (pkg : Nat) (s : State) : State :=
  if s.dev.isHead then s.noteLost pkg 1
  else
    let dead := (List.range 6).any (fun p => match (s.dev.port p).peer with
      | some x => x.2.1 == pkg && !(s.dev.port p).up
      | none => false)
    let missed := s.dev.lnk.missed + b2n (!s.dev.lnk.verdictHere && decide (64 < s.dev.time.cycle))
    if s.dev.role.assigned && ((s.dev.role.position != 0xFFFF && decide (3 ≤ missed)) || dead) then s.emit (.message (s.dev.role.head.getD 0) 0x08 [0x15, pkg]) else s

/-- MEMBER_LOST: the head counts a member as lost, from whichever case of R327 (10 R327). -/
def stepMemberLost (pkg cause : Nat) (s : State) : State := if s.dev.isHead then s.noteLost pkg cause else s

/-- The wait of LNK_RERIG_CFG has passed since the suspension (10 R327). -/
def Dev.waitOver (d : Dev) (r : Rerig) : Bool := decide (r.since * d.time.inForce + 1000 * d.lnk.wait.toNat ≤ d.time.tick * d.time.inForce)

/-- MEMBER_REJOIN: a lost member is back in RUN within the wait: with its epoch and pool kept, the slice resumes with a rewrite of
its last 256 positions; otherwise it stays lost (10 R327). -/
def stepMemberRejoin (pkg : Nat) (kept : Bool) (s : State) : State :=
  match s.dev.lnk.members.find? (fun m => m.pkg == pkg && m.lost.isSome), s.dev.lnk.rerig with
  | some m, some r =>
    if s.dev.isHead && r.phase == 1 && r.pkg == pkg && kept && !s.dev.waitOver r then
      let s := s.updLnk (fun l => { l with members := l.members.map (fun x => if x.pkg = pkg then { x with lost := none, inRun := true, missed := 0 } else x) })
      match s.dev.lnk.members.find? (fun x => x.lost.isSome && x.position != 0xFFFF) with
      | some x => s.updLnk (fun l => { l with rerig := some { r with pkg := x.pkg, position := x.position }, rerigPkg := BitVec.ofNat 12 x.pkg })
      | none => (s.resumeSlice.updLnk (fun l => { l with rerig := some { r with phase := 5 } })).startRebuild m.position true
    else s
  | _, _ => s

/-- RERIG_WAIT_EXPIRY: with AUTO the head re-rigs when the wait has passed: it cuts out the lost member, or routes around a failed
link. Without a spare that can take the position the slice stays suspended (10 R327, R328, R330; 07 R231). -/
def stepRerigWaitExpiry (f : RerigFacts) (s : State) : State :=
  if !s.dev.isHead || !s.dev.lnk.auto then s
  else match s.dev.lnk.rerig with
    | none =>
      if f.linkOnly && hopsFit f.links s.dev.lnk.members && allReach f.links s.dev.lnk.members then
        s.beginRerig { pkg := 0, spare := none, phase := 1, reply := none, since := s.tick, position := 0, start := false, links := f.links, linkOnly := true, epoch := 0 }
      else s
    | some r =>
      if r.phase = 1 ∧ s.dev.waitOver r = true then
        let q := s.dev.lnk.covering r.position
        match s.dev.rerigRefusal r.pkg q f with
        | some _ => s.degradedRecords
        | none => s.beginRerig (rerigOf r.pkg q r.position r.since none f false)
      else s

/-- A shared block of the stream is still being rebuilt by a stream on a lower channel (10 R328). -/
def Srv.waitsShared (v : Srv) (t : Stream) : Bool :=
  v.streams.any (fun e => decide (e.1 < t.ch) && e.2.rebuild.isSome && e.2.blocks.any (fun b => b != noBlock && t.blocks.contains b))

/-- STREAM_REBUILT: all of a stream's rebuild positions have run at the target, and its shared blocks are complete: it goes on,
or its RESUME ends (10 R328). -/
def stepStreamRebuilt (ch : Nat) (s : State) : State :=
  match s.dev.stream ch with
  | none => s
  | some t =>
    match t.rebuild with
    | none => s
    | some (_, l) =>
      if 0 < rangeSum l ∨ s.dev.srv.waitsShared t = true then s
      else
        let s := s.updStream ch (fun t => { t with rebuild := none })
        if t.st == .parked then s.finishRestore ch false else s

/-- SYNC_LOCK: this package's sixteenth aligned tick in SYNC; or, at the head, a member's entry into RUN (05 R145; 10 R325, R328). -/
def stepSyncLock (pkg : Nat) (s : State) : State :=
  if s.dev.isHead && pkg != s.dev.role.pkg.toNat then
    (s.updLnk (fun l => { l with members := l.members.map (fun m => if m.pkg = pkg then { m with inRun := true } else m) })).finishSlice
  else s.lockSync

def execSliceSet (ch : Nat) (facts : SliceFacts) (s : State) : Host.Outcome State Fault Refusal :=
  .next (s.runDue 0x30 ch (effSliceSet facts))
def execRerig (ch : Nat) (facts : RerigFacts) (s : State) : Host.Outcome State Fault Refusal := .next (s.runDue 0x31 ch (effRerig facts))
def execSpareSet (ch : Nat) (s : State) : Host.Outcome State Fault Refusal := .next (s.runDue 0x32 ch effSpareSet)
def execMemberLossReport (pkg : Nat) (s : State) : Host.Outcome State Fault Refusal := .next (stepMemberLossReport pkg s)
def execMemberLost (pkg cause : Nat) (s : State) : Host.Outcome State Fault Refusal := .next (stepMemberLost pkg cause s)
def execMemberRejoin (pkg : Nat) (kept : Bool) (s : State) : Host.Outcome State Fault Refusal := .next (stepMemberRejoin pkg kept s)
def execRerigWaitExpiry (facts : RerigFacts) (s : State) : Host.Outcome State Fault Refusal := .next (stepRerigWaitExpiry facts s)
def execStreamRebuilt (ch : Nat) (s : State) : Host.Outcome State Fault Refusal := .next (stepStreamRebuilt ch s)
def execSyncLock (pkg : Nat) (s : State) : Host.Outcome State Fault Refusal := .next (stepSyncLock pkg s)

end Sys2Proof.Machine
end

