-- ==== Sys2Proof/Machine/Trim.lean ====
section
/-! DEFINITION. Trim taps: the tables and their hash, interpolation and steps, field verification, factory calibration
(06 R167 to R187). Tap number 512 x array + i: i 0 to 63 OFFSET, 64 to 127 GAIN of converter i mod 64; 128 + 8g + u
PULSE. -/

namespace Sys2Proof.Machine

/-- The tap of array a at point t in a pan record (06 R168). -/
def tapEntry (rec_ : Nat → Byte) (a t i : Nat) : Int :=
  let base := 576 * a + 192 * t
  let word := (rec_ (base + 2 * (i % 64))).toNat + 256 * (rec_ (base + 2 * (i % 64) + 1)).toNat
  if i < 64 then signed 5 (fieldAt word 0 5)
  else if i < 128 then signed 5 (fieldAt word 5 5)
  else
    let g := (i - 128) / 8
    let u := (i - 128) % 8
    signed 4 (fieldAt (rec_ (base + 128 + 4 * g + u / 2)).toNat (4 * (u % 2)) 4)

/-- The range of a tap (06 Table 6-1). -/
def tapRange (i : Nat) : Int × Int := if i < 128 then (-16, 15) else (-8, 7)

/-- v in 1/256 tap at T in 1/16 °C, T held to 20 °C to 105 °C; a remainder below 1/256 is dropped (06 R177; entry 24). -/
def tapValue (v25 v65 v105 temp : Int) : Int :=
  let t := max 320 (min 1680 temp)
  if t < 1040 then 256 * v25 + 256 * (v65 - v25) * (t - 400) / 640
  else 256 * v65 + 256 * (v105 - v65) * (t - 1040) / 640

/-- Numbers of the taps of an array. -/
def arrayTaps (a : Nat) : List Nat := upFrom (512 * a) 256

/-- Numbers of a pan's taps. -/
def panTaps : List Nat := (List.range 8).flatMap arrayTaps

/-- Target of a tap. -/
def Pan.targetTap (p : Pan) (n : Nat) : Int := Sparse.get (fun _ => 0) p.target n

/-- A new v for one tap: the target moves when v differs from the applied value by 0.75 or more, and is clamped to the
tap's range (06 R178). -/
def Pan.newTarget (p : Pan) (n : Nat) : Pan :=
  let a := n / 512
  let i := n % 512
  let e : Nat → Int := fun t => tapEntry (Memory.read p.trimStore) a t i
  let v := tapValue (e 0) (e 1) (e 2) p.temp.toNat
  let cur := p.appliedTap n
  if 192 ≤ (v - 256 * cur).natAbs then
    let want := (v + 128) / 256
    let lim := tapRange i
    let got := max lim.1 (min lim.2 want)
    { p with target := Sparse.set (fun _ => 0) p.target n got, trimClamp := p.trimClamp || got != want }
  else p

/-- Every tap of the pan meets a new temperature (06 R177, R178); a pan without its record has no entries. -/
def Pan.retarget (p : Pan) : Pan := if p.trimLoaded then panTaps.foldl Pan.newTarget p else p

/-- A temperature reaches a pan, in 1/16 °C (06 R176, Table 6-6). -/
def Pan.setTemp (p : Pan) (temp : Int) (subst : Bool) : Pan :=
  ({ p with temp := BitVec.ofNat 12 (min 0xFFF temp.toNat), tempSubst := subst }).retarget

/-- Applied and target differ somewhere: STEPPING (06 R178). -/
def Pan.stepping (p : Pan) : Bool := p.applied != p.target

/-- At a boundary every applied value moves one tap toward its target, or jumps to it after a fill or an unfurl
(06 R178, R180). -/
def Pan.stepTaps (p : Pan) : Pan :=
  if p.tapJump then { p with applied := p.target, tapJump := false }
  else if p.stepping then
    { p with applied := ((p.applied ++ p.target).map (·.1)).eraseDups.foldl (fun m n =>
        let a := Sparse.get (fun _ => 0) p.applied n
        let t := Sparse.get (fun _ => 0) p.target n
        Sparse.set (fun _ => 0) m n (if a < t then a + 1 else if t < a then a - 1 else a)) p.applied }
  else p

/-- The tap step of a boundary, all pans. -/
def State.stepTaps (s : State) : State :=
  s.upd (fun d => { d with pans := (d.pans.map (·.1)).foldl (fun m p => Sparse.upd Pan.reset m p Pan.stepTaps) d.pans })

/-- Bytes 0x000 to 0x037 of the factory region: magic, layout version, serial, the last calibration's figures, and TABLE_HASH (06 R169,
Table 6-2). -/
def Dev.regionHeader (d : Dev) : List Byte :=
  leBytes 4 0x5452494D ++ leBytes 4 1 ++ leBytes 8 Config.serial.toNat ++ leBytes 4 d.fab.calDay.toNat ++ leBytes 1 d.fab.calCount.toNat ++
    leBytes 1 d.fab.calPoints.toNat ++ leBytes 2 d.fab.ladderDiff.toNat ++ sliceAt d.ws.tableHash 0 32

/-- The hash over the 2,112 pan records of a region; a region that nothing has written agrees with a copy that nothing
has written (06 R169; entry 6). -/
def regionHash (r : List (Nat × List Byte)) : List Byte :=
  if r.isEmpty then []
  else sha256 ((List.range 2112).flatMap (fun p => sliceAt ((Tab.find r p).getD []) 0 4608))

/-- The island holds trim stores: not in a DARK furl (06 R170, 15 Table 15-2a). -/
def IslSt.keepsTrim : IslSt → Bool
  | .dark => false
  | .furlingDark => false
  | _ => true

/-- Every array of a pan is lost, with its trim store (03 R94, 06 R170, 15 Table 15-2a). -/
def Pan.lost (q : Pan) : Pan :=
  { q with arrs := q.arrs.map (fun a => (a.1, { a.2 with valid := false, cells := [], run := none })), progValid := false,
           trimLoaded := false, trimStore := [], applied := [], target := [] }

/-- The fabric is furled DARK (06 R171; 11 R455; 14 R419). -/
def State.darkIslands (s : State) : State :=
  let s := s.updHk (fun h => { h with isls := (List.range 16).foldl (fun m i => Sparse.set Isl.reset m i ({ st := .dark, pending := false } : Isl)) h.isls })
  s.upd (fun d => { d with pans := (d.pans.map (·.1)).foldl (fun m p => Sparse.upd Pan.reset m p Pan.lost) d.pans })

/-- Channel c of housekeeping. -/
def Dev.chan (d : Dev) (c : Nat) : Chan := Sparse.get Chan.reset d.hk.chans c

/-- VALUE as a signed number (15 Table 15-5). -/
def Chan.int (c : Chan) : Int := signed 16 c.value.toNat

/-- The highest reading among the other islands of an island's die half whose diodes are not faulty (06 R176). -/
def Dev.substTemp (d : Dev) (i : Nat) : Option Int :=
  (((upFrom (8 * (i / 8)) 8).filter (fun j => j != i && !(d.chan j).fault)).map (fun j => (d.chan j).int)).foldl
    (fun b x => match b with
      | none => some x
      | some y => some (max x y)) none

/-- The temperature that HK holds for an island, and whether it is another island's: none with no good reading in the die half (06 R176). -/
def Dev.heldTemp (d : Dev) (i : Nat) : Option (Int × Bool) :=
  if (d.chan i).fault then (d.substTemp i).map (fun t => (t, true)) else some ((d.chan i).int, false)

/-- One pan's store takes its record; its taps jump at the next boundary. Every applied value and target counts from 0: an entry
within 0.75 tap of 0 keeps it (06 R170, R178, R180; entry 120). -/
def Pan.loadTrim (p : Pan) (rec_ : List Byte) (temp : Option (Int × Bool)) : Pan :=
  let q : Pan := { p with trimStore := Memory.writeBytes [] 0 rec_, trimLoaded := true, tapJump := true, applied := [], target := [] }
  match temp with
  | some (t, subst) => q.setTemp t subst
  | none => q.retarget

/-- Fills the stores of pans that have lost theirs, from tables; the unlisted pans' records are zeros. The taps follow the reading that
HK holds of the island; before its first conversion that is 0 (06 R176, R180; entry 120). -/
def State.fillTrim (s : State) (r : List (Nat × List Byte)) : State :=
  s.each ((List.range 2112).filter (fun p => !(s.pan p).trimLoaded && (s.dev.isl (Pan.island p)).st.keepsTrim))
    (fun s p => s.updPan p (fun q => q.loadTrim ((Tab.find r p).getD []) (s.dev.heldTemp (Pan.island p))))

/-- TRIM_STORE_LOAD: from the DRAM copy, else from the factory region; a mismatch with the crow's nest's hash loads no
store, logs TRIM_HASH_FAIL and keeps the fabric furled. A DRAM copy that disagrees counts as the region's mismatch (06 R170, R171; entry
120). -/
def stepTrimStoreLoad (s : State) : State :=
  let r := s.dev.ws.regionCopy.getD s.dev.ws.region
  if regionHash r = s.dev.nv.tableHash then (s.updWs (fun w => { w with regionCopy := some r, trimFault := false })).fillTrim r
  else ((s.updWs (fun w => { w with trimFault := true })).darkIslands).logEvent 0x33 0 0 0 0

/-- The reason for which a verification is refused: Table 6-8's codes in their order (06 R183). -/
def Dev.verifyRefusal (d : Dev) (p : Nat) : Option Nat :=
  if d.fab.verBusy then some 1
  else if (d.freeSpare p).isNone then some 2
  else if (d.pan p).role != .active then some 3
  else if !d.time.runs then some 4
  else if (d.pan p).busy || d.ws.tack.isSome || (d.pan p).vacateTo.isSome then some 5
  else none

/-- VERIFY_REQUEST: a write of FAB_VERIFY_CTRL with GO (06 R183). A PAN above 2,111 names no pan and is refused as one that
is not active. -/
def stepVerifyRequest (pan : Nat) (s : State) : State :=
  let s := s.updFab (fun b => { b with verPan := BitVec.ofNat 12 pan })
  match (if pan < 2112 then s.dev.verifyRefusal pan else some 3) with
  | some r => s.updFab (fun b => { b with verRefused := true, verReason := BitVec.ofNat 4 r })
  | none =>
    let (q, s) := s.decideVacate pan false
    (s.updFab (fun b => { b with verBusy := true, verRunPan := BitVec.ofNat 12 pan, verSpare := q })).updPan pan
      (fun x => { x with busy := true })

/-- What a verification leaves in an array: the last of its stored patterns, which are no payload, and 16 more vectors (06 R182). -/
def Arr.verified (x : Arr) : Arr :=
  { x with cells := memOfBytes 0 ((List.range 65536).map Config.patternByte), valid := false, vecCnt := x.vecCnt + 16 }

/-- One array's figure after a verification: QF, WARN and OUT_ENV; an array out of the envelope has failed a check
(06 R184). -/
def State.setQf (s : State) (p a qf : Nat) : State :=
  let warn := decide (s.dev.fab.qfWarnLimit.toNat < qf)
  let s := s.updArr p a (fun x => { x.verified with qf := BitVec.ofNat 12 (min 0xFFF qf), qfStale := false, qfWarn := warn,
                                                    outEnv := decide (116 ≤ qf) })
  let s := if warn then s.logEvent 0x32 1 (8 * p + a) qf 0 else s
  if 116 ≤ qf then s.failEvent 1 (8 * p + a) 0x32 else s

/-- VERIFICATION_COMPLETE: the figures of the pan under verification; within the envelope its payload returns by a second
one-pan tack, at the boundary that a substitution decided now would take (11 R352; entry 120), else it stays on the spare (06 R183, R184). -/
def stepVerificationComplete (pan : Nat) (qfs : List Nat) (s : State) : State :=
  if s.dev.fab.verBusy && s.dev.fab.verRunPan == BitVec.ofNat 12 pan && (s.pan pan).busy && (s.pan pan).vacateTo.isNone then
    let s := s.each (List.range 8) (fun s a => s.setQf pan a (qfs.getD a 0))
    if (qfs.take 8).all (fun q => decide (q < 116)) then
      match s.dev.fab.verSpare with
      | some q =>
        let b := s.dev.fab.frameAfter s.tick 2
        s.updPan q (fun x => { x with vacateTo := some (pan, b), vacateRetires := false })
      | none => s
    else
      (s.updFab (fun b => { b with verBusy := false, verDone := true, verSpare := none })).updPan pan (fun x => { x with busy := false })
  else s

/-- A limit of Table 6-3 that one tap breaks: its own range, and the change from a neighbouring point's accepted tap. -/
def tapBad (i : Nat) (v : Int) (near : List Int) : Bool :=
  if i < 128 then v.natAbs > 12 || near.any (fun x => (v - x).natAbs > 6)
  else v < -6 || 5 < v || near.any (fun x => (v - x).natAbs > 3)

/-- The residual limit at a point, in 1/1000 count (06 Table 6-3). -/
def residLimit (t : Nat) : Nat := if t = 0 then 340 else if t = 1 then 360 else 370

/-- The accepted tap record of an array at a point: of this calibration, else of the region (06 R174). -/
def Ws.acceptedTaps (w : Ws) (arr t : Nat) : Option (List Byte) :=
  match Tab.find w.calTaps (3 * arr + t) with
  | some r => some r
  | none =>
    if (Tab.find w.resid (3 * arr + t)).isSome then
      (Tab.find w.region (arr / 8)).map (fun r => sliceAt r (576 * (arr % 8) + 192 * t) 192)
    else none

/-- The array's new taps meet every limit of Table 6-3 (06 R174). -/
def Ws.tapsOk (w : Ws) (arr t resid : Nat) (new : List Byte) : Bool :=
  let near := ([t - 1, t + 1].filter (fun x => decide (x ≠ t) && decide (x < 3))).filterMap (w.acceptedTaps arr)
  let tap : List Byte → Nat → Int := fun r i => tapEntry (fun n => r.getD n 0) 0 0 i
  decide (resid ≤ residLimit t) && (List.range 256).all (fun i => !tapBad i (tap new i) (near.map (fun r => tap r i)))

/-- One array of an accepted point: its new taps, or the previous ones; with none of those it is TRIM_BAD and its pan
retires to a spare. The run has written patterns over its cells (06 R172, R174). -/
def State.calibrateArray (s : State) (t : Nat) (resid : List (Nat × Nat)) (e : Nat × List Byte) : State :=
  let s := s.updArr (e.1 / 8) (e.1 % 8) Arr.verified
  let r := (Tab.find resid e.1).getD 0
  if s.dev.ws.tapsOk e.1 t r e.2 then
    s.updWs (fun w => { w with calTaps := Tab.put w.calTaps (3 * e.1 + t) (sliceAt e.2 0 192), resid := Tab.put w.resid (3 * e.1 + t) r })
  else if (s.dev.ws.acceptedTaps e.1 t).isSome then s
  else (s.updArr (e.1 / 8) (e.1 % 8) (fun a => { a with trimBad := true })).retireUnit 2 (e.1 / 8) 0

/-- Replaces the bytes of a record from an offset. -/
def putRecord (r : List Byte) (off : Nat) (b : List Byte) : List Byte :=
  let r := sliceAt r 0 4608
  r.take off ++ b ++ r.drop (off + b.length)

/-- The end of a calibration: accepted tables, header and TABLE_HASH in the region, then the crow's nest's copy of it, and CAL_COUNT.
`torn`: power fails between the two hash writes, and the crow's nest keeps the older hash (06 R171, R175). -/
def State.writeCalibration (s : State) (torn : Bool) : State :=
  let day := s.dev.cn.rtc / 86400
  let s := s.updWs (fun w =>
    { w with region := w.calTaps.foldl (fun r e =>
        let arr := e.1 / 3
        Tab.put r (arr / 8) (putRecord ((Tab.find r (arr / 8)).getD []) (576 * (arr % 8) + 192 * (e.1 % 3)) e.2)) w.region })
  let h := regionHash s.dev.ws.region
  let pts := s.dev.ws.calPts
  let diff := s.dev.ws.calLadder
  let s := (s.updWs (fun w => { w with tableHash := h, calTaps := [], calPts := 0, calLadder := 0 })).updFab (fun b => { b with
    calPoints := BitVec.ofNat 3 pts, ladderDiff := BitVec.ofNat 16 diff, calDay := BitVec.ofNat 32 day })
  if torn then s
  else
    (((s.updWs (fun w => { w with regionCopy := none, trimFault := false })).updNv (fun n => { n with tableHash := h })).updFab (fun b =>
      { b with calCount := satInc b.calCount }))

/-- FACTORY_CALIBRATION: one temperature point, in MANUFACTURE or SERVICE; a ladder that disagrees by more than 0.25 count
discards the point (06 R172 to R175). -/
def stepFactoryCalibration (point ladderDiff : Nat) (taps : List (Nat × List Byte)) (resid : List (Nat × Nat))
    (last torn : Bool) (s : State) : State :=
  if !(s.dev.nv.lc == .manufacture || s.dev.nv.lc == .service) || decide (2 < point) then s
  else
    let s := if 64 < ladderDiff then s
      else
        let s := s.each (taps.filter (fun e => decide (e.1 < 16896))) (State.calibrateArray · point resid ·)
        s.updWs (fun w => { w with calPts := w.calPts ||| 2 ^ point, calLadder := ladderDiff })
    if last && s.dev.ws.calPts != 0 then s.writeCalibration torn else s

def execTrimStoreLoad (s : State) : Host.Outcome State Fault Refusal := .next (stepTrimStoreLoad s)
def execVerifyRequest (pan : Nat) (s : State) : Host.Outcome State Fault Refusal := .next (stepVerifyRequest pan s)
def execVerificationComplete (pan : Nat) (qfs : List Nat) (s : State) : Host.Outcome State Fault Refusal :=
  .next (stepVerificationComplete pan qfs s)
def execFactoryCalibration (point ladderDiff : Nat) (taps : List (Nat × List Byte)) (resid : List (Nat × Nat))
    (last torn : Bool) (s : State) : Host.Outcome State Fault Refusal :=
  .next (stepFactoryCalibration point ladderDiff taps resid last torn s)

end Sys2Proof.Machine
end

