-- ==== Sys2Proof/Machine/Margins.lean ====
section
/-! DEFINITION. MARGIN_TEST and RETIRE (08 R262; 11 R352 to R357, R455). -/

namespace Sys2Proof.Machine

/-- Unit kind of Table 11-9 for a command's KIND (08 Table 8-8), and its number of units. -/
def unitKind : Nat → Option (Nat × Nat)
  | 0 => some (2, 2112)
  | 1 => some (4, 4)
  | 2 => some (5, 6)
  | 3 => some (1, 16896)
  | 4 => some (0, 0)
  | _ => none

/-- The unit that a command names: kind of Table 11-9 and index; none when a field is out of range. -/
def unitOf (c : Cmd) (margin : Bool) : Option (Nat × Nat) :=
  if margin && decide (2 < c.at 0x1A 1) then none
  else match unitKind (c.at 0x1A 1) with
    | none => none
    | some (0, _) => some (0, 0)
    | some (k, n) => if c.at 0x1C 4 < n then some (k, c.at 0x1C 4) else none

/-- The package that a command names is this one or a member of the slice. -/
def Dev.knows (d : Dev) (pkg : Nat) : Bool := pkg == d.role.pkg.toNat || d.lnk.members.any (fun m => m.pkg == pkg)

/-- A port carries a pipeline hop or a transit route in force (11 R357). -/
def Dev.portRoutes (d : Dev) (p : Nat) : Bool :=
  d.lnk.table.any (fun e => bitAt e.2.toNat 31 && decide (fieldAt e.2.toNat 28 3 = p))

/-- MARGIN_TEST on a unit of this package is refused (11 R357). -/
def Dev.marginRefused (d : Dev) (kind unit : Nat) : Bool :=
  !d.time.runs || d.fab.verBusy && d.fab.verRunPan == BitVec.ofNat 12 unit && kind == 2 || d.ws.state == 5 ||
  (match kind with
   | 2 => (d.pan unit).busy || (d.pan unit).vacateTo.isSome || ((d.pan unit).role != .spareIdle && (d.freeSpare unit).isNone)
   | 5 => d.portRoutes unit
   | _ => false)

/-- The setting that a suspect raises is at its limit: +40 mV, clock step 4, port step 2 (11 R355, Table 11-8). -/
def Dev.atLimit (d : Dev) (kind unit : Nat) : Bool :=
  match kind with
  | 2 => decide (4 ≤ (d.pan unit).vtrim)
  | 4 => decide (4 ≤ Sparse.get (fun _ => 0) d.dle.clkStep unit)
  | _ => decide (2 ≤ (d.port unit).step)

/-- A suspect's setting rises by one step; the event takes an entry of the retirement list (11 R354, R355, Table 11-8). -/
def State.raiseStep (s : State) (kind unit : Nat) : State :=
  match kind with
  | 2 =>
    let v := (s.pan unit).vtrim + 1
    (s.updPan unit (fun p => { p with vtrimDue := some v })).logEvent 0x21 2 unit (twos 32 v) 0
  | 4 =>
    let v := Sparse.get (fun _ => 0) s.dev.dle.clkStep unit + 1
    (s.updDle (fun d => { d with clkStepDue := Tab.put d.clkStepDue unit v })).logEvent 0x21 4 unit v 0
  | _ =>
    let v := (s.dev.port unit).step + 1
    (s.updPort unit (fun p => { p with step := v })).logEvent 0x21 5 unit v 0

/-- The unit is named permanent, for the decision at the next boundary (11 R352, R455). -/
def State.markRetired (s : State) (kind unit : Nat) : State :=
  if s.dev.chk.gone kind unit then s else s.updChk (fun c => { c with toRetire := c.toRetire ++ [(kind, unit, 0)] })

/-- The final record of MARGIN_TEST, with its event (08 R262; 11 Table 11-10). -/
def State.endMargin (s : State) (rep : Rep) (kind unit status detail : Nat) : State :=
  (s.logEvent 0x22 kind unit detail 0).reply rep status detail false true

/-- MARGIN_TEST (08 R262; 11 R355 to R357). The passes are outside the model; the unit's payload leaves and returns. -/
def effMarginTest (f : MarginFacts) (c : Cmd) (s : State) : State :=
  let rep := s.repOf c
  let pkg := c.at 0x18 2
  let own := pkg == s.dev.role.pkg.toNat
  if s.dev.nv.lc != .field then s.refuse rep stAUTH 0x03
  else match unitOf c true with
    | none => s.refuse rep stBAD 0x06
    | some (kind, unit) =>
      if !s.dev.knows pkg then s.refuse rep stBAD 0x06
      else if (own && s.dev.chk.isRetired kind unit) || (!own && f.retired) then s.refuse rep stRETIRED 0
      else if (own && s.dev.marginRefused kind unit) || (!own && f.refused) then s.refuse rep stBAD 0x05
      else
        let s := s.reply rep stQUEUED 0 true false
        let s := if own then s else s.emit (.message pkg 0x08 [0x18, kind, unit])
        let limit := if own then s.dev.atLimit kind unit else f.atLimit
        if f.stressPass then s.endMargin rep kind unit stOK 0
        else if f.nominalPass && !limit then (if own then s.raiseStep kind unit else s).endMargin rep kind unit stOK 1
        else (if own then s.markRetired kind unit else s).endMargin rep kind unit stRETIRED 0

/-- RETIRE of another member's unit: its package retires it; the substitution falls at the first frame boundary at least 2 ticks
after the decision, and any other retirement at the decision (11 R352, R455). -/
def State.retireRemote (s : State) (rep : Rep) (pkg kind unit : Nat) : State :=
  let s := s.emit (.message pkg 0x08 [0x19, kind, unit])
  let due := if kind = 1 ∨ kind = 2 then s.dev.fab.frameAfter (s.tick + 1) 2 else s.tick + 1
  s.updChk (fun c => { c with retires := c.retires ++ [⟨kind, unit, pkg, rep, due⟩] })

/-- RETIRE of another member as a whole (11 R455): a spare's duties go; a layer package is re-rigged from the next boundary on. -/
def State.retireMember (s : State) (rep : Rep) (m : Member) (f : RerigFacts) : State :=
  let s := s.emit (.message m.pkg 0x08 [0x19, 0, 0])
  if m.position = 0xFFFF then
    let t := s.tick + 1
    (s.updLnk (fun l => { l with duties := l.duties.filter (fun d => d.spare != m.pkg),
                                 members := l.members.filter (fun x => x.pkg != m.pkg) })).updChk
      (fun c => { c with retires := c.retires ++ [⟨0, 0, m.pkg, rep, t⟩] })
  else
    let q := s.dev.lnk.covering m.position
    let s := s.noteLost m.pkg 0x20
    match s.dev.rerigRefusal m.pkg q f with
    | some _ => s.reply rep stDEGRADED 0x27 false true
    | none =>
      let r := rerigOf m.pkg q m.position s.tick (some rep) f true
      s.updLnk (fun l => { l with rerig := some r, rerigPkg := BitVec.ofNat 12 m.pkg })

/-- RETIRE (08 R262; 11 R455). -/
def effRetire (gone : Bool) (f : RerigFacts) (c : Cmd) (s : State) : State :=
  let rep := s.repOf c
  let pkg := c.at 0x18 2
  let own := pkg == s.dev.role.pkg.toNat
  if !s.dev.inService then s.refuse rep stAUTH 0x03
  else match unitOf c false with
    | none => s.refuse rep stBAD 0x06
    | some (kind, unit) =>
      if !s.dev.knows pkg then s.refuse rep stBAD 0x06
      else if (own && s.dev.chk.isRetired kind unit) || (!own && gone) then s.refuse rep stRETIRED 0
      else
        let s := s.reply rep stQUEUED 0 true false
        if own then
          (if kind = 0 then s.updChk (fun k => { k with pkgDue := some rep })
           else
             let t := s.tick + 1
             (s.markRetired kind unit).updChk (fun k => { k with retires := k.retires ++ [⟨kind, unit, pkg, rep, t⟩] }))
        else if kind ≠ 0 then s.retireRemote rep pkg kind unit
        else match s.dev.lnk.members.find? (fun m => m.pkg == pkg) with
          | some m => s.retireMember rep m f
          | none => s

/-- The fabric of a package goes DARK and its clusters retire (11 R455). -/
def State.darkFabric (s : State) : State := (s.updDle (fun d => { d with retired := 0xF, online := 0 })).darkIslands

/-- RETIRE of this package as a whole takes effect at the boundary; a head's final OK is its last record, and every stream is lost
(10 R331; 11 R455). -/
def State.retirePackage (s : State) : State :=
  match s.dev.chk.pkgDue with
  | none => s
  | some rep =>
    let s := s.reply rep stOK 0 false true
    let s := (s.logEvent 0x20 0 0 0 0xFFFF).darkFabric
    let s := s.updChk (fun c => { c with pkgDue := none, retired := c.retired ++ [(0, 0)], left := true })
    let s := s.updSrv (fun v => { v with streams := [], flights := [], embeds := [], prefixTab := [], marks := [], failing := [] })
    s.updWs (fun w => { w with loaded := false })

/-- The boundary's retirement decisions, and the RETIREs whose unit is retired with no switch to come (11 R352, R455). -/
def State.decideRetires (s : State) : State :=
  let s := s.each s.dev.chk.toRetire (fun s e => stepUnitRetireDecision e.1 e.2.1 s)
  let own := s.dev.role.pkg.toNat
  let waits : RetireWait → Bool := fun r =>
    if r.pkg = own then
      !s.dev.chk.isRetired r.kind r.index ||
      (match r.kind with
       | 1 => (s.pan (r.index / 8)).vacateTo.isSome
       | 2 => (s.pan r.index).vacateTo.isSome
       | _ => false)
    else decide (s.tick < r.due)
  let ended := s.dev.chk.retires.filter (fun r => !waits r)
  let s := s.updChk (fun c => { c with retires := c.retires.filter waits })
  (s.each ended (fun s r => s.reply r.rep stOK 0 false true)).retirePackage

def execMarginTest (ch : Nat) (facts : MarginFacts) (s : State) : Host.Outcome State Fault Refusal :=
  .next (s.runDue 0x40 ch (effMarginTest facts))
def execRetire (ch : Nat) (gone : Bool) (facts : RerigFacts) (s : State) : Host.Outcome State Fault Refusal :=
  .next (s.runDue 0x41 ch (effRetire gone facts))

end Sys2Proof.Machine
end

