-- ==== Sys2Proof/Machine/Reset.lean ====
section
/-! DEFINITION. Resets: their reach, counters and causes; the snapshot at a reset's release (01 R39; 12 R380; 14 R405 to R413,
R420, R421). Sources are numbered as RST_CAUSE's bits: 0 POR, 1 COLD, 2 THERMAL, 3 WARM_PIN, 4 WARM_REG, 5 PERST, 6 HOT, 7 WDOG,
8 CLKFAIL, 9 life-cycle transition. -/

namespace Sys2Proof.Machine

/-- A source increments its counter; a life-cycle transition counts in WARM_REG (14 Table 14-1, R408, R421). -/
def Cn.count (c : Cn) (src : Nat) : Cn :=
  { c with counts := Sparse.upd (fun _ => 0) c.counts (if src = 9 then 4 else src) (fun x => satInc x) }

/-- A reset makes a written life-cycle record the one in force (13 R401); CHK_NV_LIST.FULL returns to 0 (11 Table 11-14). -/
def Nv.atReset (n : Nv) (x : Sec) : Nv :=
  match x.lcPending with
  | some _ => { n.readLc with listFull := false }
  | none => { n with listFull := false }

/-- A port after a warm reset: a retired lane and a retired port stay so (10 R312), and coefficients are kept (14 Table in R419). -/
def Port.warm (p : Nat) (x : Port) : Port :=
  { Port.reset p with retired := x.retired, laneMap := if x.retired = 0 then 0x76543210 else x.laneMap,
                      state := if x.state = 4 then 4 else 0, kept := x.kept || x.peer.isSome }

/-- LNK after a warm reset: slice membership is sticky (14 R406, R407). -/
def Lnk.warm (l : Lnk) : Lnk :=
  { ports := (List.range 6).foldl (fun m p => Sparse.set Port.reset m p (Port.warm p (Sparse.get Port.reset l.ports p))) [],
    bank := l.bank, bank0 := l.bank0, bank1 := l.bank1, headIds := l.headIds, pf0Ids := l.pf0Ids, accept := l.accept,
    members := l.members, duties := l.duties, next := l.next, pageNext := l.pageNext }

/-- What lies in DRAM or comes from the factory region stays through a warm reset: KV data and calibration records (14 R406,
R407; 06 Table 6-8). -/
def Fab.warm (b : Fab) : Fab :=
  { kv := b.kv, poisonBlocks := b.poisonBlocks, calCount := b.calCount, ladderDiff := b.ladderDiff, calPoints := b.calPoints, calDay := b.calDay }

/-- The calibration record stays through every reset (06 Table 6-8). -/
def Fab.cold (b : Fab) : Fab := { calCount := b.calCount, ladderDiff := b.ladderDiff, calPoints := b.calPoints, calDay := b.calDay }

/-- Matrices in DRAM stay through a warm reset. -/
def Dle.warm (d : Dle) : Dle := { mats := d.mats, tier2 := d.tier2, sram := d.sram }

/-- The resonator's count runs on (01 Table 1-9); every other field of TIME returns to its reset value. -/
def Time.restart (t : Time) : Time := { mems := t.mems, memsFrac := t.memsFrac }

/-- The serving engine after a warm reset: tenants, prefix entries and the pool's size stay in head DRAM (14 R407). -/
def Srv.warm (v : Srv) : Srv :=
  { tenants := v.tenants, prefixTab := v.prefixTab.map (fun e => (e.1, { e.2 with refs := 0 })), nextId := v.nextId, nextOrder := v.nextOrder, kvTotal := v.kvTotal }

/-- WS keeps its registers; an operation that ran in the CC is over, and the arrays hold no payload (14 R406, R407). -/
def Ws.warm (w : Ws) : Ws :=
  { w with run := none, tack := none, loaded := false, state := if w.staged.isSome then 2 else 0 }

/-- What the weight store and the factory region hold; DRAM copies are lost (14 R405). -/
def Ws.cold (w : Ws) : Ws :=
  { dirSeq := w.dirSeq, store := w.store, oldSeq := w.oldSeq, oldStore := w.oldStore, dirPage := w.dirPage, oldPage := w.oldPage,
    writes := w.writes, retiredPages := w.retiredPages, region := w.region, tableHash := w.tableHash,
    resid := w.resid, fwA := w.fwA, fwB := w.fwB }

/-- Transfers of a resource end with their requesters; its registers stay (14 R406). -/
def Arb.idle (a : Arb) : Arb := { a with held := [], queue := [], lost := [], last := [], resetting := false }

/-- The fields of RST that every reset that reaches the CC rewrites (14 R420). -/
def Rst.rewrite (r : Rst) (cause : BitVec 10) (step : BitVec 4) (warm : Bool) : Rst :=
  { r with cause, limit := 0x7D0, wdogRuns := false, kicks := 0, ready := false, step, stepUs := [], warmSeq := warm,
           result := if r.busy then 3 else r.result, busy := false }

/-- The device after a warm reset: the fabric, the DLE, the CC, the ports and the PCIe controller restart (14 R406, R407). -/
def Dev.warm (d : Dev) (cause : BitVec 10) : Dev :=
  let p := if d.isHead && d.time.runs then some d.time.inForce else d.rst.restartPeriod
  { d with
    role := { d.role with roleDue := none, acceptDue := none, parentDue := none, headDue := none },
    time := d.time.restart, fab := d.fab.warm, pans := [], dle := d.dle.warm,
    arb := (d.arb.map (·.1)).foldl (fun m r => Sparse.upd Arb.reset m r (fun a => if r = 4 then {} else a.idle)) d.arb,
    ws := d.ws.warm, lnk := d.lnk.warm, pcie := d.pcie.restart, srv := d.srv.warm,
    chk := { retired := d.chk.retired.filter (fun u => u.1 == 5 || u.1 == 6) }, sec := { draws := d.sec.draws },
    nv := d.nv.atReset d.sec, rst := { d.rst.rewrite cause 5 true with restartPeriod := p } }

/-- The device after a cold reset: only the crow's nest and the stores stay; HOLD_CODE and VIN_FAULT clear (14 R405, R421;
15 R439). The level of PERST# is the pin's. The crow's nest's RWS fields (CN_I3C_CFG) stay, as 14 R405 and Table 14-1 say, where 00 Table
0-5 clears an RWS field (DESIGN CHOICE, entry 124). -/
def Dev.cold (d : Dev) (cause : BitVec 10) : Dev :=
  { time := d.time.restart, fab := d.fab.cold, ws := d.ws.cold, sec := { draws := d.sec.draws }, nv := d.nv.atReset d.sec,
    rst := { cause, step := 2, perstLow := d.rst.perstLow, coolWait := false,
             result := if d.rst.busy then 3 else 0 },
    cn := { d.cn with vinFault := false, holdCode := 0, holdArg := 0, vinOk := false } }

/-- The device after a power-on reset: the backup domain, the stores and NV stay (14 R405). -/
def Dev.powerOn (d : Dev) : Dev :=
  { fab := d.fab.cold, ws := d.ws.cold, sec := { draws := d.sec.draws }, nv := d.nv.atReset d.sec, rst := { perstLow := d.rst.perstLow },
    cn := { rtc := d.cn.rtc, sub := d.cn.sub, subFrac := d.cn.subFrac, counts := d.cn.counts, vbakLost := d.cn.vbakLost } }

/-- The snapshot at a warm reset's release: blocks that it reached read as they are now, the others as last captured (01 R39). -/
def Dev.mergeSnap (now old : Dev) : Dev :=
  { now with mem := old.mem, arb := old.arb.filter (fun e => e.1 != 4), ws := old.ws, rst := old.rst, hk := old.hk, cn := old.cn }

/-- A reset is released: the visible snapshot is replaced (01 R39). -/
def State.release (s : State) : State := { s with snap := s.dev.mergeSnap s.snap }

/-- GLB's snapshot hold, HOLD_EXPIRED and the functions' latches return to reset: the reach that 14 R406 lists names neither of
them (DESIGN CHOICE, entry 124). -/
def State.dropHold (s : State) : State := { s with hold := none, holdExpired := false, latches := [] }

/-- A power-up sequence runs (14 R408). -/
def Rst.running (r : Rst) : Bool := !r.ready && !r.safe

/-- A source of warm reach acts: it counts; while a wider sequence runs, in reset-hold or in FURL it restarts nothing; else the
package restarts at step 5 (14 R405 to R408, R419). -/
def State.warmFrom (s : State) (src : Nat) : State :=
  let s := s.updCn (fun c => c.count src)
  let r := s.dev.rst
  let bit := BitVec.ofNat 10 (2 ^ src)
  if r.furl || !s.dev.cn.auxOk then s
  else if s.dev.cn.holdCode ≠ 0 || (r.running && !r.warmSeq) then s.updRst (fun r => { r with cause := r.cause ||| bit })
  else
    let cause := (if r.running then r.cause else 0) ||| bit
    let s := (s.upd (fun d => d.warm cause)).dropHold
    if r.perstLow then s else s.release

/-- A source of cold reach acts (14 R405, R408). With the reference gone the crow's nest keeps every other block in reset
(R413). -/
def State.coldFrom (s : State) (src : Nat) : State :=
  if !s.dev.cn.auxOk then s
  else
    let s := s.updCn (fun c => c.count src)
    let r := s.dev.rst
    let bit := BitVec.ofNat 10 (2 ^ src)
    let cause := (if r.running && !r.furl then r.cause else 0) ||| bit
    if s.dev.cn.onOsc then s.updRst (fun r => { r with cause })
    else
      let d := s.dev.cold cause
      ({ s with dev := d, snap := d, snapTick := 0 }).dropHold

/-- An in-band interrupt with a cause bit, when enabled (15 Table 15-6 IBI_EN). -/
def State.raiseIbi (s : State) (bit : Nat) : State := if s.dev.cn.ibiEn.getLsbD bit then s.emit (.ibi bit) else s

/-- Reset-hold: every block but the crow's nest stays in reset; the code is reported over I3C (14 R419, 15 R441). -/
def State.resetHold (s : State) (code arg : Nat) : State :=
  let cause := s.dev.rst.cause
  let step := s.dev.rst.step
  let s := s.upd (fun d => let d' := d.cold cause
                           { d' with rst := { d'.rst with step },
                                     cn := { d'.cn with holdCode := BitVec.ofNat 8 code, holdArg := BitVec.ofNat 16 arg } })
  s.dropHold.raiseIbi 2

/-- POWER_ON_RESET: AUX rises above the brownout threshold (14 Table 14-1, R414). -/
def stepPowerOnReset (s : State) : State :=
  let d := (s.updCn (fun c => c.count 0)).dev.powerOn
  ({ s with dev := d, snap := d, snapTick := 0 }).dropHold

/-- AUX_BROWNOUT: below 2.90 V everything but the backup domain is in power-on reset, and the power stage is off (15 R439, Table
15-1 OFF). POR counts as AUX rises again. -/
def stepAuxBrownout (s : State) : State :=
  let d := s.dev.powerOn
  let d := { d with rst := { d.rst with step := 0, cause := 0 }, cn := { d.cn with auxOk := false } }
  ({ s with dev := d, snap := d, snapTick := 0 }).dropHold

/-- COLD_RESET: COLD_RST_N low. After a trip it is ignored while a trip sensor reads 85 °C or more, and otherwise is the
thermal-trip restart (14 R405, 15 R438). The hottest sensor is in 1/16 °C. -/
def stepColdReset (hottest : Int) (s : State) : State :=
  if s.dev.cn.tripped then
    (if 1360 ≤ hottest then s else (s.updCn (fun c => { c with tripped := false, tripCmp := false })).coldFrom 2)
  else s.coldFrom 1

/-- THERMAL_TRIP_RESTART (15 R438). -/
def stepThermalTripRestart (hottest : Int) (s : State) : State := if s.dev.cn.tripped then stepColdReset hottest s else s

def stepWarmReset (s : State) : State := s.warmFrom 3

/-- RST_CTRL_WARM: 0x5A starts a warm reset; other values have no effect (14 Table 14-6). -/
def stepRstCtrlWarm (v : Nat) (s : State) : State := if v % 256 = 0x5A then s.warmFrom 4 else s

/-- PCIE_HOT_RESET (12 R380). -/
def stepPcieHotReset (s : State) : State := s.warmFrom 6

/-- PERST: low starts a warm reset that holds the controller and step 5 while it stays low; the counter counts assertions (12
R380; 14 R405, R414, R415). -/
def stepPerst (low : Bool) (s : State) : State :=
  if low == s.dev.rst.perstLow then s
  else if low then
    let s := (s.updRst (fun r => { r with perstLow := true })).warmFrom 5
    (s.updPcie Pcie.restart).updTime Time.ptmReset
  else
    let s := s.updRst (fun r => { r with perstLow := false })
    if s.dev.rst.running && s.dev.rst.warmSeq then s.release else s

/-- DEVICE_WATCHDOG_BITE: the limit is recorded and a warm reset starts (14 R411). -/
def stepDeviceWatchdogBite (s : State) : State :=
  if s.dev.rst.wdogRuns then
    let n := s.dev.rst.limit.toNat
    (s.updRst (fun r => { r with biteLimit := n })).warmFrom 7
  else s

/-- WATCHDOG_KICK (14 R411, Table 14-6). -/
def stepWatchdogKick (s : State) : State :=
  if s.dev.rst.wdogRuns then s.updRst (fun r => { r with kicks := r.kicks + 1 }) else s

/-- RST_CLK_STAT bit of a PLL (14 Table 14-6). -/
def pllBit : PllDomain → Nat
  | .fab => 0
  | .dle => 1
  | .cc => 2
  | .mem m => 3 + m % 3
  | .ws => 6
  | .pcie => 7
  | .lnk p => 8 + p % 6

/-- PLL_LOSS_OF_LOCK of a domain that runs: a MEM PLL as COLD_RST_N, the others warm; both count CLKFAIL (14 Table 14-1,
R413). -/
def stepPllLossOfLock (dom : PllDomain) (s : State) : State :=
  if s.dev.rst.locked.getLsbD (pllBit dom) then
    match dom with
    | .mem _ => s.coldFrom 8
    | _ => s.warmFrom 8
  else s

/-- REFERENCE_FAILURE: the crow's nest turns to its own oscillator and holds every other block in reset with code 0x01 (14
R413). -/
def stepReferenceFailure (s : State) : State :=
  if s.dev.cn.auxOk then (s.updCn (fun c => { c with onOsc := true })).resetHold 0x01 0 else s

/-- VBAK_LOSS: counters and RTC restart from 0, LOST is set (14 R421). -/
def stepVbakLoss (s : State) : State :=
  s.updCn (fun c => { c with counts := [], rtc := 0, sub := 0, subFrac := 0, vbakLost := true })

/-- RESET_COUNT_CLEAR: a PF0 write of CN_RST_COUNT_CLR.CLR, in FIELD and SERVICE (14 R421). -/
def stepResetCountClear (s : State) : State :=
  if s.dev.nv.lc == .field || s.dev.nv.lc == .service then s.updCn (fun c => { c with counts := [] }) else s

def execPowerOnReset (s : State) : Host.Outcome State Fault Refusal := .next (stepPowerOnReset s)
def execAuxBrownout (s : State) : Host.Outcome State Fault Refusal := .next (stepAuxBrownout s)
def execColdReset (hottest : Int) (s : State) : Host.Outcome State Fault Refusal := .next (stepColdReset hottest s)
def execThermalTripRestart (hottest : Int) (s : State) : Host.Outcome State Fault Refusal := .next (stepThermalTripRestart hottest s)
def execWarmReset (s : State) : Host.Outcome State Fault Refusal := .next (stepWarmReset s)
def execRstCtrlWarm (value : Nat) (s : State) : Host.Outcome State Fault Refusal := .next (stepRstCtrlWarm value s)
def execPcieHotReset (s : State) : Host.Outcome State Fault Refusal := .next (stepPcieHotReset s)
def execPerst (low : Bool) (s : State) : Host.Outcome State Fault Refusal := .next (stepPerst low s)
def execDeviceWatchdogBite (s : State) : Host.Outcome State Fault Refusal := .next (stepDeviceWatchdogBite s)
def execWatchdogKick (s : State) : Host.Outcome State Fault Refusal := .next (stepWatchdogKick s)
def execPllLossOfLock (dom : PllDomain) (s : State) : Host.Outcome State Fault Refusal := .next (stepPllLossOfLock dom s)
def execReferenceFailure (s : State) : Host.Outcome State Fault Refusal := .next (stepReferenceFailure s)
def execVbakLoss (s : State) : Host.Outcome State Fault Refusal := .next (stepVbakLoss s)
def execResetCountClear (s : State) : Host.Outcome State Fault Refusal := .next (stepResetCountClear s)

end Sys2Proof.Machine
end

