-- ==== Sys2Proof/Machine/Boot.lean ====
section
/-! DEFINITION. Power-up from the rails to READY, the boot chain, and self-test (07 R211, R212; 13 R390, R391, R393; 14 R407,
R411, R414 to R420). -/

namespace Sys2Proof.Machine

/-- RAILS_SOFT_START: steps 2 to 4, and step 1 after a power-on reset: rails, then every PLL locked. A rail out of its window
holds the device with code 0x31; the spec numbers no rails, so the argument is a free value (14 R414, Table 14-3, Table 14-5,
Table 14-6; entry 8). The durations of the steps are free values. -/
def stepRailsSoftStart (railOk : Bool) (s : State) : State :=
  let r := s.dev.rst
  if !s.dev.cn.auxOk || r.furl || s.dev.cn.holdCode ≠ 0 || r.step = 0 || decide (5 ≤ r.step.toNat) then s
  else if !railOk then
    let (v, s) := s.take32
    s.resetHold 0x31 v.toNat
  else
    let first := if r.step = 1 then 0 else 1
    let s := s.each (upFrom first (4 - first)) (fun s n =>
      let (v, s) := s.take32
      s.updRst (fun r => { r with stepUs := Sparse.set (fun _ => 0) r.stepUs n v }))
    (s.updRst (fun r => { r with step := 5, locked := 0x1FFFF, coolWait := false })).updCn (fun c => { c with vinOk := true })

/-- A pan leaves service before any payload is loaded: the lowest free spare of its island stands in for it; false: there is
none (11 R352, R353; 14 R419). -/
def State.bootSwap (s : State) (p : Nat) (to_ : PanRole) : Bool × State :=
  let x := s.pan p
  let out : State → State := fun s => s.updPan p (fun q => { q with role := to_, subst := 0xFFF })
  match x.role with
  | .retired => (true, s)
  | .spareIdle => (true, out s)
  | r =>
    let home := if r == .spareServing then x.subst else BitVec.ofNat 12 p
    match s.dev.freeSpare p with
    | some q => (true, (out s).updPan q (fun y => { y with role := .spareServing, subst := home }))
    | none => (false, out s)

/-- Arrays that the payload to be loaded uses in a home pan. -/
def Dev.payloadUses (d : Dev) (home a : Nat) : Bool :=
  match d.ownPayload with
  | some (p, _) => (bodiesOf p.man p.pages p.position).any (fun b => b.entry.home == home && (Tab.find b.arrays a).isSome)
  | none => false

/-- A unit of the retirement list, or one that BIST fails, is out of service; false: no spare is left (11 R352 to R354). -/
def State.bootRetire (s : State) (kind unit : Nat) : Bool × State :=
  if s.dev.chk.isRetired kind unit then (true, s)
  else
    let s := s.updChk (fun c => { c with retired := c.retired ++ [(kind, unit)] })
    match kind with
    | 0 => (true, s.darkFabric.updChk (fun c => { c with left := true }))
    | 1 =>
      let s := s.updArr (unit / 8) (unit % 8) (fun a => { a with excluded := true })
      let home := if (s.pan (unit / 8)).role == .spareServing then (s.pan (unit / 8)).subst.toNat else unit / 8
      if (s.pan (unit / 8)).role != .spareIdle && s.dev.payloadUses home (unit % 8) then s.bootSwap (unit / 8) .spareIdle else (true, s)
    | 2 => s.bootSwap unit .retired
    | 3 => (false, s)
    | 4 => (true, s.updDle (fun d => { d with retired := d.retired ||| BitVec.ofNat 4 (2 ^ unit),
                                              online := d.online &&& ~~~(BitVec.ofNat 4 (2 ^ unit)) }))
    | _ => (true, s)

/-- A suspect's setting returns at the boot (11 R354, R355, Table 11-8). -/
def State.bootSuspect (s : State) (kind unit arg : Nat) : State :=
  match kind with
  | 2 => s.updPan unit (fun p => { p with vtrim := signed 32 arg })
  | 4 => s.updDle (fun d => { d with clkStep := Sparse.set (fun _ => 0) d.clkStep unit arg })
  | 5 => s.updPort unit (fun p => { p with step := arg })
  | _ => s

/-- The retirement list is reapplied, before the first weight load (11 R354). A unit without a spare makes the package leave
its position (R353). -/
def State.bootList (s : State) : State :=
  s.each s.dev.nv.list (fun s e =>
    if e.action = 0x20 then
      (match s.bootRetire e.kind e.unit with
       | (true, s) => s
       | (false, s) => s.leavePosition (Pan.island (if e.kind = 1 then e.unit / 8 else e.unit)))
    else if e.action = 0x21 then s.bootSuspect e.kind e.unit e.arg
    else s)

/-- The safe state: the fabric furled DARK, the DLE off (14 R419). -/
def State.safeState (s : State) : State :=
  ((s.updDle (fun d => { d with online := 0 })).darkIslands).updRst (fun r => { r with safe := true })

/-- Units that a self-test fails retire, with their entries in the list; a pan without a spare, or four retired clusters, puts
the device into the safe state (14 R419, Table 14-5). -/
def State.bistUnits (s : State) (kind : Nat) (units : List Nat) : State :=
  let s := s.each units (fun s u =>
    if s.dev.chk.isRetired kind u then s
    else
      match s.bootRetire kind u with
      | (true, s) => s.logEvent 0x20 kind u 0 0xFFF
      | (false, s) => (s.logEvent 0x20 kind u 0 0xFFF).safeState)
  if s.dev.dle.retired = 0xF && !s.dev.chk.isRetired 0 0 then s.safeState else s

/-- The boot chain: a pending copy first, else the active one, else the other; both fail: the failing KIND (13 R390, R391). -/
def State.bootChain (s : State) : Option Nat × State :=
  let n := s.dev.nv
  let run : Bool → State → State := fun b s =>
    s.updSec (fun x => { x with running := (s.dev.ws.fwCopy b).running, runRevokes := (s.dev.ws.fwCopy b).revokes })
  let fails : Bool → Option Nat := fun b => n.copyFails (s.dev.ws.fwCopy b)
  let settled : State → State := fun s => s.updNv (fun n => { n with fwPending := false })
  if n.fwPending && (fails (!n.fwB)).isNone then
    (none, (run (!n.fwB) (settled s)).updNv (fun m => { m with fwB := !n.fwB }))
  else
    let s := if n.fwPending then (settled s).updSec (fun x => { x with fallback := true, fwErr := true }) else s
    match fails n.fwB, fails (!n.fwB) with
    | none, _ => (none, run n.fwB s)
    | some _, none => (none, (run (!n.fwB) s).updSec (fun x => { x with fallback := true }))
    | some _, some k => (some k, s)

/-- SEC takes its counter from NV (13 R393). -/
def State.bootCounter (s : State) : State :=
  let c := s.dev.nv.counter
  s.updSec (fun x => { x with attSeq := c.1, attNext := c.2, exhausted := decide (2 ^ 20 ≤ c.2 / 1024), left := 0 })

/-- The directory in force at power-up: of the two copies the newer, or the older one where the newer fails its hash (07 R208). -/
def State.findDirectory (s : State) (fault : Bool) : State :=
  if fault then
    s.updWs (fun w => { w with store := w.oldStore, dirSeq := w.oldSeq, oldStore := [], oldSeq := 0, dirPage := w.oldPage,
                               oldPage := w.dirPage, dirFault := true })
  else s

/-- A pending image is switched to where some package has switched to it and every package holds it written; otherwise it is
discarded. `dirs` is what the other packages' directories say (07 R211). -/
def State.resolveDirectory (s : State) (dirs : List (Nat × Option Nat)) : State :=
  match s.dev.ws.store.find? (·.pending) with
  | none => s
  | some p =>
    if dirs.any (fun d => d.1 == p.epoch) && dirs.all (fun d => d.1 == p.epoch || d.2 == some p.epoch) then s.switchDirectory p.epoch
    else s.writeDirectory (s.dev.ws.store.filter (fun q => !q.pending))

/-- Step 9: trim stores, field verification, own payload. A trim region whose hash fails leaves the fabric furled and the
package not ready; false says so (06 R170, R171, R182; 07 R212; 14 Table 14-3). -/
def State.loadStep (s : State) (qfs : List (Nat × Nat)) (us : Nat) (badPages : List Nat) : Bool × State :=
  let r := s.dev.ws.regionCopy.getD s.dev.ws.region
  let ok := regionHash r == s.dev.nv.tableHash
  let s := stepTrimStoreLoad s
  if ok then (true, stepPayloadLoad us badPages none (s.each qfs (fun s e => s.setQf (e.1 / 8) (e.1 % 8) e.2))) else (false, s)

/-- Ticks after a warm reset of a slice's package: the head restarts at l + 1 + ⌈d ÷ P⌉; another package comes back in SYNC (14
R407; 05 Table 5-6). -/
def State.restartTicks (s : State) : State :=
  if !s.dev.role.assigned || !s.dev.rst.warmSeq then s
  else if s.dev.isHead then
    match s.dev.rst.restartPeriod with
    | some p =>
      let k := s.dev.cn.tickLast + 1 + ceilDiv s.dev.cn.sinceTick (100 * p)
      (s.updTime (fun t => { t with st := .run, tick := k, cycle := 0, period := max t.period t.minPeriod,
                                    inForce := max t.inForce t.minPeriod })).updRst
        (fun r => { r with restartPeriod := none })
    | none => s
  else s.updTime Time.toSync

/-- Durations of steps 5 to 9; those that a warm sequence skips read 0 (14 R420). -/
def Rst.bootTimes (r : Rst) (us : List Nat) : Rst :=
  { r with stepUs := (upFrom 4 5).foldl (fun m n =>
      Sparse.set (fun _ => 0) m n (if r.warmSeq && (n == 5 || n == 7) then 0 else BitVec.ofNat 32 (us.getD (n - 4) 0))) r.stepUs }

/-- Steps 6 to 10 after the boot chain; the CC writes a new spot key, which no rule gives: a free value (04 R111; entry 8). -/
def State.afterBoot (s : State) (f : BootFacts) : State :=
  let warm := s.dev.rst.warmSeq
  let (lo, s) := s.take32
  let (hi, s) := s.take32
  let s := s.updFab (fun b => { b with spotKey := hi ++ lo })
  let s := s.updRst (fun r => { (r.bootTimes f.stepUs) with limit := 0x7D0, wdogRuns := true, kicks := 0, step := 9 })
  let s := (s.bootCounter.updDle (fun d => { d with online := ~~~d.retired })).bootList
  let s := s.each (List.range 6) State.startTraining
  let s := if warm then s
    else
      let s := s.each (List.range 3) (fun s m => s.updMem m (fun x => { x with trained := true, refresh := true }))
      let s := (s.bistUnits 2 f.badPans).bistUnits 4 f.badClusters
      s.each f.badLanes (fun s l => s.retireLane (l / 16) (l % 16))
  let s := if warm then s else (s.findDirectory f.dirFault).resolveDirectory f.dirs
  if s.dev.rst.safe then s
  else
    let (ok, s) := s.loadStep f.qfs f.loadUs f.badPages
    let s := s.updWs (fun w => { w with ready := w.store.any (·.own) || w.loaded })
    if ok then (s.updRst (fun r => { r with step := 10, ready := true })).restartTicks else s

/-- CC_BOOT: step 5 with the PLLs locked and PERST# high, then the sequence to READY. Without a valid life-cycle record the device
holds with 0x02. A hold that self-test or training meets falls in a sequence from a cold or power-on reset; a boot chain that fails in
both copies holds with 0x12 (13 R390, R398; 14 R414, R419). -/
def stepCcBoot (f : BootFacts) (s : State) : State :=
  let r := s.dev.rst
  if r.step ≠ 5 || r.perstLow || r.furl || s.dev.cn.holdCode ≠ 0 || !s.dev.cn.auxOk then s
  else if !(s.dev.nv.lcSlots.any (fun e => nvValid e.2)) then s.resetHold 0x02 0
  else match (if r.warmSeq then none else f.hold) with
    | some (code, arg) => s.resetHold code arg
    | none =>
      match s.bootChain with
      | (some kind, s) => s.resetHold 0x12 kind
      | (none, s) => s.afterBoot f

/-- A full BIST is allowed: MANUFACTURE or SERVICE, in no slice, ticks STOPPED (14 R416). -/
def Dev.bistAllowed (d : Dev) : Bool :=
  (d.nv.lc == .manufacture || d.nv.lc == .service) && !d.role.assigned && d.time.st == .stopped

/-- BIST_REQUEST: a write of RST_BIST_CTRL with GO; reserved encodings leave their fields, and a GO while a BIST runs starts
none (14 R416, Table 14-6; 00 R16). -/
def stepBistRequest (fclk kind target : Nat) (s : State) : State :=
  let s := s.updRst (fun r => { r with fclk := setField (decide (fclk < 7)) r.fclk (BitVec.ofNat 3 fclk),
                                       kind := setField (decide (kind < 10)) r.kind (BitVec.ofNat 8 kind),
                                       target := BitVec.ofNat 12 target })
  if s.dev.rst.busy then s
  else if s.dev.bistAllowed then s.updRst (fun r => { r with busy := true })
  else s.updRst (fun r => { r with denied := true })

/-- Pans under test start anew; what the CC has settled about them stays (14 R417). -/
def State.retestPans (s : State) (target : Nat) : State :=
  s.upd (fun d => { d with pans := ((d.pans.map (·.1)).filter (fun p => target == 0xFFF || p == target)).foldl (fun m p =>
    Sparse.upd Pan.reset m p (fun x =>
      { Pan.reset p with role := x.role, subst := x.subst, vtrim := x.vtrim,
                         arrs := (x.arrs.filter (fun a => a.2.excluded)).map (fun a => (a.1, { Arr.reset a.1 with excluded := true })) })) d.pans })

/-- A full DRAM stack test destroys every copy in DRAM: the KV pool, the staged epoch, the service copy and duties (14 R417,
Caution). -/
def State.loseDram (s : State) : State :=
  let s := s.updWs (fun w => { w with staged := none, stage := 0, state := 0, mixOk := false, copy := none, duties := [], regionCopy := none,
                                      commitDue := false })
  let s := s.updSrv (fun v => { v with prefixTab := [], tenants := [] })
  (s.updFab (fun b => { b with kv := [], poisonBlocks := [],
                               hot := [] })).updDle (fun d => { d with mats := d.mats.filter (fun e => d.sram.any (fun x => x.2 == e.1)), tier2 := [] })

/-- What a full BIST of a KIND does to the blocks under test; after a DRAM stack test the CC reloads as at step 9 (14 R417). -/
def State.afterTest (s : State) (kind target : Nat) : State :=
  if kind = 0 ∨ kind = 1 ∨ kind = 4 ∨ kind = 7 then s.retestPans target
  else if kind = 2 ∨ kind = 6 then s.updDle (fun d => { d.warm with retired := d.retired, online := d.online })
  else if kind = 8 then (s.loseDram.loadStep [] s.dev.ws.loadUs.toNat []).2
  else if kind = 9 then
    s.each ((List.range 6).filter (fun p => target == 0xFFF || p == target)) (fun s p => (s.updPort p (Port.warm p)).startTraining p)
  else s

/-- Effects of failing units by KIND (14 Table 14-4, Table 14-5). Units of a link test are lanes, 16 x port + lane. -/
def State.testFailures (s : State) (kind : Nat) (units : List Nat) : State :=
  if kind = 0 ∨ kind = 1 ∨ kind = 4 ∨ kind = 7 then s.bistUnits 2 units
  else if kind = 2 ∨ kind = 6 then s.bistUnits 4 units
  else if kind = 9 then s.each units (fun s l => s.retireLane (l / 16) (l % 16))
  else match units with
    | [] => s
    | u :: _ => s.resetHold (if kind = 3 then 0x10 else if kind = 5 then 0x11 else 0x23) u

/-- BIST_COMPLETE: the requested BIST ends: COND, or pass or fail with its units and their effects (14 R417 to R419). -/
def stepBistComplete (cond : Bool) (bad : List Nat) (s : State) : State :=
  let r := s.dev.rst
  if !r.busy then s
  else
    let s := s.updRst (fun r => { r with busy := false, done := true,
                                         result := if cond then 2 else if bad.isEmpty then 0 else 1,
                                         unit := if cond then r.unit else BitVec.ofNat 12 (bad.headD 0),
                                         fails := if cond then r.fails else BitVec.ofNat 12 (min 0xFFF bad.length) })
    if cond then s else (s.afterTest r.kind.toNat r.target.toNat).testFailures r.kind.toNat bad

def execRailsSoftStart (railOk : Bool) (s : State) : Host.Outcome State Fault Refusal := .next (stepRailsSoftStart railOk s)
def execCcBoot (facts : BootFacts) (s : State) : Host.Outcome State Fault Refusal := .next (stepCcBoot facts s)
def execBistRequest (fclk kind target : Nat) (s : State) : Host.Outcome State Fault Refusal := .next (stepBistRequest fclk kind target s)
def execBistComplete (cond : Bool) (badUnits : List Nat) (s : State) : Host.Outcome State Fault Refusal :=
  .next (stepBistComplete cond badUnits s)

end Sys2Proof.Machine
end

