-- ==== Sys2Proof/Machine/Dle.lean ====
section
/-! DEFINITION. The digital layer engine: attention over the KV pool and tier-2 matrices (04 R113 to R123; 02 R59, R72,
R73; 11 R342). -/

namespace Sys2Proof.Machine

/-- Online clusters. -/
def Dle.onlineCount (d : Dle) : Nat := ((List.range 4).filter (fun c => d.online.getLsbD c)).length

/-- MAC slots executed: the online clusters share them evenly (04 Table 4-3; entry 14). -/
def State.dleWork (s : State) (macs : Nat) : State :=
  s.updDle (fun d =>
    let n := d.onlineCount
    let cyc := ceilDiv macs (64000 * max 1 n)
    { d with macs := wrapInc d.macs macs,
             busy := (List.range 4).foldl (fun m c =>
               if d.online.getLsbD c then Sparse.upd (fun _ => 0) m c (· + cyc) else m) d.busy })

/-- KV bytes of a cached token in a layer slot: from the hot window where it holds them, else from the pool (04 R115 step 3). -/
def Fab.kvBytes (b : Fab) (slot block bslot : Nat) : List Byte :=
  match b.hot.reverse.find? (fun h => h.block == block && h.bslot == bslot && (Tab.find h.data slot).isSome) with
  | some h => (Tab.find h.data slot).getD []
  | none => (Tab.find b.kv (kvKey block bslot slot)).getD []

/-- A 64-element run of K or V of a cached token: its scale and elements; KV that nothing has written reads 0. -/
def Dev.kvRun (d : Dev) (l : LayerRec) (slot block bslot use run : Nat) : W16 × List Int :=
  let bits := d.kvBits
  let bytes := d.fab.kvBytes slot block bslot
  let (dOff, sOff) := kvPlace l bits use run
  let el : Nat → Int := fun e =>
    if bits = 8 then (bytes.getD (dOff + e) 0).toInt
    else signed 4 (fieldAt (bytes.getD (dOff + e / 2) 0).toNat (4 * (e % 2)) 4)
  (BitVec.ofNat 16 (leAt bytes sOff 2), (List.range 64).map el)

/-- The larger of two FP32 values. -/
def fpMax (x y : W32) : W32 := if fpLt x y then y else x

/-- An INT8 scale of a query head: amax ÷ 127 to nearest even in BF16, at least 2^−126 when amax is nonzero (04 R115). -/
def qScale (xs : List W32) : W16 :=
  let a := amaxOf xs
  if fpOf a = .zero false then 0
  else
    let s := fp32ToBf16 (fpDiv a (fpOfInt 127))
    if s.toNat < 0x80 then 0x80 else s

/-- Integer dot product. -/
def dotInt (x y : List Int) : Int := (List.zipWith (· * ·) x y).sum

/-- The running softmax of one query head: maximum, sum, output (04 R115). -/
structure Online where
  m : Option W32
  l : W32
  out : List W32
deriving DecidableEq, Repr

/-- One 64-token block of online softmax: scores, V scale and elements by token and run (04 R115 steps 6 and 7). -/
def Online.block (o : Online) (scores : List W32) (v : Nat → Nat → W16 × List Int) (runs : Nat) : Online :=
  let mb := scores.foldl fpMax (scores.headD 0)
  let mNew := match o.m with
    | some m => fpMax m mb
    | none => mb
  let o : Online := match o.m with
    | some m => if fpLt m mNew then
          let f := Config.exp32 (fpSub m mNew)
          { o with l := fpMul o.l f, out := o.out.map (fpMul · f) }
        else o
    | none => o
  let ps := scores.map (fun x => Config.exp32 (fpSub x mNew))
  let adds := (List.range runs).flatMap (fun r =>
    let pp := (ps.zipIdx).map (fun e => fpMul e.1 (bf16To32 (v e.2 r).1))
    let mx := amaxOf pp
    let sc : W32 := if fpOf mx = .zero false then 0
      else let x := fpDiv mx (fpOfInt 127); if x.toNat < 0x00800000 then 0x00800000 else x
    let p8 := pp.map (fun x => if sc = 0 then (0 : Int) else clampAt 127 (ratRne (fpRat x / fpRat sc)))
    (List.range 64).map (fun e =>
      fpMul (fpOfInt (dotInt p8 ((List.range pp.length).map (fun t => (v t r).2.getD e 0)))) sc))
  { m := some mNew, l := ps.foldl fpAdd o.l, out := List.zipWith fpAdd o.out adds }

/-- Attention of one query head over its context, in 64-token blocks; none when a score is NaN or an element of q is not
finite (04 R115, 02 R73). -/
def Dev.headAttention (d : Dev) (l : LayerRec) (slot : Nat) (ctx : List (Nat × Nat)) (kvHead : Nat) (q : List W32) : Option (List W16) :=
  let runs := max 1 (l.headDim / 64)
  if !allFinite q then none
  else
    let qs := qScale q
    let qi := q.map (quantOne 127 qs none)
    let score : Nat × Nat → W32 := fun c =>
      let parts := (List.range runs).map (fun r =>
        let (ks, k) := d.kvRun l slot c.1 c.2 1 (kvHead * runs + r)
        fpMul (fpMul (fpOfInt (dotInt ((qi.drop (64 * r)).take 64) k)) (bf16To32 qs)) (bf16To32 ks))
      fpMul (fpMul (fpSum parts) 0x3C000000) (bf16To32 l.softmaxScale)
    let blocks := runsOf 64 ctx.length ctx
    let scored := blocks.map (fun b => (b, b.map score))
    if scored.any (fun b => b.2.any fpIsNan) then none
    else
      let o := scored.foldl (fun (o : Online) b =>
        o.block b.2 (fun t r => let c := b.1.getD t (0, 0); d.kvRun l slot c.1 c.2 2 (kvHead * runs + r)) runs)
        { m := none, l := 0, out := List.replicate (64 * runs) 0 }
      some (o.out.map (fun x => fp32ToBf16 (fpDiv x o.l)))

/-- A DLE fault on a position: a residue mismatch fails it, an uncorrectable SRAM error poisons it, a corrected one only counts
(04 R122, Table 4-7; 11 R342, R344, Table 11-3). -/
def State.dleFault (s : State) (stream index cluster : Nat) : DleFault → State
  | .residue =>
    let s := s.updChk (fun c => { c with residue := c.residue + 1 })
    ((s.logEvent 0x06 4 cluster cluster 0).failEvent 4 cluster 0x06).failWork stream index 1 0x06 4 cluster
  | .ue =>
    let s := s.updDle (fun d => { d with eccUE := true, ueCnt := satInc d.ueCnt })
    ((s.logEvent 0x10 4 cluster 4 0).failEvent 4 cluster 0x10).poisonWork stream index 1
  | .ce => s.updDle (fun d => { d with sramCE := Sparse.upd (fun _ => 0) d.sramCE cluster (· + 1) })

/-- A numeric fault in the DLE (04 R122, 02 R73). -/
def State.dleNumeric (s : State) (stream index : Nat) : State :=
  (s.updDle (fun d => { d with numeric := true, numericCnt := satInc d.numericCnt })).numericFault stream index

/-- Attention of a position in a layer over its context: positions up to its own in a decoder, the whole input in an encoder
(04 R115, R116; 09 R289). -/
def State.runAttention (s : State) (j : AttnJob) : State :=
  match s.dev.ws.layer j.slot with
  | none => s
  | some l =>
    if s.dev.dle.onlineCount = 0 ∨ l.headDim = 0 then s
    else
      let n := if bitAt (s.dev.ws.img.getD {}).flags 3 then j.len else j.index + 1
      let ctx := (List.range n).map (fun i => (j.blocks.getD (i / 64) 4194304, i % 64))
      let heads := j.q.length / l.headDim
      let x := j.q.map bf16To32
      let outs := (List.range heads).map (fun h =>
        s.dev.headAttention l j.slot ctx (h * l.kvHeads / max 1 heads) ((x.drop (h * l.headDim)).take l.headDim))
      let nan := outs.any Option.isNone
      let vals := outs.flatMap (fun o => o.getD (List.replicate l.headDim 0x7FC0))
      let per := heads * l.headDim
      let s := s.dleWork (n * ((if s.dev.kvBits = 8 then per else per / 2) + per))
      let s := s.updDle (fun d => { d with
        attnPos := d.attnPos + 1, attnOut := d.attnOut.filter (fun e => !(e.1 == j.stream && e.2.1 == j.index)) ++ [(j.stream, j.index, vals)] })
      let s := if nan then s.dleNumeric j.stream j.index else s
      let s := match j.fault with
        | some (c, f) => s.dleFault j.stream j.index c f
        | none => s
      if ctx.any (fun c => s.dev.fab.poisonBlocks.contains c.1) then s.poisonWork j.stream j.index 3 else s

/-- Attention that waited runs once no slipped position is left to serve (04 R117). -/
def State.serveHeld (s : State) : State :=
  if s.dev.dle.attnWait.isEmpty then
    (s.updDle (fun d => { d with attnHeld := [] })).each s.dev.dle.attnHeld State.runAttention
  else s

/-- Slipped positions that have left the package, failed or gone, are no longer waited for. -/
def State.dropWaits (s : State) : State :=
  let fab := s.dev.fab
  (s.updDle (fun d => { d with attnWait := d.attnWait.filter (fun e => (fab.work e.1 e.2).isSome) })).serveHeld

/-- DLE_ATTENTION: the DLE computes a position's attention while a cluster is online (04 R115 to R117, R123); slipped positions
are served first, so another's waits for them. -/
def stepDleAttention (stream index slot : Nat) (blocks : List Nat) (len : Nat) (q : List W16) (fault : Option (Nat × DleFault))
    (s : State) : State :=
  let j : AttnJob := { stream, index, slot, blocks, len, q, fault }
  if s.dev.dle.attnWait.isEmpty || s.dev.dle.attnWait.contains (stream, index) then
    ((s.updDle (fun d => { d with attnWait := d.attnWait.filter (fun e => e != (stream, index)) })).runAttention j).serveHeld
  else s.updDle (fun d => { d with attnHeld := d.attnHeld ++ [j] })

/-- Weight format of a matrix descriptor's code (07 Table 7-5). -/
def fmtOf (code : Nat) : Fmt := if code = 0 then .b1 else if code = 1 then .t2 else .q2

/-- Bytes of one array of a TIER2 section: 1,024 rows of 64 bytes, the column scales, the group shifts (07 Table 7-3). -/
def tier2Stride (f : Fmt) : Nat := 65536 + 10 * f.cols

/-- One array's rows, scales and shifts in that form, from a payload: the array's page of its home pan's body, and the scales and
shifts of the SRAM page. -/
def Payload.arrayBytes (c : Payload) (f : Fmt) (home a : Nat) : List Byte :=
  match (bodiesOf c.man c.pages c.position).find? (fun b => b.entry.home == home) with
  | none => []
  | some b => sliceAt ((Tab.find b.arrays a).getD []) 0 65536 ++ sliceAt b.sram (0x4000 + 0x400 * a) (2 * f.cols) ++
      sliceAt b.sram (0x6000 + 0x1000 * a) (8 * f.cols)

/-- What the DLE reads for one array of a layer that the clamp monitor switched: the payload of the epoch in service in DRAM, from the
service copy, else from the layer's own copy (04 R108; 07 R213). -/
def Dev.switchedBytes (d : Dev) (slot : Nat) (f : Fmt) (p a : Nat) : List Byte :=
  let home := if (d.pan p).role == .spareServing then (d.pan p).subst.toNat else p
  match d.ws.copy, Tab.find d.ws.layerCopy slot with
  | some c, _ => c.arrayBytes f home a
  | none, some c => c.arrayBytes f home a
  | none, none => []

/-- Exact outputs of a matrix in tier-2 form on one A8 vector, scaled as R56; `src k` is its k-th array, by column block, then row
block. A wide layer's groups take the shifts of their even blocks (02 R50; 04 R118). -/
def tier2Apply (m : MatDesc) (wide : Bool) (src : Nat → List Byte) (vs : W16) (acts : List Byte) : List W32 :=
  let f := fmtOf m.fmt
  let rb := max 1 (ceilDiv m.rows 1024)
  let cfg : ArrCfg := { fmt := f, mode := .compute, wide }
  let bit : Nat → Nat → Nat → Nat := fun k r c => fieldAt ((src k).getD (64 * r + c / 8) 0).toNat (c % 8) 1
  let block : Nat → Nat := fun g => if wide then 2 * g else g
  let shift : Nat → Nat → Nat → Nat := fun k j g =>
    fieldAt ((src k).getD (65536 + 2 * f.cols + 8 * j + block g / 2) 0).toNat (4 * (block g % 2)) 4
  let scale : Nat → Nat → W16 := fun k j => BitVec.ofNat 16 (leAt (src k) (65536 + 2 * j) 2)
  (List.range m.cols).map (fun o =>
    let cb := o / f.cols
    let j := o % f.cols
    let total := (List.range rb).foldl (fun (t : W32) i =>
      t + exactSum (bit (cb * rb + i)) cfg ((acts.drop (1024 * i)).take 1024) (shift (cb * rb + i) j) j) 0
    scaleSum total (scale (cb * rb) j) vs)

/-- Outputs of a DLE matrix on one vector: rows of INT8, E4M3, E5M2 or BF16 weights, then a BF16 scale per column; INT8 products
sum in INT32, the others in FP32 from the first row on (02 R72; 04 Table 4-4; 07 Table 7-3; entry 111). -/
def dleApply (m : MatDesc) (sect : List Byte) (vs : W16) (acts : List Byte) : List W32 :=
  let size := if m.fmt = 0x13 then 2 else 1
  let scale : Nat → W16 := fun j => BitVec.ofNat 16 (leAt sect (size * m.rows * m.cols + 2 * j) 2)
  let real : List Byte → Nat → W32 := fun l i =>
    if m.fmt = 0x13 then bf16To32 (BitVec.ofNat 16 (leAt l (2 * i) 2))
    else if m.fmt = 0x11 then e4m3.decode (l.getD i 0) else e5m2.decode (l.getD i 0)
  (List.range m.cols).map (fun j =>
    if m.fmt = 0x10 then
      scaleSum (BitVec.ofInt 32 ((List.range m.rows).map (fun i => (acts.getD i 0).toInt * (sect.getD (i * m.cols + j) 0).toInt)).sum)
        (scale j) vs
    else fpMul (fpMul (fpSum ((List.range m.rows).map (fun i => fpMul (real acts i) (real sect (i * m.cols + j))))) (bf16To32 (scale j)))
      (bf16To32 vs))

/-- A matrix's descriptor in the slot's layer record (07 R196, R197). -/
def Dev.descOf (d : Dev) (slot name : Nat) : Option MatDesc :=
  match d.ws.layer slot with
  | some l => l.mats.find? (fun m => m.name == name)
  | none => none

/-- Outputs of one matrix for the positions of a pass; none when it is not on the DLE (04 R108, R114, R118). -/
def Dev.dleOutputs (d : Dev) (slot : Nat) (m : MatDesc) (arrays : List (Nat × Nat)) (acts : List (Nat × Nat × W16 × List Byte)) :
    Option (List DleOut) :=
  let out : (W16 → List Byte → List W32) → List DleOut := fun f => acts.map (fun a => ⟨slot, m.name, a.1, a.2.1, f a.2.2.1 a.2.2.2⟩)
  if m.place = 1 then (Tab.find d.dle.mats m.sect).map (fun x => out (dleApply m x.bytes))
  else if m.place = 2 then
    let f := fmtOf m.fmt
    (Tab.find d.dle.tier2 m.sect).map (fun x =>
      out (tier2Apply m (d.wideLayer slot) (fun k => sliceAt x.bytes (k * tier2Stride f) (tier2Stride f))))
  else if (d.clamp slot).placed = .dle ∧ !arrays.isEmpty then
    let f := fmtOf m.fmt
    some (out (tier2Apply m (d.wideLayer slot) (fun k => match arrays[k]? with
      | some (p, a) => d.switchedBytes slot f p a
      | none => [])))
  else none

/-- DLE_TIER2_PASS: a matrix on the DLE is read once and applied to every position of the pass; faults and outputs that are not
finite are reported for the positions (04 R114, R118, R119, R122). A matrix in arrays is read only while its layer runs on the
DLE (04 R108). -/
def stepDleTier2Pass (slot name : Nat) (arrays : List (Nat × Nat)) (acts : List (Nat × Nat × W16 × List Byte))
    (fault : Option (Nat × DleFault)) (s : State) : State :=
  match s.dev.descOf slot name with
  | none => s
  | some m =>
    match (if s.dev.dle.onlineCount = 0 then none else s.dev.dleOutputs slot m arrays acts) with
    | none => s
    | some outs =>
      let s := s.dleWork (m.rows * m.cols * acts.length)
      let s := s.updDle (fun d => { d with
        tier2Passes := if m.place = 1 then d.tier2Passes else d.tier2Passes + 1,
        outs := d.outs.filter (fun e => !outs.any (fun o => o.slot == e.slot && o.name == e.name && o.stream == e.stream && o.index == e.index)) ++ outs })
      let s := s.each (outs.filter (fun o => !allFinite o.out)) (fun s o => s.dleNumeric o.stream o.index)
      match fault with
      | some (c, .ce) => s.dleFault 0 0 c .ce
      | some (c, f) => s.each acts (fun s a => s.dleFault a.1 a.2.1 c f)
      | none => s

def execDleAttention (stream index slot : Nat) (blocks : List Nat) (len : Nat) (q : List W16) (fault : Option (Nat × DleFault)) (s : State) :
    Host.Outcome State Fault Refusal :=
  .next (stepDleAttention stream index slot blocks len q fault s)
def execDleTier2Pass (slot name : Nat) (arrays : List (Nat × Nat)) (acts : List (Nat × Nat × W16 × List Byte)) (fault : Option (Nat × DleFault)) (s : State) :
    Host.Outcome State Fault Refusal :=
  .next (stepDleTier2Pass slot name arrays acts fault s)

end Sys2Proof.Machine
end

