-- ==== Sys2Proof/Machine/Power.lean ====
section
/-! DEFINITION. FURL, trips and supply faults, islands, the RTC, and the management path's writes and records (15 R423, R428,
R429, R436 to R443). -/

namespace Sys2Proof.Machine

/-- FURL is entered: the power stage stops, every block outside the crow's nest is off and starts again from its reset values;
the last snapshot stays visible (15 R423, Table 15-1; 01 R39). -/
def State.enterFurl (s : State) : State :=
  let c := s.dev.cn
  let cause := s.dev.rst.cause
  (s.upd (fun d => let d' := d.cold cause
                   { d' with rst := { d'.rst with step := 0, furl := true }, cn := c })).dropHold

/-- FURL that is due at a boundary: only in no slice and with ticks STOPPED, else refused with REASON 0x3 (15 R423). -/
def State.applyFurl (s : State) : State :=
  if !s.dev.hk.furlDue then s
  else if !s.dev.role.assigned && s.dev.time.st == .stopped then s.enterFurl
  else s.updHk (fun h => { h with furlDue := false, refused := true, reason := 3 })

def stepFurlRequest (s : State) : State := s.updHk (fun h => { h with furlDue := true })

/-- Management reaches blocks outside the crow's nest: neither in FURL nor in reset-hold, with AUX present (15 R441). -/
def Dev.awake (d : Dev) : Bool := d.cn.auxOk && !d.rst.furl && d.cn.holdCode == 0

/-- MGMT_FURL: as a PF0 request (15 R423, R441). -/
def stepMgmtFurl (s : State) : State := if s.dev.awake then stepFurlRequest s else s

/-- WAKE_N or a wake message: leaves FURL, and steps 2 to 10 run; no effect after a trip or a VIN fault, or outside FURL (15
R423, Table 15-4). -/
def stepWakeN (s : State) : State :=
  if s.dev.rst.furl && s.dev.cn.auxOk && !s.dev.cn.tripped && !s.dev.cn.vinFault then
    s.updRst (fun r => { r with furl := false, step := 2, warmSeq := false })
  else s

def stepMgmtWake (s : State) : State := stepWakeN s

/-- A trip record is written, the newest over the oldest (15 R437, Table 15-3). -/
def State.tripRecord (s : State) (kind sensor : Nat) (temp : Int) : State :=
  let c := s.dev.cn
  let r : TripRec := { kind, sensor, temp, vin := (Sparse.get Chan.reset s.dev.hk.chans 62).value.toNat, rtc := c.rtc, tick := c.tickLast,
                       counts := (List.range 9).map (fun i => (Sparse.get (fun _ => 0) c.counts i).toNat) }
  s.updNv (fun n => { n with trips := Sparse.set TripRec.reset n.trips (n.tripCount % 64) r, tripCount := n.tripCount + 1,
                             tripSensor := BitVec.ofNat 8 sensor })

/-- THERMAL_TRIP: a trip sensor at 115 °C; the temperature is in 1/16 °C (15 R436). -/
def stepThermalTrip (sensor : Nat) (temp : Int) (s : State) : State :=
  if !s.dev.cn.auxOk || s.dev.cn.tripped then s
  else
    let s := (s.tripRecord 1 sensor temp).enterFurl
    (s.updCn (fun c => { c with tripped := true, tripCmp := true })).raiseIbi 0

/-- VIN_FAULT: VIN outside 38 V to 62 V for 10 µs; what the hottest trip sensor then reads is a free value (15 R439, Table 15-3;
entry 8). -/
def stepVinFault (s : State) : State :=
  if !s.dev.cn.auxOk || s.dev.cn.vinFault then s
  else
    let (v, s) := s.take32
    let s := (s.tripRecord 2 0xFF (signed 16 v.toNat)).enterFurl
    (s.updCn (fun c => { c with vinFault := true, vinOk := false })).raiseIbi 1

/-- A write of HK_ISL_CTRL with GO (15 R429, Table 15-5). -/
def State.islandGo (s : State) (op i : Nat) : State :=
  s.updHk (fun h => { h with islOp := BitVec.ofNat 2 op, islSel := BitVec.ofNat 4 i, islDue := h.islDue ++ [(op, i % 16)] })

def stepIslandFurlRetain (i : Nat) (s : State) : State := s.islandGo 1 i
def stepIslandFurlDark (i : Nat) (s : State) : State := s.islandGo 2 i
def stepIslandUnfurl (i : Nat) (s : State) : State := s.islandGo 3 i

/-- Arrays and trim stores of an island are lost (15 Table 15-2a). -/
def State.loseIsland (s : State) (i : Nat) : State :=
  s.upd (fun d => { d with pans := ((d.pans.map (·.1)).filter (fun p => Pan.island p == i)).foldl (fun m p => Sparse.upd Pan.reset m p Pan.lost) d.pans })

def State.refuseIsland (s : State) (reason : Nat) : State :=
  s.updHk (fun h => { h with refused := true, reason := BitVec.ofNat 4 reason })

/-- A furl request starts at the boundary (15 R429). A furl of an island whose furl runs has no effect of its own. -/
def State.furlIsland (s : State) (dark : Bool) (i : Nat) : State :=
  let x := s.dev.isl i
  let goDark : State → State := fun s => (s.updIsl i (fun x => { x with st := .furlingDark })).loseIsland i
  if s.dev.uses 7 i then s.refuseIsland 1
  else if x.pending then s.updIsl i (fun x => { x with pending := false })
  else match x.st with
    | .unfurling _ => s.refuseIsland 2
    | .up => if dark then goDark s else s.updIsl i (fun x => { x with st := .furlingRetain })
    | .retain => if dark then goDark s else s
    | .dark => s
    | .furlingRetain => s
    | .furlingDark => s

/-- An unfurl starts at the boundary, or waits behind a furl that runs (15 R429). -/
def State.unfurlIsland (s : State) (i : Nat) : State :=
  match (s.dev.isl i).st with
  | .up => s
  | .unfurling _ => s
  | .furlingRetain => s.updIsl i (fun x => { x with pending := true })
  | .furlingDark => s.updIsl i (fun x => { x with pending := true })
  | .retain => if s.dev.ws.trimFault then s else s.updIsl i (fun x => { x with st := .unfurling false, pending := false })
  | .dark => if s.dev.ws.trimFault then s else s.updIsl i (fun x => { x with st := .unfurling true, pending := false })

/-- Island requests due at a boundary, and unfurls that waited for a furl's end (15 R429). -/
def State.applyIslands (s : State) : State :=
  let due := s.dev.hk.islDue
  let s := (s.updHk (fun h => { h with islDue := [] })).each due (fun s e =>
    if e.1 = 3 then s.unfurlIsland e.2 else s.furlIsland (e.1 == 2) e.2)
  s.each (List.range 16) (fun s i =>
    if (s.dev.isl i).pending && ((s.dev.isl i).st == .retain || (s.dev.isl i).st == .dark) then s.unfurlIsland i else s)

/-- ISLAND_FURL_COMPLETE: after 10 µs or 5 µs (15 Table 15-2a). -/
def stepIslandFurlComplete (i : Nat) (s : State) : State :=
  match (s.dev.isl i).st with
  | .furlingRetain => s.updIsl i (fun x => { x with st := .retain })
  | .furlingDark => s.updIsl i (fun x => { x with st := .dark })
  | _ => s

/-- The taps of an island's pans jump to their targets at the next boundary (06 R180). -/
def State.jumpTaps (s : State) (i : Nat) : State :=
  s.upd (fun d => { d with pans := ((d.pans.map (·.1)).filter (fun p => Pan.island p == i)).foldl (fun m p =>
    Sparse.upd Pan.reset m p (fun q => { q with tapJump := true })) d.pans })

/-- Trim stores and arrays of an island that was DARK come back (15 R428; 06 R170, R171; 07 R213). -/
def State.refillIsland (s : State) (i : Nat) : State :=
  let s := stepTrimStoreLoad s
  match (if s.dev.ws.trimFault then none else s.dev.ownPayload) with
  | some (p, _) =>
    if s.dev.ws.loaded then
      s.loadBodies ((bodiesOf p.man p.pages p.position).filter (fun b => match s.dev.serving b.entry.home with
        | some q => Pan.island q == i
        | none => false))
    else s
  | none => s

/-- ISLAND_UNFURL_COMPLETE: from RETAIN after 20 µs; from DARK once trims and arrays are back (15 R428; 06 R180). -/
def stepIslandUnfurlComplete (i : Nat) (s : State) : State :=
  match (s.dev.isl i).st with
  | .unfurling fromDark =>
    let s := s.updIsl i (fun x => { x with st := .up })
    (if fromDark then s.refillIsland i else s).jumpTaps i
  | _ => s

/-- RTC_SET: CN_RTC_NEW is loaded, and the fraction cleared, at the next edge of the 32.768 kHz clock (15 R440). -/
def stepRtcSet (s : State) : State := s.updCn (fun c => { c with rtcDue := true })

/-- MGMT_DENY_WRITE (11 R358, R359; 15 R441). -/
def stepMgmtDenyWrite (entry : Nat) (v : W32) (s : State) : State := if s.dev.awake then stepDenyWrite entry v s else s

/-- A write of CN_REEF_FLOOR: 0 to 8; other values are reserved (15 Table 15-6, R443). -/
def State.writeReefFloor (s : State) (v : W32) : State :=
  s.updCn (fun c => { c with reefFloor := setField (decide (fieldAt v.toNat 0 4 ≤ 8)) c.reefFloor (BitVec.ofNat 4 (fieldAt v.toNat 0 4)) })

def stepMgmtReefFloorWrite (v : W32) (s : State) : State := if s.dev.cn.auxOk then s.writeReefFloor v else s

/-- A write of CN_I3C_CFG (15 Table 15-6, R443). -/
def State.writeI3cCfg (s : State) (v : W32) : State :=
  s.updCn (fun c => { c with smbus := v.getLsbD 31, fast := v.getLsbD 30, ibiEn := BitVec.ofNat 3 (fieldAt v.toNat 8 3),
                             i3cAddr := BitVec.ofNat 7 (fieldAt v.toNat 0 7) })

def stepMgmtI3cCfgWrite (v : W32) (s : State) : State := if s.dev.cn.auxOk then s.writeI3cCfg v else s

/-- The 64 bytes of a trip record; one that nothing has written is zeros (15 Table 15-3, R437; entry 6). -/
def TripRec.bytes (r : TripRec) : List Byte :=
  if r.kind = 0 then sliceAt [] 0 64
  else
    let b := leBytes 1 r.kind ++ leBytes 1 r.sensor ++ leBytes 2 (twos 16 r.temp) ++ leBytes 2 r.vin ++ leBytes 2 0 ++ leBytes 8 r.rtc ++
      leBytes 8 r.tick ++ (List.range 9).flatMap (fun i => leBytes 2 (r.counts.getD i 0)) ++ sliceAt [] 0 18
    b ++ leBytes 4 (crc32c b).toNat

/-- CN_HOLD_CODE (14 Table 14-7). -/
def Cn.holdWord (c : Cn) : Nat := c.holdArg.toNat * 2 ^ 16 + c.holdCode.toNat

/-- MGMT_TRIP_RECORD_READ: trip record i and CN_HOLD_CODE (15 R441). -/
def stepMgmtTripRecordRead (i : Nat) (s : State) : State :=
  if s.dev.cn.auxOk && decide (i < 64) then
    s.emit (.mgmt s.snapTick ((Sparse.get TripRec.reset s.dev.nv.trips i).bytes ++ leBytes 4 s.dev.cn.holdWord))
  else s

def execFurlRequest (s : State) : Host.Outcome State Fault Refusal := .next (stepFurlRequest s)
def execMgmtFurl (s : State) : Host.Outcome State Fault Refusal := .next (stepMgmtFurl s)
def execWakeN (s : State) : Host.Outcome State Fault Refusal := .next (stepWakeN s)
def execMgmtWake (s : State) : Host.Outcome State Fault Refusal := .next (stepMgmtWake s)
def execThermalTrip (sensor : Nat) (temp : Int) (s : State) : Host.Outcome State Fault Refusal := .next (stepThermalTrip sensor temp s)
def execVinFault (s : State) : Host.Outcome State Fault Refusal := .next (stepVinFault s)
def execIslandFurlRetain (isl : Nat) (s : State) : Host.Outcome State Fault Refusal := .next (stepIslandFurlRetain isl s)
def execIslandFurlDark (isl : Nat) (s : State) : Host.Outcome State Fault Refusal := .next (stepIslandFurlDark isl s)
def execIslandUnfurl (isl : Nat) (s : State) : Host.Outcome State Fault Refusal := .next (stepIslandUnfurl isl s)
def execIslandFurlComplete (isl : Nat) (s : State) : Host.Outcome State Fault Refusal := .next (stepIslandFurlComplete isl s)
def execIslandUnfurlComplete (isl : Nat) (s : State) : Host.Outcome State Fault Refusal := .next (stepIslandUnfurlComplete isl s)
def execRtcSet (s : State) : Host.Outcome State Fault Refusal := .next (stepRtcSet s)
def execMgmtDenyWrite (entry : Nat) (value : W32) (s : State) : Host.Outcome State Fault Refusal := .next (stepMgmtDenyWrite entry value s)
def execMgmtReefFloorWrite (value : W32) (s : State) : Host.Outcome State Fault Refusal := .next (stepMgmtReefFloorWrite value s)
def execMgmtI3cCfgWrite (value : W32) (s : State) : Host.Outcome State Fault Refusal := .next (stepMgmtI3cCfgWrite value s)
def execMgmtTripRecordRead (i : Nat) (s : State) : Host.Outcome State Fault Refusal := .next (stepMgmtTripRecordRead i s)

end Sys2Proof.Machine
end

