-- ==== Sys2Proof/Machine/Clamp.lean ====
section
/-! DEFINITION. The layer clamp monitor: window close, policy actions, layer copies, RESTORE; the digital-port budget
(04 R102, R104, R107, R108, R125). -/

namespace Sys2Proof.Machine

/-- Slots that hold a layer. -/
def layerSlots : List Nat := List.range 16

/-- CLAMP_WINDOW_CLOSE: at the end of a window [1024n, 1024n + 1024) the counts move to the registers; a slot above
THRESH is HIGH, logs its event, and starts its policy's action unless one runs (04 R107, R108). A layer that is already switched,
whatever POLICY says by then, starts no action until its RESTORE (DESIGN CHOICE, entry 112). -/
def stepClampWindowClose (s : State) : State :=
  let k := s.tick
  if k % 1024 = 0 ∧ s.dev.fab.windowTick < k then
    let s := s.updFab (fun b => { b with windowTick := k })
    s.each layerSlots (fun s l =>
      let c := s.dev.clamp l
      let high := c.valid && decide (c.thresh.toNat * c.cntVec.toNat < c.cntClamped.toNat * 65536)
      let s := s.updClamp l (fun c => { c with vec := c.cntVec, clamped := c.cntClamped, cntVec := 0, cntClamped := 0, high := c.high || high })
      if high then
        let s := s.logEvent 0x31 0 0 l c.cntClamped.toNat
        if c.actionDue.isNone && !c.copying && c.placed == .image && (c.policy == 1 || c.policy == 2) then
          s.updClamp l (fun c => { c with actionDue := some (c.policy, k + 2), placed := .running })
        else s
      else s)
  else s

/-- Changes WIDE of arrays, at a boundary (03 R77). -/
def State.setWide (s : State) (l : List (Nat × Nat)) (w : Bool) : State :=
  s.each l (fun s pa => s.updArr pa.1 pa.2 (fun x => { x with cfg := { x.cfg with wide := w } }))

/-- CLAMP_POLICY_ACTION: from the first boundary at least 2 ticks after the window's, NARROW clears WIDE in the layer's
arrays and turns to the narrow hop tables (entry 32); DLE uses the service copy in place, or waits for its copy (04 R108, Table 4-2). -/
def stepClampPolicyAction (slot : Nat) (s : State) : State :=
  match (s.dev.clamp slot).actionDue with
  | none => s
  | some (pol, t) =>
    if s.tick < t || s.dev.ws.state == 5 then s
    else if pol = 1 then
      let l := (s.dev.slotArrays slot).filter (fun pa => (s.arr pa.1 pa.2).cfg.wide)
      ((s.setWide l false).turnBank (some slot)).updClamp slot (fun c => { c with actionDue := none, placed := .narrow, narrowed := l })
    else if s.dev.ws.copy.isSome then s.updClamp slot (fun c => { c with actionDue := none, placed := .dle })
    else s.updClamp slot (fun c => { c with actionDue := none, copying := true })

/-- DLE_LAYER_COPY_COMPLETE: the copy of the payload in service from the weight store into DRAM is complete; verified, the layer
runs as tier 2 (04 R108). A copy that does not verify leaves the layer in its arrays. -/
def stepDleLayerCopyComplete (slot : Nat) (verified : Bool) (s : State) : State :=
  if (s.dev.clamp slot).copying then
    match (if verified then s.dev.ws.store.find? (fun p => p.own && !p.pending && decide (p.epoch = s.dev.ws.epoch)) else none) with
    | some p =>
      (s.updWs (fun w => { w with layerCopy := Tab.put w.layerCopy slot { p with phys := [] } })).updClamp slot
        (fun c => { c with copying := false, placed := .dle })
    | none => s.updClamp slot (fun c => { c with copying := false, placed := .image })
  else s

/-- CLAMP_RESTORE: FAB_CLAMPl_CFG.RESTORE = 1; the layer returns at the next boundary (04 R125). -/
def stepClampRestore (slot : Nat) (s : State) : State := s.updClamp slot (fun c => { c with restoreDue := true })

/-- RESTOREs that are due: image placement and width (04 R125). One written while an action or its copy runs has no switched layer
to return, and is spent (DESIGN CHOICE, entry 112). -/
def State.applyRestores (s : State) : State :=
  s.each layerSlots (fun s l =>
    let c := s.dev.clamp l
    if c.restoreDue then
      let s := if c.placed == .narrow then (s.setWide c.narrowed true).turnBank none else s
      let s := s.updWs (fun w => { w with layerCopy := Tab.del w.layerCopy l })
      s.updClamp l (fun c => { c with restoreDue := false, narrowed := [],
                                      placed := if c.placed == .narrow || c.placed == .dle then .image else c.placed })
    else s)

/-- The reservation and the spot reads in force (04 R102, R104). -/
def resEffOf (reserve t : Nat) : Nat := min reserve ((t - 2048) / 64)
def nSpotOf (resEff t : Nat) : Nat := min 8 ((t - 1024 - 64 * resEff) / 1024)

/-- RESERVE, the period and the spot key take effect at a boundary (04 R102, R104, R125). -/
def State.applyBudget (s : State) : State :=
  let t := 2000 * s.dev.time.inForce
  s.updFab (fun b =>
    let r := resEffOf b.reserve.toNat t
    { b with resEff := r, nSpot := nSpotOf r t, spotKeyInForce := b.spotKey })

def execClampWindowClose (s : State) : Host.Outcome State Fault Refusal := .next (stepClampWindowClose s)
def execClampPolicyAction (slot : Nat) (s : State) : Host.Outcome State Fault Refusal := .next (stepClampPolicyAction slot s)
def execDleLayerCopyComplete (slot : Nat) (verified : Bool) (s : State) : Host.Outcome State Fault Refusal :=
  .next (stepDleLayerCopyComplete slot verified s)
def execClampRestore (slot : Nat) (s : State) : Host.Outcome State Fault Refusal := .next (stepClampRestore slot s)

end Sys2Proof.Machine
end

