-- ==== Sys2Proof/Machine/Hk.lean ====
section
/-! DEFINITION. Housekeeping: conversions, the round's end with the reef loop, the FIFO and triggers (15 R424 to R435), and
digital access to one array row (03 R92, R93, R97, R98). -/

namespace Sys2Proof.Machine

def State.updChan (s : State) (c : Nat) (f : Chan → Chan) : State :=
  s.updHk (fun h => { h with chans := Sparse.upd Chan.reset h.chans c f })

/-- A result finds the FIFO full and is lost, or enters, with GAP when results were lost before it (15 R435). -/
def State.pushResult (s : State) (trig stale : Bool) (c : Nat) (v : BitVec 16) : State :=
  s.updHk (fun h =>
    if 64 ≤ h.fifo.length then { h with overflow := true, lostN := satInc h.lostN, gap := true }
    else { h with fifo := h.fifo ++ [⟨h.gap, trig, stale, BitVec.ofNat 6 c, v⟩], gap := false })

/-- A temperature reaches the pans of an island (06 R176). -/
def State.islandTemp (s : State) (i : Nat) (t : Int) (subst : Bool) : State :=
  s.each (islandPans i) (fun s p => s.updPan p (fun q => q.setTemp t subst))

/-- A diode reading goes to its island's interpolators, and, while diodes of the die half are faulty, to theirs; a STALE
reading moves none. With no good reading in the die half the pans keep their temperature and TEMP_SUBST (06 R176, R180; entry 120). -/
def State.feedTemps (s : State) (c : Nat) : State :=
  let x := s.dev.chan c
  let s := if x.fault || x.stale then s else s.islandTemp c x.int false
  s.each ((upFrom (8 * (c / 8)) 8).filter (fun j => (s.dev.chan j).fault && !(s.dev.chan j).stale)) (fun s j =>
    match s.dev.substTemp j with
    | some t => s.islandTemp j t true
    | none => s)

/-- An island rail outside ±5 % of its set point: SUPPLY_FAULT, and a deny entry for the island (15 R432). -/
def State.checkRail (s : State) (c : Nat) : State :=
  let i := c - 40
  let x := s.dev.chan c
  let sp := Config.railSetPoint i (match (s.dev.isl i).st with
    | .up => 0
    | .furlingRetain => 1
    | .furlingDark => 2
    | .retain => 3
    | .dark => 4
    | .unfurling _ => 5)
  if !x.fault && !x.stale && decide ((sp : Int) < 20 * ((x.int - sp).natAbs : Int)) then
    (s.updHk (fun h => { h with supplyFault := true })).dueDeny 7 i
  else s

/-- A word of a pan's trim store, read for a new temperature, holds an error: one bit is corrected; an uncorrectable one takes the
pan's arrays out of COMPUTE until the CC has reloaded the store (06 R170; 11 Table 11-3). -/
def State.trimError (s : State) (p ecc : Nat) : State :=
  if ecc = 2 ∧ (s.pan p).trimLoaded = true then (s.updPan p (fun q => { q with trimLoaded := false })).logEvent 0x10 2 p 2 0 else s

/-- HK_CONVERSION_COMPLETE: a channel's conversion, regular, re-verifying or triggered. A value is good when the conversion
succeeded and, for a diode, lies in −40 °C to 150 °C; a round's diode reading moves the island's taps. `trimEcc` names pans of the
island whose trim store holds an error: 1 corrected, 2 not (15 R430, R431, R435; 06 R170, R176; entry 29). -/
def stepHkConversionComplete (c : Nat) (v : Int) (good triggered : Bool) (trimEcc : List (Nat × Nat)) (s : State) : State :=
  if 64 ≤ c then s
  else
    let valid := good && (decide (16 ≤ c) || (decide (-640 ≤ v) && decide (v ≤ 2400)))
    let bits := BitVec.ofInt 16 v
    if triggered then
      if s.dev.hk.running = some true ∧ s.dev.hk.trigChan.toNat = c then
        let s := s.updHk (fun h => { h with running := none })
        let s := if (s.dev.chan c).stale then s
          else s.updChan c (fun x => { x with value := if good then bits else x.value, fault := !valid })
        let s := s.pushResult true (s.dev.chan c).stale c (if good then bits else (s.dev.chan c).value)
        if 40 ≤ c ∧ c < 56 then s.checkRail c else s
      else s
    else
      let s := if s.dev.hk.reverifies c then s.updChan c (fun x => { x with stale := true, fault := x.fault || !valid })
        else s.updChan c (fun x => { x with stale := false, value := if good then bits else x.value, fault := !valid })
      let x := s.dev.chan c
      let s := if s.dev.hk.mask.getLsbD c then s.pushResult false x.stale c x.value else s
      if c < 16 then (s.each (trimEcc.filter (fun e => Pan.island e.1 == c)) (fun s e => s.trimError e.1 e.2)).feedTemps c
      else if 40 ≤ c ∧ c < 56 then s.checkRail c else s

/-- L_n in units of 10 µW: (16 − n) ÷ 16 × 650 W (15 R424). -/
def reefLimit (n : Nat) : Nat := if n = 9 then 0 else (16 - n) * 4062500

/-- The loop of R425 over round power p, step n, tick t, slot fraction f and stretch request s. -/
def reefLoop (p n t f s : Nat) : Nat × Nat :=
  if reefLimit n < p then (if 8 < f then (f - 1, s) else (f, min (s + t / 16) t))
  else if p < reefLimit (n + 1) then (if 0 < s then (f, s - t / 16) else if f < 16 then (f + 1, s) else (f, s))
  else (f, s)

/-- The thermal step after a round: up while a channel is at its limit, down when all are 5 °C below (15 R426). -/
def Dev.nextTherm (d : Dev) : Nat :=
  let ok : Nat → Bool := fun c => !(d.chan c).fault
  let die := ((List.range 26).filter ok).map (fun c => (d.chan c).int)
  let dram := ((upFrom 26 6).filter ok).map (fun c => (d.chan c).int)
  let dl : Int := 16 * d.hk.dieLimit.toNat
  let ml : Int := 16 * d.hk.dramLimit.toNat
  if die.any (fun x => decide (dl ≤ x)) || dram.any (fun x => decide (ml ≤ x)) then min 8 (d.hk.therm + 1)
  else if die.all (fun x => decide (x < dl - 80)) && dram.all (fun x => decide (x < ml - 80)) then d.hk.therm - 1
  else d.hk.therm

/-- Round power VIN × IIN in units of 10 µW (15 R425). -/
def Dev.roundPower (d : Dev) : Nat := ((d.chan 62).int * (d.chan 63).int).toNat

/-- HK_ROUND_END: lane shares, the next lanes' margining, the loop under the step in force during the round, the thermal step, the step in force from
now on, and f for the head (15 R424 to R426; entry 30). -/
def stepHkRoundEnd (s : State) : State :=
  let s := s.laneShares.beginMargining
  let h := s.dev.hk
  let now := s.dev.time.mems
  let (f, st) := reefLoop s.dev.roundPower h.reef (2000 * s.dev.time.inForce) h.frac h.stretch
  let therm := s.dev.nextTherm
  let step := max therm (max h.floor.toNat s.dev.cn.reefFloor.toNat)
  let s := s.updHk (fun h => { h with frac := f, stretch := st, therm, reef := step, round := h.round + 1, roundStart := now })
  match s.dev.role.head with
  | some q =>
    let r := s.dev.ownRate
    if s.dev.isHead then s else s.emit (.message q 0x08 [0x11, s.dev.role.pkg.toNat, f, r.phi, b2n r.narrow, r.dleWeights])
  | none => s

/-- HEAD_FRACTION_UPDATE: a member's report; f_min counts it from the next boundary's slots on (15 R427). The member's DLE rate and
what clamp actions switched there come with it (09 Table 9-5, R299; entry 19). -/
def stepHeadFractionUpdate (pkg f : Nat) (rate : RateReport) (s : State) : State :=
  if 8 ≤ f ∧ f ≤ 16 then
    s.updLnk (fun l => { l with members := l.members.map (fun m => if m.pkg = pkg then { m with frac := f, rate } else m) })
  else s

/-- HK_TRIGGER: with triggers enabled, the triggered channel's conversion starts, or the trigger is dropped and counted
(15 R433, R434). -/
def stepHkTrigger (busy : Bool) (s : State) : State :=
  if !s.dev.hk.trigEn then s
  else if busy || s.dev.hk.running.isSome then s.updHk (fun h => { h with trigMiss := h.trigMiss + 1 })
  else s.updHk (fun h => { h with running := some true })

/-- HK_FIFO_DATA as it reads; 0 with the FIFO empty (15 Table 15-5). -/
def Hk.fifoWord (h : Hk) : W32 :=
  match h.fifo with
  | [] => 0
  | r :: _ => BitVec.ofNat 32 (2 ^ 31 + b2n r.gap * 2 ^ 30 + b2n r.trig * 2 ^ 29 + b2n r.stale * 2 ^ 28 + r.chan.toNat * 2 ^ 22 + r.value.toNat)

/-- A read of HK_FIFO_DATA removes the oldest entry (15 R435). An entry that came in this FAB cycle is kept for the next read (00
R18). -/
def State.readFifo (s : State) : W32 × State :=
  let seen : Hk := { s.dev.hk with fifo := s.dev.hk.fifo.filter (fun r => s.begun.dev.hk.fifo.contains r) }
  (seen.fifoWord, if seen.fifo.isEmpty then s else s.updHk (fun h => { h with fifo := h.fifo.drop 1 }))

def stepHkFifoDataRead (s : State) : State :=
  let (v, s) := s.readFifo
  s.emit (.readData v)

/-- Digital access is served in MANUFACTURE and SERVICE only (03 R98). -/
def Dev.digAllowed (d : Dev) : Bool := d.nv.lc == .manufacture || d.nv.lc == .service

/-- A GO write of PAN_DIG_CTRL: ignored while BUSY, denied outside MANUFACTURE and SERVICE, else the access starts; a write
copies the data registers (03 R97, R98). -/
def State.digGo (s : State) (p : Nat) (write : Bool) (a row : Nat) : State :=
  if (s.pan p).digRun.isSome then s
  else s.updPan p (fun q =>
    let q := { q with digOp := write, digArr := BitVec.ofNat 3 a, digRow := BitVec.ofNat 10 row }
    if s.dev.digAllowed then { q with digRun := some (write, a % 8, row % 1024, if write then Memory.readBytes q.digData 0 64 else []) }
    else { q with digDenied := true, digDone := true })

/-- PAN_DIG_COMPLETE: the access takes its port cycle; a write to an array outside DIGITAL mode is discarded (03 R93, R97). -/
def stepPanDigComplete (p : Nat) (s : State) : State :=
  match (s.pan p).digRun with
  | none => s
  | some (write, a, row, data) =>
    let s := s.updPan p (fun q => { q with digRun := none, digDone := true })
    if !write then
      s.updPan p (fun q => { q with digData := Memory.writeBytes q.digData 0 (Memory.readBytes (q.arr a).cells (64 * row) 64) })
    else if (s.arr p a).mode == .digital then s.updArr p a (fun x => { x with cells := Memory.writeBytes x.cells (64 * row) data })
    else s.updArr p a (fun x => { x with wrDiscard := true })

/-- A digital access names a pan, an array and a row. -/
def digIn (p a row : Nat) : Bool := decide (p < 2112) && decide (a < 8) && decide (row < 1024)

def stepPanDigRead (p a row : Nat) (s : State) : State := if digIn p a row then s.digGo p false a row else s
def stepPanDigWrite (p a row : Nat) (s : State) : State := if digIn p a row then s.digGo p true a row else s

def execHkConversionComplete (chan : Nat) (value : Int) (good triggered : Bool) (trimEcc : List (Nat × Nat)) (s : State) :
    Host.Outcome State Fault Refusal := .next (stepHkConversionComplete chan value good triggered trimEcc s)
def execHkRoundEnd (s : State) : Host.Outcome State Fault Refusal := .next (stepHkRoundEnd s)
def execHeadFractionUpdate (pkg f : Nat) (rate : RateReport) (s : State) : Host.Outcome State Fault Refusal :=
  .next (stepHeadFractionUpdate pkg f rate s)
def execHkTrigger (busy : Bool) (s : State) : Host.Outcome State Fault Refusal := .next (stepHkTrigger busy s)
def execHkFifoDataRead (s : State) : Host.Outcome State Fault Refusal := .next (stepHkFifoDataRead s)
def execPanDigRead (pan arr row : Nat) (s : State) : Host.Outcome State Fault Refusal := .next (stepPanDigRead pan arr row s)
def execPanDigWrite (pan arr row : Nat) (s : State) : Host.Outcome State Fault Refusal := .next (stepPanDigWrite pan arr row s)
def execPanDigComplete (pan : Nat) (s : State) : Host.Outcome State Fault Refusal := .next (stepPanDigComplete pan s)

end Sys2Proof.Machine
end

