-- ==== Sys2Proof/Machine/RegsFabric.lean ====
section
/-! DEFINITION. What the registers of the blocks GLB, TIME, FAB, PAN, DLE and MEM, and of the arbiters, read: for each block
the TS fields of the word at an offset, taken from a snapshot, and its live fields (01 R43; 03 R96; 04 R124 to R126; 05 R162 to
R166; 06 R187, R188; 11 R364). An offset that no register defines reads 0 (01 R41). -/

namespace Sys2Proof.Machine

/-- Low and high word of a 64-bit quantity (00 R13). -/
def lo32 (x : Nat) : Nat := x % 2 ^ 32
def hi32 (x : Nat) : Nat := x / 2 ^ 32 % 2 ^ 32

/-- GLB (01 Tables 1-12 to 1-15): the TS fields, with the snapshot's tag. -/
def glbTs (d : Dev) (tag : Nat) : Nat → Nat
  | 0x004 => d.role.word
  | 0x014 => lo32 tag
  | 0x018 => hi32 tag
  | _ => 0

def glbLive (s : State) : Nat → Nat
  | 0x000 => glbId
  | 0x008 => lo32 Config.serial.toNat
  | 0x00C => hi32 Config.serial.toNat
  | 0x010 => pack [(2, b2n (!s.dev.time.runs)), (1, b2n s.holdExpired), (0, b2n s.hold.isSome)]
  | _ => 0

/-- TIME_STAT.STATE (05 Table 5-12). -/
def TickState.code : TickState → Nat
  | .stopped => 0
  | .sync => 1
  | .run => 2
  | .free => 3

/-- A period change is announced: TIME_TICK_PERIOD.PENDING (05 Table 5-12). -/
def Time.periodPending (t : Time) : Bool :=
  match t.pend with
  | some p => p.announced && p.period.isSome
  | none => false

/-- The tick of the pending change; 0 with none (05 Table 5-12). -/
def Time.pendTick (t : Time) : Nat :=
  match t.pend with
  | some p => p.effective
  | none => 0

/-- TIME (05 Table 5-12). -/
def timeTs (d : Dev) : Nat → Nat
  | 0x000 => pack [(2, b2n d.master)]
  | 0x008 => pack [(8, d.time.inForce)]
  | 0x00C => d.time.minPeriod
  | 0x024 => d.time.stretch
  | 0x028 => pack [(8, twos 8 d.time.adj), (0, twos 8 d.time.err)]
  | 0x030 => lo32 d.time.ptmAtBoundary
  | 0x034 => hi32 d.time.ptmAtBoundary
  | _ => 0

def timeLive (d : Dev) : Nat → Nat
  | 0x004 => pack [(11, b2n d.time.periodRefused), (10, b2n d.time.alignFault), (9, b2n d.time.markerLost),
      (8, b2n (d.time.st == .run || (d.time.st == .free && d.time.lastGood))), (0, d.time.st.code)]
  | 0x008 => pack [(16, b2n d.time.periodPending), (0, d.time.period)]
  | 0x010 => lo32 d.time.tick
  | 0x014 => hi32 d.time.tick
  | 0x018 => d.time.cycle
  | 0x01C => lo32 d.time.pendTick
  | 0x020 => hi32 d.time.pendTick
  | _ => 0

/-- PAN_STAT.ROLE (05 Table 5-10). -/
def PanRole.code : PanRole → Nat
  | .active => 0
  | .spareIdle => 1
  | .spareServing => 2
  | .retired => 3

/-- Pans with a role, die-wide. -/
def Dev.pansAs (d : Dev) (r : PanRole) : Nat := ((List.range 2112).filter (fun p => (d.pan p).role == r)).length

/-- The pan serves: active, or a spare in service. -/
def PanRole.serves : PanRole → Bool
  | .active => true
  | .spareServing => true
  | _ => false

/-- FAB_QF_WORST: (QF, pan, array) of the largest figure that is not STALE, the first among equals (06 Table 6-8). -/
def Dev.worstQf (d : Dev) : Nat × Nat × Nat :=
  (d.pans.flatMap (fun e => if (e.2 : Pan).role.serves then (e.2.arrs.filter (fun a => !(a.2 : Arr).qfStale)).map
      (fun a => ((a.2.qf.toNat, e.1, a.1) : Nat × Nat × Nat)) else [])).foldl
    (fun (b x : Nat × Nat × Nat) => if b.1 < x.1 then x else b) (0, 0, 0)

/-- PLACED (04 Table 4-6). -/
def Placed.code : Placed → Nat
  | .image => 0
  | .narrow => 1
  | .dle => 2
  | .running => 3

/-- A clamp-monitor slot's registers (04 Table 4-6). -/
def clampTs (c : ClampSlot) : Nat → Nat
  | 0x4 => c.vec.toNat
  | 0x8 => c.clamped.toNat
  | 0xC => pack [(2, c.placed.code), (1, b2n c.valid)]
  | _ => 0

def clampLive (c : ClampSlot) : Nat → Nat
  | 0x0 => pack [(16, c.policy.toNat), (0, c.thresh.toNat)]
  | 0xC => b2n c.high
  | _ => 0

/-- FAB (05 Table 5-11, 06 Table 6-8, 04 Table 4-6). -/
def fabTs (d : Dev) (o : Nat) : Nat :=
  let b := d.fab
  if 0xF0100 ≤ o ∧ o < 0xF0200 then clampTs (d.clamp ((o - 0xF0100) / 16)) (o % 16)
  else match o with
    | 0x000 => pack [(24, b2n b.degraded), (16, d.pansAs .spareIdle), (0, d.pansAs .active + d.pansAs .spareServing)]
    | 0x004 => pack [(4, b.frame % 64), (0, b2n b.bank)]
    | 0x008 => b.slipCnt.toNat
    | 0x00C => pack [(24, b.slipStrict.toNat), (16, b.slipLink.toNat), (8, b.slipAttn.toNat), (0, b.slipPrefetch.toNat)]
    | 0x010 => b.slipWaiting.toNat
    | 0x114 => pack [(28, d.worstQf.2.2), (16, d.worstQf.2.1), (0, d.worstQf.1)]
    | 0xF0004 => pack [(8, b.nSpot), (0, b.resEff - 1)]
    | _ => 0

def fabLive (d : Dev) (o : Nat) : Nat :=
  let b := d.fab
  if 0xF0100 ≤ o ∧ o < 0xF0200 then clampLive (d.clamp ((o - 0xF0100) / 16)) (o % 16)
  else match o with
    | 0x004 => pack [(1, b2n b.hopPending)]
    | 0x100 => pack [(24, b.calCount.toNat), (8, b.ladderDiff.toNat), (0, b.calPoints.toNat)]
    | 0x104 => b.calDay.toNat
    | 0x108 => b.verPan.toNat
    | 0x10C => pack [(31, b2n b.verBusy), (30, b2n b.verDone), (29, b2n b.verRefused), (12, b.verReason.toNat), (0, b.verRunPan.toNat)]
    | 0x110 => pack [(16, 0x074), (0, b.qfWarnLimit.toNat)]
    | 0xF0000 => b.reserve.toNat
    | 0xF0008 => lo32 b.spotKey.toNat
    | 0xF000C => hi32 b.spotKey.toNat
    | _ => 0

/-- FMT and MODE encodings (03 Table 3-10, Table 3-2). -/
def Fmt.code : Fmt → Nat
  | .b1 => 0
  | .t2 => 1
  | .q2 => 2
def ArrMode.code : ArrMode → Nat
  | .idle => 0
  | .digital => 1
  | .compute => 2

/-- One array's registers (03 Tables 3-10 to 3-13, 06 Table 6-5). -/
def arrTs (a : Arr) : Nat → Nat
  | 0x00 => pack [(16, a.cfg.groupEn.toNat), (4, b2n a.cfg.wide), (2, a.cfg.fmt.code), (0, a.cfg.mode.code)]
  | 0x04 => pack [(31, b2n a.valid)]
  | 0x08 => a.vecCnt.toNat
  | 0x0C => a.satCnt.toNat
  | 0x10 => a.satGroup.toNat
  | 0x14 => pack [(31, b2n a.qfStale), (30, b2n a.outEnv), (29, b2n a.qfWarn), (0, a.qf.toNat)]
  | _ => 0

def arrLive (a : Arr) : Nat → Nat
  | 0x04 => pack [(1, b2n a.computeInvalid), (0, b2n a.wrDiscard)]
  | _ => 0

/-- The pan's part of SCRUB, under the last stamp's own bound; 0 before the first stamp (11 R340, Table 11-13). -/
def Dev.panScrub (d : Dev) (q : Pan) : Nat :=
  if d.chk.scrub = 0 then 0
  else ((q.arrs.filter (fun a => !(a.2 : Arr).since.isEmpty)).map (fun a => (a.2 : Arr).scrub)).foldl min d.time.tick

/-- The pan window (03 Table 3-9, 04 Table 4-5, 05 Table 5-10, 06 Table 6-6, 11 Table 11-13). -/
def panTs (d : Dev) (p o : Nat) : Nat :=
  let q := d.pan p
  if 0x400 ≤ o ∧ o < 0x600 then arrTs (q.arr ((o - 0x400) / 0x40)) (o % 0x40)
  else match o with
    | 0x000 => pack [(30, q.role.code), (16, q.subst.toNat), (0, b2n q.progValid)]
    | 0x004 => twos 4 q.vtrim
    | 0x008 => pack [(16, q.sramCE.toNat), (1, q.sramUE.toNat)]
    | 0x00C => pack [(16, q.rtrCE.toNat), (0, q.rtrUE.toNat)]
    | 0x010 => q.conflicts.toNat
    | 0x014 => q.ctlCrc.toNat
    | 0x018 => q.vcoreBusy.toNat
    | 0x700 => q.events.toNat
    | 0x704 => q.served.toNat
    | 0x708 => q.overflows.toNat
    | 0x70C => pack [(16, q.unitsUsed % 512), (9, b2n q.ovfSpent), (8, b2n q.ovfFull), (0, q.queuePeak % 128)]
    | 0x710 => q.clampedOut.toNat
    | 0x714 => q.spotRun.toNat
    | 0x718 => q.spotFail.toNat
    | 0x71C => q.spotSkip.toNat
    | 0x740 => q.rowsumFails.toNat
    | 0x744 => q.contentFails.toNat
    | 0x748 => pack [(29, q.lastArr.toNat), (26, q.lastCause.toNat), (0, q.lastTick.toNat)]
    | 0x74C => lo32 (d.panScrub q)
    | 0x750 => q.canaryRun.toNat
    | 0x800 => pack [(31, b2n q.trimLoaded), (30, b2n q.stepping), (29, b2n q.tempSubst), (0, q.temp.toNat)]
    | _ => 0

/-- PAN_TRIM_DATA: the tap that PAN_TRIM_SEL selects (06 Table 6-7). An INDEX of 64 to 127 with KIND 0 names no converter: it is taken
modulo 64 (DESIGN CHOICE, entry 124). -/
def Pan.trimData (q : Pan) : Nat :=
  let sel := q.trimSel.toNat
  let a := fieldAt sel 10 3
  let i := fieldAt sel 0 7
  if fieldAt sel 9 1 = 1 then
    let n := 512 * a + 128 + i
    pack [(16, twos 4 (q.targetTap n)), (0, twos 4 (q.appliedTap n))]
  else
    let n := 512 * a + i % 64
    pack [(24, twos 5 (q.targetTap (n + 64))), (16, twos 5 (q.targetTap n)), (8, twos 5 (q.appliedTap (n + 64))), (0, twos 5 (q.appliedTap n))]

def panLive (d : Dev) (p o : Nat) : Nat :=
  let q := d.pan p
  if 0x400 ≤ o ∧ o < 0x600 then arrLive (q.arr ((o - 0x400) / 0x40)) (o % 0x40)
  else if 0x610 ≤ o ∧ o < 0x650 then leNat (Memory.readBytes q.digData (o - 0x610) 4)
  else match o with
    | 0x000 => pack [(12, Pan.island p)]
    | 0x008 => b2n q.ueSeen
    | 0x600 => pack [(30, b2n q.digOp), (10, q.digArr.toNat), (0, q.digRow.toNat)]
    | 0x604 => pack [(2, b2n q.digDenied), (1, b2n q.digDone), (0, b2n q.digRun.isSome)]
    | 0x750 => pack [(31, b2n q.canaryMiss)]
    | 0x800 => pack [(28, b2n q.trimClamp)]
    | 0x804 => q.trimSel.toNat
    | 0x808 => q.trimData
    | _ => 0

/-- DLE (04 Table 4-7); cluster c's registers at 0x10 x c. -/
def dleTs (d : Dev) (o : Nat) : Nat :=
  let x := d.dle
  if 0x010 ≤ o ∧ o < 0x050 then
    let c := (o - 0x010) / 16
    match o % 16 with
    | 0x0 => Sparse.get (fun _ => 0) x.clkStep c
    | 0x4 => lo32 (Sparse.get (fun _ => 0) x.busy c)
    | 0x8 => (Sparse.get (fun _ => (0 : W32)) x.sramCE c).toNat
    | _ => 0
  else match o with
    | 0x000 => pack [(4, x.retired.toNat), (0, x.online.toNat)]
    | 0x100 => lo32 x.macs.toNat
    | 0x104 => hi32 x.macs.toNat
    | 0x108 => x.attnPos.toNat
    | 0x10C => x.attnSlips.toNat
    | 0x110 => x.tier2Passes.toNat
    | 0x114 => pack [(16, x.ueCnt.toNat), (0, x.numericCnt.toNat)]
    | _ => 0

def dleLive (d : Dev) : Nat → Nat
  | 0x004 => pack [(2, b2n d.dle.attnLate), (1, b2n d.dle.eccUE), (0, b2n d.dle.numeric)]
  | _ => 0

/-- An arbiter's registers, from their base (05 Table 5-13). -/
def arbTs (a : Arb) : Nat → Nat
  | 0x08 => a.bites.toNat
  | 0x0C => pack [(12, a.logTick.toNat), (4, a.logInst.toNat), (0, a.logClass.toNat)]
  | 0x10 => a.preempts.toNat
  | 0x14 => a.losses.toNat
  | 0x18 => lo32 a.maxWait
  | _ => 0

def arbLive (a : Arb) : Nat → Nat
  | 0x00 => a.prio.toNat
  | 0x04 => a.limit.toNat
  | _ => 0

/-- MEM: controller pair m at 0x1000 x m (05 Table 5-14), its arbiter at 0x100 (05 R165). -/
def memTs (d : Dev) (o : Nat) : Nat :=
  let m := o / 0x1000
  let r := o % 0x1000
  let x := d.memPair m
  if 3 ≤ m then 0
  else if 0x100 ≤ r then arbTs (d.arbiter m) (r - 0x100)
  else match r with
    | 0x000 => b2n x.trained
    | 0x004 => pack [(16, x.ce.toNat), (0, x.ue.toNat)]
    | 0x008 => lo32 x.rd.toNat
    | 0x00C => hi32 x.rd.toNat
    | 0x010 => lo32 x.wr.toNat
    | 0x014 => hi32 x.wr.toNat
    | _ => 0

def memLive (d : Dev) (o : Nat) : Nat :=
  let m := o / 0x1000
  let r := o % 0x1000
  if 3 ≤ m then 0
  else if 0x100 ≤ r then arbLive (d.arbiter m) (r - 0x100)
  else match r with
    | 0x000 => pack [(2, b2n (d.arbiter m).resetting), (1, b2n (d.memPair m).refresh)]
    | _ => 0

end Sys2Proof.Machine
end

