-- ==== Sys2Proof/Machine/RegsSystem.lean ====
section
/-! DEFINITION. What the registers of the blocks WS, LNK, PCIE, SRV, CHK, SEC, RST, HK and CN read: TS fields from a
snapshot, live fields as they stand (06 R189; 07 R232; 08 R268; 09 R304; 10 R332; 11 R361, R365; 12 R373, R382; 13 R403; 14 R420,
R421; 15 R442, R443). -/

namespace Sys2Proof.Machine

/-- WS_PAGES_FREE: usable pages that hold no payload, list or directory; the two directory copies take a page each (07 R208,
Table 7-10; entry 33). -/
def Ws.pagesFree (w : Ws) : Nat := w.usable - w.usedPages.length

/-- WS_WEAR.MAX (07 R214). -/
def Ws.maxWear (w : Ws) : Nat := (w.writes.map (·.2)).foldl max 0

/-- WS (07 Table 7-10), its arbiter at 0x100 (05 R165). -/
def wsTs (d : Dev) (o : Nat) : Nat :=
  let w := d.ws
  if 0x100 ≤ o then (if o < 0x200 then arbTs (d.arbiter 3) (o - 0x100) else 0)
  else match o with
    | 0x000 => pack [(31, b2n w.ready), (30, b2n w.loaded), (29, b2n (w.store.any (·.pending))), (0, w.dirSeq.toNat % 2 ^ 24)]
    | 0x004 => lo32 w.epoch
    | 0x008 => lo32 w.stage
    | 0x00C => pack [(24, w.op % 16), (16, w.result % 256), (0, w.state % 8)]
    | 0x010 => lo32 w.imageId
    | 0x014 => hi32 w.imageId
    | 0x01C => w.pagesFree
    | 0x020 => min 0xFFFF w.maxWear
    | 0x024 => w.hashFail.toNat
    | 0x028 => w.loadUs.toNat
    | 0x02C => lo32 w.tackTick
    | 0x030 => hi32 w.tackTick
    | _ => 0

def wsLive (d : Dev) (o : Nat) : Nat :=
  let w := d.ws
  if 0x100 ≤ o then (if o < 0x200 then arbLive (d.arbiter 3) (o - 0x100) else 0)
  else match o with
    | 0x000 => pack [(28, b2n w.dirFault)]
    | 0x018 => w.usable
    | 0x020 => pack [(31, b2n w.wearWarn)]
    | _ => 0

/-- RERIG_STAT's PHASE and PKG (10 Table 10-11). -/
def Lnk.rerigWord (l : Lnk) : Nat :=
  match l.rerig with
  | some r => pack [(16, l.rerigCount.toNat), (12, r.phase % 16), (0, r.pkg % 4096)]
  | none => pack [(16, l.rerigCount.toNat), (0, l.rerigPkg.toNat)]

/-- CHK_PORT_STEP (11 Table 11-14). -/
def Dev.portSteps (d : Dev) : Nat := pack ((List.range 6).map (fun p => (2 * p, (d.port p).step % 4)))

/-- A port's registers (10 Table 10-12). -/
def portTs (x : Port) : Nat → Nat
  | 0x04 => pack [(4, x.retired.toNat), (0, x.state.toNat)]
  | 0x08 => match x.peer with
    | some p => pack [(31, 1), (16, p.1 % 8), (0, p.2.1 % 4096)]
    | none => 0
  | 0x0C => min 0xFFFF x.delay
  | 0x10 => x.laneMap.toNat
  | 0x14 => x.fecCE.toNat
  | 0x18 => x.fecUE.toNat
  | 0x1C => x.crc.toNat
  | 0x20 => x.retry.toNat
  | 0x30 => lo32 x.tx.toNat
  | 0x34 => hi32 x.tx.toNat
  | 0x38 => lo32 x.rx.toNat
  | 0x3C => hi32 x.rx.toNat
  | _ => 0

/-- CTRL and the share registers: VLSHARE0 as written, VLSHARE1 the shares that last passed the check (10 Tables 10-12, 10-13,
R333). -/
def portLive (x : Port) : Nat → Nat
  | 0x00 => pack [(1, x.reach.toNat), (0, b2n x.en)]
  | 0x28 => x.held0.toNat
  | 0x2C => (packShares ((x.sharesDue.getD x.shares).drop 4)).toNat
  | _ => 0

/-- LNK_Pp_EYEn (06 Table 6-9). Lane 8 is the spare as shipped, so its SPARE reads 1 at reset, as the field's description and 10 R305
have it, where the Reset column gives 0 (DESIGN CHOICE, entry 124). -/
def eyeTs (x : Port) (n : Nat) : Nat :=
  let e := (Tab.find x.eyes n).getD (0, 0)
  pack [(31, b2n (x.eyeStale.getLsbD n)), (30, b2n (x.spareLane == some n)), (16, min 127 e.1), (0, min 1023 e.2)]

/-- LNK (10 Table 10-11); port p at 0x1000 + 0x100 x p, eyes at 0x8000, the routing table in force at 0x1_0000 (10 R332). -/
def lnkTs (d : Dev) (o : Nat) : Nat :=
  let l := d.lnk
  if 0x10000 ≤ o then (if o < 0x14000 then (l.route ((o - 0x10000) / 4)).toNat else 0)
  else if 0x8000 ≤ o then
    (if o < 0x8180 ∧ o % 0x40 < 36 then eyeTs (d.port ((o - 0x8000) / 0x40)) (o % 0x40 / 4) else 0)
  else if 0x1000 ≤ o then (if o < 0x1600 then portTs (d.port ((o - 0x1000) / 0x100)) (o % 0x100) else 0)
  else if 0x020 ≤ o ∧ o < 0x040 then fieldAt l.accept.toNat (8 * (o - 0x020)) 32
  else match o with
    | 0x000 => pack [(8, ((List.range 6).map (fun p => b2n (d.port p).up * 2 ^ p)).sum), (2, b2n l.suspended), (0, b2n l.bank)]
    | 0x014 => l.rerigWord
    | 0x018 => l.dropSlice.toNat
    | 0x01C => l.dropRoute.toNat
    | _ => 0

def lnkLive (d : Dev) (o : Nat) : Nat :=
  let l := d.lnk
  if 0x1000 ≤ o then (if o < 0x1600 then portLive (d.port ((o - 0x1000) / 0x100)) (o % 0x100) else 0)
  else match o with
    | 0x000 => pack [(4, b2n l.shareRefused), (3, b2n l.wrRefused), (1, b2n l.switchTick.isSome)]
    | 0x008 => lo32 (l.switchTick.getD 0)
    | 0x00C => hi32 (l.switchTick.getD 0)
    | 0x010 => pack [(31, b2n l.auto), (0, l.wait.toNat)]
    | 0x040 => pack [(28, l.rwPort.toNat), (27, b2n l.rwValid), (0, l.rwId.toNat)]
    | _ => 0

/-- A word of a function's MSI-X table: 16 bytes an entry (12 R373). -/
def msixWord (d : Dev) (f o : Nat) : Nat :=
  let m := d.msix f (o / 16)
  match o % 16 with
  | 0x0 => lo32 m.addr.toNat
  | 0x4 => hi32 m.addr.toNat
  | 0x8 => m.data.toNat
  | 0xC => b2n m.masked
  | _ => 0

/-- A word of a function's pending-bit array. -/
def pbaWord (d : Dev) (f o : Nat) : Nat :=
  ((List.range 32).map (fun i => b2n (d.msix f (8 * o + i)).pending * 2 ^ i)).sum

/-- PCIE (12 Table 12-7), its arbiter at 0x100, PF0's MSI-X table and pending-bit array (12 R373). -/
def pcieTs (d : Dev) (o : Nat) : Nat :=
  let p := d.pcie
  if 0x100 ≤ o then (if o < 0x200 then arbTs (d.arbiter 4) (o - 0x100) else 0)
  else match o with
    | 0x000 => p.linkDowns.toNat
    | 0x008 => pack [(31, b2n d.time.ptmValid), (0, d.time.ptmAge)]
    | 0x00C => p.cplTimeout.toNat
    | 0x010 => p.lateCpl.toNat
    | 0x014 => p.poisonRx.toNat
    | 0x018 => lo32 p.rd.toNat
    | 0x01C => hi32 p.rd.toNat
    | 0x020 => lo32 p.wr.toNat
    | 0x024 => hi32 p.wr.toNat
    | _ => 0

def pcieLive (d : Dev) (o : Nat) : Nat :=
  let p := d.pcie
  if 0x10000 ≤ o then
    (if o < 0x10400 then msixWord d 0 (o - 0x10000) else if 0x18000 ≤ o ∧ o < 0x18008 then pbaWord d 0 (o - 0x18000) else 0)
  else if 0x100 ≤ o then (if o < 0x200 then arbLive (d.arbiter 4) (o - 0x100) else 0)
  else match o with
    | 0x000 => pack [(31, b2n p.linkUp), (28, p.speed.toNat), (23, p.width.toNat), (22, b2n p.reversed), (21, b2n p.sris)]
    | 0x004 => p.ptmInterval.toNat
    | 0x008 => pack [(30, b2n d.time.ptmFail)]
    | 0x030 => lo32 p.evtBase.toNat
    | 0x034 => hi32 p.evtBase.toNat
    | 0x038 => pack [(31, b2n p.evtEn), (30, b2n p.evtLost), (8, p.evtVector.toNat), (0, p.evtSize.toNat)]
    | 0x03C => p.evtProd.toNat
    | 0x040 => p.evtCons.toNat
    | _ => 0

/-- Streams of channels; an EMBED's positions are kept under a key above the channel numbers. -/
def Srv.chanStreams (v : Srv) : List Stream := (v.streams.filter (fun e => decide (e.1 < 16384))).map (·.2)

/-- Parts per thousand of a share of a total, as a field of 12 bits. -/
def perMille (part total : Rat) : Nat := if total = 0 then 0 else min 0xFFF ((1000 * part / total).floor.toNat)

/-- Bytes parked in the stockpile region: blocks of every package's layers (09 R292). -/
def Dev.stockBytes (d : Dev) : Nat :=
  ((d.srv.streams.map (fun e => match e.2.park with
    | some p => if p.inPlace || p.expired || p.epochFreed then 0 else p.blocks.length
    | none => 0)).sum) * (64 * d.hdr.kvBytes)

/-- A generation is queued (09 R297). -/
def Stream.queued (t : Stream) : Bool :=
  match t.gen with
  | some g => g.admitted.isNone
  | none => false

/-- The serving-engine registers (09 Table 9-8). Those that are a head's read 0 elsewhere (09 R304). -/
def engineTs (d : Dev) (o : Nat) : Nat :=
  let v := d.srv
  match o with
  | 0x140 => ((d.fab.hot.filter (fun e => e.provisional)).length) % 2 ^ 14
  | 0x15C => min 0x1FFFFF (ceilDiv d.stockBytes 1048576)
  | _ =>
    if !d.isHead then 0
    else match o with
      | 0x100 => pack [(8, d.hdr.draftTicks % 16)]
      | 0x104 => d.hdr.slots % 2 ^ 20
      | 0x108 => v.admitted.toNat
      | 0x10C => (v.streams.filter (fun e => e.2.queued)).length
      | 0x110 => v.refused.toNat
      | 0x114 => v.expired.toNat
      | 0x118 => pack [(16, perMille v.headUsed (d.lmRate * (d.time.inForce : Nat))), (0, perMille d.sumHead d.lmRate)]
      | 0x11C => v.kvTotal % 2 ^ 23
      | 0x120 => v.freeBlocks % 2 ^ 23
      | 0x124 => v.cachedBlocks.length % 2 ^ 23
      | 0x128 => v.prefixTab.length % 2 ^ 22
      | 0x12C => v.hits.toNat
      | 0x130 => v.inserts.toNat
      | 0x134 => v.skips.toNat
      | 0x138 => v.proposed.toNat
      | 0x13C => v.accepted.toNat
      | _ => 0

def engineLive (d : Dev) (o : Nat) : Nat :=
  let v := d.srv
  match o with
  | 0x100 => if d.isHead then pack [(16, v.util.toNat), (0, v.slipAllow.toNat)] else 0
  | 0x150 => lo32 v.stockBase.toNat
  | 0x154 => hi32 v.stockBase.toNat
  | 0x158 => pack [(31, b2n v.stockEn), (0, v.stockMib.toNat)]
  | 0x15C => pack [(31, b2n v.stockErr), (30, b2n v.stockFull)]
  | _ => 0

/-- A function's SRV set (08 Table 8-14); ring r at 0x100 + 0x20 x r (08 Table 8-15). -/
def fnTs (d : Dev) (f o : Nat) : Nat :=
  if 0x100 ≤ o ∧ o < 0x900 then
    (if o % 0x20 = 0x14 then (d.ring f ((o - 0x100) / 0x20)).backlog.length % 2 ^ 20 else 0)
  else match o with
    | 0x004 => (d.srv.chanStreams.filter (fun t => t.fn == f)).length
    | _ => 0

/-- A reply ring's live registers (08 Table 8-15). -/
def ringLive (g : Ring) : Nat → Nat
  | 0x00 => lo32 g.base.toNat
  | 0x04 => hi32 g.base.toNat
  | 0x08 => pack [(31, b2n g.en), (30, b2n g.irq), (0, g.size)]
  | 0x0C => g.cons.toNat
  | 0x10 => g.prod.toNat
  | _ => 0

def fnLive (d : Dev) (f o : Nat) : Nat :=
  let n := d.fn f
  if 0x100 ≤ o ∧ o < 0x900 then ringLive (d.ring f ((o - 0x100) / 0x20)) (o % 0x20)
  else match o with
    | 0x000 => pack [(16, n.count), (0, n.base)]
    | 0x004 => pack [(31, b2n n.flrBusy), (30, b2n n.rangeRefused), (29, b2n n.consBad), (28, b2n n.fetchErr)]
    | 0x008 => lo32 n.table.toNat
    | 0x00C => hi32 n.table.toNat
    | 0x010 => lo32 n.tenants.toNat
    | 0x014 => hi32 n.tenants.toNat
    | 0x018 => pack [(31, b2n n.irqEn), (16, n.holdoff), (0, n.vector)]
    | 0x020 => lo32 n.pend.toNat
    | 0x024 => hi32 n.pend.toNat
    | _ => 0

/-- One bit for each of 32 slots from 32n (08 Table 8-13). -/
def slotBits (n : Nat) (test : Nat → Bool) : Nat := ((List.range 32).map (fun i => b2n (test (32 * n + i)) * 2 ^ i)).sum

/-- SRV (08 Tables 8-12 to 8-15, 09 Table 9-8); function f's set at 0x1_0000 + 0x1000 x f. -/
def srvTs (d : Dev) (o : Nat) : Nat :=
  let v := d.srv
  if 0x10000 ≤ o then (if o < 0x30000 then fnTs d ((o - 0x10000) / 0x1000) (o % 0x1000) else 0)
  else if 0x100 ≤ o then (if o < 0x200 then engineTs d o else 0)
  else match o with
    | 0x000 => pack [(31, b2n d.engine), (16, (v.chanStreams.filter (fun t => t.st == .parked)).length),
        (0, (v.chanStreams.filter (fun t => t.st != .parked)).length)]
    | 0x004 => v.collected
    | 0x008 => v.winDrop.toNat
    | 0x00C => v.dHit.toNat
    | 0x010 => v.dMiss.toNat
    | 0x014 => v.fetchErr.toNat
    | _ => 0

def srvLive (d : Dev) (o : Nat) : Nat :=
  let v := d.srv
  if 0x10000 ≤ o then (if o < 0x30000 then fnLive d ((o - 0x10000) / 0x1000) (o % 0x1000) else 0)
  else if 0x1000 ≤ o then
    (if o < 0x1800 then slotBits ((o - 0x1000) / 4) (fun c => (Tab.find v.sealedTab c).isSome)
     else if o < 0x2000 then slotBits ((o - 0x1800) / 4) v.busy.contains
     else 0)
  else if 0x100 ≤ o ∧ o < 0x200 then engineLive d o
  else 0

/-- Retired units of a kind (11 Table 11-14). -/
def Chk.retiredOf (c : Chk) (kind : Nat) : Nat := (c.retired.filter (fun e => e.1 == kind)).length

/-- CHK (11 Table 11-14), its log at 0x1_0000 (11 R361). -/
def chkTs (d : Dev) (o : Nat) : Nat :=
  let c := d.chk
  match o with
  | 0x004 => lo32 c.scrub
  | 0x008 => hi32 c.scrub
  | 0x010 => c.rowsum.toNat
  | 0x014 => c.content.toNat
  | 0x018 => c.residue.toNat
  | 0x01C => c.canaryMiss.toNat
  | 0x020 => c.poison.toNat
  | 0x024 => c.numeric.toNat
  | 0x028 => c.replays.toNat
  | 0x02C => pack [(24, min 255 (c.retiredOf 1)), (16, min 255 (c.retiredOf 2)), (12, min 15 (c.retiredOf 4)),
      (8, min 15 (c.retiredOf 5)), (0, min 255 (c.retiredOf 6))]
  | 0x030 => d.portSteps
  | 0x034 => pack [(24, c.disCount.toNat), (20, c.disKind.toNat), (0, c.disUnit.toNat)]
  | 0x038 => pack [(9, b2n d.nv.listFull), (0, d.nv.list.length)]
  | _ => 0

def chkLive (d : Dev) (o : Nat) : Nat :=
  let c := d.chk
  if 0x10000 ≤ o then
    (if o < 0x30000 then leAt (Sparse.get LogEntry.reset c.log ((o - 0x10000) / 32)).bytes (o % 32) 4 else 0)
  else if 0x100 ≤ o ∧ o < 0x200 then (c.denyWord ((o - 0x100) / 4)).toNat
  else match o with
    | 0x000 => pack [(8, b2n c.canaryEn), (0, c.k.toNat)]
    | 0x040 => c.logProd.toNat
    | _ => 0

/-- SEC (13 Table 13-6). -/
def secTs (d : Dev) (o : Nat) : Nat :=
  let x := d.sec
  match o with
  | 0x000 => pack [(8, b2n d.nv.debugOpen), (0, d.nv.lc.code)]
  | 0x084 => pack ((List.range 8).map (fun i => (2 * i, (d.nv.key i).state % 4)))
  | 0x088 => lo32 x.attNext
  | 0x08C => hi32 x.attNext
  | 0x090 => pack [(31, b2n x.nvFault), (30, b2n x.exhausted), (0, x.left % 2048)]
  | _ => 0

def secLive (d : Dev) (o : Nat) : Nat :=
  let x := d.sec
  if 0x010 ≤ o ∧ o < 0x030 then leAt (x.challenge.getD []) (o - 0x010) 4
  else if 0x040 ≤ o ∧ o < 0x07C then (Sparse.get (fun _ => (0 : W32)) x.keyData ((o - 0x040) / 4)).toNat
  else match o with
    | 0x008 => pack [(31, b2n x.lcRefused), (30, b2n x.lcPending.isSome), (0, x.lcReason.toNat)]
    | 0x030 => lo32 x.token.toNat
    | 0x034 => hi32 x.token.toNat
    | 0x080 => pack [(8, b2n x.keyOp), (0, x.keySlot.toNat)]
    | 0x084 => pack [(31, b2n x.keyRefused), (28, x.keyReason.toNat)]
    | 0x090 => pack [(29, b2n x.reserving)]
    | 0x0A0 => lo32 x.fwAddr.toNat
    | 0x0A4 => hi32 x.fwAddr.toNat
    | 0x0AC => pack [(31, b2n x.fwBusy), (30, b2n d.nv.fwPending), (29, b2n x.fallback), (28, b2n x.fwErr), (24, b2n d.nv.fwB),
        (16, d.nv.svn.getD 0 0 % 256), (8, d.nv.svn.getD 1 0 % 256), (0, d.nv.svn.getD 2 0 % 256)]
    | _ => 0

/-- RST (14 Table 14-6). -/
def rstTs (d : Dev) : Nat → Nat
  | 0x010 => pack [(31, b2n d.rst.ready), (30, b2n d.rst.safe)]
  | _ => 0

def rstLive (d : Dev) (o : Nat) : Nat :=
  let r := d.rst
  if 0x040 ≤ o ∧ o < 0x064 then (Sparse.get (fun _ => (0 : W32)) r.stepUs ((o - 0x040) / 4)).toNat
  else match o with
    | 0x000 => r.cause.toNat
    | 0x008 => r.limit.toNat
    | 0x010 => r.step.toNat
    | 0x014 => r.locked.toNat
    | 0x020 => pack [(24, r.fclk.toNat), (16, r.kind.toNat), (0, r.target.toNat)]
    | 0x024 => pack [(31, b2n r.busy), (30, b2n r.done), (29, b2n r.denied), (24, r.result.toNat), (12, r.unit.toNat), (0, r.fails.toNat)]
    | _ => 0

/-- State code of an island (15 Table 15-2a), with UNFURL_PENDING above it. -/
def Isl.code (x : Isl) : Nat :=
  (match x.st with
   | .up => 0
   | .furlingRetain => 1
   | .furlingDark => 2
   | .retain => 3
   | .dark => 4
   | .unfurling _ => 5) + 8 * b2n x.pending

/-- HK (15 Table 15-5). -/
def hkTs (d : Dev) (o : Nat) : Nat :=
  let h := d.hk
  if 0x100 ≤ o ∧ o < 0x200 then
    let c := d.chan ((o - 0x100) / 4)
    pack [(31, b2n c.stale), (30, b2n c.fault), (0, c.value.toNat)]
  else match o with
    | 0x000 => pack [(16, h.frac), (8, h.therm), (4, h.reef)]
    | 0x00C => h.stretch
    | 0x014 => pack ((List.range 8).map (fun i => (4 * i, (d.isl i).code)))
    | 0x018 => pack ((List.range 8).map (fun i => (4 * i, (d.isl (8 + i)).code)))
    | 0x204 => h.lostN.toNat
    | 0x214 => h.trigMiss.toNat
    | _ => 0

def hkLive (d : Dev) (o : Nat) : Nat :=
  let h := d.hk
  match o with
  | 0x000 => pack [(31, b2n h.supplyFault), (30, b2n h.refused), (26, h.reason.toNat)]
  | 0x008 => pack [(16, h.dramLimit.toNat), (8, h.dieLimit.toNat), (0, h.floor.toNat)]
  | 0x010 => pack [(4, h.islOp.toNat), (0, h.islSel.toNat)]
  | 0x200 => h.fifoWord.toNat
  | 0x204 => pack [(31, b2n h.overflow), (16, h.fifo.length)]
  | 0x208 => lo32 h.mask.toNat
  | 0x20C => hi32 h.mask.toNat
  | 0x210 => pack [(31, b2n h.trigEn), (30, b2n h.trigSrc), (24, h.trigChan.toNat), (16, h.trigDelay.toNat), (12, h.trigPhase.toNat),
      (0, h.trigPeriod.toNat)]
  | _ => 0

/-- CN (15 Table 15-6, 14 Table 14-7); trip record i at 0x1000 + 64 x i. No field of CN is TS. -/
def cnLive (d : Dev) (o : Nat) : Nat :=
  let c := d.cn
  if 0x1000 ≤ o then
    (if o < 0x2000 then leAt (Sparse.get TripRec.reset d.nv.trips ((o - 0x1000) / 64)).bytes (o % 64) 4 else 0)
  else if 0x100 ≤ o ∧ o < 0x124 then (Sparse.get (fun _ => (0 : BitVec 16)) c.counts ((o - 0x100) / 4)).toNat
  else match o with
    | 0x000 => pack [(31, b2n c.tripped), (30, b2n c.vinFault), (3, b2n c.wakeN), (2, b2n c.auxOk), (1, b2n c.vinOk), (0, b2n c.tripCmp)]
    | 0x004 => pack [(16, d.nv.tripSensor.toNat), (0, min 255 d.nv.tripCount)]
    | 0x008 => lo32 c.rtc
    | 0x00C => fieldAt c.rtc 32 16
    | 0x010 => c.sub
    | 0x014 => lo32 c.rtcNew.toNat
    | 0x018 => hi32 c.rtcNew.toNat
    | 0x020 => lo32 c.tickLast
    | 0x024 => hi32 c.tickLast
    | 0x028 => c.reefFloor.toNat
    | 0x030 => pack [(31, b2n c.smbus), (30, b2n c.fast), (8, c.ibiEn.toNat), (0, c.i3cAddr.toNat)]
    | 0x128 => b2n c.vbakLost
    | 0x12C => c.holdWord
    | _ => 0

end Sys2Proof.Machine
end

