-- ==== Sys2Proof/Machine/Regs.lean ====
section
/-! DEFINITION. Reads and writes of BAR0 and of the management path: the block map, views of the snapshot and its hold, the
latch of a 64-bit quantity's high word, access codes and reserved encodings (00 R13 to R18; 01 R35 to R43; 12 R370, R371; 15
R441). -/

namespace Sys2Proof.Machine

/-- The blocks of BAR0 in the order of 01 Table 1-10, GLB 0 to CN 14: base and size. -/
def blockMap : List (Nat × Nat) :=
  [(0x0, 0x10000), (0x10000, 0x10000), (0x100000, 0x100000), (0x1000000, 0x840000), (0x2000000, 0x100000), (0x2100000, 0x100000),
   (0x2200000, 0x100000), (0x2300000, 0x100000), (0x2400000, 0x100000), (0x2500000, 0x100000), (0x2600000, 0x100000),
   (0x2700000, 0x100000), (0x2800000, 0x100000), (0x2900000, 0x100000), (0x2A00000, 0x100000)]

/-- Block and offset within it of a PF0 BAR0 offset; none where Table 1-10 maps nothing. -/
def blockOf (a : Nat) : Option (Nat × Nat) :=
  (findIdx1 (fun (b : Nat × Nat) => decide (b.1 ≤ a) && decide (a < b.1 + b.2)) blockMap 0).map
    (fun (e : Nat × Nat × Nat) => (e.1, a - e.2.1))

/-- Block and offset of a VF's BAR0 offset (12 Table 12-4); its MSI-X table and pending-bit array count as blocks 15 and 16. -/
def vfBlockOf (f a : Nat) : Option (Nat × Nat) :=
  if a < 0x1000 then some (9, 0x10000 + 0x1000 * f + a)
  else if a < 0x1010 then some (0, a - 0x1000)
  else if 0x1100 ≤ a ∧ a < 0x1200 then some (1, a - 0x1100)
  else if 0x2000 ≤ a ∧ a < 0x2400 then some (15, a - 0x2000)
  else if 0x3000 ≤ a ∧ a < 0x3008 then some (16, a - 0x3000)
  else none

def fnBlockOf (f a : Nat) : Option (Nat × Nat) := if f = 0 then blockOf a else vfBlockOf f a

/-- The TS fields of the word at an offset of a block, from a snapshot with its tag. -/
def tsWord (d : Dev) (tag blk o : Nat) : Nat :=
  match blk with
  | 0 => glbTs d tag o
  | 1 => timeTs d o
  | 2 => fabTs d o
  | 3 => panTs d (o / 0x1000) (o % 0x1000)
  | 4 => dleTs d o
  | 5 => memTs d o
  | 6 => wsTs d o
  | 7 => lnkTs d o
  | 8 => pcieTs d o
  | 9 => srvTs d o
  | 10 => chkTs d o
  | 11 => secTs d o
  | 12 => rstTs d o
  | 13 => hkTs d o
  | _ => 0

/-- The live fields of the word at an offset of a block, for a reading function. -/
def liveWord (s : State) (f blk o : Nat) : Nat :=
  match blk with
  | 0 => glbLive s o
  | 1 => timeLive s.dev o
  | 2 => fabLive s.dev o
  | 3 => panLive s.dev (o / 0x1000) (o % 0x1000)
  | 4 => dleLive s.dev o
  | 5 => memLive s.dev o
  | 6 => wsLive s.dev o
  | 7 => lnkLive s.dev o
  | 8 => pcieLive s.dev o
  | 9 => srvLive s.dev o
  | 10 => chkLive s.dev o
  | 11 => secLive s.dev o
  | 12 => rstLive s.dev o
  | 13 => hkLive s.dev o
  | 14 => cnLive s.dev o
  | 15 => msixWord s.dev f o
  | 16 => pbaWord s.dev f o
  | _ => 0

/-- The snapshot that a function's reads see: the held one for PF0 under a hold, else the latest (01 R35, R37; 12 R371). -/
def State.view (s : State) (f : Nat) : Dev × Nat :=
  match s.hold with
  | some h => if f = 0 then (h.dev, h.tag) else (s.snap, s.snapTick)
  | none => (s.snap, s.snapTick)

/-- The word that a read returns, without the read's side effects. -/
def State.regWord (s : State) (f blk o : Nat) : W32 :=
  BitVec.ofNat 32 (tsWord (s.view f).1 (s.view f).2 blk o + liveWord s f blk o)

/-- Offsets of low words of 64-bit quantities (00 R13): the registers whose names end in _LO. -/
def isLowWord (blk o : Nat) : Bool :=
  match blk with
  | 0 => [0x008, 0x014].contains o
  | 1 => [0x010, 0x01C, 0x030].contains o
  | 2 => o == 0xF0008
  | 4 => o == 0x100
  | 5 => decide (o < 0x3000) && [0x008, 0x010].contains (o % 0x1000)
  | 6 => [0x010, 0x02C].contains o
  | 7 => o == 0x008 || (decide (0x1000 ≤ o) && decide (o < 0x1600) && [0x30, 0x38].contains (o % 0x100))
  | 8 => [0x018, 0x020, 0x030].contains o
  | 9 => o == 0x150 || (decide (0x10000 ≤ o) && decide (o < 0x30000) && ([0x008, 0x010].contains (o % 0x1000) ||
      (decide (0x100 ≤ o % 0x1000) && decide (o % 0x1000 < 0x900) && o % 0x20 == 0)))
  | 10 => o == 0x004
  | 11 => [0x030, 0x088, 0x0A0].contains o
  | 13 => [0x014, 0x208].contains o
  | 14 => [0x008, 0x014, 0x020].contains o
  | _ => false

/-- The PEND register of function g, read by function f: PEND_LO latches and clears the high word too; PEND_HI returns its
latch, else its live bits, which it clears (08 R251; 00 R14, R17). -/
def State.readPend (s : State) (f g : Nat) (high : Bool) : W32 × State :=
  if !high then s.readPendLo f g
  else match s.latched f (pendKey g) with
    | some w => (w, s.unlatch f (pendKey g))
    | none =>
      let p := s.pendSeen g >>> 32 <<< 32
      ((p >>> 32).setWidth 32, s.clearPend g p)

/-- A 32-bit read of one register by a function, with its side effects: RC fields clear, a low word latches its high word, a
latched high word is returned once (00 R14, R17; 08 R251; 15 R435). -/
def State.readReg (s : State) (f blk o : Nat) : W32 × State :=
  if blk = 13 ∧ o = 0x200 then s.readFifo
  else if blk = 9 ∧ 0x10000 ≤ o ∧ o < 0x30000 ∧ (o % 0x1000 = 0x020 ∨ o % 0x1000 = 0x024) then
    s.readPend f ((o - 0x10000) / 0x1000) (o % 0x1000 == 0x024)
  else match s.latched f (regKey blk o) with
    | some w => (w, s.unlatch f (regKey blk o))
    | none =>
      let w := s.regWord f blk o
      if isLowWord blk o then (w, s.latch f (regKey blk (o + 4)) (s.regWord f blk (o + 4)))
      else (w, s)

/-- A read of the word at an offset of a function's BAR0; an offset that nothing maps reads 0 (01 R41; 12 R371). -/
def State.readAt (s : State) (f a : Nat) : W32 × State :=
  match fnBlockOf f a with
  | some (blk, o) => s.readReg f blk o
  | none => (0, s)

/-- The registers from a word's offset on, read in ascending order (01 R42). -/
def State.readWords (f : Nat) : Nat → Nat → State → List W32 × State
  | 0, _, s => ([], s)
  | n + 1, a, s =>
    let (v, s) := s.readAt f a
    let (l, s) := State.readWords f n (a + 4) s
    (v :: l, s)

/-- The bytes of command slots as they were last written; a VF's window holds the slots of its own channels, and reads 0 past them
(08 R241; entry 123). -/
def Dev.slotBytes (d : Dev) (f off len : Nat) : List Byte :=
  (List.range len).map (fun i =>
    let ch := d.slotChannel f ((off + i) / 256)
    if f = 0 || (d.fn f).owns ch then Memory.read d.srv.window (256 * ch + (off + i) % 256) else 0)

/-- LOW_WORD_READ: a host read of BAR0, or of BAR2 (08 R241; 12 R370). Of BAR0, an access of 32 bits or wider at a multiple of 4 is
32-bit reads in ascending order; any other returns the addressed bytes of each register that it covers (01 R42). Without a BAR
it completes as Unsupported Request (14 R415). -/
def stepLowWordRead (f : Nat) (slots : Bool) (off len : Nat) (s : State) : State :=
  if !s.dev.barUp f then s.emit (.unsupported f)
  else if slots then s.emit (.readBytes (s.dev.slotBytes f off len))
  else
    let k := off % 4
    let (l, s) := State.readWords f ((k + len + 3) / 4) (off - k) s
    if k = 0 ∧ 4 ≤ len then s.each l (fun s v => s.emit (.readData v))
    else s.emit (.readBytes (sliceAt (l.flatMap (fun v => leBytes 4 v.toNat)) k len))

/-- Sets a 64-bit quantity's low or high word. -/
def putLo (x : W64) (v : Nat) : W64 := BitVec.ofNat 64 (x.toNat / 2 ^ 32 * 2 ^ 32 + v)
def putHi (x : W64) (v : Nat) : W64 := BitVec.ofNat 64 (v * 2 ^ 32 + lo32 x.toNat)

/-- SNAP_HOLD: a write of 1 to HOLD; no effect on a hold that stands (01 R37). -/
def stepSnapHold (s : State) : State :=
  match s.hold with
  | some _ => s
  | none => { s with hold := some ⟨s.snap, s.snapTick, s.tick⟩ }

/-- SNAP_RELEASE: a write of 0 to HOLD (01 R37). -/
def stepSnapRelease (s : State) : State := { s with hold := none }

/-- SNAP_HOLD_EXPIRY: a hold set in tick h releases itself at the boundary that opens tick h + 100 (01 R37). -/
def stepSnapHoldExpiry (s : State) : State :=
  match s.hold with
  | some h => if h.setAt + 100 ≤ s.tick then { s with hold := none, holdExpired := true } else s
  | none => s

/-- GLB: GLB_SNAP_CTRL (01 Table 1-15). -/
def State.writeGlb (s : State) (o : Nat) (v : W32) : State :=
  match o with
  | 0x010 =>
    let s := { s with holdExpired := w1c s.holdExpired (v.getLsbD 1) (hwSet s.holdExpired s.begun.holdExpired) }
    if v.getLsbD 0 then stepSnapHold s else stepSnapRelease s
  | _ => s

/-- TIME (05 Table 5-12). -/
def State.writeTime (s : State) (o : Nat) (v : W32) : State :=
  match o with
  | 0x000 =>
    let s := if v.getLsbD 0 then stepTimeStart s else s
    if v.getLsbD 1 then stepTimeStop s else s
  | 0x004 => s.updTime (fun t => { t with
                                          periodRefused := w1c t.periodRefused (v.getLsbD 11) (hwSet t.periodRefused s.begun.dev.time.periodRefused),
                                          alignFault := w1c t.alignFault (v.getLsbD 10) (hwSet t.alignFault s.begun.dev.time.alignFault),
                                          markerLost := w1c t.markerLost (v.getLsbD 9) (hwSet t.markerLost s.begun.dev.time.markerLost) })
  | 0x008 => stepTickPeriodWrite (fieldAt v.toNat 0 7) s
  | _ => s

/-- A clamp-monitor slot (04 Table 4-6): POLICY 3 is reserved. -/
def State.writeClamp (s : State) (l r : Nat) (v : W32) : State :=
  match r with
  | 0x0 =>
    let p := fieldAt v.toNat 16 2
    let s := s.updClamp l (fun c => { c with policy := setField (decide (p < 3)) c.policy (BitVec.ofNat 2 p), thresh := v.setWidth 16 })
    if v.getLsbD 31 then stepClampRestore l s else s
  | 0xC => s.updClamp l (fun c => { c with high := w1c c.high (v.getLsbD 0) (hwSet c.high (s.begun.dev.clamp l).high) })
  | _ => s

/-- FAB (06 Table 6-8, 04 Table 4-6). -/
def State.writeFab (s : State) (o : Nat) (v : W32) : State :=
  if 0xF0100 ≤ o ∧ o < 0xF0200 then s.writeClamp ((o - 0xF0100) / 16) (o % 16) v
  else match o with
    | 0x108 =>
      if v.getLsbD 31 then stepVerifyRequest (fieldAt v.toNat 0 12) s
      else s.updFab (fun b => { b with verPan := v.setWidth 12 })
    | 0x10C => s.updFab (fun b => { b with verDone := w1c b.verDone (v.getLsbD 30) (hwSet b.verDone s.begun.dev.fab.verDone),
                                           verRefused := w1c b.verRefused (v.getLsbD 29) (hwSet b.verRefused s.begun.dev.fab.verRefused) })
    | 0x110 => s.updFab (fun b => { b with qfWarnLimit := setField (decide (fieldAt v.toNat 0 12 < 0x074)) b.qfWarnLimit (v.setWidth 12) })
    | 0xF0000 =>
      let r := fieldAt v.toNat 0 9
      s.updFab (fun b => { b with reserve := setField (decide (32 ≤ r) && decide (r ≤ 256)) b.reserve (v.setWidth 9) })
    | 0xF0008 => s.updFab (fun b => { b with spotKey := putLo b.spotKey v.toNat })
    | 0xF000C => s.updFab (fun b => { b with spotKey := putHi b.spotKey v.toNat })
    | _ => s

/-- The pan window (03 Tables 3-11 to 3-15, 05 Table 5-10, 06 Tables 6-6, 6-7, 11 Table 11-13). -/
def State.writePan (s : State) (p o : Nat) (v : W32) : State :=
  if 0x400 ≤ o ∧ o < 0x600 then
    (if o % 0x40 = 0x04 then s.updArr p ((o - 0x400) / 0x40) (fun a => { a with
        computeInvalid := w1c a.computeInvalid (v.getLsbD 1) (hwSet a.computeInvalid ((s.begun.dev.pan p).arr ((o - 0x400) / 0x40)).computeInvalid),
        wrDiscard := w1c a.wrDiscard (v.getLsbD 0) (hwSet a.wrDiscard ((s.begun.dev.pan p).arr ((o - 0x400) / 0x40)).wrDiscard) })
     else s)
  else if 0x610 ≤ o ∧ o < 0x650 then s.updPan p (fun q => { q with digData := Memory.writeBytes q.digData (o - 0x610) (leBytes 4 v.toNat) })
  else match o with
    | 0x008 => s.updPan p (fun q => { q with ueSeen := w1c q.ueSeen (v.getLsbD 0) (hwSet q.ueSeen (s.begun.dev.pan p).ueSeen) })
    | 0x600 =>
      if v.getLsbD 31 then s.digGo p (v.getLsbD 30) (fieldAt v.toNat 10 3) (fieldAt v.toNat 0 10)
      else s.updPan p (fun q => { q with digOp := v.getLsbD 30, digArr := BitVec.ofNat 3 (fieldAt v.toNat 10 3), digRow := v.setWidth 10 })
    | 0x604 => s.updPan p (fun q => { q with digDenied := w1c q.digDenied (v.getLsbD 2) (hwSet q.digDenied (s.begun.dev.pan p).digDenied),
                                             digDone := w1c q.digDone (v.getLsbD 1) (hwSet q.digDone (s.begun.dev.pan p).digDone) })
    | 0x750 => s.updPan p (fun q => { q with canaryMiss := w1c q.canaryMiss (v.getLsbD 31) (hwSet q.canaryMiss (s.begun.dev.pan p).canaryMiss) })
    | 0x800 => s.updPan p (fun q => { q with trimClamp := w1c q.trimClamp (v.getLsbD 28) (hwSet q.trimClamp (s.begun.dev.pan p).trimClamp) })
    | 0x804 => s.updPan p (fun q => { q with trimSel := BitVec.ofNat 13 (fieldAt v.toNat 9 4 * 512 + fieldAt v.toNat 0 7) })
    | _ => s

/-- An arbiter (05 Table 5-13): LIMIT is 1 to 1,000. -/
def State.writeArb (s : State) (r o : Nat) (v : W32) : State :=
  match o with
  | 0x00 => s.updArb r (fun a => { a with prio := v.setWidth 8 })
  | 0x04 =>
    let n := fieldAt v.toNat 0 10
    s.updArb r (fun a => { a with limit := setField (decide (1 ≤ n) && decide (n ≤ 1000)) a.limit (v.setWidth 10) })
  | _ => s

/-- DLE_FAULT (04 Table 4-7). -/
def State.writeDle (s : State) (o : Nat) (v : W32) : State :=
  match o with
  | 0x004 => s.updDle (fun d => { d with attnLate := w1c d.attnLate (v.getLsbD 2) (hwSet d.attnLate s.begun.dev.dle.attnLate),
                                         eccUE := w1c d.eccUE (v.getLsbD 1) (hwSet d.eccUE s.begun.dev.dle.eccUE),
                                         numeric := w1c d.numeric (v.getLsbD 0) (hwSet d.numeric s.begun.dev.dle.numeric) })
  | _ => s

/-- MEM has no writable register of its own but its arbiters'. -/
def State.writeMem (s : State) (o : Nat) (v : W32) : State :=
  if o < 0x3000 ∧ 0x100 ≤ o % 0x1000 then s.writeArb (o / 0x1000) (o % 0x1000 - 0x100) v else s

/-- WS (07 Table 7-10). -/
def State.writeWs (s : State) (o : Nat) (v : W32) : State :=
  if 0x100 ≤ o then s.writeArb 3 (o - 0x100) v
  else match o with
    | 0x000 => s.updWs (fun w => { w with dirFault := w1c w.dirFault (v.getLsbD 28) (hwSet w.dirFault s.begun.dev.ws.dirFault) })
    | 0x020 => s.updWs (fun w => { w with wearWarn := w1c w.wearWarn (v.getLsbD 31) (hwSet w.wearWarn s.begun.dev.ws.wearWarn) })
    | _ => s

/-- LNK_Pp_CTRL: REACH is B or K on P0 to P3 and O on P4 and P5; EN set and RETRAIN train the port, and a port without EN is
DOWN (10 R309, Table 10-12). -/
def State.writePortCtrl (s : State) (p : Nat) (v : W32) : State :=
  let r := fieldAt v.toNat 1 2
  let legal := if p < 4 then decide (r < 2) else r == 2
  let was := (s.dev.port p).en
  let s := s.updPort p (fun x => { x with reach := setField legal x.reach (BitVec.ofNat 2 r), en := v.getLsbD 0,
                                          state := if v.getLsbD 0 || x.state == 4 then x.state else 0 })
  if v.getLsbD 8 || (v.getLsbD 0 && !was) then stepLinkRetrain p .retrain s else s

/-- LNK (10 Tables 10-11 to 10-13). -/
def State.writeLnk (s : State) (o : Nat) (v : W32) : State :=
  if 0x1000 ≤ o then
    (if o < 0x1600 then
      let p := (o - 0x1000) / 0x100
      match o % 0x100 with
      | 0x00 => s.writePortCtrl p v
      | 0x28 => s.updPort p (fun x => { x with held0 := v })
      | 0x2C => stepVlShareWrite p v s
      | _ => s
     else s)
  else match o with
    | 0x000 => s.updLnk (fun l => { l with shareRefused := w1c l.shareRefused (v.getLsbD 4) (hwSet l.shareRefused s.begun.dev.lnk.shareRefused),
                                           wrRefused := w1c l.wrRefused (v.getLsbD 3) (hwSet l.wrRefused s.begun.dev.lnk.wrRefused) })
    | 0x010 => s.updLnk (fun l => { l with auto := v.getLsbD 31, wait := setField (decide (fieldAt v.toNat 0 9 ≤ 500)) l.wait (v.setWidth 9) })
    | 0x040 => stepRouteWrite v s
    | _ => s

/-- A word of a function's MSI-X table; clearing the mask bit sends a pending message (12 R373). -/
def State.writeMsix (s : State) (f o : Nat) (v : W32) : State :=
  let e := o / 16
  match o % 16 with
  | 0x0 => s.updMsix f e (fun m => { m with addr := putLo m.addr v.toNat })
  | 0x4 => s.updMsix f e (fun m => { m with addr := putHi m.addr v.toNat })
  | 0x8 => s.updMsix f e (fun m => { m with data := v })
  | 0xC => if v.getLsbD 0 then s.updMsix f e (fun m => { m with masked := true }) else stepMsixUnmask f e s
  | _ => s

/-- PCIE (12 Table 12-7). -/
def State.writePcie (s : State) (o : Nat) (v : W32) : State :=
  if 0x10000 ≤ o then (if o < 0x10400 then s.writeMsix 0 (o - 0x10000) v else s)
  else if 0x100 ≤ o then s.writeArb 4 (o - 0x100) v
  else match o with
    | 0x004 =>
      let n := fieldAt v.toNat 0 7
      s.updPcie (fun p => { p with ptmInterval := setField (decide (1 ≤ n) && decide (n ≤ 100)) p.ptmInterval (v.setWidth 7) })
    | 0x008 => s.updTime (fun t => { t with ptmFail := w1c t.ptmFail (v.getLsbD 30) (hwSet t.ptmFail s.begun.dev.time.ptmFail) })
    | 0x030 => s.updPcie (fun p => { p with evtBase := putLo p.evtBase (v.toNat / 4096 * 4096) })
    | 0x034 => s.updPcie (fun p => { p with evtBase := putHi p.evtBase v.toNat })
    | 0x038 => s.writeEvtCfg v
    | 0x040 => stepEventRingConsWrite v s
    | _ => s

/-- SRV_STOCK_*: the stockpile's region; clearing EN or moving it loses what is parked there (09 Table 9-8, Caution). -/
def State.writeStock (s : State) (o : Nat) (v : W32) : State :=
  let move : W64 → Srv → Srv := fun b x => { x with stockBase := b, stockLost := x.stockLost || (x.stockEn && b != x.stockBase) }
  match o with
  | 0x150 => s.updSrv (fun x => move (putLo x.stockBase (v.toNat / 4096 * 4096)) x)
  | 0x154 => s.updSrv (fun x => move (putHi x.stockBase v.toNat) x)
  | 0x158 =>
    let n := fieldAt v.toNat 0 21
    s.updSrv (fun x => { x with stockEn := v.getLsbD 31, stockLost := x.stockLost || (x.stockEn && !v.getLsbD 31),
                                stockMib := setField (decide (1 ≤ n) && decide (n ≤ 1048576)) x.stockMib (v.setWidth 21) })
  | 0x15C => s.updSrv (fun x => { x with stockErr := w1c x.stockErr (v.getLsbD 31) (hwSet x.stockErr s.begun.dev.srv.stockErr),
                                         stockFull := w1c x.stockFull (v.getLsbD 30) (hwSet x.stockFull s.begun.dev.srv.stockFull) })
  | _ => s

/-- A reply ring of a function (08 Table 8-15). -/
def State.writeRing (s : State) (f r o : Nat) (v : W32) : State :=
  match o with
  | 0x00 => s.updRing f r (fun g => { g with base := putLo g.base (v.toNat / 4096 * 4096) })
  | 0x04 => s.updRing f r (fun g => { g with base := putHi g.base v.toNat })
  | 0x08 => s.writeRingCfg f r v
  | 0x0C => stepRingConsWrite f r v s
  | _ => s

/-- A function's SRV set, written by PF0 or by the function itself, to which CHAN_RANGE and TENANTS are read-only (08 R268,
Table 8-14; 12 R371, R373). A VECTOR above 63 is reserved. -/
def State.writeFn (s : State) (f o : Nat) (v : W32) (pf0 : Bool) : State :=
  if 0x100 ≤ o ∧ o < 0x900 then s.writeRing f ((o - 0x100) / 0x20) (o % 0x20) v
  else match o with
    | 0x000 => if pf0 then stepChanRangeWrite f v s else s
    | 0x004 => s.updFn f (fun n => { n with rangeRefused := w1c n.rangeRefused (v.getLsbD 30) (hwSet n.rangeRefused (s.begun.dev.fn f).rangeRefused),
                                            consBad := w1c n.consBad (v.getLsbD 29) (hwSet n.consBad (s.begun.dev.fn f).consBad),
                                            fetchErr := w1c n.fetchErr (v.getLsbD 28) (hwSet n.fetchErr (s.begun.dev.fn f).fetchErr) })
    | 0x008 => s.updFn f (fun n => { n with table := putLo n.table (v.toNat / 4096 * 4096) })
    | 0x00C => s.updFn f (fun n => { n with table := putHi n.table v.toNat })
    | 0x010 => if pf0 then s.updFn f (fun n => { n with tenants := putLo n.tenants v.toNat }) else s
    | 0x014 => if pf0 then s.updFn f (fun n => { n with tenants := putHi n.tenants v.toNat }) else s
    | 0x018 =>
      let e := fieldAt v.toNat 0 11
      s.updFn f (fun n => { n with irqEn := v.getLsbD 31, holdoff := fieldAt v.toNat 16 8, vector := setField (decide (e < 64)) n.vector e })
    | _ => s

/-- SRV (08 R268, 09 Table 9-8). -/
def State.writeSrv (s : State) (f o : Nat) (v : W32) : State :=
  if 0x10000 ≤ o then (if o < 0x30000 then s.writeFn ((o - 0x10000) / 0x1000) (o % 0x1000) v (f == 0) else s)
  else match o with
    | 0x100 =>
      let u := fieldAt v.toNat 16 8
      s.updSrv (fun x => { x with util := setField (decide (50 ≤ u) && decide (u ≤ 100)) x.util (BitVec.ofNat 8 u), slipAllow := v.setWidth 8 })
    | _ => s.writeStock o v

/-- CHK (11 Table 11-14): K is 7 to 12. -/
def State.writeChk (s : State) (o : Nat) (v : W32) : State :=
  if 0x100 ≤ o ∧ o < 0x200 then stepDenyWrite ((o - 0x100) / 4) v s
  else match o with
    | 0x000 =>
      let k := fieldAt v.toNat 0 4
      s.updChk (fun c => { c with canaryEn := v.getLsbD 8, k := setField (decide (7 ≤ k) && decide (k ≤ 12)) c.k (v.setWidth 4) })
    | _ => s

/-- SEC (13 Table 13-6). A GO whose own row carries what a host read returns (LC_TRANSITION's token, FW_UPDATE's bundle) acts
here as with a read that failed (entry 34). -/
def State.writeSec (s : State) (o : Nat) (v : W32) : State :=
  if 0x040 ≤ o ∧ o < 0x07C then s.updSec (fun x => { x with keyData := Sparse.set (fun _ => 0) x.keyData ((o - 0x040) / 4) v })
  else match o with
    | 0x004 =>
      let s := if v.getLsbD 30 then stepLcChallenge s else s
      if v.getLsbD 31 then stepLcTransition (fieldAt v.toNat 0 3) (fieldAt v.toNat 8 8) .failed false s else s
    | 0x008 => s.updSec (fun x => { x with lcRefused := w1c x.lcRefused (v.getLsbD 31) (hwSet x.lcRefused s.begun.dev.sec.lcRefused) })
    | 0x030 => s.updSec (fun x => { x with token := putLo x.token (v.toNat / 8 * 8) })
    | 0x034 => s.updSec (fun x => { x with token := putHi x.token v.toNat })
    | 0x080 =>
      if v.getLsbD 31 then s.keyGo (v.getLsbD 8) (fieldAt v.toNat 0 3)
      else s.updSec (fun x => { x with keyOp := v.getLsbD 8, keySlot := v.setWidth 3 })
    | 0x084 => s.updSec (fun x => { x with keyRefused := w1c x.keyRefused (v.getLsbD 31) (hwSet x.keyRefused s.begun.dev.sec.keyRefused) })
    | 0x0A0 => s.updSec (fun x => { x with fwAddr := putLo x.fwAddr (v.toNat / 4096 * 4096) })
    | 0x0A4 => s.updSec (fun x => { x with fwAddr := putHi x.fwAddr v.toNat })
    | 0x0A8 =>
      let s := if v.getLsbD 31 then stepFwUpdate none false s else s
      if v.getLsbD 30 then stepCommitSvn s else s
    | 0x0AC => s.updSec (fun x => { x with fwErr := w1c x.fwErr (v.getLsbD 28) (hwSet x.fwErr s.begun.dev.sec.fwErr) })
    | _ => s

/-- RST (14 Table 14-6): LIMIT is 10 to 10,000, FCLK 0 to 6, KIND 0 to 9. -/
def State.writeRst (s : State) (o : Nat) (v : W32) : State :=
  match o with
  | 0x004 => stepRstCtrlWarm (fieldAt v.toNat 0 8) s
  | 0x008 =>
    let n := fieldAt v.toNat 0 14
    s.updRst (fun r => { r with limit := setField (decide (10 ≤ n) && decide (n ≤ 10000)) r.limit (v.setWidth 14) })
  | 0x00C => stepWatchdogKick s
  | 0x020 =>
    let c := fieldAt v.toNat 24 3
    let k := fieldAt v.toNat 16 8
    if v.getLsbD 31 then stepBistRequest c k (fieldAt v.toNat 0 12) s
    else s.updRst (fun r => { r with fclk := setField (decide (c < 7)) r.fclk (BitVec.ofNat 3 c),
                                     kind := setField (decide (k < 10)) r.kind (BitVec.ofNat 8 k), target := v.setWidth 12 })
  | 0x024 => s.updRst (fun r => { r with done := w1c r.done (v.getLsbD 30) (hwSet r.done s.begun.dev.rst.done),
                                         denied := w1c r.denied (v.getLsbD 29) (hwSet r.denied s.begun.dev.rst.denied) })
  | _ => s

/-- HK (15 Table 15-5). -/
def State.writeHk (s : State) (o : Nat) (v : W32) : State :=
  match o with
  | 0x000 => s.updHk (fun h => { h with supplyFault := w1c h.supplyFault (v.getLsbD 31) (hwSet h.supplyFault s.begun.dev.hk.supplyFault),
                                        refused := w1c h.refused (v.getLsbD 30) (hwSet h.refused s.begun.dev.hk.refused) })
  | 0x004 => if v.getLsbD 0 then stepFurlRequest s else s
  | 0x008 =>
    let a := fieldAt v.toNat 16 8
    let b := fieldAt v.toNat 8 8
    let c := fieldAt v.toNat 0 4
    s.updHk (fun h => { h with dramLimit := setField (decide (60 ≤ a) && decide (a ≤ 90)) h.dramLimit (BitVec.ofNat 8 a),
                               dieLimit := setField (decide (70 ≤ b) && decide (b ≤ 95)) h.dieLimit (BitVec.ofNat 8 b),
                               floor := setField (decide (c ≤ 8)) h.floor (BitVec.ofNat 4 c) })
  | 0x010 =>
    let op := fieldAt v.toNat 4 2
    let s := s.updHk (fun h => { h with islOp := setField (decide (op ≠ 0)) h.islOp (BitVec.ofNat 2 op), islSel := v.setWidth 4 })
    if v.getLsbD 31 then s.islandGo s.dev.hk.islOp.toNat s.dev.hk.islSel.toNat else s
  | 0x204 => s.updHk (fun h => { h with overflow := w1c h.overflow (v.getLsbD 31) (hwSet h.overflow s.begun.dev.hk.overflow) })
  | 0x208 => s.updHk (fun h => { h with mask := putLo h.mask v.toNat })
  | 0x20C => s.updHk (fun h => { h with mask := putHi h.mask v.toNat })
  | 0x210 =>
    let n := fieldAt v.toNat 0 12
    s.updHk (fun h => { h with trigEn := v.getLsbD 31, trigSrc := v.getLsbD 30, trigChan := BitVec.ofNat 6 (fieldAt v.toNat 24 6),
                               trigDelay := BitVec.ofNat 8 (fieldAt v.toNat 16 8), trigPhase := BitVec.ofNat 4 (fieldAt v.toNat 12 4),
                               trigPeriod := setField (decide (3 ≤ n)) h.trigPeriod (v.setWidth 12) })
  | _ => s

/-- CN (15 Table 15-6, 14 Table 14-7). -/
def State.writeCn (s : State) (o : Nat) (v : W32) : State :=
  match o with
  | 0x014 => s.updCn (fun c => { c with rtcNew := BitVec.ofNat 48 (c.rtcNew.toNat / 2 ^ 32 * 2 ^ 32 + v.toNat) })
  | 0x018 => s.updCn (fun c => { c with rtcNew := BitVec.ofNat 48 (v.toNat % 65536 * 2 ^ 32 + lo32 c.rtcNew.toNat) })
  | 0x01C => if v.getLsbD 0 then stepRtcSet s else s
  | 0x028 => s.writeReefFloor v
  | 0x030 => s.writeI3cCfg v
  | 0x124 => if v.getLsbD 0 then stepResetCountClear s else s
  | 0x128 => s.updCn (fun c => { c with vbakLost := w1c c.vbakLost (v.getLsbD 0) (hwSet c.vbakLost s.begun.dev.cn.vbakLost) })
  | _ => s

/-- A 32-bit write of one register by a function. A write to an offset that no register defines is discarded (01 R41); a VF
writes only its SRV set and its MSI-X table (12 Table 12-4). -/
def State.writeReg (s : State) (f blk o : Nat) (v : W32) : State :=
  if f ≠ 0 then (if blk = 9 then s.writeSrv f o v else if blk = 15 then s.writeMsix f o v else s)
  else match blk with
    | 0 => s.writeGlb o v
    | 1 => s.writeTime o v
    | 2 => s.writeFab o v
    | 3 => s.writePan (o / 0x1000) (o % 0x1000) v
    | 4 => s.writeDle o v
    | 5 => s.writeMem o v
    | 6 => s.writeWs o v
    | 7 => s.writeLnk o v
    | 8 => s.writePcie o v
    | 9 => s.writeSrv 0 o v
    | 10 => s.writeChk o v
    | 11 => s.writeSec o v
    | 12 => s.writeRst o v
    | 13 => s.writeHk o v
    | 14 => s.writeCn o v
    | _ => s

/-- A write of the word at an offset of a function's BAR0. -/
def State.writeAt (s : State) (f a : Nat) (v : W32) : State :=
  match fnBlockOf f a with
  | some (blk, o) => s.writeReg f blk o v
  | none => s

/-- REGISTER_WRITE: a write to BAR0. Narrower than 32 bits, or wider at an address that is no multiple of 4, it is discarded
whole; else it is carried out as 32-bit writes in ascending order, and bytes that fill no word are discarded (01 R42). -/
def stepRegisterWrite (f off : Nat) (data : List Byte) (s : State) : State :=
  if !s.dev.barUp f then s.emit (.unsupported f)
  else if off % 4 ≠ 0 then s
  else s.each (List.range (data.length / 4)) (fun s i => s.writeAt f (off + 4 * i) (BitVec.ofNat 32 (leAt data (4 * i) 4)))

/-- The TS fields of `len` bytes of a block, as bytes; words that hold no TS field are 0 (08 R263). -/
def tsBytes (d : Dev) (tag blk off len : Nat) : List Byte :=
  (List.range (len / 4)).flatMap (fun i => leBytes 4 (tsWord d tag blk (off + 4 * i)))

/-- MGMT_TS_READ: TS registers of a block from the latest snapshot, with its tag; the crow's nest answers in FURL and in
reset-hold too (01 R38, R39; 15 R441). -/
def stepMgmtTsRead (blk off len : Nat) (s : State) : State :=
  if s.dev.cn.auxOk && decide (blk < 15) && decide (off % 4 = 0) then s.emit (.mgmt s.snapTick (tsBytes s.snap s.snapTick blk off len))
  else s

/-- Size of a function's BAR0 (12 Table 12-3). -/
def bar0Size (f : Nat) : Nat := if f = 0 then 0x4000000 else 0x10000

/-- An access past the end of its BAR has no address (12 R370). -/
def execLowWordRead (fn : Nat) (slots : Bool) (off len : Nat) (s : State) : Host.Outcome State Fault Refusal :=
  if (if slots then 4194304 else bar0Size fn) < off + len then .fault .outsideBar else .next (stepLowWordRead fn slots off len s)
def execSnapHold (s : State) : Host.Outcome State Fault Refusal := .next (stepSnapHold s)
def execSnapRelease (s : State) : Host.Outcome State Fault Refusal := .next (stepSnapRelease s)
def execSnapHoldExpiry (s : State) : Host.Outcome State Fault Refusal := .next (stepSnapHoldExpiry s)
def execRegisterWrite (fn off : Nat) (data : List Byte) (s : State) : Host.Outcome State Fault Refusal :=
  if bar0Size fn < off + data.length then .fault .outsideBar else .next (stepRegisterWrite fn off data s)
def execMgmtTsRead (block off len : Nat) (s : State) : Host.Outcome State Fault Refusal := .next (stepMgmtTsRead block off len s)

end Sys2Proof.Machine
end

