-- ==== Sys2Proof/Machine/Tack.lean ====
section
/-! DEFINITION. IMAGE_TACK: the marker and its policies, the rewrite, the bank switch, the store commit (07 R218 to R227,
R457; 02 R66). -/

namespace Sys2Proof.Machine

/-- The tack's gap g, from the body bytes of the largest position (07 R219). -/
def Dev.tackGap (d : Dev) : Nat :=
  let f := max 1 d.fab.frame
  ceilDiv (ceilDiv d.ws.maxBody (12300000 * max 1 d.time.inForce) + 1) f * f

/-- A stream whose generation is admitted re-prefills under the new epoch (07 R224). -/
def State.rebuildGen (s : State) (ch : Nat) : State :=
  match s.dev.stream ch with
  | none => s
  | some t =>
    match t.gen with
    | none => s
    | some g =>
      if 131072 < t.hist.length then s.endGen ch stEPOCH 0
      else
        let s := (s.dropFrom ch 0)
        let s := if g.inFlight.isEmpty then s else s.addMark t.id 0
        let n := t.hist.length
        let held := t.blocks.length
        let s := s.freeStream ch
        s.updStream ch (fun t => { t with
          st := .prefill, epoch := s.dev.entryEpoch,
          gen := t.gen.map (fun g => { g with
            reserve := g.reserve + held, start := n, next := 0, skip := (0, 0), rebuilt := n, reprefill := true, stepFrom := none,
            generated := g.generated - g.sampled.length, sampled := [], proposals := [], inFlight := [], stepAt := 0, verified := 0,
            mark := none, sum := [] }) })

/-- What REBUILD and DRAIN do with a stream at the marker (07 Table 7-9, R224, R227). -/
def State.tackStream (s : State) (t : Stream) : State :=
  let free : State → State := fun s => (s.freeStream t.ch).updStream t.ch (fun x => { x with
    reKv := max x.reKv t.kv, gen := x.gen.map (fun g => { g with rebuilt := max g.rebuilt t.kv }) })
  match t.park with
  | some p =>
    let s := (free s).updStream t.ch (fun x => { x with park := x.park.map (fun p => { p with epochFreed := true, resuming := none }) })
    match p.resuming with
    | some (rep, start, maxNew, _) => s.reprefillOr { rep with ring := t.desc.ring } start maxNew stEPOCH 0
    | none => s
  | none =>
    match t.gen with
    | some g => if g.admitted.isSome then s.rebuildGen t.ch else free s
    | none => if t.st == .failed then s else free s

/-- Under MIX the KV written or in flight at the marker keeps its older epoch (07 R225). -/
def State.keepOldKv (s : State) : State :=
  s.updSrv (fun v => { v with streams := v.streams.map (fun e =>
    (e.1, { e.2 with oldKv := ((v.flights.filter (fun f => f.stream == e.2.id)).map (fun f => f.index + 1)).foldl max e.2.kv })) })

/-- The marker is to end the head's bundle of the current tick m (07 R219). -/
def State.placeMarker (s : State) : State :=
  let m := s.tick
  let gap := s.dev.tackGap
  s.updWs (fun w => { w with tack := w.tack.map (fun k => { k with marker := some m, gap }) })

/-- What the marker at the end of the head's bundle does to streams, prefix table and pool (07 R219, R223 to R227, R457). -/
def State.tackMarker (s : State) : State :=
  match s.dev.ws.tack, s.dev.ws.staged with
  | some k, some p =>
    let m := s.tick
    let e := s.dev.ws.stage
    let s := s.updFab (fun b => { b with markerSeen := some (m, e) })
    let s := s.updSrv (fun v => { v with prefixTab := [], kvTotal := p.hdr.kvBlocks })
    let s := if k.policy = 1 then s.keepOldKv else s.each (s.dev.srv.streams.map (·.2)) State.tackStream
    let s := s.each (s.dev.srv.streams.map (·.1)) State.rehash
    (s.updWs (fun w => { w with pool := max w.pool p.hdr.kvBlocks })).shrinkPool
  | _, _ => s

/-- The end of tick k at the head: its bundle leaves, and behind the tick's last position the tack marker that is due (01 R28; 07
R219). -/
def State.closeHead (s : State) : State :=
  if !s.dev.isHead || !s.dev.time.serves then s
  else
    let due := s.dev.ws.markerAt == some s.tick
    let s := s.sendHeadBundle due
    if due then s.tackMarker else s

/-- IMAGE_TACK (07 R218, R219, R226; 02 R66). -/
def effTack (c : Cmd) (s : State) : State :=
  let rep := s.repOf c
  let pol := c.at 0x18 1
  match s.dev.imageRefusal .tack with
  | some code => s.refuseImage rep .tack code
  | none =>
    if 2 < pol then s.refuseImage rep .tack 0x01
    else if pol = 1 && !s.dev.ws.mixOk then s.refuseImage rep .tack 0x10
    else
      let s := s.reply rep stQUEUED 0 true false
      let k : Tack := { policy := pol, reply := some rep, drainLimit := c.at 0x1C 4, collected := c.tick, marker := none, gap := 0 }
      let s := s.updWs (fun w => { w with op := 4, tack := some k })
      if pol = 2 then s else s.placeMarker

/-- A tack under DRAIN whose marker is not placed. -/
def Ws.drains (w : Ws) : Option Tack :=
  match w.tack with
  | some k => if k.policy = 2 ∧ k.marker.isNone then some k else none
  | none => none

/-- DRAIN_MARKER: the marker goes once no old stream's generation runs (07 R226). -/
def stepDrainMarker (s : State) : State :=
  match s.dev.ws.drains with
  | some _ => if s.dev.admittedGens.isEmpty then s.placeMarker else s
  | none => s

/-- DRAIN_LIMIT_EXPIRY: at the limit, counted from collection, the remaining streams follow REBUILD (07 R226). -/
def stepDrainLimitExpiry (s : State) : State :=
  match s.dev.ws.drains with
  | some k => if k.drainLimit ≠ 0 ∧ k.collected + k.drainLimit ≤ s.tick then s.placeMarker else s
  | none => s

/-- A staged body's bytes are copied into its pan; its configuration waits for the bank switch (07 R220). -/
def Pan.copyBody (p : Pan) (b : PanBody) (tick : Nat) : Pan :=
  let q := p.loadBody b tick
  { q with arrs := (List.range 8).foldl (fun m a => Sparse.set Arr.reset m a { (q.arr a) with cfgDue := (p.arr a).cfgDue }) q.arrs }

/-- The pans' configuration of a payload takes effect (07 R220, 03 R77). -/
def State.switchCfgs (s : State) (bodies : List PanBody) : State :=
  s.each bodies (fun s b =>
    match s.dev.serving b.entry.home with
    | some p => s.each (List.range 8) (fun s a => s.updArr p a (fun x => ({ x with cfg := cfgOf (b.entry.cfgs.getD a 0),
                                                                                   cfgDue := none } : Arr).gate (s.pan p).trimLoaded))
    | none => s)

/-- The verdict stamps of every stage ahead of this package have come for the positions that left it last (07 R220). -/
def Dev.lastStamped (d : Dev) : Bool :=
  d.fab.lastLeft.all (fun p => decide (d.role.position ≤ ((d.fab.stamped.filter (fun e => e.1 == p)).map (·.2)).eraseDups.length))

/-- TACK_REWRITE_START, at a boundary: the marker has passed, no old-epoch position remains here, and the stamps for the last ones
have come: the staged bodies go into arrays and SRAM, the new tables into the idle bank (07 R220). -/
def stepTackRewriteStart (s : State) : State :=
  match s.dev.fab.markerSeen, s.dev.ws.staged with
  | some (m, e), some p =>
    if m < s.tick && s.dev.time.cycle == 0 && s.dev.ws.epoch < e && s.dev.ws.state != 5 && s.dev.fab.works.all (fun w => decide (e ≤ w.epoch)) &&
        s.dev.lastStamped then
      let k := s.tick
      let s := s.each (bodiesOf p.man p.pages p.position) (fun s b =>
        match s.dev.serving b.entry.home with
        | some q => s.updPan q (fun x => x.copyBody b k)
        | none => s.leavePosition (Pan.island b.entry.home))
      let s := s.loadSchedule p none false [!s.dev.fab.bank]
      (s.updFab (fun f => { f with hopPending := true })).updWs (fun w => { w with state := 5 })
    else s
  | _, _ => s

/-- TACK_BANK_SWITCH: at a frame boundary after the copy, the bank, the configurations, the DLE pointers and the layers turn
to the new epoch, and the clamp monitors restart (07 R220). -/
def stepTackBankSwitch (s : State) : State :=
  match s.dev.ws.staged with
  | some p =>
    if s.dev.ws.state = 5 && s.dev.time.cycle == 0 && s.tick % max 1 s.dev.fab.frame == 0 then
      let k := s.tick
      let tts := match scheduleOf p.man p.pages p.position none with
        | some b => timetables b
        | none => []
      let lm := fun (d : Dev) => d.dle.named 9
      let old := lm s.dev
      let s := s.switchCfgs (bodiesOf p.man p.pages p.position)
      let s := s.updFab (fun f => { f with bank := !f.bank, hopPending := false, tables := tts, markerSeen := none, markerSent := false })
      let s := s.loadRest p
      let same := old == lm s.dev
      s.updWs (fun w => { w with stage := 0, state := 0, tackTick := k, commitDue := true, lmSame := same })
    else s
  | none => s

/-- The tack ends at the head with its final record, after the last bank switch (08 Table 8-6). -/
def State.endTack (s : State) : State :=
  match s.dev.ws.tack with
  | some k =>
    let s := (s.setResult .tack 0 0).updWs (fun w => { w with tack := none })
    match k.reply with
    | some rep => s.reply rep stOK 0 false true
    | none => s
  | none => s

/-- The payloads that a tack's store commit writes: the own one of the new epoch; at a spare its cold duties of that epoch (07 R227, R229). -/
def Dev.commitPayloads (d : Dev) : List Payload :=
  (if d.ws.commitDue then d.ws.staged.toList else
    d.ws.duties.filter (fun p => p.epoch == d.ws.stage && d.ws.cover.any (fun c => c.1 == p.position && c.2 == 2))).map
      (fun p => { p with pending := true })

/-- WEIGHT_STORE_COMMIT: after the last package's bank switch the new payload is written beside the one in service, and WRITTEN
reported; the commit goes on as after an install (07 R206, R227, R229). At the head the tack's final record goes out first. -/
def stepWeightStoreCommit (s : State) : State :=
  let s := match s.dev.ws.tack with
    | some k => if k.marker.isSome && s.dev.ws.stage == 0 then s.endTack else s
    | none => s
  if s.dev.ws.store.any (·.pending) || !(s.dev.ws.commitDue || (s.dev.role.position == 0xFFFF && s.dev.ws.stage != 0)) then s
  else
    let l := s.dev.commitPayloads
    let s := if l.isEmpty then s.updWs (fun w => { w with state := 4 }) else s.writePending l
    if s.dev.isHead then s.commitProgress s.dev.role.pkg.toNat else s.reportWritten

def execImageTack (ch : Nat) (s : State) : Host.Outcome State Fault Refusal := .next (s.runDue 0x22 ch effTack)
def execDrainMarker (s : State) : Host.Outcome State Fault Refusal := .next (stepDrainMarker s)
def execDrainLimitExpiry (s : State) : Host.Outcome State Fault Refusal := .next (stepDrainLimitExpiry s)
def execTackRewriteStart (s : State) : Host.Outcome State Fault Refusal := .next (stepTackRewriteStart s)
def execTackBankSwitch (s : State) : Host.Outcome State Fault Refusal := .next (stepTackBankSwitch s)
def execWeightStoreCommit (s : State) : Host.Outcome State Fault Refusal := .next (stepWeightStoreCommit s)

end Sys2Proof.Machine
end

