-- ==== Sys2Proof/Machine/Boundary.lean ====
section
/-! DEFINITION. The tick boundary: the end of a tick, the snapshot, the windows that close, the changes that are due, stamps
and marker, and the collection of sealed commands (05 R144 to R150; 01 R35). -/

namespace Sys2Proof.Machine

/-- The rest of the tick that ends passes (05 R142, R143). -/
def State.passTick (s : State) : State := s.passCycles (s.dev.tickCycles - s.dev.time.cycle)

/-- The tick that opens: its number, cycle 0, the seam's correction that ended the last one; PTM time at the boundary; the crow's
nest's record of it (05 R142, R147; 12 R378; 15 R440). -/
def State.openTick (s : State) : State :=
  let s := s.updTime (fun t => { t with
    tick := t.tick + 1, cycle := 0, adj := t.adjNext, adjNext := 0, ptmAtBoundary := if t.ptmValid then t.ptmNow else 0 })
  let k := s.tick
  s.updCn (fun c => { c with tickLast := k, sinceTick := 0 })

/-- SNAPSHOT_CAPTURE: snapshot k holds every TS field as it stood at the end of tick k - 1 (01 R35). Time's own fields are those
of the boundary. -/
def State.capture (s : State) : State := { s with snap := s.dev, snapTick := s.tick }

/-- Counts of tick k start anew in an array: what a spanning vector's later steps have flagged joins them; vectors stay while they
wait for their checks, and through the tick after their last accumulate, in which their last correction slot may lie
(03 Table 3-12, Table 3-13; 04 R105; 05 R128). -/
def Arr.newTick (k : Nat) (a : Arr) : Arr :=
  { a with satGroup := a.satLate.1, satCnt := wrapInc a.satCnt a.satLate.2, satLate := (0, 0),
           done := a.done.filter (fun v => !v.checked || decide (k ≤ v.tick + 1)) }

/-- Counts of a tick start anew in a pan (04 Table 4-5, 05 Table 5-10). -/
def Pan.newTick (k : Nat) (p : Pan) : Pan :=
  { p with vcoreBusy := 0, unitsUsed := 0, ovfFull := false, ovfSpent := false, queuePeak := p.queue.length, canaryDue := none,
           arrs := Sparse.updAll Arr.reset (fun _ a => a.newTick k) (p.arrs.map (·.1)) p.arrs }

/-- The hot window keeps a tick's KV until the tick's end and its pool write's; provisional KV stays (09 R288). -/
def Fab.newTick (b : Fab) : Fab :=
  { b with slipStrict := 0, slipLink := 0, slipAttn := 0, slipPrefetch := 0, slipWaiting := 0, slipUsed := [], pairsUsed := [],
           expertUsed := [], hot := b.hot.filter (fun h => h.provisional || !h.done) }

/-- Counts of a tick start anew. -/
def Dev.newTick (d : Dev) : Dev :=
  { d with fab := d.fab.newTick, pans := Sparse.updAll Pan.reset (fun _ p => p.newTick d.time.tick) (d.pans.map (·.1)) d.pans,
           dle := { d.dle with busy := [] },
           arb := Sparse.updAll Arb.reset (fun _ a => { a with maxWait := 0 }) (d.arb.map (·.1)) d.arb,
           srv := { d.srv with headUsed := 0, collected := 0 } }

/-- R144 step 2: windows and timers that end at this boundary (05 R149, R150). -/
def State.closeWindows (s : State) : State :=
  let s := stepSnapHoldExpiry (stepFreeTimeout (stepClampWindowClose s.endWindows))
  stepDrainMarker (stepDrainLimitExpiry s)

/-- A failed array with no free spare is rewritten in DIGITAL mode and, when its content check passes, returns to COMPUTE at
the boundary after the rewrite (11 R339). -/
def State.restoreInPlace (s : State) : State :=
  match s.dev.ownPayload with
  | none => s
  | some (pl, _) =>
    let bodies := bodiesOf pl.man pl.pages pl.position
    s.each (s.dev.pans.map (·.1)) (fun s p =>
      let home := if (s.pan p).role == .spareServing then (s.pan p).subst.toNat else p
      match bodies.find? (fun b => b.entry.home == home) with
      | none => s
      | some b =>
        s.each (List.range 8) (fun s a =>
          let x := s.arr p a
          match Tab.find b.arrays a with
          | some rows =>
            if x.restoring && x.mode == .digital then
              let y := { x with cells := memOfBytes 0 (sliceAt rows 0 pageBytes), cfg := cfgOf (b.entry.cfgs.getD a 0) }
              match badRow (s.pan p) a y with
              | none => s.updArr p a (fun _ => ({ y with restoring := false, valid := true } : Arr).gate (s.pan p).trimLoaded)
              | some _ => s.updArr p a (fun x => { x with cells := y.cells })
            else s
          | none => s))

/-- A pan vacated after a content failure has been rewritten: its payload comes back at the next frame boundary, unless the array
or the pan has been retired meanwhile (11 R339, R351). -/
def State.returnPayloads (s : State) : State :=
  s.each (s.dev.pans.map (·.1)) (fun s p =>
    match (s.pan p).returnArr with
    | none => s
    | some a =>
      let x := s.pan p
      if x.vacateTo.isSome then s
      else
        let stays := (x.arr a).excluded || x.role == .retired || s.dev.chk.isRetired 2 p
        let s := s.updPan p (fun q => { q.updArr a (fun y => { y with restoring := false }) with returnArr := none })
        match s.dev.pans.find? (fun e => e.2.role == .spareServing && e.2.subst == BitVec.ofNat 12 p && e.2.vacateTo.isNone) with
        | some (q, _) =>
          if stays || x.role != .spareIdle then s
          else
            let b := s.dev.fab.frameAfter s.tick 1
            s.updPan q (fun y => { y with vacateTo := some (p, b), vacateRetires := false })
        | none => s)

/-- Array configurations and voltage trims due take effect (03 R77; 05 R130). -/
def Arr.applyCfg (a : Arr) : Arr := match a.cfgDue with
  | some c => { a with cfg := c, cfgDue := none }
  | none => a

def Pan.applyCfg (p : Pan) : Pan :=
  { p with vtrim := p.vtrimDue.getD p.vtrim, vtrimDue := none,
           arrs := Sparse.updAll Arr.reset (fun _ a => a.applyCfg.gate p.trimLoaded) (p.arrs.map (·.1)) p.arrs }

/-- Pan configurations and DLE clock steps due take effect (03 R77; 04 R123; 05 R130). -/
def Dev.applyCfg (d : Dev) : Dev :=
  { d with pans := Sparse.updAll Pan.reset (fun _ p => p.applyCfg) (d.pans.map (·.1)) d.pans,
           dle := { d.dle with clkStep := d.dle.clkStepDue.foldl (fun m e => Sparse.set (fun _ => 0) m e.1 e.2) d.dle.clkStep,
                               clkStepDue := [] } }

/-- Moves of pans that are decided and due at this frame boundary (11 R352). -/
def State.substitute (s : State) : State := s.each (s.dev.pans.map (·.1)) (fun s p => stepPanSubstitution p s)

/-- A STOP that is due (05 Table 5-12). -/
def State.applyStop (s : State) : State :=
  if s.dev.time.stopDue then s.updTime (fun t => { t with st := .stopped, stopDue := false }) else s

/-- R144 step 3: changes due at this boundary, in the fabric (03 R77; 04 R102, R108, R125; 05 R138; 06 R178; 11 R339, R352). -/
def State.applyFabric (s : State) : State :=
  let s := (s.restoreInPlace.upd Dev.applyCfg).returnPayloads
  let s := s.applyRestores.each layerSlots (fun s l => stepClampPolicyAction l s)
  s.switchBank.substitute.stepTaps

/-- R144 step 3: changes due at this boundary, around the fabric: period and stretch, management, retirement, links, slice, keys,
islands, FLRs (05 R148; 08 R265; 10 R321, R327, R328, R333; 11 R352, R359, R360; 13 R386; 15 R429). -/
def State.applyRest (s : State) : State :=
  let s := (s.applyChange.applyBudget).applyDeny.compareViews.decideRetires
  let s := (stepRouteBankSwitch s.applyShares).finishSlice.stepRerig.suspendLost
  s.applyIslands.applyKeys.actFlr.applyStop

/-- The VERDICT messages and the spares' stretch requests that did not come in the tick that ends. The head is the pipeline neighbour of
the last position: three boundaries in a row without its message, or three ticks without a spare's request, and the member is lost; a
layer package counts those of its neighbour (10 R319, R327). -/
def State.countVerdicts (s : State) : State :=
  let l := s.dev.lnk
  let n := if l.verdictHere then 0 else l.missed + 1
  let heads := s.dev.isHead && s.dev.time.serves
  let counts := s.dev.role.assigned && s.dev.time.serves && (!heads || decide (1 < l.pipeline.length))
  let s := s.updLnk (fun l => { l with
    missed := if counts then n else 0, verdictHere := l.verdictEarly, verdictEarly := false,
    members := l.members.map (fun m => if m.position = 0xFFFF ∧ m.inRun then { m with missed := if heads then m.missed + 1 else 0 } else m) })
  if !heads then s
  else
    let s := if 3 ≤ s.dev.lnk.missed then ((s.dev.lnk.pipeline.getLast?).map (fun m => s.noteLost m.pkg 0)).getD s else s
    s.each (s.dev.lnk.members.filter (fun m => m.position == 0xFFFF && decide (3 < m.missed))) (fun s m => s.noteLost m.pkg 0)

/-- REPLY_MESSAGE: one message to each function that asks for one, held off for HOLDOFF ticks (08 R251). -/
def State.replyMessage (s : State) (f : Nat) : State :=
  let n := s.dev.fn f
  let k := s.tick
  let off := match n.lastMsg with
    | some t => decide (k < t + n.holdoff)
    | none => false
  if !n.irqEn then s.updFn f (fun n => { n with irqWant := false })
  else if n.irqWant && !off then (s.updFn f (fun n => { n with irqWant := false, lastMsg := some k })).sendMsix f n.vector
  else s

/-- The event ring's message: an entry was mirrored in the tick that ended (12 R377). -/
def State.eventMessage (s : State) : State :=
  if s.dev.pcie.evtTick then (s.updPcie (fun p => { p with evtTick := false })).sendMsix 0 s.dev.pcie.evtVector.toNat else s

/-- Messages of a boundary: reply messages, the event message, and those that waited for a mask or for Bus Master Enable. -/
def State.messages (s : State) : State :=
  let s := s.each (List.range 32) State.replyMessage
  s.eventMessage.each (List.range 32) (fun s f => (s.flushMsix f).flushOuts f)

/-- R144 step 6: the sealed slots are collected, and the ready commands are put in the boundary's order; what needs no command
of a class follows at once (08 R244; 09 R295, R298). -/
def State.collectAll (s : State) : State :=
  ((s.collect.schedule).updSrv (fun v => { v with phase := 1 })).advance

/-- What ends a boundary early: a life-cycle transition resets the package, and FURL switches it off (13 R401; 15 R423). -/
def State.goesDown (s : State) : Option State :=
  if s.dev.sec.lcPending.isSome then some (s.warmFrom 9)
  else if s.dev.hk.furlDue && s.applyFurl.dev.rst.furl then some s.applyFurl
  else none

/-- A boundary while ticks run (05 R144). -/
def State.runBoundary (s : State) : State :=
  let k := s.tick
  let s := s.passTick.arriveAll.closeWorks.dropWaits.closeHead.countVerdicts.closeTick
  let s := s.openTick.capture
  let s := (s.upd Dev.newTick).closeWindows
  match s.goesDown with
  | some t => t
  | none =>
    let s := s.applyFurl.applyFabric.applyRest
    let s := s.sendStamps k
    let s := (s.decideStretch.sendMarker).admitWaiting
    s.messages.collectAll

/-- A boundary while no ticks are counted: no snapshot, stamps or marker; changes that are due take effect and commands are
collected (05 Table 5-6; entry 3). -/
def State.idleBoundary (s : State) : State :=
  let s := s.passTick
  match s.goesDown with
  | some t => t
  | none => s.applyFurl.applyFabric.applyRest.messages.collectAll

/-- TICK_BOUNDARY (05 R144). In FURL, in reset-hold and without AUX nothing has a boundary. -/
def stepTickBoundary (s : State) : State :=
  if !s.dev.awake then s else if s.dev.time.runs then s.runBoundary else s.idleBoundary

def execTickBoundary (s : State) : Host.Outcome State Fault Refusal := .next (stepTickBoundary s)

end Sys2Proof.Machine
end

