-- ==== Sys2Proof/Machine/Query.lean ====
section
/-! DEFINITION. STATE_QUERY: package, slice, channel and tenant records of one snapshot (08 R263, Tables 8-8, 8-11; 01 R38). -/

namespace Sys2Proof.Machine

/-- The tick at which a parked stream's TTL ends; 0 else (08 Table 8-11). -/
def Stream.ttlEnd (t : Stream) : Nat :=
  match t.park with
  | some p => if t.st == .parked && p.copying.isNone && !p.expired && p.resuming.isNone then p.p + p.ttl else 0
  | none => 0

/-- GENERATED, DELIVERED, CLAMPED and SLIPS of the current or last generation. -/
def Stream.countsNow (t : Stream) : Nat × Nat × Nat × Nat :=
  match t.gen with
  | some g => (g.generated, g.delivered, g.clamped, g.slips)
  | none => t.counts

/-- The channel record of 08 Table 8-11; a channel without a stream has zeros. -/
def Dev.chanRecord (d : Dev) (ch : Nat) : List Byte :=
  match d.stream ch with
  | none => sliceAt [] 0 64
  | some t =>
    let c := t.countsNow
    sliceAt (leBytes 1 t.st.code ++ leBytes 1 t.desc.priority ++ leBytes 1 t.desc.tenant ++ leBytes 1 t.k ++ leBytes 4 t.id ++
      leBytes 4 t.hist.length ++ leBytes 4 t.poolBlocks.length ++ leBytes 4 c.1 ++ leBytes 4 c.2.1 ++ leBytes 4 c.2.2.1 ++
      leBytes 4 c.2.2.2 ++ leBytes 8 t.ttlEnd ++ leBytes 8 t.epoch ++ leBytes 4 t.desc.user.toNat) 0 64

/-- The tenant record of 08 Table 8-11. -/
def Dev.tenantRecord (d : Dev) (tn : Nat) : List Byte :=
  let t := d.tenant tn
  let l := d.srv.tenantStreams tn
  sliceAt (leBytes 1 tn ++ leBytes 1 (b2n t.enable) ++ leBytes 1 t.weight ++ [0] ++
    leBytes 4 (l.filter (fun x => x.st != .parked)).length ++ leBytes 4 (l.filter (fun x => x.st == .parked)).length ++
    leBytes 4 (d.tenantBlocks tn) ++ leBytes 4 ((d.srv.streams.filter (fun e => e.2.desc.tenant == tn && e.2.queued)).length) ++
    leBytes 4 t.refusals ++ leBytes 4 t.window ++ leBytes 4 t.scope.toNat ++ leBytes 8 t.counted ++ leBytes 8 t.budget ++
    leBytes 4 t.kvCap ++ leBytes 8 (t.start.getD 0)) 0 64

/-- A package's record: this package's TS registers, or what a member's message brought of its own. -/
def State.packageRecord (s : State) (gathered : List (Nat × List Byte)) (pkg blk off len : Nat) : List Byte :=
  if pkg = s.dev.role.pkg.toNat then tsBytes s.snap s.snapTick blk off len
  else match Tab.find gathered pkg with
    | some b => sliceAt b 0 len
    | none => (List.range (len / 4)).flatMap (fun i => leBytes 4 (Config.memberWord pkg s.snapTick blk (off + 4 * i)).toNat)

/-- Why a query is refused: status and DETAIL (08 R263, Table 8-9; entry 35). -/
def State.queryRefusal (s : State) (c : Cmd) : Option (Nat × Nat) :=
  let scope := c.at 0x18 1
  let sel := c.at 0x1C 4
  let n := s.dev.fn c.fn
  if 3 < scope ∨ 14 < c.at 0x1A 1 ∨ c.at 0x20 4 % 4 ≠ 0 ∨ c.at 0x24 4 % 4 ≠ 0 ∨ 65536 < c.at 0x24 4 then some (stBAD, 0x06)
  else if c.fn ≠ 0 ∧ (scope < 2 ∨ (scope = 2 ∧ !n.owns sel) ∨ (scope = 3 ∧ !(decide (sel < 64) && n.tenants.getLsbD sel))) then some (stAUTH, 0x04)
  else if !s.dev.isHead && !(decide (scope = 0) && decide (sel = s.dev.role.pkg.toNat)) then some (stBAD, 0x0A)
  else if (scope = 0 ∧ !s.dev.knows sel) ∨ (scope = 2 ∧ 16384 ≤ sel) ∨ (scope = 3 ∧ 64 ≤ sel) then some (stBAD, 0x06)
  else none

/-- Members in position order, then the spares (08 R263). -/
def Lnk.queryOrder (l : Lnk) : List Member := l.pipeline ++ l.members.filter (fun m => m.position == 0xFFFF)

/-- The records of a query, and their size. A slice's record has 8 bytes before the package record. -/
def State.queryRecords (s : State) (gathered : List (Nat × List Byte)) (c : Cmd) : List (List Byte) × Nat :=
  let blk := c.at 0x1A 1
  let sel := c.at 0x1C 4
  let off := c.at 0x20 4
  let len := c.at 0x24 4
  match c.at 0x18 1 with
  | 0 => ([s.packageRecord gathered sel blk off len], len)
  | 1 => (s.dev.lnk.queryOrder.map (fun m => leBytes 2 m.pkg ++ leBytes 2 m.position ++ leBytes 4 0 ++
            s.packageRecord gathered m.pkg blk off len), len + 8)
  | 2 => ([s.snap.chanRecord sel], 64)
  | _ => ([s.snap.tenantRecord sel], 64)

/-- STATE_QUERY takes effect: refused, or header and records go to OUT_ADDR and OK carries the tag and the bytes written
(08 R263). -/
def effStateQuery (gathered : List (Nat × List Byte)) (c : Cmd) (s : State) : State :=
  let rep := s.repOf c
  match s.queryRefusal c with
  | some (st, d) => s.refuse rep st d
  | none =>
    let (recs, size) := s.queryRecords gathered c
    let b := leBytes 8 s.snapTick ++ leBytes 4 (c.at 0x18 1) ++ leBytes 4 recs.length ++ leBytes 4 size ++ leBytes 12 0 ++ recs.flatten
    if c.at 0x30 4 < b.length then s.refuse rep stBAD 0x0D
    else
      let s := (s.hostOut rep.fn (BitVec.ofNat 64 (c.at 0x28 8)) b).unlock rep.ch
      s.produce rep.fn rep.ring
        { op := rep.op, status := stOK, released := true, final := true, text := false, tokens := false, detail := 0, ch := rep.ch,
          state := s.dev.stateByte rep.ch, tag := rep.tag, tick := s.snapTick, word0 := BitVec.ofNat 32 b.length, word1 := 0, payload := [] }

def execStateQuery (ch : Nat) (gathered : List (Nat × List Byte)) (s : State) : Host.Outcome State Fault Refusal :=
  .next (s.runDue 0x50 ch (effStateQuery gathered))

end Sys2Proof.Machine
end

