-- ==== Sys2Proof/Machine/Sample.lean ====
section
/-! DEFINITION. Logits at the head: sampling, verification of draft proposals, the draft model's proposals, the draft
length (01 R30; 09 R275, R278, R279, R281). -/

namespace Sys2Proof.Machine

/-- The largest k that keeps T_s(k) + A within TOKEN_DEADLINE; DRAFT_MAX without one (09 R281). -/
def Dev.kLimit (d : Dev) (t : Stream) : Nat :=
  if t.desc.tokenDeadline = 0 then t.desc.draftMax
  else ((List.range (t.desc.draftMax + 1)).filter (fun k => decide (d.stepLen k + d.srv.slipAllow.toNat ≤ t.desc.tokenDeadline))).foldl max 0

/-- The draft length after a step of m proposals with a accepted (09 R281). -/
def Dev.adapt (d : Dev) (t : Stream) (m a : Nat) : Stream :=
  if m = 0 then
    (if t.rest = 0 then t
     else if t.rest = 1 then { t with rest := 0, k := 1, misses := 0 }
     else { t with rest := t.rest - 1 })
  else if a = 0 then
    (if t.misses + 1 = 4 then { t with misses := 4, k := 0, rest := 64 } else { t with misses := t.misses + 1 })
  else if a = m then { t with misses := 0, k := min (m + 1) (min t.desc.draftMax (d.kLimit t)) }
  else if 2 * a < m then { t with misses := 0, k := max (m - 1) 1 }
  else { t with misses := 0 }

/-- The position of a stream whose logits come out of the pass: undropped, and the pass's ticks have gone since it entered (01 R30). -/
def Dev.inPass (d : Dev) (ch index : Nat) : Option Flight :=
  d.srv.flights.find? (fun f => f.ch == ch && f.index == index && f.needLogits && f.logits.isNone && !f.dropped &&
    (match f.passTick with
     | some k => decide (k + d.lmTicks ≤ d.time.tick)
     | none => false))

/-- What the logits of the j-th position of a step give: the token sampled at its next index, and whether the step goes
on to its next position (09 R275, R279). -/
def stepToken (z : List W32) (d : Desc) (hist : List Nat) (i : Nat) (proposal : Option Nat) : Nat × Bool :=
  match proposal with
  | none => (sampleToken z d hist i, false)
  | some p => match checkProposal z d hist i p with
    | none => (p, true)
    | some r => (r, false)

/-- LM_HEAD_PASS_COMPLETE: a position leaves the pass with its logits, the DLE's where it ran the LM head (04 R114), and the head samples, or checks the step's next
proposal. A rejection ends the step; its later positions count no more (01 R30; 09 R275, R279). -/
def stepLmHeadPassComplete (ch index : Nat) (logits : List W32) (s : State) : State :=
  match s.dev.inPass ch index, s.dev.stream ch with
  | some f, some t =>
    let tick := s.tick
    let z := (s.dev.dle.outOf (fun _ => true) 9 f.stream index).getD logits
    let s := s.updDle (fun d => d.dropOut (fun _ => true) 9 f.stream index)
    let s := s.updSrv (fun v => { v with flights := v.flights.map (fun (x : Flight) => if x = f then { x with logits := some tick } else x) })
    match t.gen with
    | none => s
    | some g =>
      let j := index - g.stepAt
      if j = g.verified then
        let hist := t.hist ++ g.sampled.map (·.2.1)
        let (tok, more) := stepToken z t.desc hist (index + 1) (g.inFlight[j]?)
        let s := s.updGen ch (fun g => { g with sampled := g.sampled ++ [(index + 1, tok, more)], generated := g.generated + 1,
                                                verified := if more then g.verified + 1 else 9 })
        let s := if more then s.updSrv (fun v => { v with accepted := v.accepted + 1 }) else s
        if more then s else (s.dropFrom ch (index + 1)).updStream ch (fun t => s.dev.adapt t g.inFlight.length j)
      else s
  | _, _ => s

/-- DRAFT_PROPOSAL: the draft model proposes the argmax of its own logits, D ticks after its input (09 R278). -/
def stepDraftProposal (ch : Nat) (z : List W32) (s : State) : State :=
  match s.dev.stream ch with
  | none => s
  | some t =>
    match t.gen with
    | none => s
    | some g =>
      let due := match g.stepFrom with
        | some k => decide (k + s.dev.hdr.draftTicks * (g.proposals.length + 1) ≤ s.tick)
        | none => false
      if t.st == .decode && due && decide (g.proposals.length < s.dev.wantDraft t) then
        (s.updGen ch (fun g => { g with proposals := g.proposals ++ [argmax z] })).updSrv (fun v => { v with proposed := v.proposed + 1 })
      else s

def execLmHeadPassComplete (ch index : Nat) (logits : List W32) (s : State) : Host.Outcome State Fault Refusal :=
  .next (stepLmHeadPassComplete ch index logits s)
def execDraftProposal (ch : Nat) (logits : List W32) (s : State) : Host.Outcome State Fault Refusal :=
  .next (stepDraftProposal ch logits s)

end Sys2Proof.Machine
end

