-- ==== Sys2Proof/Machine/Dispatch.lean ====
section
/-! DEFINITION. The meaning of each command: one arm per constructor, each a direct call of its own meaning. -/

namespace Sys2Proof.Machine

def exec (i : Instr) (s : State) : Host.Outcome State Fault Refusal :=
  match i with
  | .commandSlotWrite fn off data => Sys2Proof.Machine.execCommandSlotWrite fn off data s
  | .openCmd ch => Sys2Proof.Machine.execOpenCmd ch s
  | .append ch => Sys2Proof.Machine.execAppend ch s
  | .generate ch => Sys2Proof.Machine.execGenerate ch s
  | .cancel ch => Sys2Proof.Machine.execCancel ch s
  | .park ch => Sys2Proof.Machine.execPark ch s
  | .resume ch => Sys2Proof.Machine.execResume ch s
  | .close ch => Sys2Proof.Machine.execClose ch s
  | .embed ch => Sys2Proof.Machine.execEmbed ch s
  | .chanReload ch => Sys2Proof.Machine.execChanReload ch s
  | .tenantSet ch => Sys2Proof.Machine.execTenantSet ch s
  | .imageInstall ch => Sys2Proof.Machine.execImageInstall ch s
  | .imageStage ch => Sys2Proof.Machine.execImageStage ch s
  | .imageTack ch => Sys2Proof.Machine.execImageTack ch s
  | .imageVerify ch => Sys2Proof.Machine.execImageVerify ch s
  | .sliceSet ch facts => Sys2Proof.Machine.execSliceSet ch facts s
  | .rerig ch facts => Sys2Proof.Machine.execRerig ch facts s
  | .spareSet ch => Sys2Proof.Machine.execSpareSet ch s
  | .marginTest ch facts => Sys2Proof.Machine.execMarginTest ch facts s
  | .retire ch gone facts => Sys2Proof.Machine.execRetire ch gone facts s
  | .stateQuery ch gathered => Sys2Proof.Machine.execStateQuery ch gathered s
  | .attest ch => Sys2Proof.Machine.execAttest ch s
  | .nop ch => Sys2Proof.Machine.execNop ch s
  | .descriptorFetchComplete ch r => Sys2Proof.Machine.execDescriptorFetchComplete ch r s
  | .tickBoundary => Sys2Proof.Machine.execTickBoundary s
  | .queuedAdmission ch => Sys2Proof.Machine.execQueuedAdmission ch s
  | .positionCommit ch index => Sys2Proof.Machine.execPositionCommit ch index s
  | .stampFail stream index => Sys2Proof.Machine.execStampFail stream index s
  | .lmHeadPassComplete ch index logits => Sys2Proof.Machine.execLmHeadPassComplete ch index logits s
  | .draftProposal ch logits => Sys2Proof.Machine.execDraftProposal ch logits s
  | .budgetWindowEnd tenant => Sys2Proof.Machine.execBudgetWindowEnd tenant s
  | .ttlExpiry ch => Sys2Proof.Machine.execTtlExpiry ch s
  | .parkCopyComplete ch err => Sys2Proof.Machine.execParkCopyComplete ch err s
  | .resumeRestore ch poisoned => Sys2Proof.Machine.execResumeRestore ch poisoned s
  | .drainMarker => Sys2Proof.Machine.execDrainMarker s
  | .drainLimitExpiry => Sys2Proof.Machine.execDrainLimitExpiry s
  | .tackRewriteStart => Sys2Proof.Machine.execTackRewriteStart s
  | .tackBankSwitch => Sys2Proof.Machine.execTackBankSwitch s
  | .weightStoreCommit => Sys2Proof.Machine.execWeightStoreCommit s
  | .imagePageReceive op page r => Sys2Proof.Machine.execImagePageReceive op page r s
  | .imageVerified pkg code seeds => Sys2Proof.Machine.execImageVerified pkg code seeds s
  | .imageWrite => Sys2Proof.Machine.execImageWrite s
  | .imageWritten pkg => Sys2Proof.Machine.execImageWritten pkg s
  | .imageCommit => Sys2Proof.Machine.execImageCommit s
  | .imageAbort code => Sys2Proof.Machine.execImageAbort code s
  | .payloadLoad us badPages epoch => Sys2Proof.Machine.execPayloadLoad us badPages epoch s
  | .spareDutyCopy pkg position kind epoch pages => Sys2Proof.Machine.execSpareDutyCopy pkg position kind epoch pages s
  | .clampWindowClose => Sys2Proof.Machine.execClampWindowClose s
  | .clampPolicyAction slot => Sys2Proof.Machine.execClampPolicyAction slot s
  | .dleLayerCopyComplete slot verified => Sys2Proof.Machine.execDleLayerCopyComplete slot verified s
  | .clampRestore slot => Sys2Proof.Machine.execClampRestore slot s
  | .vector pan arr ring slot stream index vec ecc => Sys2Proof.Machine.execVector pan arr ring slot stream index vec ecc s
  | .arrayVectorComplete pan arr => Sys2Proof.Machine.execArrayVectorComplete pan arr s
  | .strictReplay pan stream index => Sys2Proof.Machine.execStrictReplay pan stream index s
  | .bitternEventServe pan => Sys2Proof.Machine.execBitternEventServe pan s
  | .ringLoad pan ring acts scale => Sys2Proof.Machine.execRingLoad pan ring acts scale s
  | .prefetch pan stream index res addr len dst => Sys2Proof.Machine.execPrefetch pan stream index res addr len dst s
  | .deadline pan stream index => Sys2Proof.Machine.execDeadline pan stream index s
  | .attnReturn pan stream index complete => Sys2Proof.Machine.execAttnReturn pan stream index complete s
  | .slipSlot slot => Sys2Proof.Machine.execSlipSlot slot s
  | .correctLast pan scaleArr slot stream index vec ecc => Sys2Proof.Machine.execCorrectLast pan scaleArr slot stream index vec ecc s
  | .call pan slot stream index op ecc => Sys2Proof.Machine.execCall pan slot stream index op ecc s
  | .spot pan arr eligible => Sys2Proof.Machine.execSpot pan arr eligible s
  | .canary pan => Sys2Proof.Machine.execCanary pan s
  | .flitForward pan plane slot flits => Sys2Proof.Machine.execFlitForward pan plane slot flits s
  | .controlFrameReceive pan inp bytes => Sys2Proof.Machine.execControlFrameReceive pan inp bytes s
  | .kvWriteComplete stream index => Sys2Proof.Machine.execKvWriteComplete stream index s
  | .dleAttention stream index slot blocks len q fault => Sys2Proof.Machine.execDleAttention stream index slot blocks len q fault s
  | .dleTier2Pass slot name arrays acts fault => Sys2Proof.Machine.execDleTier2Pass slot name arrays acts fault s
  | .unitRetireDecision kind unit => Sys2Proof.Machine.execUnitRetireDecision kind unit s
  | .panSubstitution pan => Sys2Proof.Machine.execPanSubstitution pan s
  | .denyWrite entry value => Sys2Proof.Machine.execDenyWrite entry value s
  | .hkConversionComplete chan value good triggered trimEcc => Sys2Proof.Machine.execHkConversionComplete chan value good triggered trimEcc s
  | .hkRoundEnd => Sys2Proof.Machine.execHkRoundEnd s
  | .headFractionUpdate pkg f rate => Sys2Proof.Machine.execHeadFractionUpdate pkg f rate s
  | .hkTrigger busy => Sys2Proof.Machine.execHkTrigger busy s
  | .hkFifoDataRead => Sys2Proof.Machine.execHkFifoDataRead s
  | .laneMargining port lane width height => Sys2Proof.Machine.execLaneMargining port lane width height s
  | .trimStoreLoad => Sys2Proof.Machine.execTrimStoreLoad s
  | .verifyRequest pan => Sys2Proof.Machine.execVerifyRequest pan s
  | .verificationComplete pan qfs => Sys2Proof.Machine.execVerificationComplete pan qfs s
  | .timeStart => Sys2Proof.Machine.execTimeStart s
  | .timeStop => Sys2Proof.Machine.execTimeStop s
  | .tickPeriodWrite period => Sys2Proof.Machine.execTickPeriodWrite period s
  | .periodChangeEffect => Sys2Proof.Machine.execPeriodChangeEffect s
  | .tickMarkerReceive port m err => Sys2Proof.Machine.execTickMarkerReceive port m err s
  | .markerLost => Sys2Proof.Machine.execMarkerLost s
  | .freeTimeout => Sys2Proof.Machine.execFreeTimeout s
  | .syncLock pkg => Sys2Proof.Machine.execSyncLock pkg s
  | .ptmDialog masterNs => Sys2Proof.Machine.execPtmDialog masterNs s
  | .linkRetrain port cause => Sys2Proof.Machine.execLinkRetrain port cause s
  | .linkTrainingDone port r => Sys2Proof.Machine.execLinkTrainingDone port r s
  | .frameReceive port bytes lanes bad => Sys2Proof.Machine.execFrameReceive port bytes lanes bad s
  | .linkAck port seq => Sys2Proof.Machine.execLinkAck port seq s
  | .linkNak port seq => Sys2Proof.Machine.execLinkNak port seq s
  | .bundleReceive b late => Sys2Proof.Machine.execBundleReceive b late s
  | .verdictReceive stamps => Sys2Proof.Machine.execVerdictReceive stamps s
  | .routeFrame src entries accept role parent switchTick => Sys2Proof.Machine.execRouteFrame src entries accept role parent switchTick s
  | .routeBankSwitch => Sys2Proof.Machine.execRouteBankSwitch s
  | .moeDispatch d => Sys2Proof.Machine.execMoeDispatch d s
  | .moeReturn layer stream index outs residual => Sys2Proof.Machine.execMoeReturn layer stream index outs residual s
  | .memberLossReport pkg => Sys2Proof.Machine.execMemberLossReport pkg s
  | .memberLost pkg cause => Sys2Proof.Machine.execMemberLost pkg cause s
  | .memberRejoin pkg kept => Sys2Proof.Machine.execMemberRejoin pkg kept s
  | .rerigWaitExpiry facts => Sys2Proof.Machine.execRerigWaitExpiry facts s
  | .streamRebuilt ch => Sys2Proof.Machine.execStreamRebuilt ch s
  | .routeWrite value => Sys2Proof.Machine.execRouteWrite value s
  | .vlShareWrite port value => Sys2Proof.Machine.execVlShareWrite port value s
  | .arbRequest res unit who waited ch => Sys2Proof.Machine.execArbRequest res unit who waited ch s
  | .backoffExpiry res unit who => Sys2Proof.Machine.execBackoffExpiry res unit who s
  | .arbTransferComplete res unit bytes write data ecc => Sys2Proof.Machine.execArbTransferComplete res unit bytes write data ecc s
  | .arbWatchdogBite res unit => Sys2Proof.Machine.execArbWatchdogBite res unit s
  | .biteResetEnd res => Sys2Proof.Machine.execBiteResetEnd res s
  | .replyRecordWrite fn ring ok => Sys2Proof.Machine.execReplyRecordWrite fn ring ok s
  | .backlogDrain fn ring => Sys2Proof.Machine.execBacklogDrain fn ring s
  | .ringEnable fn ring => Sys2Proof.Machine.execRingEnable fn ring s
  | .ringConsWrite fn ring cons => Sys2Proof.Machine.execRingConsWrite fn ring cons s
  | .pendRead fn => Sys2Proof.Machine.execPendRead fn s
  | .chanRangeWrite fn value => Sys2Proof.Machine.execChanRangeWrite fn value s
  | .msixUnmask fn entry => Sys2Proof.Machine.execMsixUnmask fn entry s
  | .eventRingEnable => Sys2Proof.Machine.execEventRingEnable s
  | .eventRingConsWrite cons => Sys2Proof.Machine.execEventRingConsWrite cons s
  | .lateCompletion => Sys2Proof.Machine.execLateCompletion s
  | .poisonedTlp write ch => Sys2Proof.Machine.execPoisonedTlp write ch s
  | .atomicOp fn bar => Sys2Proof.Machine.execAtomicOp fn bar s
  | .flrVf fn => Sys2Proof.Machine.execFlrVf fn s
  | .flrPf0 => Sys2Proof.Machine.execFlrPf0 s
  | .flrCompletion fn => Sys2Proof.Machine.execFlrCompletion fn s
  | .vfEnableClear => Sys2Proof.Machine.execVfEnableClear s
  | .busMasterDisable fn => Sys2Proof.Machine.execBusMasterDisable fn s
  | .d3hotEntry fn => Sys2Proof.Machine.execD3hotEntry fn s
  | .d3hotExit fn => Sys2Proof.Machine.execD3hotExit fn s
  | .pcieLinkDown => Sys2Proof.Machine.execPcieLinkDown s
  | .pcieHotReset => Sys2Proof.Machine.execPcieHotReset s
  | .perst low => Sys2Proof.Machine.execPerst low s
  | .configRequestRetry fn => Sys2Proof.Machine.execConfigRequestRetry fn s
  | .lowWordRead fn slots off len => Sys2Proof.Machine.execLowWordRead fn slots off len s
  | .snapHold => Sys2Proof.Machine.execSnapHold s
  | .snapRelease => Sys2Proof.Machine.execSnapRelease s
  | .snapHoldExpiry => Sys2Proof.Machine.execSnapHoldExpiry s
  | .panDigRead pan arr row => Sys2Proof.Machine.execPanDigRead pan arr row s
  | .panDigWrite pan arr row => Sys2Proof.Machine.execPanDigWrite pan arr row s
  | .panDigComplete pan => Sys2Proof.Machine.execPanDigComplete pan s
  | .keyEnrol slot => Sys2Proof.Machine.execKeyEnrol slot s
  | .keyRevoke slot => Sys2Proof.Machine.execKeyRevoke slot s
  | .lcChallenge => Sys2Proof.Machine.execLcChallenge s
  | .lcTransition target confirm token torn => Sys2Proof.Machine.execLcTransition target confirm token torn s
  | .fwUpdate bundle cut => Sys2Proof.Machine.execFwUpdate bundle cut s
  | .commitSvn => Sys2Proof.Machine.execCommitSvn s
  | .attestReservation firstOk retryOk => Sys2Proof.Machine.execAttestReservation firstOk retryOk s
  | .powerOnReset => Sys2Proof.Machine.execPowerOnReset s
  | .railsSoftStart railOk => Sys2Proof.Machine.execRailsSoftStart railOk s
  | .ccBoot facts => Sys2Proof.Machine.execCcBoot facts s
  | .auxBrownout => Sys2Proof.Machine.execAuxBrownout s
  | .coldReset hottest => Sys2Proof.Machine.execColdReset hottest s
  | .warmReset => Sys2Proof.Machine.execWarmReset s
  | .rstCtrlWarm value => Sys2Proof.Machine.execRstCtrlWarm value s
  | .watchdogKick => Sys2Proof.Machine.execWatchdogKick s
  | .deviceWatchdogBite => Sys2Proof.Machine.execDeviceWatchdogBite s
  | .pllLossOfLock dom => Sys2Proof.Machine.execPllLossOfLock dom s
  | .referenceFailure => Sys2Proof.Machine.execReferenceFailure s
  | .thermalTrip sensor temp => Sys2Proof.Machine.execThermalTrip sensor temp s
  | .thermalTripRestart hottest => Sys2Proof.Machine.execThermalTripRestart hottest s
  | .vinFault => Sys2Proof.Machine.execVinFault s
  | .vbakLoss => Sys2Proof.Machine.execVbakLoss s
  | .furlRequest => Sys2Proof.Machine.execFurlRequest s
  | .wakeN => Sys2Proof.Machine.execWakeN s
  | .islandFurlRetain isl => Sys2Proof.Machine.execIslandFurlRetain isl s
  | .islandFurlDark isl => Sys2Proof.Machine.execIslandFurlDark isl s
  | .islandUnfurl isl => Sys2Proof.Machine.execIslandUnfurl isl s
  | .islandFurlComplete isl => Sys2Proof.Machine.execIslandFurlComplete isl s
  | .islandUnfurlComplete isl => Sys2Proof.Machine.execIslandUnfurlComplete isl s
  | .bistRequest fclk kind target => Sys2Proof.Machine.execBistRequest fclk kind target s
  | .bistComplete cond badUnits => Sys2Proof.Machine.execBistComplete cond badUnits s
  | .resetCountClear => Sys2Proof.Machine.execResetCountClear s
  | .rtcSet => Sys2Proof.Machine.execRtcSet s
  | .mgmtTsRead block off len => Sys2Proof.Machine.execMgmtTsRead block off len s
  | .mgmtDenyWrite entry value => Sys2Proof.Machine.execMgmtDenyWrite entry value s
  | .mgmtReefFloorWrite value => Sys2Proof.Machine.execMgmtReefFloorWrite value s
  | .mgmtFurl => Sys2Proof.Machine.execMgmtFurl s
  | .mgmtWake => Sys2Proof.Machine.execMgmtWake s
  | .mgmtTripRecordRead n => Sys2Proof.Machine.execMgmtTripRecordRead n s
  | .registerWrite fn off data => Sys2Proof.Machine.execRegisterWrite fn off data s
  | .factoryCalibration point ladderDiff taps resid last torn => Sys2Proof.Machine.execFactoryCalibration point ladderDiff taps resid last torn s
  | .attestationKeyGeneration => Sys2Proof.Machine.execAttestationKeyGeneration s
  | .completionTimeout res unit => Sys2Proof.Machine.execCompletionTimeout res unit s
  | .pcieLinkUp speed width reversed sris => Sys2Proof.Machine.execPcieLinkUp speed width reversed sris s
  | .busMasterEnable fn => Sys2Proof.Machine.execBusMasterEnable fn s
  | .mgmtI3cCfgWrite value => Sys2Proof.Machine.execMgmtI3cCfgWrite value s

end Sys2Proof.Machine
end

