-- ==== Sys2Proof/Machine/Step.lean ====
section
/-! DEFINITION. One step of the block: the command at the front of the queue; with none waiting, one FAB cycle passes
(notes/assumptions/1.md). -/

namespace Sys2Proof.Machine

/-- Takes the command at the front of the queue and runs exec on it with the queue's rest. An empty queue: the block
idles, and one FAB cycle of its clock passes. -/
def step (s : State) : Host.Outcome State Fault Refusal :=
  match s.pending with
  | [] => .next (s.passCycles 1)
  | c :: rest => exec c { s with pending := rest }

/-- s with the command that a word spells put at the front of its queue; no row of the table has bits, so no word spells
one (Sys2Proof.decodeTableWord). -/
def State.withFetchWord (s : State) (nbits w : Nat) : State :=
  match Sys2Proof.decodeTableWord nbits w with
  | some c => { s with pending := c :: s.pending }
  | none => s

end Sys2Proof.Machine
end

