-- ==== Sys2Proof/WellFormed.lean ====
section
/-! DEFINITION. Which commands are well formed: operands within the ranges that the spec gives the things they name. exec has a
meaning for every command; these checks say which ones an outside that follows the spec can send. -/

namespace Sys2Proof

/-- A channel: 14 bits (08 R233). -/
def okCh (n : Nat) : Bool := decide (n < 16384)
/-- A PCIe function: PF0 and 31 VFs (12 R368). -/
def okFn (n : Nat) : Bool := decide (n < 32)
/-- A package ID: 12 bits (10 R321). -/
def okPkg (n : Nat) : Bool := decide (n < 4096)
/-- A pan of 2,112 (01 R26). -/
def okPan (n : Nat) : Bool := decide (n < 2112)
/-- An array of a pan's 8 (03 R75). -/
def okArr (n : Nat) : Bool := decide (n < 8)
/-- A slot of the activation ring, 40 (05 R128). -/
def okRingSlot (n : Nat) : Bool := decide (n < 40)
/-- A layer slot of 16 (04 R107). -/
def okSlot (n : Nat) : Bool := decide (n < 16)
/-- A number of 0 to 63: reply ring, MSI-X entry, tenant, deny entry, housekeeping channel, trip record. -/
def okEntry (n : Nat) : Bool := decide (n < 64)
/-- A Vojor port of 6 (10 R305). -/
def okPort (n : Nat) : Bool := decide (n < 6)
/-- A lane of 9: 8 and a spare (10 R312). -/
def okLane (n : Nat) : Bool := decide (n < 9)
/-- A 12-bit sequence number (10 R315). -/
def okSeq (n : Nat) : Bool := decide (n < 4096)
/-- An arbitrated resource of 5 (05 Table 5-7). -/
def okRes (n : Nat) : Bool := decide (n < 5)
/-- A voltage island of 16 (01 R27). -/
def okIsl (n : Nat) : Bool := decide (n < 16)
/-- A publisher key slot of 8 (13 R386). -/
def okKey (n : Nat) : Bool := decide (n < 8)
/-- A slice position, or 0xFFFF (07 R195). -/
def okPosition (n : Nat) : Bool := decide (n < 65536)
/-- A 32-bit number: stream ID, history index, microseconds. -/
def okU32 (n : Nat) : Bool := decide (n < 4294967296)
/-- A 16-bit signed reading (15 R430). -/
def okI16 (x : Int) : Bool := decide (-32768 ≤ x) && decide (x < 32768)
/-- A result code of an image operation (07 Table 7-8). -/
def okCode (n : Nat) : Bool := decide (n < 256)
/-- A trip sensor of 16 (15 R436). -/
def okTrip (n : Nat) : Bool := decide (n < 16)
/-- A kind and unit of the unit table (11 Table 11-8): 4 and 20 bits. -/
def okUnit (kind unit : Nat) : Bool := decide (kind < 16) && decide (unit < 1048576)
/-- An image page: 64 KiB (07 R191). -/
def okPage (b : List Byte) : Bool := decide (b.length = 65536)
/-- A non-empty span of bytes inside a window. -/
def okSpan (size off : Nat) (data : List Byte) : Bool := decide (data ≠ []) && decide (off + data.length ≤ size)
/-- Bytes of a function's BAR0 (12 R370). -/
def bar0Bytes (fn : Nat) : Nat := if fn = 0 then 67108864 else 65536
/-- An aligned 32-bit word of a function's BAR0 (00 R14). -/
def okWordAt (fn off : Nat) : Bool := decide (off % 4 = 0) && decide (off + 4 ≤ bar0Bytes fn)
/-- An A8 segment of 1,024 activations (03 R75). -/
def okSegment (b : List Byte) : Bool := decide (b.length = 1024)
/-- A control frame is 1 to 8 flits of 32 bytes (05 R134). -/
def okControl (b : List Byte) : Bool := decide (b.length % 32 = 0) && decide (32 ≤ b.length) && decide (b.length ≤ 256)
/-- A firmware bundle: three images, or a read that failed (13 R389). -/
def okBundle : Option (List (List Byte)) → Bool
  | some l => decide (l.length = 3)
  | none => true

/-- A read of data: any length that the command asked for; a failed read. -/
def FetchEnd.wf : FetchEnd → Bool
  | .ok data => decide (data ≠ [])
  | .failed => true
/-- A read of an image page, or of its address in a page list. -/
def FetchEnd.wfPage : FetchEnd → Bool
  | .ok data => okPage data || data.length == 8
  | .failed => true
def LinkFact.wf (l : LinkFact) : Bool := okPkg l.pkg && okPort l.port && okPkg l.next
def RerigFacts.wf (f : RerigFacts) : Bool := f.links.all LinkFact.wf && f.members.all (fun m => okPkg m.pkg && okPosition m.position)
/-- A requester of Table 5-8: classes 0 to 8; 16 islands' KV streams, 12 DLE ports (05 R152). -/
def Requester.wf (r : Requester) : Bool :=
  decide (r.cls ≤ 8) && (decide (r.cls ≠ 5) || decide (r.inst < 16)) && (decide (r.cls ≠ 6) || decide (r.inst < 12))
/-- A class may ask a resource: 0 to 2 MEM, 3 WS, 4 PCIe DMA (05 Table 5-8). -/
def mayAsk (cls res : Nat) : Bool :=
  if res < 3 then true
  else if res = 3 then decide (cls = 1) || decide (cls = 2) || decide (cls = 4)
  else decide (cls = 1) || decide (cls = 3) || decide (cls = 7) || decide (cls = 8)
/-- A grant unit of a resource: 64 DRAM channels, 8 WS channels, 16 DMA engines (05 Table 5-7). -/
def okGrantUnit (res unit : Nat) : Bool := decide (unit < if res < 3 then 64 else if res = 3 then 8 else 16)
/-- A stamp entry's result is one of Table 11-6's five. -/
def StampEntry.wf (e : StampEntry) : Bool := okU32 e.stream && okU32 e.index && decide (e.result ≤ 4) && decide (e.replays ≤ 3) && decide (e.slips ≤ 31)
def Stamp.wf (x : Stamp) : Bool := okPkg x.pkg && x.entries.all StampEntry.wf
/-- A marker's periods are within 4 to 64 µs, or 0 for none (10 Table 10-6, 05 R142). -/
def Marker.wf (m : Marker) : Bool :=
  decide (4 ≤ m.period) && decide (m.period ≤ 64) && (decide (m.newPeriod = 0) || (decide (4 ≤ m.newPeriod) && decide (m.newPeriod ≤ 64)))
def BundleEntry.wf (e : BundleEntry) : Bool := okU32 e.stream && okU32 e.index
/-- An input port of a pan's router: N, E, S, W, LOCAL, and on the die's edge EDGE (05 R132). -/
def okInput (pan inp : Nat) : Bool :=
  decide (inp ≤ 4) || (decide (inp = 5) && (decide (pan % 32 = 0) || decide (pan % 32 = 31) || decide (pan / 32 = 0) || decide (pan / 32 = 65)))
/-- A flit of a pan's router has eight words and comes from one of its inputs (05 R132, R133). -/
def Flit.wf (pan : Nat) (f : Flit) : Bool := decide (f.words.length = 8) && okInput pan f.inp
/-- A pan program entry: its operands where the spec bounds them. -/
def PanOp.wf : PanOp → Bool
  | .rowSum a => okArr a
  | .quantKV use _ xs => (decide (use = 1) || decide (use = 2)) && decide (xs.length = 64)
  | .rakeHead _ heads _ => decide (0 < heads)
  | .amax root _ _ => okPan root
  | .quantA8 q _ _ _ => decide (q < 16)
  | .rakeFull _ _ => true
  | .residualAdd _ _ => true
  | .residualRound _ => true
  | .expertOut _ _ => true
  | .other _ _ => true
/-- Positions and scores of a mixture-of-experts dispatch name streams (09 R302). -/
def MoeWork.wf : MoeWork → Bool
  | .route slot _ scores => okSlot slot && scores.all (fun x => okU32 x.1 && okU32 x.2.1)
  | .run _ ps => ps.all (fun p => okU32 p.1 && okU32 p.2.1)

/-- The command's operands are in range. -/
def Instr.wf : Instr → Bool
  | .commandSlotWrite fn off data => okFn fn && okSpan 4194304 off data
  | .openCmd ch => okCh ch
  | .append ch => okCh ch
  | .generate ch => okCh ch
  | .cancel ch => okCh ch
  | .park ch => okCh ch
  | .resume ch => okCh ch
  | .close ch => okCh ch
  | .embed ch => okCh ch
  | .chanReload ch => okCh ch
  | .tenantSet ch => okCh ch
  | .imageInstall ch => okCh ch
  | .imageStage ch => okCh ch
  | .imageTack ch => okCh ch
  | .imageVerify ch => okCh ch
  | .sliceSet ch facts => okCh ch && facts.links.all LinkFact.wf
  | .rerig ch facts => okCh ch && facts.wf
  | .spareSet ch => okCh ch
  | .marginTest ch _ => okCh ch
  | .retire ch _ facts => okCh ch && facts.wf
  | .stateQuery ch gathered => okCh ch && gathered.all (fun e => okPkg e.1)
  | .attest ch => okCh ch
  | .nop ch => okCh ch
  | .descriptorFetchComplete ch r => okCh ch && r.wf
  | .tickBoundary => true
  | .queuedAdmission ch => okCh ch
  | .positionCommit ch _ => okCh ch
  | .stampFail stream index => okU32 stream && okU32 index
  | .lmHeadPassComplete ch _ _ => okCh ch
  | .draftProposal ch _ => okCh ch
  | .budgetWindowEnd tenant => okEntry tenant
  | .ttlExpiry ch => okCh ch
  | .parkCopyComplete ch _ => okCh ch
  | .resumeRestore ch _ => okCh ch
  | .drainMarker => true
  | .drainLimitExpiry => true
  | .tackRewriteStart => true
  | .tackBankSwitch => true
  | .weightStoreCommit => true
  | .imagePageReceive _ _ r => r.wfPage
  | .imageVerified pkg code _ => okPkg pkg && okCode code
  | .imageWrite => true
  | .imageWritten pkg => okPkg pkg
  | .imageCommit => true
  | .imageAbort code => okCode code
  | .payloadLoad us _ _ => okU32 us
  | .spareDutyCopy pkg position kind _ pages => okPkg pkg && okPosition position && decide (kind ≤ 2) && pages.all (fun e => okPage e.2)
  | .clampWindowClose => true
  | .clampPolicyAction slot => okSlot slot
  | .dleLayerCopyComplete slot _ => okSlot slot
  | .clampRestore slot => okSlot slot
  | .vector pan arr ring slot _ _ _ _ => okPan pan && okArr arr && okRingSlot ring && okSlot slot
  | .arrayVectorComplete pan arr => okPan pan && okArr arr
  | .strictReplay pan stream index => okPan pan && okU32 stream && okU32 index
  | .bitternEventServe pan => okPan pan
  | .ringLoad pan ring acts _ => okPan pan && okRingSlot ring && okSegment acts
  | .prefetch pan stream index res _ len dst => okPan pan && okU32 stream && okU32 index && decide (res < 3) && decide (len ≤ 4096) && decide (dst + len ≤ 8192)
  | .deadline pan stream index => okPan pan && okU32 stream && okU32 index
  | .attnReturn pan stream index _ => okPan pan && okU32 stream && okU32 index
  | .slipSlot slot => okSlot slot
  | .correctLast pan scaleArr slot _ _ _ _ => okPan pan && okArr scaleArr && okSlot slot
  | .call pan slot _ _ op _ => okPan pan && okSlot slot && op.wf
  | .spot pan arr _ => okPan pan && okArr arr
  | .canary pan => okPan pan
  | .flitForward pan _ _ flits => okPan pan && flits.all (Flit.wf pan)
  | .controlFrameReceive pan inp bytes => okPan pan && okInput pan inp && okControl bytes
  | .kvWriteComplete stream index => okU32 stream && okU32 index
  | .dleAttention stream index slot _ _ _ _ => okU32 stream && okU32 index && okSlot slot
  | .dleTier2Pass slot name arrays _ _ => okSlot slot && decide (name < 32) && arrays.all (fun e => okPan e.1 && okArr e.2)
  | .unitRetireDecision kind unit => okUnit kind unit
  | .panSubstitution pan => okPan pan
  | .denyWrite entry _ => okEntry entry
  | .hkConversionComplete chan value _ _ ecc => okEntry chan && okI16 value && ecc.all (fun e => decide (e.1 < 2112) && decide (1 ≤ e.2) && decide (e.2 ≤ 2))
  | .hkRoundEnd => true
  | .headFractionUpdate pkg f rate => okPkg pkg && decide (f ≤ 16) && decide (rate.phi ≤ 64)
  | .hkTrigger _ => true
  | .hkFifoDataRead => true
  | .laneMargining port lane _ _ => okPort port && okLane lane
  | .trimStoreLoad => true
  | .verifyRequest pan => decide (pan < 4096)
  | .verificationComplete pan qfs => okPan pan && decide (qfs.length = 8)
  | .timeStart => true
  | .timeStop => true
  | .tickPeriodWrite period => decide (period < 128)
  | .periodChangeEffect => true
  | .tickMarkerReceive port m _ => okPort port && m.wf
  | .markerLost => true
  | .freeTimeout => true
  | .syncLock pkg => okPkg pkg
  | .ptmDialog _ => true
  | .linkRetrain port _ => okPort port
  | .linkTrainingDone port r => okPort port && decide (r.eyes.length = 9)
  | .frameReceive port bytes lanes _ => okPort port && decide (16 ≤ bytes.length) && lanes.all (fun e => okLane e.1)
  | .linkAck port seq => okPort port && okSeq seq
  | .linkNak port seq => okPort port && okSeq seq
  | .bundleReceive b late => b.entries.all BundleEntry.wf && okPan (late.getD 0)
  | .verdictReceive stamps => stamps.all Stamp.wf
  | .routeFrame src entries _ _ _ _ => okPkg src && entries.all (fun e => okPkg e.1)
  | .routeBankSwitch => true
  | .moeDispatch d => d.wf
  | .moeReturn _ stream index _ _ => okU32 stream && okU32 index
  | .memberLossReport pkg => okPkg pkg
  | .memberLost pkg _ => okPkg pkg
  | .memberRejoin pkg _ => okPkg pkg
  | .rerigWaitExpiry facts => facts.wf
  | .streamRebuilt ch => okCh ch
  | .routeWrite _ => true
  | .vlShareWrite port _ => okPort port
  | .arbRequest res unit who _ _ => okRes res && okGrantUnit res unit && who.wf && mayAsk who.cls res
  | .backoffExpiry res unit who => okRes res && okGrantUnit res unit && who.wf && mayAsk who.cls res
  | .arbTransferComplete res unit _ _ _ _ => okRes res && okGrantUnit res unit
  | .arbWatchdogBite res unit => okRes res && okGrantUnit res unit
  | .biteResetEnd res => okRes res
  | .replyRecordWrite fn ring _ => okFn fn && okEntry ring
  | .backlogDrain fn ring => okFn fn && okEntry ring
  | .ringEnable fn ring => okFn fn && okEntry ring
  | .ringConsWrite fn ring _ => okFn fn && okEntry ring
  | .pendRead fn => okFn fn
  | .chanRangeWrite fn _ => okFn fn
  | .msixUnmask fn entry => okFn fn && okEntry entry
  | .eventRingEnable => true
  | .eventRingConsWrite _ => true
  | .lateCompletion => true
  | .poisonedTlp _ ch => ch.all okCh
  | .atomicOp fn bar => okFn fn && decide (bar ≤ 5)
  | .flrVf fn => okFn fn && decide (1 ≤ fn)
  | .flrPf0 => true
  | .flrCompletion fn => okFn fn
  | .vfEnableClear => true
  | .busMasterDisable fn => okFn fn
  | .d3hotEntry fn => okFn fn
  | .d3hotExit fn => okFn fn
  | .pcieLinkDown => true
  | .pcieHotReset => true
  | .perst _ => true
  | .configRequestRetry fn => okFn fn
  | .lowWordRead fn slots off len => okFn fn && decide (1 ≤ len) && decide (off + len ≤ if slots then 4194304 else bar0Bytes fn)
  | .snapHold => true
  | .snapRelease => true
  | .snapHoldExpiry => true
  | .panDigRead pan arr row => okPan pan && okArr arr && decide (row < 1024)
  | .panDigWrite pan arr row => okPan pan && okArr arr && decide (row < 1024)
  | .panDigComplete pan => okPan pan
  | .keyEnrol slot => okKey slot
  | .keyRevoke slot => okKey slot
  | .lcChallenge => true
  | .lcTransition target confirm _ _ => decide (target < 256) && decide (confirm < 256)
  | .fwUpdate bundle _ => okBundle bundle
  | .commitSvn => true
  | .attestReservation _ _ => true
  | .powerOnReset => true
  | .railsSoftStart _ => true
  | .ccBoot facts => facts.badPans.all okPan
  | .auxBrownout => true
  | .coldReset _ => true
  | .warmReset => true
  | .rstCtrlWarm value => decide (value < 4294967296)
  | .watchdogKick => true
  | .deviceWatchdogBite => true
  | .pllLossOfLock _ => true
  | .referenceFailure => true
  | .thermalTrip sensor _ => okTrip sensor
  | .thermalTripRestart _ => true
  | .vinFault => true
  | .vbakLoss => true
  | .furlRequest => true
  | .wakeN => true
  | .islandFurlRetain isl => okIsl isl
  | .islandFurlDark isl => okIsl isl
  | .islandUnfurl isl => okIsl isl
  | .islandFurlComplete isl => okIsl isl
  | .islandUnfurlComplete isl => okIsl isl
  | .bistRequest fclk kind target => decide (fclk < 8) && decide (kind < 256) && decide (target < 4096)
  | .bistComplete _ _ => true
  | .resetCountClear => true
  | .rtcSet => true
  | .mgmtTsRead _ _ len => decide (len ≤ 256)
  | .mgmtDenyWrite entry _ => okEntry entry
  | .mgmtReefFloorWrite _ => true
  | .mgmtFurl => true
  | .mgmtWake => true
  | .mgmtTripRecordRead i => okEntry i
  | .registerWrite fn off data => okFn fn && okSpan (bar0Bytes fn) off data
  | .factoryCalibration point _ taps _ _ _ => decide (point ≤ 2) && taps.all (fun e => decide (e.1 < 16896))
  | .attestationKeyGeneration => true
  | .completionTimeout res unit => okRes res && okGrantUnit res unit
  | .pcieLinkUp speed width _ _ => decide (speed < 8) && decide (width < 32)
  | .busMasterEnable fn => okFn fn
  | .mgmtI3cCfgWrite _ => true

end Sys2Proof
end

