-- ==== Sys2Proof/Safety.lean ====
section
/-! DEFINITION. What claims say about a run: the canonical form of the memories, well-formed queues, one command of the queue, and
how far a command may reach. -/

namespace Sys2Proof.Machine

/-- The command window of BAR2 is in canonical form. -/
def State.windowWf (s : State) : Prop := Memory.wf s.dev.srv.window = true

/-- The command window and the table of clamp slots are in canonical form. -/
def State.storesWf (s : State) : Prop := s.windowWf ∧ Sparse.wf ClampSlot.reset s.dev.fab.clamps = true

/-- The byte memories of a pan are in canonical form: SRAM, trim store, digital data, and the cells of its arrays. -/
def Pan.memWf (p : Pan) : Prop :=
  Memory.wf p.sram = true ∧ Memory.wf p.trimStore = true ∧ Memory.wf p.digData = true ∧ ∀ e ∈ p.arrs, Memory.wf e.2.cells = true

/-- Every waiting command is well formed. -/
def State.queueWf (s : State) : Prop := ∀ c ∈ s.pending, c.wf = true

/-- The command answers a next state. -/
def Runs (c : Instr) (s : State) : Prop := ∃ t, Sys2Proof.Machine.exec c s = .next t

/-- The state in which the first due host command acts: the command has left the list (08 R244). -/
def State.dueLeft (s : State) (rest : List Cmd) : State := s.updSrv (fun v => { v with due := rest })

/-- Where the replies of a command go that uses this ring (08 Table 8-4). -/
def Cmd.repTo (c : Cmd) (ring : Nat) : Rep := { op := c.op, ch := c.ch, fn := c.fn, ring, tag := c.tag }

/-- The image in service suits the stream command: there is one, and an encoder starts no generation (08 R259). -/
def State.suits (s : State) (c : Cmd) : Prop :=
  s.dev.ws.img.isSome = true ∧ (s.dev.encoder && c.start) = false ∧ c.flagsOk = true

/-- The two states hold the same device but for the listed part. -/
def State.sameBut (s t : State) (part : Dev → Dev) : Prop := { t with dev := part t.dev } = { s with dev := part s.dev }

end Sys2Proof.Machine
end

