-- ==== Sys2Proof/Certificates/Slice0/Obligations.lean ====
section
/-! DEFINITION. The statements for the provers: what each command does, what it leaves, when it faults, and what every step
keeps. A clause names the state and operands under which it speaks; the state it answers is written out, so that it says the
frame too: every part of the device not named there is as before. -/

open Sys2Proof Sys2Proof.Machine

/-- For every command c and every state whose queue is c followed by the rest, step answers what exec answers for c on the state whose queue is the rest: its next state, its fault or its refusal. (98_reader.md; opcode_table.json) -/
def Obligations.StepRunsFrontCommand : Prop :=
  ∀ (c : Instr) (rest : List Instr) (s : State), s.pending = c :: rest → step s = exec c { s with pending := rest }

/-- With an empty queue, step answers a next state: the resonator's count takes one FAB cycle (20 of them make one step of its 10 ns count), the tick's cycle goes up by one while ticks run but stays within the tick, the crow's nest's counts of time and its RTC go on (the RTC takes a time set at its edge), the cycle's beginning is noted for R18, HK may mark the channel whose re-verification slot begins as STALE, and every other part of the state is as before, the queue still empty. That an idle step is one cycle is the model's choice: log entry 1. (00_scope.md conventions; 05 Table 5-12; 15_power_thermal_housekeeping.md, real-time clock) -/
def Obligations.EmptyQueuePassesACycle : Prop :=
  ∀ s : State, s.pending = [] → ∃ t, step s = .next t ∧
    20 * t.dev.time.mems + t.dev.time.memsFrac = 20 * s.dev.time.mems + s.dev.time.memsFrac + 1 ∧
    t.dev.time.cycle = (if s.dev.time.runs then min (s.dev.time.cycle + 1) (s.dev.tickCycles - 1) else s.dev.time.cycle) ∧
    t.dev.time.tick = s.dev.time.tick ∧ t.dev.time.st = s.dev.time.st ∧
    t = { s with begun := t.begun, dev := { s.dev with time := t.dev.time, cn := t.dev.cn, hk := t.dev.hk } } ∧
    t.begun = ⟨t.dev, s.holdExpired⟩ ∧ t.dev.hk = { s.dev.hk with chans := t.dev.hk.chans } ∧
    (∀ c, c ≠ s.dev.hk.round % 64 → Sparse.get Chan.reset t.dev.hk.chans c = Sparse.get Chan.reset s.dev.hk.chans c) ∧
    (s.dev.cn.rtcDue = false → t.dev.cn.rtcDue = false) ∧
    t.dev.cn = { s.dev.cn with sinceTick := t.dev.cn.sinceTick, subFrac := t.dev.cn.subFrac, sub := t.dev.cn.sub, rtc := t.dev.cn.rtc, rtcDue := t.dev.cn.rtcDue }

/-- For every state and every command at the front of its queue, whatever exec does, the queue of the next state is the rest of the queue before, in its order. So commands take effect first in, first out, and no command adds, drops or reorders another. (98_reader.md; 08 R244) -/
def Obligations.EachStepConsumesOneCommand : Prop :=
  ∀ s t : State, step s = .next t → t.pending = s.pending.tail

/-- If every waiting command has its operands in the ranges that the spec gives them, then after a step that answers a next state every waiting command still has. (opcode_table.json; 08 R233; 12 R368) -/
def Obligations.QueueStaysWellFormed : Prop :=
  ∀ s t : State, s.queueWf → step s = .next t → t.queueWf

/-- If the command window and the table of clamp slots list their entries at strictly rising keys and list none that equals what an unlisted key reads as, then so they do after every step that answers a next state: slot writes, function resets, window closes, loads, resets of the device and every other command keep the form, so that equal contents are equal data. (08 R241; 08 R242; 12 R372; 04 Table 4-6) -/
def Obligations.StoresStayCanonical : Prop :=
  ∀ s t : State, s.storesWf → step s = .next t → t.storesWf

/-- At reset no command waits, the command window and the table of clamp slots are in canonical form, and so are the byte memories of every pan. (14 Table 14-1; 14 Table 14-3; 08 R241) -/
def Obligations.ResetStartsCanonical : Prop :=
  State.reset.queueWf ∧ State.reset.pending = [] ∧ State.reset.storesWf ∧ ∀ p, (State.reset.pan p).memWf

/-- In STOPPED, TIME_START puts the tick machine of a tick master into RUN and that of a follower into SYNC with no marker seen; when ticks already run it changes nothing. TIME_STOP sets the stop that the next boundary takes; in STOPPED it changes nothing. Everything else keeps its value. (05 Table 5-6; 05 Table 5-12) -/
def Obligations.TickStartStop : Prop :=
  ∀ s : State,
    (s.dev.time.st = .stopped → s.dev.master = true →
      exec .timeStart s = .next (s.updTime (fun t => { t with st := .run, stopDue := false, missRun := 0, freeTicks := 0 }))) ∧
    (s.dev.time.st = .stopped → s.dev.master = false →
      exec .timeStart s = .next (s.updTime (fun t =>
        { t with st := .sync, synced := false, lockRun := 0, missRun := 0, freeTicks := 0, stopDue := false }))) ∧
    (s.dev.time.st ≠ .stopped → exec .timeStart s = .next s) ∧
    (s.dev.time.st ≠ .stopped → exec .timeStop s = .next (s.updTime (fun t => { t with stopDue := true }))) ∧
    (s.dev.time.st = .stopped → exec .timeStop s = .next s)

/-- At the master, a period of 4 to 64 that is at least MIN_PERIOD, with no change pending, is stored and decided for the tick 17 ahead; below 4 or below MIN_PERIOD, or while a change is pending, it sets PERIOD_REFUSED and nothing else; above 64, or at a follower, the write changes nothing. PERIOD_CHANGE_EFFECT at or after the pending tick puts the announced period and stretch into force and clears the pending change (where no larger stretch is then requested of the master); before that tick it changes nothing. (05 R142; 05 R148; 00 R16) -/
def Obligations.TickPeriodChange : Prop :=
  ∀ (s : State) (p : Nat),
    (s.dev.master = true → 4 ≤ p → p ≤ 64 → s.dev.time.minPeriod ≤ p → s.dev.time.pend = none →
      exec (.tickPeriodWrite p) s =
        .next (s.updTime (fun t => { t with period := p, pend := some ⟨t.tick + 17, some p, none, false⟩ }))) ∧
    (s.dev.master = true → p ≤ 64 → (p < 4 ∨ p < s.dev.time.minPeriod ∨ s.dev.time.changePending = true) →
      exec (.tickPeriodWrite p) s = .next (s.updTime (fun t => { t with periodRefused := true }))) ∧
    (s.dev.master = false ∨ 64 < p → exec (.tickPeriodWrite p) s = .next s) ∧
    (∀ c : PendChange, s.dev.time.pend = some c → c.effective ≤ s.tick →
      (s.dev.master = false ∨ s.dev.largestStretch = c.stretch.getD s.dev.time.stretch) →
      exec .periodChangeEffect s = .next (s.updTime (fun t =>
        { t with inForce := c.period.getD t.inForce, stretch := c.stretch.getD t.stretch, pend := none }))) ∧
    (∀ c : PendChange, s.dev.time.pend = some c → s.tick < c.effective → exec .periodChangeEffect s = .next s)

/-- A marker from the timing parent in RUN whose error is at most 12 cycles corrects the next tick by the error, held to 4 cycles, and records it held to 127; it counts for its tick when it comes by local cycle 64, or ahead of it; above 12 cycles the follower enters SYNC with ALIGN_FAULT. The first marker in SYNC gives tick number, period and stretch. MARKER_LOST on the third tick without a marker enters FREE and sets MARKER_LOST; FREE_TIMEOUT after 32 ticks in FREE enters SYNC. Nothing outside TIME changes, but for the event that an alignment fault logs. (05 R145; 05 R147; 05 Table 5-6; 10 R318) -/
def Obligations.FollowerMarkers : Prop :=
  ∀ (s : State) (port : Nat) (m : Marker) (e : Int),
    (s.dev.master = false → s.dev.fromParent port = true → s.dev.time.st = .run → m.effective = 0 → e.natAbs ≤ 12 →
      exec (.tickMarkerReceive port m e) s = .next (s.updTime (fun t =>
        { t with markerHere := t.markerHere || (m.tick == t.tick && decide (t.cycle ≤ 64)),
                 markerEarly := t.markerEarly || m.tick == t.tick + 1, hop := m.hop + 1, err := max (-127) (min 127 e),
                 adjNext := max (-4) (min 4 (-e)), lastGood := true, lockRun := 0 }))) ∧
    (s.dev.master = false → s.dev.fromParent port = true → s.dev.time.st = .run → 12 < e.natAbs →
      ∃ t, exec (.tickMarkerReceive port m e) s = .next t ∧ t.dev.time.st = .sync ∧ t.dev.time.alignFault = true ∧
        t.dev.time.synced = false ∧ t.dev.fab = s.dev.fab ∧ t.dev.srv = s.dev.srv ∧ t.dev.pans = s.dev.pans) ∧
    (s.dev.master = false → s.dev.fromParent port = true → s.dev.time.st = .sync → s.dev.time.synced = false → m.effective = 0 →
      exec (.tickMarkerReceive port m e) s = .next (s.updTime (fun t =>
        { t with markerHere := true, markerEarly := false, missRun := 0, hop := m.hop + 1, synced := true, tick := m.tick, cycle := 0,
                 inForce := m.period, stretch := m.stretch, lockRun := 0, adjNext := 0 }))) ∧
    (s.dev.master = false → s.dev.time.st = .run → s.dev.time.markerHere = false → 2 ≤ s.dev.time.missRun →
      exec .markerLost s = .next (s.updTime (fun t => { t with st := .free, markerLost := true, freeTicks := 0 }))) ∧
    (s.dev.time.st = .free → 32 ≤ s.dev.time.freeTicks →
      exec .freeTimeout s = .next (s.updTime (fun t =>
        { t with st := .sync, synced := false, lockRun := 0, missRun := 0, freeTicks := 0 })))

/-- PTM_DIALOG with an answer keeps it with the local clock of 10 ns steps before the latest earlier one, sets VALID and restarts the count of misses. Without an answer it counts a miss; the fourth in a row clears VALID and sets FAIL, and the earlier ones change neither. Nothing else changes. (12 R378; 12 R379; 12 Table 12-7) -/
def Obligations.PtmDialogs : Prop :=
  ∀ (s : State) (r : Nat),
    exec (.ptmDialog (some r)) s = .next (s.updTime (fun t =>
      { t with ptmDialogs := (10 * t.mems, r) :: t.ptmDialogs.take 1, ptmValid := true, ptmMisses := 0 })) ∧
    (3 ≤ s.dev.time.ptmMisses → exec (.ptmDialog none) s = .next (s.updTime (fun t =>
      { t with ptmMisses := t.ptmMisses + 1, ptmValid := false, ptmFail := true }))) ∧
    (s.dev.time.ptmMisses < 3 → exec (.ptmDialog none) s = .next (s.updTime (fun t =>
      { t with ptmMisses := t.ptmMisses + 1 })))

/-- REPLY_RECORD_WRITE with a granted write, no unwritten record of an earlier tick in any ring and a function that can write: the ring's first waiting record leaves at BASE + 64 x (PROD mod 2^SIZE) with PHASE 1 on even rounds, PROD goes up by one, the ring's pending bit is set, an interrupt is wanted where the function and the ring enable it, and the byte count of host writes goes up by 64. A write that fails puts the ring's waiting records in front of its backlog. BACKLOG_DRAIN moves as many backlog records as there is space, in order. Nothing else changes. (08 R247; 08 R248; 08 R249; 08 R250; 08 R251) -/
def Obligations.ReplyRingWrites : Prop :=
  ∀ (s : State) (f r : Nat) (x : Record) (rest : List Record),
    ((s.dev.ring f r).wq = x :: rest → s.dev.earlier x.tick = false → s.dev.canWrite f = true →
      exec (.replyRecordWrite f r true) s = .next
        ((((s.updRing f r (fun g => { g with wq := rest, prod := g.prod + 1 })).updFn f (fun n =>
            { n with pend := n.pend ||| (1#64 <<< r), irqWant := n.irqWant || (n.irqEn && (s.dev.ring f r).irq) })).updPcie
            (fun p => { p with wr := p.wr + 64 })).emit
          (.record f r ((s.dev.ring f r).base + BitVec.ofNat 64 (64 * ((s.dev.ring f r).prod.toNat % 2 ^ (s.dev.ring f r).size)))
            (x.bytes (decide ((s.dev.ring f r).prod.toNat / 2 ^ (s.dev.ring f r).size % 2 = 0)))))) ∧
    ((s.dev.ring f r).wq = x :: rest → s.dev.earlier x.tick = false →
      exec (.replyRecordWrite f r false) s = .next
        (s.updRing f r (fun g => { g with wq := [], backlog := g.wq ++ g.backlog }))) ∧
    ((s.dev.ring f r).wq = [] → ∀ ok, exec (.replyRecordWrite f r ok) s = .next s) ∧
    ((s.dev.ring f r).en = true → s.dev.canWrite f = true →
      exec (.backlogDrain f r) s = .next (s.updRing f r (fun g =>
        { g with wq := g.wq ++ g.backlog.take g.free, backlog := g.backlog.drop g.free })))

/-- RING_ENABLE of a disabled ring sets EN and zeroes PROD and CONS and keeps SIZE and IRQ; of an enabled ring it changes nothing. RING_CONS_WRITE stores CONS when it lies between the old CONS and PROD modulo 2^32; past PROD it is ignored and sets CONS_BAD. PEND_READ returns the pending bits in two words and clears them, but for bits that a record of the same FAB cycle has set. CHAN_RANGE_WRITE stores COUNT and BASE when the range overlaps no other function's, ends at 16,384 or below and no stream of the function is under the change; overlap or a range past 16,384 sets the refusal flag and leaves the range. (08 R233; 08 R247; 08 R251; 00 R14; 00 R18) -/
def Obligations.RingControl : Prop :=
  ∀ (s : State) (f r : Nat) (cons v : W32),
    ((s.dev.ring f r).en = false → 4 ≤ (s.dev.ring f r).size → (s.dev.ring f r).size ≤ 16 →
      exec (.ringEnable f r) s = .next (s.updRing f r (fun g => { g with en := true, prod := 0, cons := 0 }))) ∧
    ((s.dev.ring f r).en = true → 4 ≤ (s.dev.ring f r).size → (s.dev.ring f r).size ≤ 16 →
      exec (.ringEnable f r) s = .next (s.updRing f r id)) ∧
    ((cons - (s.dev.ring f r).cons).toNat ≤ ((s.dev.ring f r).prod - (s.dev.ring f r).cons).toNat →
      exec (.ringConsWrite f r cons) s = .next (s.updRing f r (fun g => { g with cons }))) ∧
    (((s.dev.ring f r).prod - (s.dev.ring f r).cons).toNat < (cons - (s.dev.ring f r).cons).toNat →
      exec (.ringConsWrite f r cons) s = .next (s.updFn f (fun n => { n with consBad := true }))) ∧
    (let p := (s.dev.fn f).pend &&& (s.begun.dev.fn f).pend;
      exec (.pendRead f) s = .next (({ s.updFn f (fun n => { n with pend := n.pend &&& ~~~p }) with
          latches := s.latches.filter (fun e => !(e.1 == f && e.2.1 == pendKey f)) }.emit
        (.readData (p.setWidth 32))).emit (.readData ((p >>> 32).setWidth 32)))) ∧
    ((∀ g < 32, g ≠ f → (s.dev.fn g).count = 0 ∨ v.toNat / 65536 % 32768 = 0 ∨
        (s.dev.fn g).base + (s.dev.fn g).count ≤ v.toNat % 16384 ∨
        v.toNat % 16384 + v.toNat / 65536 % 32768 ≤ (s.dev.fn g).base) →
      s.dev.hasStreams f = false → v.toNat % 16384 + v.toNat / 65536 % 32768 ≤ 16384 →
      exec (.chanRangeWrite f v) s = .next (s.updFn f (fun n =>
        { n with count := v.toNat / 65536 % 32768, base := v.toNat % 16384 }))) ∧
    (16384 < v.toNat % 16384 + v.toNat / 65536 % 32768 →
      exec (.chanRangeWrite f v) s = .next (s.updFn f (fun n => { n with rangeRefused := true }))) ∧
    (∀ g < 32, g ≠ f → 0 < (s.dev.fn g).count → 0 < v.toNat / 65536 % 32768 →
      v.toNat % 16384 < (s.dev.fn g).base + (s.dev.fn g).count → (s.dev.fn g).base < v.toNat % 16384 + v.toNat / 65536 % 32768 →
      exec (.chanRangeWrite f v) s = .next (s.updFn f (fun n => { n with rangeRefused := true })))

/-- MSIX_UNMASK clears the entry's mask; a pending message of a function that can write and is not masked as a whole leaves with the entry's address and data and is no longer pending. EVENT_RING_ENABLE of the disabled event ring sets EN and zeroes PROD and CONS. EVENT_RING_CONS_WRITE past PROD is ignored, else stored. LATE_COMPLETION counts. POISONED_TLP of a write counts and does nothing else. ATOMIC_OP completes as an Unsupported Request. A configuration request completes with Configuration Request Retry Status until power-up step 7 has ended, afterwards normally. (12 R372; 12 R373; 12 R375; 12 R377; 14 R415) -/
def Obligations.HostMessagesAndEvents : Prop :=
  ∀ (s : State) (f e bar : Nat) (cons : W32),
    ((s.dev.msix f e).pending = false → exec (.msixUnmask f e) s = .next (s.updMsix f e (fun m => { m with masked := false }))) ∧
    ((s.dev.msix f e).pending = true → s.dev.canWrite f = true → (s.dev.fnCfg f).fnMask = false →
      exec (.msixUnmask f e) s = .next ((s.updMsix f e (fun m => { m with masked := false, pending := false })).emit
        (.msix f e (s.dev.msix f e).addr (s.dev.msix f e).data))) ∧
    (s.dev.pcie.evtEn = false → 6 ≤ s.dev.pcie.evtSize.toNat → s.dev.pcie.evtSize.toNat ≤ 16 →
      exec .eventRingEnable s = .next (s.updPcie (fun p => { p with evtEn := true, evtProd := 0, evtCons := 0 }))) ∧
    ((s.dev.pcie.evtProd - s.dev.pcie.evtCons).toNat < (cons - s.dev.pcie.evtCons).toNat →
      exec (.eventRingConsWrite cons) s = .next s) ∧
    ((cons - s.dev.pcie.evtCons).toNat ≤ (s.dev.pcie.evtProd - s.dev.pcie.evtCons).toNat →
      exec (.eventRingConsWrite cons) s = .next (s.updPcie (fun p => { p with evtCons := cons }))) ∧
    exec .lateCompletion s = .next (s.updPcie (fun p => { p with lateCpl := p.lateCpl + 1 })) ∧
    (∀ ch, exec (.poisonedTlp true ch) s = .next (s.updPcie (fun p => { p with poisonRx := p.poisonRx + 1 }))) ∧
    exec (.atomicOp f bar) s = .next (s.emit (.unsupported f)) ∧
    (s.dev.rst.perstLow = false → s.dev.rst.furl = false →
      exec (.configRequestRetry f) s = .next (s.emit (.configDone f (decide (s.dev.rst.step.toNat ≤ 7)))))

/-- A slot write whose bytes end past the 4 MiB of BAR2 faults, for every state; one that ends inside answers a next state. Register accesses past the end of the function's BAR0 (64 MiB for PF0, 64 KiB for a VF) fault, and one that ends inside answers a next state, of whatever length; so do reads of BAR2. These are the model's only faults, and it never refuses. (12 R370; 12 R371) -/
def Obligations.SlotWriteOutsideWindowFaults : Prop :=
  ∀ (s : State) (f off : Nat) (data : List Byte),
    (4194304 < off + data.length → exec (.commandSlotWrite f off data) s = .fault .outsideBar) ∧
    (off + data.length ≤ 4194304 → ∃ t, exec (.commandSlotWrite f off data) s = .next t) ∧
    (bar0Size f < off + data.length → exec (.registerWrite f off data) s = .fault .outsideBar) ∧
    (off + data.length ≤ bar0Size f → ∃ t, exec (.registerWrite f off data) s = .next t) ∧
    (∀ n, bar0Size f < off + n → exec (.lowWordRead f false off n) s = .fault .outsideBar) ∧
    (∀ n, off + n ≤ bar0Size f → ∃ t, exec (.lowWordRead f false off n) s = .next t) ∧
    (∀ n, 4194304 < off + n → exec (.lowWordRead f true off n) s = .fault .outsideBar) ∧
    (∀ n, off + n ≤ 4194304 → s.dev.barUp f = true → exec (.lowWordRead f true off n) s = .next (s.emit (.readBytes (s.dev.slotBytes f off n)))) ∧
    (∀ n, off + n ≤ 4194304 → s.dev.barUp f = false → exec (.lowWordRead f true off n) s = .next (s.emit (.unsupported f)))

/-- A slot write of PF0 or a VF that answers, with its bytes inside one slot of a channel that the function owns, not locked and with no FLR in progress: the window holds the bytes from 256 x channel + offset on; where the write reaches byte 0xFF and the slot then meets the seal's conditions, the slot joins the sealed slots with this tick and locks; else nothing but the window changes. A write to a locked slot, to a channel that the function does not own, or during its FLR changes only the count of dropped writes, by one. Before the function answers, the write completes as an Unsupported Request. Every address of the window outside the written bytes reads as before; inside a canonical window the bytes read back as written. (08 R241; 08 R242; 08 R243; 14 R415) -/
def Obligations.SlotWriteStoresItsBytes : Prop :=
  ∀ (s : State) (f off ch : Nat) (data : List Byte), off + data.length ≤ 4194304 → data ≠ [] →
    off % 256 + data.length ≤ 256 → ch = s.dev.slotChannel f (off / 256) →
    (s.dev.barUp f = true → (s.dev.fn f).flrBusy = false → (s.dev.fn f).owns ch = true → s.dev.srv.busy.contains ch = false →
      ∀ w, w = Memory.writeBytes s.dev.srv.window (256 * ch + off % 256) data →
        (¬ (off % 256 + data.length = 256 ∧ Srv.sealOk { s.dev.srv with window := w } ch = true) →
          exec (.commandSlotWrite f off data) s = .next (s.updSrv (fun v => { v with window := w }))) ∧
        (off % 256 + data.length = 256 → Srv.sealOk { s.dev.srv with window := w } ch = true →
          exec (.commandSlotWrite f off data) s = .next (s.updSrv (fun v =>
            { v with window := w, sealedTab := Tab.put v.sealedTab ch s.tick, busy := v.busy ++ [ch] }))) ∧
        (∀ a, a < 256 * ch + off % 256 ∨ 256 * ch + off % 256 + data.length ≤ a → Memory.read w a = Memory.read s.dev.srv.window a) ∧
        (s.windowWf → ∀ i (h : i < data.length), Memory.read w (256 * ch + off % 256 + i) = data[i])) ∧
    (s.dev.barUp f = true →
      (s.dev.fn f).flrBusy = true ∨ (s.dev.fn f).owns ch = false ∨ s.dev.srv.busy.contains ch = true →
      exec (.commandSlotWrite f off data) s = .next (s.updSrv (fun v => { v with winDrop := v.winDrop + 1 }))) ∧
    (s.dev.barUp f = false → exec (.commandSlotWrite f off data) s = .next (s.emit (.unsupported f)))

/-- With a command first in the waiting list, DESCRIPTOR_FETCH_COMPLETE for its channel, when only its input is missing, stores the input's bytes with the command and leaves nothing to read; when the read fails, the command is marked failed, the failed fetch is counted and the function's FETCH_ERR is set. The descriptor's read fills the cache and leaves the command with its descriptor, and its stop block still to read where it names one; the stop block's read joins the descriptor in the cache. A poisoned completion of the channel's read ends it the same way as a failed one. What comes for a function whose FLR is under way is discarded and counted. Nothing else changes. (08 R237; 08 R239; 08 R240; 08 R252; 12 R375; 12 R376) -/
def Obligations.HostReadsReachTheirCommand : Prop :=
  ∀ (s : State) (c : Cmd) (rest : List Cmd) (data : List Byte), s.dev.srv.waiting = c :: rest →
    ((s.dev.fn c.fn).flrBusy = false → c.needs = [.input] → exec (.descriptorFetchComplete c.ch (.ok data)) s =
      .next (s.updSrv (fun v => { v with waiting := { c with input := sliceAt data 0 c.inputLen, needs := [] } :: rest }))) ∧
    ((s.dev.fn c.fn).flrBusy = false → c.needs = [.input] → exec (.descriptorFetchComplete c.ch .failed) s =
      .next (((s.updSrv (fun v => { v with fetchErr := v.fetchErr + 1 })).updFn c.fn (fun n => { n with fetchErr := true })).updSrv
        (fun v => { v with waiting := { c with needs := [], inputFailed := true } :: rest }))) ∧
    ((s.dev.fn c.fn).flrBusy = false → c.needs = [.desc] → hasStops (sliceAt data 0 128) = false →
      exec (.descriptorFetchComplete c.ch (.ok data)) s =
      .next ((s.updSrv (fun v => v.cachePut ⟨c.ch, c.fn, sliceAt data 0 128, [], none⟩ s.tick)).updSrv (fun v =>
        { v with waiting := { c with desc := some (sliceAt data 0 128), fetched := true, needs := [] } :: rest }))) ∧
    ((s.dev.fn c.fn).flrBusy = false → s.dev.canWrite c.fn = true → c.needs = [.desc] → hasStops (sliceAt data 0 128) = true →
      exec (.descriptorFetchComplete c.ch (.ok data)) s =
      .next (((s.updSrv (fun v => v.cachePut ⟨c.ch, c.fn, sliceAt data 0 128, [], none⟩ s.tick)).emit
        (.hostRead c.fn (BitVec.ofNat 64 (leAt (sliceAt data 0 128) 0x38 8)) (leAt (sliceAt data 0 128) 0x40 2))).updSrv (fun v =>
        { v with waiting := { c with desc := some (sliceAt data 0 128), fetched := true, needs := [.stops] } :: rest }))) ∧
    (∀ b l, (s.dev.fn c.fn).flrBusy = false → c.needs = [.stops] → c.desc = some b → l = sliceAt data 0 (leAt b 0x40 2) →
      exec (.descriptorFetchComplete c.ch (.ok data)) s =
      .next (s.updSrv (fun v => { v with
        dcache := v.dcache.map (fun e => if e.ch = c.ch ∧ e.bytes = b then { e with stops := l } else e),
        waiting := { c with stops := l, needs := [] } :: rest }))) ∧
    ((s.dev.fn c.fn).flrBusy = true → c.needs ≠ [] → exec (.descriptorFetchComplete c.ch (.ok data)) s =
      .next (s.updPcie (fun p => { p with lateCpl := p.lateCpl + 1 }))) ∧
    (c.needs = [.input] → exec (.poisonedTlp false (some c.ch)) s =
      .next (((s.updPcie (fun p => { p with poisonRx := p.poisonRx + 1 })).updSrv (fun v =>
        { v with fetchErr := v.fetchErr + 1, waiting := { c with needs := [], inputFailed := true } :: rest })).updFn c.fn
        (fun n => { n with fetchErr := true })))

/-- A reply with RELEASED clear, of a function whose FLR is not in progress and a package that is not a retired head: with the ring enabled, room in it, an empty backlog and a function that can write, the record joins the ring's waiting records; otherwise it joins the ring's backlog. The record carries the command's opcode, channel and tag, the status and detail, the stream's state and the tick. With RELEASED set the channel's slot unlocks first. During the function's FLR no record is produced. (08 R243; 08 R248; 08 R249; 08 R265; 08 Table 8-4) -/
def Obligations.ReplyGoesToRingOrBacklog : Prop :=
  ∀ (s : State) (p : Rep) (st d : Nat) (fin : Bool) (w0 w1 : Nat) (pl : List Byte) (tx tk : Bool) (x : Record),
    x = { op := p.op, status := st, released := false, final := fin, text := tx, tokens := tk, detail := d, ch := p.ch,
          state := s.dev.stateByte p.ch, tag := p.tag, tick := s.tick, word0 := BitVec.ofNat 32 w0,
          word1 := BitVec.ofNat 32 w1, payload := pl } →
    ((s.dev.fn p.fn).flrBusy = false → (s.dev.isHead && s.dev.chk.isRetired 0 0) = false →
      (s.dev.ring p.fn p.ring).en = true → 0 < (s.dev.ring p.fn p.ring).free → (s.dev.ring p.fn p.ring).backlog = [] →
      s.dev.canWrite p.fn = true →
      s.reply p st d false fin w0 w1 pl tx tk = s.updRing p.fn p.ring (fun g => { g with wq := g.wq ++ [x] })) ∧
    ((s.dev.fn p.fn).flrBusy = false → (s.dev.isHead && s.dev.chk.isRetired 0 0) = false →
      (s.dev.ring p.fn p.ring).en = false ∨ (s.dev.ring p.fn p.ring).free = 0 ∨ (s.dev.ring p.fn p.ring).backlog ≠ [] ∨
        s.dev.canWrite p.fn = false →
      s.reply p st d false fin w0 w1 pl tx tk = s.updRing p.fn p.ring (fun g => { g with backlog := g.backlog ++ [x] })) ∧
    ((s.dev.fn p.fn).flrBusy = true → s.reply p st d false fin w0 w1 pl tx tk = s) ∧
    s.reply p st d true fin w0 w1 pl tx tk =
      (s.updSrv (fun v => { v with busy := v.busy.filter (· != p.ch) })).produce p.fn p.ring { x with released := true }

/-- What follows a due command's effect: nothing outside a boundary's command phase; nothing while a command of class 1 or 2 is still due in the first phase, or one of class 1 to 3 in the second. Once no command of class 1 or 2 is due, waiting RESUMEs are tried in their order and queued generations are tested again, and the second phase begins; once none of class 3 is due either, failed stamps act, positions commit, dropped work leaves, waiting PARKs start, the tick's slots are filled, and the phase ends. (08 R244; 08 Table 8-3; 09 R291; 09 R295; 09 R298; 11 R349) -/
def Obligations.BoundaryClassesInOrder : Prop :=
  ∀ s : State,
    (s.dev.srv.phase = 0 → s.advance = s) ∧
    (s.dev.srv.phase = 1 → (∃ c ∈ s.dev.srv.due, opClass c.op ≤ 2) → s.advance = s) ∧
    (s.dev.srv.phase = 2 → (∃ c ∈ s.dev.srv.due, opClass c.op ≤ 3) → s.advance = s) ∧
    (s.dev.srv.phase = 2 → (∀ c ∈ s.dev.srv.due, 3 < opClass c.op) →
      s.advance = (s.failAll.commitAll.dropOld.parkWaiting).fillSlots.updSrv (fun v => { v with phase := 0 }))

/-- The first due command is the channel's, the image suits it and its own checks hold. OPEN creates an IDLE stream with the next stream ID, the descriptor, the history BOS and tokens and its block hashes; APPEND adds its tokens to a ready stream's history. Without START each replies OK, with ID and length or number and length; with START each starts a generation of the descriptor's MAX_NEW. CANCEL ends a generation with CANCELLED detail 1, then replies OK; without one it replies OK with detail 1. CLOSE ends a generation with CANCELLED detail 2, frees the blocks, removes the stream, drops its positions in flight and replies OK, as it does with no stream. CHAN_RELOAD gives the channel's unfinished commands the descriptor's ring, replaces the stream's descriptor, lowers a generation's limit that came from it, and replies OK; a changed fixed field refuses it with 0x0B. NOP replies OK. Where a stream stands replies go to its ring, else to the ring of the descriptor read. An OPEN on an open channel and an APPEND to no ready stream are refused with 0x05. What the boundary does next follows each (BoundaryClassesInOrder). (08 R237; 08 R238; 08 R252; 08 R253; 08 R256; 08 R257; 08 R260; 08 Table 8-6; 09 R269; 09 R300) -/
def Obligations.StreamCommandEffects : Prop :=
  ∀ (s u : State) (c : Cmd) (rest : List Cmd), s.dev.srv.due = c :: rest →
    (∀ desc toks bos, c.op = 0x01 → s.suits c → s.dev.stream c.ch = none → s.cmdDesc c = .ok desc → bos = s.dev.ws.tok.bos.toList →
      s.inputTokens c desc bos.length = .ok toks →
      u = (((s.dueLeft rest).updSrv (fun v => { v with nextId := v.nextId + 1 })).setStream
        (newStream c.ch c.fn s.dev.srv.nextId s.dev.entryEpoch desc (bos ++ toks))).rehash c.ch →
      (c.start = false → exec (.openCmd c.ch) s =
        .next (u.reply (c.repTo desc.ring) stOK 0 true true s.dev.srv.nextId (bos ++ toks).length).advance) ∧
      (c.start = true → exec (.openCmd c.ch) s = .next (u.startGen (c.repTo desc.ring) desc.maxNew true false
        (some (s.dev.srv.nextId, (bos ++ toks).length, true))).advance)) ∧
    (∀ t desc, c.op = 0x01 → s.suits c → s.dev.stream c.ch = some t → s.cmdDesc c = .ok desc →
      exec (.openCmd c.ch) s = .next ((s.dueLeft rest).reply (c.repTo t.desc.ring) stBAD 0x05 true true).advance) ∧
    (∀ t toks, c.op = 0x02 → s.suits c → s.dev.stream c.ch = some t → t.ready = true →
      s.inputTokens c t.desc t.hist.length = .ok toks →
      u = ((s.dueLeft rest).updStream c.ch (fun t => { t with hist := t.hist ++ toks, st := .idle })).rehash c.ch →
      (c.start = false → exec (.append c.ch) s = .next (u.reply (c.repTo t.desc.ring) stOK 0 true true toks.length (t.hist.length + toks.length)).advance) ∧
      (c.start = true → exec (.append c.ch) s = .next (u.startGen (c.repTo t.desc.ring) t.desc.maxNew true false
        (some (toks.length, t.hist.length + toks.length, true))).advance)) ∧
    (∀ t, c.op = 0x02 → s.suits c → s.dev.stream c.ch = some t → t.ready = false →
      exec (.append c.ch) s = .next ((s.dueLeft rest).reply (c.repTo t.desc.ring) stBAD 0x05 true true).advance) ∧
    (∀ t, c.op = 0x04 → s.dev.stream c.ch = some t → t.gen = none →
      exec (.cancel c.ch) s = .next ((s.dueLeft rest).reply (c.repTo t.desc.ring) stOK 1 true true).advance) ∧
    (∀ t g, c.op = 0x04 → s.dev.stream c.ch = some t → t.gen = some g →
      exec (.cancel c.ch) s = .next ((((s.dueLeft rest).endGen c.ch stCANCELLED 1).reply (c.repTo t.desc.ring) stOK 0 true true).advance)) ∧
    (∀ desc, c.op = 0x04 → s.dev.stream c.ch = none → s.cmdDesc c = .ok desc →
      exec (.cancel c.ch) s = .next ((s.dueLeft rest).reply (c.repTo desc.ring) stOK 1 true true).advance) ∧
    (∀ t, c.op = 0x07 → s.dev.stream c.ch = some t →
      (t.gen = none → u = s.dueLeft rest) → (t.gen.isSome = true → u = (s.dueLeft rest).endGen c.ch stCANCELLED 2) →
      exec (.close c.ch) s = .next (((((u.freeStream c.ch).delStream c.ch).updSrv
        (fun v => { v with flights := v.flights.map (fun f => if f.ch = c.ch then { f with dropped := true } else f) })).shrinkPool.reply
        (c.repTo t.desc.ring) stOK 0 true true).advance)) ∧
    (∀ desc, c.op = 0x07 → s.dev.stream c.ch = none → s.cmdDesc c = .ok desc →
      exec (.close c.ch) s = .next ((s.dueLeft rest).reply (c.repTo desc.ring) stOK 0 true true).advance) ∧
    (∀ t d, c.op = 0x10 → s.dev.stream c.ch = some t → s.cmdDesc c = .ok d → t.desc.fixedDiffers d = false →
      exec (.chanReload c.ch) s = .next ((((s.dueLeft rest).moveRings c.fn c.ch d.ring).updStream c.ch (fun t =>
        { t with desc := d, gen := t.gen.map (fun g =>
          if g.descNew && g.kind == .normal then { g with maxNew := min g.maxNew d.maxNew } else g) })).reply
        (c.repTo d.ring) stOK 0 true true).advance) ∧
    (∀ t d, c.op = 0x10 → s.dev.stream c.ch = some t → s.cmdDesc c = .ok d → t.desc.fixedDiffers d = true →
      exec (.chanReload c.ch) s = .next ((s.dueLeft rest).reply (c.repTo t.desc.ring) stBAD 0x0B true true).advance) ∧
    (∀ d, c.op = 0x10 → s.dev.stream c.ch = none → s.cmdDesc c = .ok d →
      exec (.chanReload c.ch) s = .next (((s.dueLeft rest).moveRings c.fn c.ch d.ring).reply (c.repTo d.ring) stOK 0 true true).advance) ∧
    (∀ t, c.op = 0x7F → s.dev.stream c.ch = some t →
      exec (.nop c.ch) s = .next ((s.dueLeft rest).reply (c.repTo t.desc.ring) stOK 0 true true).advance) ∧
    (∀ d, c.op = 0x7F → s.dev.stream c.ch = none → s.cmdDesc c = .ok d →
      exec (.nop c.ch) s = .next ((s.dueLeft rest).reply (c.repTo d.ring) stOK 0 true true).advance)

/-- When the first due command is the channel's and its own checks hold. GENERATE of a ready stream files a fresh generation; where the sluice's tests admit it the reply is OK without FINAL, where they queue it the reply is QUEUED with its place and the arrival order goes up, where they refuse it the refusal is counted, no generation stays and the reply is REFUSED with the test's detail. PARK of a ready stream with a TTL, its own or the descriptor's, replies QUEUED and starts the parking, or waits for it while a position of the stream is in flight. RESUME of a parked stream replies QUEUED; after the TTL's end or a tack that freed its blocks it ends so or, with REPREFILL, rebuilds; else it waits in its order, and as the first it tries its restore at once. EMBED replies QUEUED and its positions run under a key of their own. What the boundary does next follows each. (08 R253; 08 R258; 08 R259; 09 R290; 09 R291; 09 R297; 09 R298; 09 R303) -/
def Obligations.GenerationCommandEffects : Prop :=
  ∀ (s : State) (c : Cmd) (rest : List Cmd), s.dev.srv.due = c :: rest →
    (∀ t n fromDesc g d1, c.op = 0x03 → s.suits c → s.dev.stream c.ch = some t → t.ready = true →
      maxNewOf (c.at 0x18 4) t.desc = some (n, fromDesc) → (bitAt (c.at 0x1C 1) 0 && t.desc.parkTtl == 0) = false →
      g = newGen .normal (c.repTo t.desc.ring) s.tick s.dev.srv.nextOrder n fromDesc (bitAt (c.at 0x1C 1) 0) t.hist.length →
      d1 = (s.dueLeft rest).updStream c.ch (fun x => { x with st := .idle, counts := (0, 0, 0, 0), gen := some { g with rebuilt := t.reKv } }) →
      t.ch = c.ch →
      (∀ d2, d1.testGen c.ch false = (.admitted, d2) →
        exec (.generate c.ch) s = .next (d2.reply (c.repTo t.desc.ring) stOK 0 true false).advance) ∧
      (∀ d2, d1.testGen c.ch false = (.queue, d2) →
        exec (.generate c.ch) s = .next ((d2.updSrv (fun v => { v with nextOrder := v.nextOrder + 1 })).reply
          (c.repTo t.desc.ring) stQUEUED 0 true false
          ((d2.updSrv (fun v => { v with nextOrder := v.nextOrder + 1 })).dev.queuePlace t s.dev.srv.nextOrder) 0).advance) ∧
      (∀ x d2, d1.testGen c.ch false = (.refuse x, d2) →
        exec (.generate c.ch) s = .next (((d2.countRefusal t.desc.tenant).updStream c.ch (fun t => { t with gen := none, st := .idle })).reply
          (c.repTo t.desc.ring) stREFUSED x true true 0xFFFFFFFF 0 (leBytes 4 0 ++ leBytes 4 0 ++ leBytes 4 0 ++ leBytes 4 0 ++
            leBytes 4 0 ++ leBytes 4 0 ++ leBytes 4 0 ++ leBytes 4 0)).advance)) ∧
    (∀ t ttl, c.op = 0x05 → s.suits c → s.dev.stream c.ch = some t → t.ready = true →
      ttl = (if c.at 0x18 4 = 0 then t.desc.parkTtl else c.at 0x18 4) → ttl ≠ 0 →
      (s.dev.srv.flights.any (fun f => f.stream == t.id) = false →
        exec (.park c.ch) s = .next (((s.dueLeft rest).reply (c.repTo t.desc.ring) stQUEUED 0 true false).startPark c.ch
          (c.repTo t.desc.ring) ttl).advance) ∧
      (s.dev.srv.flights.any (fun f => f.stream == t.id) = true →
        exec (.park c.ch) s = .next ((((s.dueLeft rest).updStream c.ch (fun t => { t with parkWait := some (c.repTo t.desc.ring, ttl) })).reply
          (c.repTo t.desc.ring) stQUEUED 0 true false)).advance)) ∧
    (∀ t p d0 d, c.op = 0x06 → s.suits c → s.dev.stream c.ch = some t → t.st = .parked → t.park = some p → p.resuming = none →
      (c.start = false ∨ (maxNewOf (c.at 0x1C 4) t.desc).isSome = true) →
      d0 = (s.dueLeft rest).reply (c.repTo t.desc.ring) stQUEUED 0 true false →
      d = (d0.updSrv (fun v => { v with nextOrder := v.nextOrder + 1 })).updStream c.ch (fun t =>
        { t with park := t.park.map (fun p => { p with resuming := some (c.repTo t.desc.ring, c.start, c.at 0x1C 4, d0.dev.srv.nextOrder) }) }) →
      (p.expired = true → exec (.resume c.ch) s = .next (d0.reprefillOr (c.repTo t.desc.ring) c.start (c.at 0x1C 4) stEXPIRED 1).advance) ∧
      (p.expired = false → p.epochFreed = true →
        exec (.resume c.ch) s = .next (d0.reprefillOr (c.repTo t.desc.ring) c.start (c.at 0x1C 4) stEPOCH 0).advance) ∧
      (p.expired = false → p.epochFreed = false → d.dev.srv.restoreOrder.head? ≠ some c.ch → exec (.resume c.ch) s = .next d.advance) ∧
      (p.expired = false → p.epochFreed = false → d.dev.srv.restoreOrder.head? = some c.ch →
        exec (.resume c.ch) s = .next (d.tryRestore c.ch).2.advance)) ∧
    (∀ desc toks g st h, c.op = 0x08 → s.suits c → s.dev.encoder = true → s.dev.stream c.ch = none → s.cmdDesc c = .ok desc →
      s.dev.embedBytes ≤ c.at 0x30 4 → s.inputTokens c desc 0 = .ok toks → (s.dev.tenant desc.tenant).enable = true →
      g = newGen .embed (c.repTo desc.ring) s.tick s.dev.srv.nextOrder 0 false false toks.length →
      st = newStream (16384 + s.dev.srv.nextId) c.fn s.dev.srv.nextId s.dev.entryEpoch { desc with noPrefix := true } toks →
      h = ⟨c.repTo desc.ring, BitVec.ofNat 64 (c.at 0x28 8), []⟩ →
      exec (.embed c.ch) s = .next (((((s.dueLeft rest).updSrv (fun v =>
        { v with nextId := v.nextId + 1, nextOrder := v.nextOrder + 1, embeds := Tab.put v.embeds (16384 + v.nextId) h })).setStream
        { st with gen := some g }).reply
        (c.repTo desc.ring) stQUEUED 0 true false).retest (16384 + s.dev.srv.nextId)).advance)

/-- PARK_COPY_COMPLETE of a parking that replies, once the mover is at it: the copy is over, the TTL window starts at this tick, a transfer error leaves the blocks in place and sets the stockpile's error flag, and the final OK carries tick + TTL. TTL_EXPIRY at or after the end of the TTL of a parked stream without a RESUME expires it; before that it changes nothing. RESUME_RESTORE of a stream whose blocks are back and that no other RESUME precedes: with sound data the blocks return to its list, it is IDLE, and the reply is OK, with START ahead of a generation of its MAX_NEW; with poisoned data the stream has FAILED, its blocks are freed and the reply is POISONED. (08 R258; 09 R290; 09 R291; 12 R375) -/
def Obligations.ParkedStreams : Prop :=
  ∀ (s : State) (ch : Nat) (t : Stream) (p : Park) (rep : Rep), s.dev.stream ch = some t → t.park = some p →
    (p.copying = some rep → s.dev.srv.moves ch p = true → rep.op ≠ 0 → exec (.parkCopyComplete ch false) s = .next ((s.updStream ch (fun x =>
        { x with park := x.park.map (fun p => { p with copying := none, p := s.tick, inPlace := p.inPlace || false }) })).reply
        { rep with ring := t.desc.ring } stOK 0 false true ((s.tick + p.ttl) % 2 ^ 32) ((s.tick + p.ttl) / 2 ^ 32))) ∧
    (p.copying = some rep → s.dev.srv.moves ch p = true → rep.op ≠ 0 → exec (.parkCopyComplete ch true) s = .next (((s.updSrv (fun v => { v with stockErr := true })).updStream
        ch (fun x => { x with park := x.park.map (fun p => { p with copying := none, p := s.tick, inPlace := p.inPlace || true }) })).reply
        { rep with ring := t.desc.ring } stOK 0 false true ((s.tick + p.ttl) % 2 ^ 32) ((s.tick + p.ttl) / 2 ^ 32))) ∧
    (t.st = .parked → p.copying = none → p.resuming = none → p.expired = false → p.p + p.ttl ≤ s.tick →
      exec (.ttlExpiry ch) s = .next ((s.freeStream ch).updStream ch (fun x => { x with park := x.park.map (fun p => { p with expired := true }) }))) ∧
    (s.tick < p.p + p.ttl → exec (.ttlExpiry ch) s = .next s) ∧
    (p.copying = some rep → s.dev.srv.moves ch p = false → ∀ err, exec (.parkCopyComplete ch err) s = .next s) ∧
    (∀ start maxNew order poisoned u, p.resuming = some (rep, start, maxNew, order) → p.restored = true → p.incomplete = none →
      t.rebuild = none → s.dev.srv.moves ch p = true → s.dev.srv.restoreOrder.head? ≠ some ch →
      u = (s.updStream ch (fun x =>
          { x with blocks := (x.blocks.zipIdx).map (fun e => ((p.blocks.find? (fun b => b.1 == e.2)).map (·.2)).getD e.1) })).updStream ch
            (fun x => { x with st := .idle, park := none }) →
      (poisoned = false → start = false →
        exec (.resumeRestore ch poisoned) s = .next (u.reply { rep with ring := t.desc.ring } stOK 0 false true)) ∧
      (poisoned = false → start = true →
        exec (.resumeRestore ch poisoned) s = .next (u.startGen { rep with ring := t.desc.ring }
          (if maxNew = 0xFFFFFFFF then t.desc.maxNew else maxNew) (maxNew == 0xFFFFFFFF) false (some (0, 0, false)))) ∧
      (poisoned = true → exec (.resumeRestore ch poisoned) s = .next ((((s.updStream ch (fun x => { x with st := .failed })).freeStream ch).updStream
          ch (fun x => { x with park := none })).reply { rep with ring := t.desc.ring } stPOISONED 0 false true)))

/-- BUDGET_WINDOW_END at or after the window's end opens the next window there with the length set for it, counts only the excess over the budget into it (nothing where the budget is 0), and lets the tenant's streams be reported as held again. Before the end it changes nothing. QUEUED_ADMISSION of a generation not yet admitted: the tests' verdict admits it, refuses it with its detail and the refusal counts, expires it with EXPIRED detail 2 and the expiry count, or leaves it queued. (08 R261; 09 R293; 09 R294; 09 R298) -/
def Obligations.BudgetsAndQueuedGenerations : Prop :=
  ∀ (s : State) (tn ch st : Nat),
    ((s.dev.tenant tn).start = some st → st + (s.dev.tenant tn).window ≤ s.tick →
      exec (.budgetWindowEnd tn) s = .next ((s.updTenant tn (fun t =>
        { t with start := some (st + t.window), window := t.nextWindow, counted := if t.budget = 0 then 0 else t.counted - t.budget })).updSrv
        (fun v => { v with streams := v.streams.map (fun e =>
          if e.2.desc.tenant = tn then (e.1, { e.2 with gen := e.2.gen.map (fun g => { g with heldMark := false }) }) else e) }))) ∧
    ((s.dev.tenant tn).start = some st → s.tick < st + (s.dev.tenant tn).window → exec (.budgetWindowEnd tn) s = .next s) ∧
    (∀ t g, s.dev.stream ch = some t → t.gen = some g → g.admitted = none →
      (∀ d, s.testGen ch true = (.admitted, d) → exec (.queuedAdmission ch) s = .next d) ∧
      (∀ d, s.testGen ch true = (.queue, d) → exec (.queuedAdmission ch) s = .next d) ∧
      (∀ x d, s.testGen ch true = (.refuse x, d) →
        exec (.queuedAdmission ch) s = .next ((d.countRefusal t.desc.tenant).endGen ch stREFUSED x)) ∧
      (∀ d, s.testGen ch true = (.expire, d) →
        exec (.queuedAdmission ch) s = .next ((d.updSrv (fun v => { v with expired := v.expired + 1 })).endGen ch stEXPIRED 2)))

/-- LM_HEAD_PASS_COMPLETE for the step's next position, once it has been in the pass for the LM head's ticks, gives one token at the next index, from the DLE's logits where the DLE runs the head: an accepted proposal is counted and the step goes on; else the step ends there, the stream's later positions are dropped and the draft length adapts. A position not in the pass gives nothing. DRAFT_PROPOSAL, D ticks after its input, adds the argmax of its logits to the proposals of a decode step that wants more, and counts it. POSITION_COMMIT of a position that may commit and whose successor is not in flight commits it, delivers its token and inserts the block it fills, unless a CANCEL, CLOSE or PARK of the channel is due. STAMP_FAIL takes the stamp off the list and drops the stream's positions from it on, in a decode step from the step's start: POISONED ends the generation with POISONED, CLAMPED_STRICT with CLAMPED; another result sends them in again and counts the replays, but the fourth failure of an index in a row ends the generation with POISONED. (01 R30; 08 R256; 09 R275; 09 R278; 09 R279; 11 R348; 11 R349) -/
def Obligations.SamplingAndCommits : Prop :=
  ∀ (s : State) (ch index stream : Nat) (z : List W32) (t : Stream) (g : Gen),
    (∀ f u tok y, s.dev.inPass ch index = some f → s.dev.stream ch = some t → t.gen = some g → index - g.stepAt = g.verified →
      y = (s.dev.dle.outOf (fun _ => true) 9 f.stream index).getD z →
      u = (s.updDle (fun d => d.dropOut (fun _ => true) 9 f.stream index)).updSrv (fun v =>
        { v with flights := v.flights.map (fun x => if x = f then { x with logits := some s.tick } else x) }) →
      (stepToken y t.desc (t.hist ++ g.sampled.map (·.2.1)) (index + 1) (g.inFlight[g.verified]?) = (tok, true) →
        exec (.lmHeadPassComplete ch index z) s = .next ((u.updGen ch (fun h =>
          { h with sampled := h.sampled ++ [(index + 1, tok, true)], generated := h.generated + 1, verified := h.verified + 1 })).updSrv (fun v => { v with accepted := v.accepted + 1 }))) ∧
      (∀ w, stepToken y t.desc (t.hist ++ g.sampled.map (·.2.1)) (index + 1) (g.inFlight[g.verified]?) = (tok, false) →
        w = u.updGen ch (fun h => { h with sampled := h.sampled ++ [(index + 1, tok, false)], generated := h.generated + 1, verified := 9 }) →
        exec (.lmHeadPassComplete ch index z) s = .next ((w.dropFrom ch (index + 1)).updStream ch (fun x => w.dev.adapt x g.inFlight.length g.verified)))) ∧
    (s.dev.inPass ch index = none → exec (.lmHeadPassComplete ch index z) s = .next s) ∧
    (∀ k, s.dev.stream ch = some t → t.gen = some g → t.st = .decode → g.stepFrom = some k →
      k + s.dev.hdr.draftTicks * (g.proposals.length + 1) ≤ s.tick → g.proposals.length < s.dev.wantDraft t →
      exec (.draftProposal ch z) s = .next ((s.updGen ch (fun h => { h with proposals := h.proposals ++ [argmax z] })).updSrv
        (fun v => { v with proposed := v.proposed + 1 }))) ∧
    ((∃ c ∈ s.dev.srv.due, c.ch = ch ∧ opClass c.op ≤ 2) → exec (.positionCommit ch index) s = .next s) ∧
    ((∀ c ∈ s.dev.srv.due, c.ch = ch → 2 < opClass c.op) →
      ∀ f, s.dev.srv.flight ch index = some f → s.dev.committable f = true → (s.commitPosition f).dev.srv.flight ch (index + 1) = none →
      exec (.positionCommit ch index) s = .next (((s.commitPosition f).deliver ch (index + 1)).insertBlocks ch index 1 f.epoch)) ∧
    (∀ e key cut u, s.dev.srv.failing.find? (fun e => e.1 == stream && e.2.1 == index) = some e →
      s.dev.srv.streams.find? (fun e => e.2.id == stream) = some (key, t) → t.gen = some g →
      cut = (if t.st == .decode then min index (t.hist.length - 1) else index) →
      u = s.updSrv (fun v => { v with failing := v.failing.filter (fun e => !(e.1 == stream && e.2.1 == index)) }) →
      (e.2.2.1 = 3 → exec (.stampFail stream index) s = .next ((u.dropFrom key cut).endGen key stPOISONED 0)) ∧
      (e.2.2.1 = 4 → exec (.stampFail stream index) s = .next ((u.dropFrom key cut).endGen key stCLAMPED 0)) ∧
      (∀ n, e.2.2.1 ≠ 3 → e.2.2.1 ≠ 4 → n = (if t.attempts.1 = index then t.attempts.2 + 1 else 1) → n < 4 →
        exec (.stampFail stream index) s = .next ((((u.dropFrom key cut).updStream key (fun x => { x with attempts := (index, n) })).reenter
          key cut).updChk (fun c => { c with replays := wrapInc c.replays (s.dev.srv.flights.filter (fun f => f.ch == key && decide (cut ≤ f.index) && !f.dropped)).length }))) ∧
      (e.2.2.1 ≠ 3 → e.2.2.1 ≠ 4 → t.attempts = (index, 3) →
        exec (.stampFail stream index) s = .next ((u.dropFrom key cut).endGen key stPOISONED 0)))

/-- TENANT_SET with valid fields, and no open stream where it changes the scope or disables, stores ENABLE, WEIGHT, window, budget, cap and scope, restarts the refusal count, and replies OK. STATE_QUERY that no check refuses and whose buffer suffices sends a header with the snapshot's tag, scope, number and size of records, then the records, to OUT_ADDR, and its reply carries the tag as tick and the bytes' number. ATTEST that no check refuses, with no index at hand and no reservation running, replies QUEUED, begins a reservation and waits; with an index at hand it replies QUEUED and its evidence leaves; ATTEST_RESERVATION whose slots read back stores the pair, gives 1,024 indices and serves the waiting commands. (08 R261; 08 R263; 08 R264; 09 R456; 13 R393; 13 R395; 13 R396) -/
def Obligations.TenantsQueriesAttestations : Prop :=
  ∀ (s : State) (c : Cmd) (rest : List Cmd), s.dev.srv.due = c :: rest →
    (∀ scope win, c.op = 0x11 → c.at 0x18 1 ≤ 63 → c.at 0x19 1 ≤ 1 → c.at 0x1A 1 ≠ 0 → win = (if c.at 0x1C 4 = 0 then 100000 else c.at 0x1C 4) → scope = BitVec.ofNat 32 (c.at 0x2C 4) →
      ((s.dev.tenant (c.at 0x18 1)).scope = scope ∧ (c.at 0x19 1 = 1 ∨ (s.dev.tenant (c.at 0x18 1)).enable = false)) ∨
        s.dev.srv.tenantStreams (c.at 0x18 1) = [] →
      exec (.tenantSet c.ch) s = .next (((s.dueLeft rest).updTenant (c.at 0x18 1) (fun t =>
        { t with enable := bitAt (c.at 0x19 1) 0, weight := c.at 0x1A 1, nextWindow := win,
                 window := if t.start.isNone then win else t.window, start := some (t.start.getD s.tick),
                 budget := c.at 0x20 8, kvCap := c.at 0x28 4, scope := scope, refusals := 0 })).reply (s.repOf c) stOK 0 true true).advance) ∧
    (∀ gathered recs size b u, c.op = 0x50 → s.queryRefusal c = none → s.queryRecords gathered c = (recs, size) →
      b = leBytes 8 s.snapTick ++ leBytes 4 (c.at 0x18 1) ++ leBytes 4 recs.length ++ leBytes 4 size ++ leBytes 12 0 ++ recs.flatten →
      b.length ≤ c.at 0x30 4 → u = ((s.dueLeft rest).hostOut (s.repOf c).fn (BitVec.ofNat 64 (c.at 0x28 8)) b).unlock (s.repOf c).ch →
      exec (.stateQuery c.ch gathered) s = .next (u.produce (s.repOf c).fn (s.repOf c).ring
        { op := (s.repOf c).op, status := stOK, released := true, final := true, text := false, tokens := false, detail := 0,
          ch := (s.repOf c).ch, state := u.dev.stateByte (s.repOf c).ch, tag := (s.repOf c).tag, tick := s.snapTick,
          word0 := BitVec.ofNat 32 b.length, word1 := 0, payload := [] }).advance) ∧
    (∀ w y, c.op = 0x51 → s.dev.nv.lc.attests = true → 9208 ≤ c.at 0x40 4 → s.dev.sec.left = 0 → s.dev.sec.reserving = false →
      s.dev.sec.nvFault = false → s.dev.sec.exhausted = false → s.dev.sec.attNext < 2 ^ 30 → s.dev.sec.waiting = [] →
      w = { rep := s.repOf c, nonce := sliceAt c.packet 0x18 32, addr := BitVec.ofNat 64 (c.at 0x38 8), tick := s.snapTick,
            role := s.snap.role.word, epoch := s.snap.ws.epoch, imageId := s.snap.ws.imageId } →
      y = { s.dev.sec with reserving := true, waiting := [w] } →
      exec (.attest c.ch) s = .next (((s.dueLeft rest).reply (s.repOf c) stQUEUED 0 true false).updSec (fun _ => y)).advance) ∧
    (∀ w, c.op = 0x51 → s.dev.nv.lc.attests = true → 9208 ≤ c.at 0x40 4 → 0 < s.dev.sec.left → s.dev.sec.reserving = false →
      s.dev.sec.nvFault = false → s.dev.sec.exhausted = false → s.dev.sec.waiting = [] →
      w = { rep := s.repOf c, nonce := sliceAt c.packet 0x18 32, addr := BitVec.ofNat 64 (c.at 0x38 8), tick := s.snapTick,
            role := s.snap.role.word, epoch := s.snap.ws.epoch, imageId := s.snap.ws.imageId } →
      exec (.attest c.ch) s = .next ((((s.dueLeft rest).reply (s.repOf c) stQUEUED 0 true false).updSec (fun x =>
        { x with waiting := [] })).sendEvidence w).advance) ∧
    (∀ u, s.dev.sec.reserving = true → u = (s.updNv (fun n => n.writePair (s.dev.sec.attSeq + 1) (s.dev.sec.attNext + 1024) true)).updSec (fun x =>
        { x with reserving := false, attSeq := x.attSeq + 1, attNext := x.attNext + 1024, attIndex := 1024 * (s.dev.sec.attNext / 1024), left := 1024 }) →
      exec (.attestReservation true true) s = .next (State.serveAttests s.dev.sec.waiting.length u))

/-- When the first due command is the image command. FLAGS above 1 are refused with 0x14. Refused by life cycle, a running operation or a degraded slice: the code goes to WS_STAGE_STAT's result and the one reply carries it. Otherwise the reply is QUEUED, an install or stage first discards what was staged, the run begins at page 0, and the head reads 64 KiB at the image's address, or with a page list the 8 bytes of page 0's address. IMAGE_TACK is refused the same way, with 0x01 for an unknown policy and with 0x10 for MIX where it is not possible; with policy DRAIN it records the tack, with its limit and the tick of its collection, and places no marker; with REBUILD or MIX the marker is to end this tick's bundle. What the boundary does next follows each. (07 R201; 07 R202; 07 R204; 07 R217; 07 R218; 07 R219; 07 R226; 07 Table 7-8) -/
def Obligations.ImageCommandsBegin : Prop :=
  ∀ (s : State) (c : Cmd) (rest : List Cmd) (u : State), s.dev.srv.due = c :: rest →
    (∀ code, c.op = 0x20 → c.at 0x24 1 ≤ 1 → s.dev.imageRefusal .install = some code →
      exec (.imageInstall c.ch) s = .next (((s.dueLeft rest).updWs (fun w => { w with op := 2, result := code })).reply (s.repOf c)
        (imgStatus code) code true true).advance) ∧
    (c.op = 0x20 → c.at 0x24 1 ≤ 1 → s.dev.imageRefusal .install = none →
      u = (((s.dueLeft rest).reply (s.repOf c) stQUEUED 0 true false).updWs (fun w =>
        { w with staged := none, stage := 0, mixOk := false, duties := w.duties.filter (fun p => decide (p.epoch ≤ w.epoch)) })).updWs (fun w =>
        { w with op := 2, state := 1, run := some (newRun .install (some (s.repOf c)) (c.at 0x20 4) (bitAt (c.at 0x24 1) 0) (BitVec.ofNat 64 (c.at 0x18 8))) }) →
      exec (.imageInstall c.ch) s = .next (u.emit (.hostRead (s.repOf c).fn (BitVec.ofNat 64 (c.at 0x18 8)) (if c.at 0x24 1 = 1 then 8 else 65536))).advance) ∧
    (c.op = 0x20 → 1 < c.at 0x24 1 → exec (.imageInstall c.ch) s = .next ((s.dueLeft rest).reply (s.repOf c) stBAD 0x14 true true).advance) ∧
    (∀ code, c.op = 0x21 → c.at 0x24 1 ≤ 1 → s.dev.imageRefusal .stage = some code →
      exec (.imageStage c.ch) s = .next (((s.dueLeft rest).updWs (fun w => { w with op := 3, result := code })).reply (s.repOf c)
        (imgStatus code) code true true).advance) ∧
    (c.op = 0x21 → c.at 0x24 1 ≤ 1 → s.dev.imageRefusal .stage = none →
      u = (((s.dueLeft rest).reply (s.repOf c) stQUEUED 0 true false).updWs (fun w =>
        { w with staged := none, stage := 0, mixOk := false, duties := w.duties.filter (fun p => decide (p.epoch ≤ w.epoch)) })).updWs (fun w =>
        { w with op := 3, state := 1, run := some (newRun .stage (some (s.repOf c)) (c.at 0x20 4) (bitAt (c.at 0x24 1) 0) (BitVec.ofNat 64 (c.at 0x18 8))) }) →
      exec (.imageStage c.ch) s = .next (u.emit (.hostRead (s.repOf c).fn (BitVec.ofNat 64 (c.at 0x18 8)) (if c.at 0x24 1 = 1 then 8 else 65536))).advance) ∧
    (c.op = 0x21 → 1 < c.at 0x24 1 → exec (.imageStage c.ch) s = .next ((s.dueLeft rest).reply (s.repOf c) stBAD 0x14 true true).advance) ∧
    (∀ code, c.op = 0x23 → c.at 0x24 1 ≤ 1 → s.dev.imageRefusal .verify = some code →
      exec (.imageVerify c.ch) s = .next (((s.dueLeft rest).updWs (fun w => { w with op := 1, result := code })).reply (s.repOf c)
        (imgStatus code) code true true).advance) ∧
    (c.op = 0x23 → c.at 0x24 1 ≤ 1 → s.dev.imageRefusal .verify = none →
      u = (((s.dueLeft rest).reply (s.repOf c) stQUEUED 0 true false)).updWs (fun w =>
        { w with op := 1, state := 1, run := some (newRun .verify (some (s.repOf c)) (c.at 0x20 4) (bitAt (c.at 0x24 1) 0) (BitVec.ofNat 64 (c.at 0x18 8))) }) →
      exec (.imageVerify c.ch) s = .next (u.emit (.hostRead (s.repOf c).fn (BitVec.ofNat 64 (c.at 0x18 8)) (if c.at 0x24 1 = 1 then 8 else 65536))).advance) ∧
    (c.op = 0x23 → 1 < c.at 0x24 1 → exec (.imageVerify c.ch) s = .next ((s.dueLeft rest).reply (s.repOf c) stBAD 0x14 true true).advance) ∧
    (∀ code, c.op = 0x22 → (s.dev.imageRefusal .tack = some code ∨ (s.dev.imageRefusal .tack = none ∧
        ((2 < c.at 0x18 1 ∧ code = 0x01) ∨ (c.at 0x18 1 = 1 ∧ s.dev.ws.mixOk = false ∧ code = 0x10)))) →
      exec (.imageTack c.ch) s = .next (((s.dueLeft rest).updWs (fun w => { w with op := 4, result := code })).reply (s.repOf c)
        (imgStatus code) code true true).advance) ∧
    (c.op = 0x22 → s.dev.imageRefusal .tack = none → c.at 0x18 1 = 2 →
      exec (.imageTack c.ch) s = .next (((s.dueLeft rest).reply (s.repOf c) stQUEUED 0 true false).updWs (fun w =>
        { w with op := 4, tack := some ⟨2, some (s.repOf c), c.at 0x1C 4, c.tick, none, 0⟩ })).advance) ∧
    (c.op = 0x22 → s.dev.imageRefusal .tack = none → c.at 0x18 1 = 0 ∨ (c.at 0x18 1 = 1 ∧ s.dev.ws.mixOk = true) →
      exec (.imageTack c.ch) s = .next (((s.dueLeft rest).reply (s.repOf c) stQUEUED 0 true false).updWs (fun w =>
        { w with op := 4, tack := some ⟨c.at 0x18 1, some (s.repOf c), c.at 0x1C 4, c.tick, some s.tick, s.dev.tackGap⟩ })).advance)

/-- IMAGE_PAGE_RECEIVE of the next page of a run, in order and not its last, which its checks pass, keeps what the run keeps of it and forwards it; the head then reads the next page, of a list its address first. The last page passed, the package has its result; a page that fails at the head ends its check at once. A page out of order changes nothing; a failed host read at the head aborts with code 0x05. IMAGE_VERIFIED with code 0 from a member, not the last, is noted; with the last a verify ends, a stage is staged here and the members told, an install sends WRITE; with another code the head aborts: ABORT to the members, the code in the final record, the run dropped. IMAGE_WRITE on an install whose check passed, with nothing pending, writes what the package keeps as pending payloads and reports WRITTEN; the head writes once it has sent WRITE. IMAGE_WRITTEN of the last package sends COMMIT; an earlier one is noted. (07 R204; 07 R205; 07 R206; 07 R207; 07 R216; 07 Table 7-8) -/
def Obligations.ImagePagesAndReports : Prop :=
  ∀ (s u : State) (r r2 : ImgRun) (n pkg code : Nat) (data : List Byte) (seeds : Bool), s.dev.ws.run = some r →
    (n ≠ 0 → n = r.next → r.result = none → (r.reply.isSome = true → r.listMode = true → r.pageAt.isSome = true) →
      s.dev.takePage { r with pageAt := none } n (sliceAt data 0 pageBytes) = (r2, code) → r2.reply = r.reply →
      u = (s.updWs (fun w => { w with run := some r2, op := opCode r2.op, state := 1 })) →
      (code = 0 → n + 1 ≠ (r2.hdr.getD {}).pages → r.reply = none →
        exec (.imagePageReceive r.op n (.ok data)) s = .next (u.sendPage n (sliceAt data 0 pageBytes))) ∧
      (code = 0 → n + 1 ≠ (r2.hdr.getD {}).pages → r.reply.isSome = true →
        exec (.imagePageReceive r.op n (.ok data)) s = .next ((u.sendPage n (sliceAt data 0 pageBytes)).readPage)) ∧
      (n + 1 = (r2.hdr.getD {}).pages → r.reply = none ∨ code = 0 →
        exec (.imagePageReceive r.op n (.ok data)) s = .next ((u.sendPage n (sliceAt data 0 pageBytes)).ownResult r2 code)) ∧
      (code ≠ 0 → r.reply.isSome = true → exec (.imagePageReceive r.op n (.ok data)) s = .next (u.ownResult r2 code))) ∧
    (n = r.next → r.reply.isSome = true → r.listMode = true → r.pageAt = none →
      exec (.imagePageReceive r.op n (.ok data)) s = .next ((s.updWs (fun w =>
        { w with run := some { r with pageAt := some (BitVec.ofNat 64 (leAt data 0 8)) } })).readPage)) ∧
    (n ≠ 0 → n ≠ r.next → exec (.imagePageReceive r.op n (.ok data)) s = .next s) ∧
    (n = r.next → r.reply.isSome = true → r.commitSent = false →
      exec (.imagePageReceive r.op n .failed) s = .next (((s.tellMembers 6 [5, 5]).endImage 5 0).dropRun)) ∧
    (r.reply.isSome = true → r.writeSent = false → s.dev.reporters.contains pkg = true →
      u = s.updWs (fun w => { w with run := some { r with verified := r.verified ++ [pkg], seeds := r.seeds && seeds } }) →
      ((∃ q ∈ s.dev.reporters, q ∉ r.verified ++ [pkg]) → exec (.imageVerified pkg 0 seeds) s = .next u) ∧
      ((∀ q ∈ s.dev.reporters, q ∈ r.verified ++ [pkg]) →
        (r.op = .verify → exec (.imageVerified pkg 0 seeds) s = .next (u.endImage 0 0)) ∧
        (r.op = .stage → exec (.imageVerified pkg 0 seeds) s = .next (((u.stageOwn
          { r with verified := r.verified ++ [pkg], seeds := r.seeds && seeds }).tellMembers 6 [4]).endImage 0 2)) ∧
        (∀ r3, r3 = { r with verified := r.verified ++ [pkg], seeds := r.seeds && seeds, writeSent := true } →
          r.op = .install → exec (.imageVerified pkg 0 seeds) s =
            .next ((u.updWs (fun w => { w with run := some r3, state := 3 })).tellMembers 6 [2])))) ∧
    (r.reply.isSome = true → r.writeSent = false → r.commitSent = false → s.dev.reporters.contains pkg = true → code ≠ 0 →
      exec (.imageVerified pkg code seeds) s = .next ((s.tellMembers 6 [5, code]).endImage code 0).dropRun) ∧
    (r.op = .install → r.result = some 0 → s.dev.ws.store.any (·.pending) = false →
      u = s.writePending (s.dev.keptPayloads (fun pos own => r.payload pos (s.dev.ws.epoch + 1) own true)) →
      (r.reply = none → exec .imageWrite s = .next (u.emit (.message (u.dev.role.head.getD 0) 6 [3, u.dev.role.pkg.toNat]))) ∧
      (r.reply.isSome = true → r.writeSent = true → exec .imageWrite s = .next u)) ∧
    (r.writeSent = true → r.commitSent = false → s.dev.reporters.contains pkg = true →
      ((∀ q ∈ s.dev.reporters, q ∈ r.written ++ [pkg]) → exec (.imageWritten pkg) s = .next ((s.updWs (fun w =>
        { w with run := some { r with written := r.written ++ [pkg], commitSent := true } })).tellMembers 6 [4])) ∧
      ((∃ q ∈ s.dev.reporters, q ∉ r.written ++ [pkg]) → exec (.imageWritten pkg) s = .next (s.updWs (fun w =>
        { w with run := some { r with written := r.written ++ [pkg] } }))))

/-- IMAGE_COMMIT of an install, at a package that wrote or one without a position, makes the pending payloads the stored ones by one directory write, raises the epoch by one, empties the prefix table, keeps the standing duties' payloads, and leaves the package unloaded. Of a stage, at another package than the head, it stages what was kept; with no run, after a tack's write (the head's once all have written), it puts the written payloads in service and turns the duties to the new epoch. With no run IMAGE_WRITTEN is noted at the head, and the last one sends COMMIT. IMAGE_ABORT at another package drops the run; at the head it also tells the members and ends the command. PAYLOAD_LOAD from a DRAM copy, or from the store where pages and signature pass, puts bodies, schedule and the rest of the payload into the machine, sets READY and the load time, and takes the header's KV block count; a page that fails both reads retires and leaves the package unloaded. SPARE_DUTY_COPY at the spare takes a good copy, or drops the duty, and reports it to the head; the covered package sends its payload's pages; at the head it marks the copy done. (07 R206; 07 R207; 07 R208; 07 R212; 07 R213; 07 R216; 07 R227; 07 R228; 07 R230; 07 R231; 11 R353) -/
def Obligations.ImageCommitAndLoad : Prop :=
  ∀ (s u : State),
    (∀ r e standing, s.dev.ws.run = some r → r.op = .install → s.dev.ws.store.any (·.pending) = true ∨ s.dev.role.position = 0xFFFF →
      r.reply = none ∨ r.commitSent = true →
      e = s.dev.ws.epoch + 1 → standing = (s.dev.ws.cover.filter (fun c => c.2 == 1)).map (fun c => r.payload c.1 e false false) →
      u = (if s.dev.ws.store.any (·.pending) then
        s.writeDirectory ((s.dev.ws.store.filter (·.pending)).map (fun p => { p with pending := false })) else s) →
      exec .imageCommit s = .next (((u.updWs (fun w => { w with epoch := e })).updWs (fun w =>
        { w with loaded := false, copy := none, duties := standing, state := 0,
                 run := if r.reply.isSome then some { r with commitSent := true } else none })).updSrv (fun v => { v with prefixTab := [] }))) ∧
    (∀ r, s.dev.ws.run = some r → r.op = .stage → r.reply = none → r.result = some 0 →
      exec .imageCommit s = .next ((s.stageOwn r).updWs (fun w => { w with run := none }))) ∧
    (∀ e, s.dev.ws.run = none → (s.dev.isHead = true → s.dev.allWritten = true) → s.dev.ws.state = 4 →
      e = (if s.dev.ws.commitDue then s.dev.ws.epoch else s.dev.ws.stage) →
      u = (if s.dev.ws.store.any (·.pending) then
        s.writeDirectory ((s.dev.ws.store.filter (·.pending)).map (fun p => { p with pending := false })) else s) →
      exec .imageCommit s = .next ((u.updWs (fun w => { w with epoch := e })).updWs (fun w =>
        { w with staged := none, stage := 0, mixOk := false, commitDue := false, commitWritten := [], state := 0,
                 duties := w.duties.filter (fun p => p.epoch == e &&
                   !((s.dev.ws.store.filter (·.pending)).map (·.position)).contains p.position) }))) ∧
    (∀ pkg, s.dev.ws.run = none → s.dev.isHead = true → s.dev.ws.commitDue = true → s.dev.reporters.contains pkg = true →
      u = s.updWs (fun w => { w with commitWritten := w.commitWritten ++ [pkg] }) →
      (u.dev.allWritten = true → exec (.imageWritten pkg) s = .next (u.tellMembers 6 [4])) ∧
      (u.dev.allWritten = false → exec (.imageWritten pkg) s = .next u)) ∧
    (∀ r code, s.dev.ws.run = some r → r.reply = none → exec (.imageAbort code) s = .next s.dropRun) ∧
    (∀ r code k, s.dev.ws.run = some r → r.reply.isSome = true → r.commitSent = false → k = (if code = 0 then 0x12 else code) →
      exec (.imageAbort code) s = .next (((s.tellMembers 6 [5, k]).endImage k 0).dropRun)) ∧
    (∀ us bad epoch p stored, s.dev.ws.run = none → s.dev.payloadFor epoch = some (p, stored) →
      stored = false ∨ (s.dev.storedOk p = true ∧ ∀ n ∈ bad, p.pages.any (fun e => e.1 == n) = false) →
      u = ((s.loadBodies (bodiesOf p.man p.pages p.position)).loadSchedule p none true [false, true]).loadRest p →
      exec (.payloadLoad us bad epoch) s = .next (((u.updWs (fun w =>
        { w with loaded := s.dev.loadable (bodiesOf p.man p.pages p.position), loadUs := BitVec.ofNat 32 us, ready := true,
                 stage := if epoch = some w.stage then 0 else w.stage })).updWs
        (fun w => { w with pool := p.hdr.kvBlocks })).updSrv (fun v => { v with kvTotal := p.hdr.kvBlocks }))) ∧
    (∀ us p n epoch bad, s.dev.ws.run = none → s.dev.payloadFor epoch = some (p, true) → p.pages.any (fun e => e.1 == n) = true →
      bad = ((p.pages.zip p.phys).filter (fun e => e.1.1 == n)).map (·.2) →
      exec (.payloadLoad us [n] epoch) s = .next (s.updWs (fun w =>
        { w with hashFail := wrapInc w.hashFail 1, loaded := false, retiredPages := w.retiredPages ++ bad }))) ∧
    (∀ pos kind epoch pages, s.dev.role.role = 3 ∨ s.dev.role.role = 4 →
      kind = 0 ∨ (kind ≤ 2 ∧ copyOk pages = true ∧ pages ≠ [] ∧ s.dev.takesDuty pos pages = true) →
      u = s.takeDuty pos kind epoch pages →
      exec (.spareDutyCopy s.dev.role.pkg.toNat pos kind epoch pages) s = .next (u.emit
        (.message (u.dev.role.head.getD 0) 8 [0x14, s.dev.role.pkg.toNat, pos]))) ∧
    (∀ pkg pos kind epoch pages p, pkg ≠ s.dev.role.pkg.toNat → s.dev.role.assigned = true → s.dev.role.position = pos → kind ≠ 0 →
      s.dev.ws.sends = some p → s.dev.role.role ≠ 1 →
      exec (.spareDutyCopy pkg pos kind epoch pages) s = .next (s.each p.pages (fun t e => t.sendMsg 7 pkg false e.1 e.2))) ∧
    (∀ pkg pos kind epoch pages, s.dev.isHead = true → s.dev.role.role = 1 → s.dev.role.position ≠ pos ∨ kind = 0 →
      exec (.spareDutyCopy pkg pos kind epoch pages) s = .next (s.dutyDone pkg pos))

/-- DRAIN_MARKER, once no admitted generation is left, and DRAIN_LIMIT_EXPIRY, at the limit counted from the collection, place the marker: it is to end this tick's bundle, with its gap; before that, and without a tack that drains, they change nothing. TACK_REWRITE_START at a boundary after the marker's tick, with no position of an older epoch here and the stamps of the last ones in, copies the staged bodies into the pans that serve their home pans, loads the schedule into the idle hop bank and marks the switch pending. TACK_BANK_SWITCH at a frame boundary after it turns the configurations, the hop bank and the layers to the staged payload and makes the store's commit due. WEIGHT_STORE_COMMIT first ends a tack whose marker has gone and whose switch is over, with its final OK; then, where a commit is due and nothing is pending, the package writes the staged payload as pending and reports WRITTEN, or counts it at the head; a spare writes its cold duties of the new epoch. (07 R219; 07 R220; 07 R226; 07 R227; 07 R229; 08 Table 8-6) -/
def Obligations.TackPhases : Prop :=
  ∀ (s u : State),
    (∀ k, s.dev.ws.tack = some k → k.policy = 2 → k.marker = none →
      u = s.updWs (fun w => { w with tack := some { k with marker := some s.tick, gap := s.dev.tackGap } }) →
      (s.dev.admittedGens = [] → exec .drainMarker s = .next u) ∧
      (s.dev.admittedGens ≠ [] → exec .drainMarker s = .next s) ∧
      (k.drainLimit ≠ 0 → k.collected + k.drainLimit ≤ s.tick → exec .drainLimitExpiry s = .next u) ∧
      (k.drainLimit = 0 ∨ s.tick < k.collected + k.drainLimit → exec .drainLimitExpiry s = .next s)) ∧
    (s.dev.ws.drains = none → exec .drainMarker s = .next s ∧ exec .drainLimitExpiry s = .next s) ∧
    (∀ m e p, s.dev.fab.markerSeen = some (m, e) → s.dev.ws.staged = some p → m < s.tick → s.dev.time.cycle = 0 → s.dev.ws.epoch < e →
      s.dev.ws.state ≠ 5 → (∀ w ∈ s.dev.fab.works, e ≤ w.epoch) → s.dev.lastStamped = true →
      u = s.each (bodiesOf p.man p.pages p.position) (fun t b =>
        match t.dev.serving b.entry.home with
        | some q => t.updPan q (fun x => x.copyBody b s.tick)
        | none => t.leavePosition (Pan.island b.entry.home)) →
      exec .tackRewriteStart s = .next (((u.loadSchedule p none false [!u.dev.fab.bank]).updFab (fun f => { f with hopPending := true })).updWs
        (fun w => { w with state := 5 }))) ∧
    (∀ m e, s.dev.fab.markerSeen = some (m, e) → s.tick ≤ m ∨ s.dev.time.cycle ≠ 0 ∨ e ≤ s.dev.ws.epoch ∨ (∃ w ∈ s.dev.fab.works, w.epoch < e) ∨
        s.dev.lastStamped = false → exec .tackRewriteStart s = .next s) ∧
    (∀ p tts, s.dev.ws.staged = some p → s.dev.ws.state = 5 → s.dev.time.cycle = 0 → s.tick % max 1 s.dev.fab.frame = 0 →
      tts = ((scheduleOf p.man p.pages p.position none).map timetables).getD [] →
      u = ((s.switchCfgs (bodiesOf p.man p.pages p.position)).updFab (fun f =>
        { f with bank := !f.bank, hopPending := false, tables := tts, markerSeen := none, markerSent := false })).loadRest p →
      exec .tackBankSwitch s = .next (u.updWs (fun w =>
        { w with stage := 0, state := 0, tackTick := s.tick, commitDue := true, lmSame := s.dev.dle.named 9 == u.dev.dle.named 9 }))) ∧
    (∀ p, s.dev.ws.staged = some p → s.dev.ws.state ≠ 5 ∨ s.dev.time.cycle ≠ 0 ∨ s.tick % max 1 s.dev.fab.frame ≠ 0 →
      exec .tackBankSwitch s = .next s) ∧
    (∀ v : State, (s.dev.ws.tack = none ∧ v = s) ∨ (∃ k rep, s.dev.ws.tack = some k ∧ k.marker.isSome = true ∧ s.dev.ws.stage = 0 ∧
        k.reply = some rep ∧ v = ((s.updWs (fun w => { w with op := 4, result := 0, state := 0 })).updWs (fun w =>
          { w with tack := none })).reply rep stOK 0 false true) →
      s.dev.ws.store.any (·.pending) = false →
      (∀ p, s.dev.ws.commitDue = true → s.dev.ws.staged = some p → u = v.writePending [{ p with pending := true }] →
        (s.dev.isHead = true → exec .weightStoreCommit s = .next (u.commitProgress s.dev.role.pkg.toNat)) ∧
        (s.dev.isHead = false → exec .weightStoreCommit s = .next u.reportWritten)) ∧
      (∀ l, s.dev.ws.commitDue = false → s.dev.role.position = 0xFFFF → s.dev.ws.stage ≠ 0 → s.dev.isHead = false →
        l = (s.dev.ws.duties.filter (fun p => p.epoch == s.dev.ws.stage && s.dev.ws.cover.any (fun c => c.1 == p.position && c.2 == 2))).map
          (fun p => { p with pending := true }) →
        exec .weightStoreCommit s = .next (if l.isEmpty then v.updWs (fun w => { w with state := 4 }) else v.writePending l).reportWritten) ∧
      (s.dev.ws.commitDue = false → s.dev.role.position ≠ 0xFFFF ∨ s.dev.ws.stage = 0 → exec .weightStoreCommit s = .next v))

/-- CLAMP_WINDOW_CLOSE at a tick that is a multiple of 1,024, later than the last close, with a canonical table of clamp slots: for each of the 16 slots VEC and CLAMPED take the running counts, the counts are 0, and HIGH is set where the slot is valid and THRESH x VEC is below CLAMPED x 65,536, else keeps its value; a slot that is HIGH then, in its arrays and with no action running, starts its policy's action, due 2 ticks later. At another tick it changes nothing. The policy action waits for its tick and for the end of a tack's rewrite; DLE uses the service copy where there is one, else waits for its copy; NARROW clears WIDE in the layer's wide arrays, turns to its narrow hop tables and remembers them. A verified layer copy is kept and places the layer on the DLE, another leaves it in its arrays. CLAMP_RESTORE makes the layer's return due. (04 R107; 04 R108; 04 R125; 04 Table 4-2; 04 Table 4-6) -/
def Obligations.ClampMonitor : Prop :=
  ∀ (s : State) (slot : Nat),
    (Sparse.wf ClampSlot.reset s.dev.fab.clamps = true → s.tick % 1024 = 0 → s.dev.fab.windowTick < s.tick →
      ∃ t, exec .clampWindowClose s = .next t ∧ t.dev.fab.windowTick = s.tick ∧ t.dev.srv = s.dev.srv ∧ t.dev.pans = s.dev.pans ∧
        ∀ l < 16, (t.dev.clamp l).vec = (s.dev.clamp l).cntVec ∧ (t.dev.clamp l).clamped = (s.dev.clamp l).cntClamped ∧
          (t.dev.clamp l).cntVec = 0 ∧ (t.dev.clamp l).cntClamped = 0 ∧
          ∀ c high, c = s.dev.clamp l → high = (c.valid && decide (c.thresh.toNat * c.cntVec.toNat < c.cntClamped.toNat * 65536)) →
            (t.dev.clamp l).high = (c.high || high) ∧
            ((t.dev.clamp l).actionDue, (t.dev.clamp l).placed) =
              (if high && c.actionDue.isNone && !c.copying && c.placed == .image && (c.policy == 1 || c.policy == 2) then
                (some (c.policy, s.tick + 2), .running) else (c.actionDue, c.placed))) ∧
    (s.tick % 1024 ≠ 0 → exec .clampWindowClose s = .next s) ∧
    (∀ pol k, (s.dev.clamp slot).actionDue = some (pol, k) → s.tick < k ∨ s.dev.ws.state = 5 → exec (.clampPolicyAction slot) s = .next s) ∧
    (∀ k, (s.dev.clamp slot).actionDue = some (2, k) → k ≤ s.tick → s.dev.ws.state ≠ 5 → s.dev.ws.copy.isSome = true →
      exec (.clampPolicyAction slot) s = .next (s.updClamp slot (fun c => { c with actionDue := none, placed := .dle }))) ∧
    (∀ k, (s.dev.clamp slot).actionDue = some (2, k) → k ≤ s.tick → s.dev.ws.state ≠ 5 → s.dev.ws.copy = none →
      exec (.clampPolicyAction slot) s = .next (s.updClamp slot (fun c => { c with actionDue := none, copying := true }))) ∧
    (∀ k l, (s.dev.clamp slot).actionDue = some (1, k) → k ≤ s.tick → s.dev.ws.state ≠ 5 →
      l = (s.dev.slotArrays slot).filter (fun pa => (s.arr pa.1 pa.2).cfg.wide) →
      exec (.clampPolicyAction slot) s = .next (((s.setWide l false).turnBank (some slot)).updClamp slot
        (fun c => { c with actionDue := none, placed := .narrow, narrowed := l }))) ∧
    (∀ p, (s.dev.clamp slot).copying = true →
      s.dev.ws.store.find? (fun p => p.own && !p.pending && decide (p.epoch = s.dev.ws.epoch)) = some p →
      exec (.dleLayerCopyComplete slot true) s =
        .next ((s.updWs (fun w => { w with layerCopy := Tab.put w.layerCopy slot { p with phys := [] } })).updClamp slot (fun c =>
          { c with copying := false, placed := .dle }))) ∧
    (∀ verified, (s.dev.clamp slot).copying = true → verified = false ∨
      s.dev.ws.store.find? (fun p => p.own && !p.pending && decide (p.epoch = s.dev.ws.epoch)) = none →
      exec (.dleLayerCopyComplete slot verified) s = .next (s.updClamp slot (fun c => { c with copying := false, placed := .image }))) ∧
    (∀ verified, (s.dev.clamp slot).copying = false → exec (.dleLayerCopyComplete slot verified) s = .next s) ∧
    exec (.clampRestore slot) s = .next (s.updClamp slot (fun c => { c with restoreDue := true }))

/-- PREFETCH notes where it reads in place of an earlier one for the same place and asks the memory pair's arbiter. DEADLINE with every prefetch of the pan landed lets the step go on, poisoned where one is; with one missing the position slips. A slip of any cause sends a SLIP frame and takes the position and every later position of its stream that runs here, once each: SLIP_CNT counts each, SLIP_TICK the cause of the position itself, the work waits for the next tick; no position of another stream changes; where none is left to slip nothing happens. ATTN_RETURN with the result there takes it to the pans; a late one counts in ATTN_SLIPS, sets ATTN_LATE, waits first in line and slips the position. SLIP_SLOT goes through the slipped positions oldest slip first: each starts while the slot has slip slots left; a strict replay of a wide layer with no replay pair left waits, and its stream behind it. STRICT_REPLAY of a clamped step slips it, and it runs again in full without its flag or what its first run left; after 3 replays it ends in STRICT_FAIL. (05 R159) -/
def Obligations.SlipsAndReplays : Prop :=
  ∀ (s : State) (p stream index slot : Nat),
    (∀ res addr len dst, exec (.prefetch p stream index res addr len dst) s = .next ((s.updFab (fun b => { b with
      prefetches := b.prefetches.filter (fun x => !(x.pan == p && x.stream == stream && x.index == index && x.dst == dst)) ++
        [⟨p, stream, index, res, addr, len, dst, false, false⟩] })).updArb res (fun a => a.ask (res == 4) (memChannel addr)
          ⟨⟨5, Pan.island p⟩, 0, a.lossesOf (lossKey (res == 4) (memChannel addr)) ⟨5, Pan.island p⟩, false, none⟩))) ∧
    (∀ (mine : Prefetch → Bool) (t : State), (∀ x, mine x = (x.pan == p && x.stream == stream && x.index == index)) →
      t = s.updFab (fun b => { b with prefetches := b.prefetches.filter (fun x => !mine x) }) →
      ((∀ x ∈ s.dev.fab.prefetches, mine x = true → x.landed = true ∧ x.poison = false) → exec (.deadline p stream index) s = .next t) ∧
      ((∀ x ∈ s.dev.fab.prefetches, mine x = true → x.landed = true) → (∃ x ∈ s.dev.fab.prefetches, mine x = true ∧ x.poison = true) →
        exec (.deadline p stream index) s = .next (t.poisonWork stream index 1)) ∧
      ((∃ x ∈ s.dev.fab.prefetches, mine x = true ∧ x.landed = false) →
        exec (.deadline p stream index) s = .next (s.slip p stream index .prefetch))) ∧
    (∀ (late : Work → Bool) (c : SlipCause) (n : Nat) (own : Bool),
      (∀ w, late w = (w.stream == stream && decide (index ≤ w.index) && !w.slipped && decide (w.half < 2))) →
      (s.dev.fab.works.map (fun w => (w.stream, w.index))).Nodup → n = (s.dev.fab.works.filter late).length →
      own = s.dev.fab.works.any (fun w => late w && w.index == index) →
      (n = 0 → s.slip p stream index c = s) ∧
      (0 < n → s.slip p stream index c = (s.emit (.flits p .control 4 [s.controlFlit p 6 0 0xFFFF 0 stream index 0 0])).updFab (fun b => { b with
        slipCnt := b.slipCnt + BitVec.ofNat 32 n,
        slipStrict := if own && decide (c = .strict) then satInc b.slipStrict else b.slipStrict,
        slipLink := if own && decide (c = .link) then satInc b.slipLink else b.slipLink,
        slipAttn := if own && decide (c = .attn) then satInc b.slipAttn else b.slipAttn,
        slipPrefetch := if own && decide (c = .prefetch) then satInc b.slipPrefetch else b.slipPrefetch,
        works := b.works.map (fun w => if late w = true then
          { w with slipped := true, slips := w.slips + 1, tick := s.tick + 1, slipAt := s.tick } else w) }))) ∧
    (∀ e, s.dev.dle.attnOut.find? (fun e => e.1 == stream && e.2.1 == index) = some e →
      exec (.attnReturn p stream index true) s = .next (((s.updDle (fun d =>
        { d with attnOut := d.attnOut.filter (fun x => !(x.1 == stream && x.2.1 == index)),
                 attnWait := d.attnWait.filter (fun x => x != (stream, index)) })).updWork stream index
        (fun w => { w with attnDone := true })).emit (.panResult 0xFFFF (e.2.2.map bf16To32)))) ∧
    (∀ complete t, (complete = false ∨ s.dev.dle.attnOut.find? (fun e => e.1 == stream && e.2.1 == index) = none) →
      t = s.updDle (fun d => { d with
        attnLate := true, attnSlips := d.attnSlips + 1,
        attnWait := if (stream, index) ∈ d.attnWait then d.attnWait else d.attnWait ++ [(stream, index)] }) →
      exec (.attnReturn p stream index complete) s = .next (t.slip p stream index .attn)) ∧
    (s.dev.ws.layer slot = none → exec (.slipSlot slot) s = .next s) ∧
    (s.dev.fab.slipOrder s.tick).Pairwise (fun a b => a.slipAt ≤ b.slipAt) ∧
    (∀ w, w ∈ s.dev.fab.slipOrder s.tick ↔ w ∈ s.dev.fab.works ∧ w.slipped = true ∧ w.tick ≤ s.tick) ∧
    (∀ (l : LayerRec) (used taken : Nat), used = Sparse.get (fun _ => 0) s.dev.fab.slipUsed slot →
      taken = Sparse.get (fun _ => 0) s.dev.fab.pairsUsed slot → s.dev.ws.layer slot = some l →
      exec (.slipSlot slot) s = .next (State.fillSlips slot l.slipSlots l.replayPairs (s.dev.fab.slipOrder s.tick) [] s) ∧
      (∀ ws blocked, (ws = [] ∨ l.slipSlots ≤ used) → State.fillSlips slot l.slipSlots l.replayPairs ws blocked s = s) ∧
      (∀ w ws (blocked : List Nat) (pair : Bool), used < l.slipSlots → pair = s.dev.takesPair slot w →
        (w.stream ∈ blocked ∨ (pair = true ∧ l.replayPairs ≤ taken) → State.fillSlips slot l.slipSlots l.replayPairs (w :: ws) blocked s =
          State.fillSlips slot l.slipSlots l.replayPairs ws (w.stream :: blocked) s) ∧
        (w.stream ∉ blocked → (pair = true → taken < l.replayPairs) → State.fillSlips slot l.slipSlots l.replayPairs (w :: ws) blocked s =
          State.fillSlips slot l.slipSlots l.replayPairs ws blocked ((s.updFab (fun b =>
            { b with slipUsed := Sparse.set (fun _ => 0) b.slipUsed slot (used + 1),
                     pairsUsed := Sparse.set (fun _ => 0) b.pairsUsed slot (taken + if pair = true then 1 else 0) })).updWork w.stream w.index
              (fun w => { w with slipped := false, replaying := false, tick := s.tick }))))) ∧
    (s.dev.fab.work stream index = none → exec (.strictReplay p stream index) s = .next s) ∧
    (∀ w, s.dev.fab.work stream index = some w →
      (w.clamped = false ∨ w.slipped = true → exec (.strictReplay p stream index) s = .next s) ∧
      (w.clamped = true → w.slipped = false → 3 ≤ w.replays → exec (.strictReplay p stream index) s = .next (s.failWork stream index 4 0 0 0)) ∧
      (w.clamped = true → w.slipped = false → w.replays < 3 →
        exec (.strictReplay p stream index) s = .next (((s.slip p stream index .strict).updWork stream index (fun w =>
          { w with half := 0, replays := w.replays + 1, clamped := false, replaying := true, replaySlot := w.clampSlot, clampSlot := none,
                   attnDone := false, outRes := [] })).upd (fun d => { d with pans := Sparse.updAll Pan.reset (fun _ q =>
            { q with resid := q.resid.filter (fun e => !(e.1 == stream && e.2.1 == index)) }) (d.pans.map (·.1)) d.pans }))))

/-- RING_LOAD of a slot below 40 puts the first 1,024 elements in that slot of pan SRAM, with their scale; of another it does nothing. VECTOR on an array not in COMPUTE does nothing; on one in COMPUTE a vector still running completes, the segment is read with the errors given, and the array holds the sums and check sum that the planes give (a replayed position's in narrow groups), one free value per conversion; the saturated conversions count and their groups are noted on the side of the tick's end on which they fall, and each group and plane that has any brings an event at its accumulate cycle; with VALID 0 every count reads 0, COMPUTE_INVALID is set and the position fails. ARRAY_VECTOR_COMPLETE with no vector on the array does nothing; else the events that have come enter, the vector is done, VEC_CNT counts, its sums leave for the sum plane and the vector is judged: one whose events wait is not yet, and a judged one not again; with no canary due or spot waiting, within TOL nothing else happens, beyond it both CHK_ROWSUM counts move, the failure is logged on the array and the position fails. (03 R76; 03 R77; 03 R82; 03 R83; 03 R85; 03 R94; 04 R99; 05 R128; 05 R129; 05 R139; 11 R335) -/
def Obligations.VectorsOnArrays : Prop :=
  ∀ (s : State) (p a ring slot stream index vec : Nat),
    (∀ acts scale, (ring < 40 → exec (.ringLoad p ring acts scale) s = .next (s.updPan p (fun q =>
      { q with ring := Tab.put q.ring ring { scale }, sram := Memory.writeBytes q.sram (0x10000 + 1024 * ring) (sliceAt acts 0 1024) }))) ∧
      (40 ≤ ring → exec (.ringLoad p ring acts scale) s = .next s)) ∧
    (∀ ecc, (s.arr p a).cfg.mode ≠ .compute → exec (.vector p a ring slot stream index vec ecc) s = .next s) ∧
    (∀ (ecc start limit : Nat) (u t : State) (c : ArrCfg) (full planes flagged : List PlaneOut) (v : RunVec) (late : Bool → PlaneOut → Nat),
      (s.arr p a).cfg.mode = .compute →
      (∃ w, exec (.arrayVectorComplete p a) s = .next w ∧ u = w.eccPan p stream index ecc) →
      (u.dev.fab.replays slot stream index = false → c = (u.arr p a).cfg) →
      (u.dev.fab.replays slot stream index = true → c = { (u.arr p a).cfg with wide := false }) →
      full = arrayPlanes (u.arr p a).cells c ((u.pan p).segment ring)
        (fun g b col => (u.pan p).convError a c.wide (u.freeCtr + 512 * (8 * g + b) + col) g col) →
      ((u.arr p a).valid = true → planes = full) →
      ((u.arr p a).valid = false → planes = full.map (fun o => { o with codes := List.replicate 512 (0, false) })) →
      flagged = planes.filter (fun o => o.codes.any (·.2)) → start = u.dev.time.cycle → limit = 2000 * u.dev.time.inForce - 4 →
      (∀ l o, late l o = PlaneOut.flagged o start limit l) →
      v = { slot, stream, index, vec, ring, cfg := c, last := u.dev.cycleKey (start + 64 * groupCount c.wide + 1), scale := (u.pan p).segScale ring,
            sums := (List.range c.fmt.cols).map (fun j => columnSum c.fmt ((u.pan p).groupShift a c.wide j) planes j), y := checkSum c.fmt planes,
            adds := [], tick := u.tick, clamped := [], checked := false, invalid := !(u.arr p a).valid, poison := decide (2 ≤ ecc) } →
      t = ({ u with freeCtr := u.freeCtr + 4096 * groupCount c.wide }).updArr p a (fun x => { x with
        run := some v, computeInvalid := x.computeInvalid || !x.valid, satCnt := wrapInc x.satCnt ((planes.map (late false)).sum),
        satGroup := x.satGroup ||| satMask planes start limit false,
        satLate := (x.satLate.1 ||| satMask planes start limit true, x.satLate.2 + (planes.map (late true)).sum) }) →
      ((u.arr p a).valid = true → exec (.vector p a ring slot stream index vec ecc) s = .next (t.updPan p (fun q =>
        { q with coming := q.coming ++ flagged.map (fun o => {
            arr := a, group := o.g, plane := o.b,
            mask := (List.range 512).filter (fun n => (o.codes.getD n (0, false)).2), cfg := c, ring, slot, stream, index, vec,
            replay := u.dev.fab.replays slot stream index, enter := u.dev.cycleKey (start + 64 * o.g + 8 * o.b + 9) }) }))) ∧
      ((u.arr p a).valid = false → exec (.vector p a ring slot stream index vec ecc) s = .next ((t.failWork stream index 1 0 1 (8 * p + a)).updPan p id))) ∧
    ((s.arr p a).run = none → exec (.arrayVectorComplete p a) s = .next s) ∧
    (∀ (v w : RunVec) (u : State), (s.arr p a).run = some v → u = s.arrive p v.last → (u.arr p a).run = some w →
      exec (.arrayVectorComplete p a) s = .next (((u.updArr p a (fun x => { x with
        run := none, vecCnt := x.vecCnt + 1, done := x.done ++ [{ w with tick := s.tick }],
        scrub := if x.since.isEmpty then s.tick else x.scrub,
        since := if (w.stream, w.index) ∈ x.since then x.since else x.since ++ [(w.stream, w.index)] })).emit
        (.flits p .sum 4 (denseFlits w w.sums))).judge p a w.slot w.stream w.index w.vec)) ∧
    ((s.arr p a).done.find? (fun v => v.tagged slot stream index vec && !v.checked) = none → s.judge p a slot stream index vec = s) ∧
    (s.waits p a slot stream index vec = true → s.judge p a slot stream index vec = s) ∧
    (∀ v, (s.arr p a).run = some v → (s.arr p a).done = [] → v.checked = false → (s.pan p).canaryDue ≠ some a → (s.pan p).spots = [] →
      (s.pan p).coming = [] → ((s.pan p).queue.any (fun e => e.arr == a && e.of v.slot v.stream v.index v.vec)) = false →
      ∃ t, exec (.arrayVectorComplete p a) s = .next t ∧ (t.arr p a).run = none ∧ (t.arr p a).vecCnt = (s.arr p a).vecCnt + 1 ∧
        (t.arr p a).done = [{ v with tick := s.tick, checked := true }] ∧ (t.arr p a).cells = (s.arr p a).cells ∧
        (.flits p .sum 4 (denseFlits v v.sums)) ∈ t.out ∧ t.pending = s.pending ∧ (∀ q, q ≠ p → t.pan q = s.pan q) ∧
        (((s.rowCheck p a v false).1 : Int) ≤ (s.rowCheck p a v false).2 →
          t.dev.chk = s.dev.chk ∧ t.dev.fab = s.dev.fab ∧ (t.pan p).rowsumFails = (s.pan p).rowsumFails) ∧
        ((s.rowCheck p a v false).2 < ((s.rowCheck p a v false).1 : Int) → t.dev.chk.rowsum = s.dev.chk.rowsum + 1 ∧
          (t.pan p).rowsumFails = (s.pan p).rowsumFails + 1 ∧ (t.pan p).lastArr = BitVec.ofNat 3 a ∧
          (Sparse.get LogEntry.reset t.dev.chk.log (s.dev.chk.logProd.toNat % 4096)).code = 0x01 ∧
          t.dev.fab.works = (s.failWork v.stream v.index 1 0x01 1 (8 * p + a)).dev.fab.works))

/-- BITTERN_EVENT_SERVE with no event queued waits for the first that comes; with none to come it does nothing. An event that the tick's reservation cannot pay stays queued and sets OVF_CAUSE.SPENT. One that it can leaves the queue, spends 1 unit, or 2 with WIDE, counts as served, adds its exact addends to the vector and to Y, sends them as sparse flits, and the vector is judged. CORRECT_LAST lets the vector's events that wait overflow in every pan; then the destination reads its data with the errors given, scales its columns by column scale and the vector's own scale, ends that accumulation, and counts the output vector in its layer slot, in the closed window's counts where its last accumulate fell before the window; when a part of its columns is CLAMPED, the vector and the position are; a poisoned sum poisons the position; with no accumulation of that vector nothing more happens. (02 R56; 04 R99; 04 R100; 04 R102; 04 R103; 04 R105; 04 R107; 05 R129; 05 R140) -/
def Obligations.BitternAndCorrection : Prop :=
  ∀ (s : State) (p scaleArr slot stream index vec ecc : Nat),
    (((s.pan p).queue ≠ [] ∨ (s.pan p).coming = []) → s.arriveNext p = s) ∧
    (∀ u, u = s.arriveNext p → ((u.pan p).queue = [] → exec (.bitternEventServe p) s = .next u) ∧
      (∀ e rest cost, (u.pan p).queue = e :: rest → cost = (if e.cfg.wide then 2 else 1) →
        (u.dev.fab.resEff < (u.pan p).unitsUsed + cost →
          exec (.bitternEventServe p) s = .next (u.updPan p (fun q => { q with ovfSpent := true }))) ∧
        (∀ adds, (u.pan p).unitsUsed + cost ≤ u.dev.fab.resEff →
          adds = eventAddends (u.pan p) (u.arr p e.arr).cells ((u.pan p).segment e.ring) e →
          exec (.bitternEventServe p) s = .next ((((u.updPan p (fun q =>
            ({ q with queue := rest, unitsUsed := q.unitsUsed + cost, served := q.served + 1 }).updArr e.arr
              (fun a => a.updVec e.slot e.stream e.index e.vec (fun v =>
                { v with adds := v.adds ++ adds.map (fun (x : Nat × Int × Int) => (x.1, BitVec.ofInt 32 x.2.1)),
                         y := v.y + BitVec.ofInt 32 ((adds.map (fun (x : Nat × Int × Int) => x.2.2)).sum) })))).emit
            (.flits p .sum 4 (sparseFlits e (adds.map (fun (x : Nat × Int × Int) => (x.1, x.2.1)))))).judge p e.arr e.slot e.stream e.index e.vec))))) ∧
    (∀ u, u = s.each (s.dev.pans.map (·.1)) (fun s q => s.closeVector q slot stream index vec) →
      let isIt : SumAcc → Bool := fun a => a.slot == slot && a.stream == stream && a.index == index && a.vec == vec
      ((u.pan p).accs.find? isIt = none → exec (.correctLast p scaleArr slot stream index vec ecc) s = .next u) ∧
      (∀ (acc : SumAcc) (x v w : State) (out : List W32) (clam closed : Bool), (u.pan p).accs.find? isIt = some acc → x = u.eccPan p stream index ecc →
        clam = (acc.clamped || x.dev.vecClamped slot stream index vec acc.cover) →
        (closed = true ↔ x.dev.parts slot stream index vec ≠ [] ∧ ∀ r ∈ x.dev.parts slot stream index vec, r.tick < x.dev.fab.windowTick) →
        out = (acc.cols.zipIdx).map (fun e => scaleSum e.1 ((x.pan p).colScale scaleArr e.2) acc.scale) →
        v = (x.updPan p (fun q => { q with accs := q.accs.filter (fun a => !isIt a), work := out,
                                           clampedOut := if clam then q.clampedOut + 1 else q.clampedOut })).updClamp slot (fun c =>
            if closed then { c with vec := c.vec + 1, clamped := c.clamped + if clam then 1 else 0 }
            else { c with cntVec := c.cntVec + 1, cntClamped := c.cntClamped + if clam then 1 else 0 }) →
        (clam = false → w = v) → (clam = true → w = v.updWork stream index (fun w => { w with clamped := true, clampSlot := some slot })) →
        (acc.poison = false → exec (.correctLast p scaleArr slot stream index vec ecc) s = .next (w.emit (.panResult p out))) ∧
        (acc.poison = true → exec (.correctLast p scaleArr slot stream index vec ecc) s = .next ((w.poisonWork stream index 1).emit (.panResult p out)))))

/-- SPOT of an array whose turn it is not does nothing; of one not in COMPUTE it counts a skip. With no eligible vector it counts a skip; the drawn vector waits for its events when some are still to be served, counts a skip when it is CLAMPED, counts a recompute when its column agrees with the exact sum within TOL, and beyond TOL also a failure, logged on the array, and the position fails. Then, unless no vector was eligible and no position ran since the last passing check, the rows: with every row sum right the positions since the last check are cleared; with a wrong one the content failure counts, those positions fail, or are revoked where they have left, and the array is to be restored. CANARY with the canary off, out of the pan's tick, or with one due, does nothing; in its tick it compares the array's vector of this tick, or is due at its next one; a comparison that fails as it must counts in CHK_CANARY.RUN alone, one that does not is a miss, logged, and the pan is to retire. (04 R111; 04 R112; 11 R337; 11 R338; 11 R339; 11 R341) -/
def Obligations.ArrayChecks : Prop :=
  ∀ (s : State) (p a eligible : Nat),
    (s.dev.fab.spotTurn s.tick a = false → exec (.spot p a eligible) s = .next s) ∧
    (s.dev.fab.spotTurn s.tick a = true → (s.arr p a).cfg.mode ≠ .compute →
      exec (.spot p a eligible) s = .next (s.updPan p (fun q => { q with spotSkip := q.spotSkip + 1 }))) ∧
    (∀ (r j : Nat) (vs : List RunVec) (u : State), s.dev.fab.spotTurn s.tick a = true → (s.arr p a).cfg.mode = .compute →
      vs = ((s.arr p a).done.filter (fun v => v.tick == s.tick)).take eligible →
      r = (gen s.dev.fab.spotKeyInForce (BitVec.ofNat 64 (s.tick * 65536 + p * 8 + a))).toNat →
      (vs = [] → u = s.updPan p (fun q => { q with spotSkip := q.spotSkip + 1 })) →
      (∀ v (exact own : W32), vs[(r / 65536) % vs.length]? = some v → j = r % v.cfg.fmt.cols →
        exact = exactSum (cellBit (s.arr p a).cells) v.cfg ((s.pan p).segment v.ring) ((s.pan p).groupShift a v.cfg.wide j) j →
        own = (v.adds.filter (fun e => e.1 == j)).foldl (fun y e => y + e.2) (v.sums.getD j 0) →
        (s.waits p a v.slot v.stream v.index v.vec = true →
          u = s.updPan p (fun q => { q with spots := q.spots ++ [(a, ⟨v.slot, v.stream, v.index, v.vec⟩, j)] })) ∧
        (s.waits p a v.slot v.stream v.index v.vec = false → v.clamped ≠ [] → u = s.updPan p (fun q => { q with spotSkip := q.spotSkip + 1 })) ∧
        (s.waits p a v.slot v.stream v.index v.vec = false → v.clamped = [] →
          (((own.toInt - exact.toInt).natAbs : Int) ≤ fpFloor (spotTol s.dev.chk.k.toNat v.cfg ((s.pan p).groupShift a v.cfg.wide j)) →
            u = s.updPan p (fun q => { q with spotRun := q.spotRun + 1 })) ∧
          (fpFloor (spotTol s.dev.chk.k.toNat v.cfg ((s.pan p).groupShift a v.cfg.wide j)) < ((own.toInt - exact.toInt).natAbs : Int) →
            u = ((((s.updPan p (fun q => { q with spotRun := q.spotRun + 1 })).updPan p (fun q => { q with spotFail := q.spotFail + 1 })).arrayFailure p a
              0x02 2 j (own.toInt - exact.toInt).natAbs).failWork v.stream v.index 1 0x02 1 (8 * p + a))))) →
      (vs = [] → (s.arr p a).since = [] → exec (.spot p a eligible) s = .next u) ∧
      (vs ≠ [] ∨ (s.arr p a).since ≠ [] →
        (badRow (u.pan p) a (s.arr p a) = none → exec (.spot p a eligible) s = .next (u.updArr p a (fun x => { x with since := [] }))) ∧
        (∀ row, badRow (u.pan p) a (s.arr p a) = some row → exec (.spot p a eligible) s = .next (u.contentFailure p a row)))) ∧
    (∀ row t, t = s.contentFailure p a row → (t.pan p).contentFails = (s.pan p).contentFails + 1 ∧ t.dev.chk.content = s.dev.chk.content + 1 ∧
      (t.arr p a).since = [] ∧ (t.arr p a).restoring = true ∧
      (∀ e ∈ (s.arr p a).since, ∀ w ∈ t.dev.fab.works, w.stream = e.1 → w.index = e.2 → w.result ≠ 0) ∧
      t.dev.fab.revokes = s.dev.fab.revokes ++ ((s.arr p a).since.filter (fun e => (s.dev.fab.work e.1 e.2).isNone)).map (fun e => (e.1, e.2, 0x03, 8 * p + a))) ∧
    (s.dev.chk.canaryEn = false ∨ (s.tick + p) % 1024 ≠ 0 ∨ (s.pan p).canaryDue ≠ none → exec (.canary p) s = .next s) ∧
    (∀ n, s.dev.chk.canaryEn = true → (s.tick + p) % 1024 = 0 → (s.pan p).canaryDue = none → n = (s.tick / 1024) % 8 →
      ((∀ v ∈ (s.arr p n).done, v.tick ≠ s.tick) → exec (.canary p) s = .next (s.updPan p (fun q => { q with canaryDue := some n }))) ∧
      (∀ v, (s.arr p n).done.find? (fun v => v.tick == s.tick) = some v →
        ((s.rowCheck p n v true).2 < ((s.rowCheck p n v true).1 : Int) →
          exec (.canary p) s = .next (s.updPan p (fun q => { q with canaryRun := q.canaryRun + 1, canaryDue := none }))) ∧
        (((s.rowCheck p n v true).1 : Int) ≤ (s.rowCheck p n v true).2 →
          exec (.canary p) s = .next ((((s.updPan p (fun q => { q with canaryRun := q.canaryRun + 1, canaryDue := none })).updPan p (fun q =>
            { q with canaryMiss := true, lastArr := BitVec.ofNat 3 n, lastCause := 4, lastTick := BitVec.ofNat 20 s.tick })).updChk (fun c =>
            { c with canaryMiss := c.canaryMiss + 1, toRetire := if c.gone 2 p then c.toRetire else c.toRetire ++ [(2, p, 0x04)] })).logEvent
              0x04 2 p n 0))))

/-- UNIT_RETIRE_DECISION of a unit with no decision due, or retired already, does nothing. Else it retires the unit, takes it off the list, logs UNIT_RETIRED, and acts by kind: the pan, or the pan of an array in use, is vacated; an array is excluded; a router's package leaves its position; the cluster goes offline; the port is RETIRED; the lane is left out; other kinds have no effect of their own. Vacating sends a payload to the lowest free spare of its island at the first frame boundary 2 ticks ahead; a move decided before stands; with no free spare the package leaves its position; an idle spare has no payload. PAN_SUBSTITUTION without a decided move, or before its frame boundary, does nothing; then it moves the payload, ends a verification that waited for it and answers the RETIRE commands of the pan and its arrays. DENY_WRITE and MGMT_DENY_WRITE to entries 0 to 63 are due at the next boundary, without their reserved bits, a reserved KIND leaving the entry's; elsewhere, and over the management path in FURL or without power, they change nothing. (00 R16; 11 R351; 11 R352; 11 R353; 11 R354; 11 R358; 11 R359; 15 R432) -/
def Obligations.RetirementAndDenial : Prop :=
  ∀ (s : State) (unit n p : Nat) (v : W32) (u : Nat → State), (∀ kind, u kind = s.updChk (fun c =>
      { c with retired := c.retired ++ [(kind, unit)], toRetire := c.toRetire.filter (fun e => !(e.1 == kind && e.2.1 == unit)) })) →
    (∀ kind, (∀ e ∈ s.dev.chk.toRetire, ¬ (e.1 = kind ∧ e.2.1 = unit)) ∨ s.dev.chk.isRetired kind unit = true →
      exec (.unitRetireDecision kind unit) s = .next s) ∧
    (∀ kind e, s.dev.chk.toRetire.find? (fun e => e.1 == kind && e.2.1 == unit) = some e → s.dev.chk.isRetired kind unit = false →
      (kind = 1 → ∀ q x t, x = (u 1).updArr (unit / 8) (unit % 8) (fun a => { a with excluded := true }) →
        (unit % 8 ∈ (x.pan (unit / 8)).mask → (x.pan (unit / 8)).role ≠ .spareIdle → x.decideVacate (unit / 8) false = (q, t)) →
        (unit % 8 ∉ (x.pan (unit / 8)).mask ∨ (x.pan (unit / 8)).role = .spareIdle → q = none ∧ t = x) →
        exec (.unitRetireDecision kind unit) s = .next (t.logEvent 0x20 1 unit e.2.2 (q.getD 0xFFF))) ∧
      (kind = 2 → ∀ q t, (u 2).decideVacate unit true = (q, t) →
        exec (.unitRetireDecision kind unit) s = .next (t.logEvent 0x20 2 unit e.2.2 (q.getD 0xFFF))) ∧
      (kind = 3 → exec (.unitRetireDecision kind unit) s = .next (((u 3).logEvent 0x20 3 unit e.2.2 0).leavePosition (Pan.island unit))) ∧
      (kind = 4 → exec (.unitRetireDecision kind unit) s = .next (((u 4).updDle (fun d =>
        { d with retired := d.retired ||| BitVec.ofNat 4 (2 ^ unit), online := d.online &&& ~~~(BitVec.ofNat 4 (2 ^ unit)) })).logEvent 0x20 4 unit e.2.2 0)) ∧
      (kind = 5 → exec (.unitRetireDecision kind unit) s = .next (((u 5).updPort unit (fun x => { x with state := 4 })).logEvent 0x20 5 unit e.2.2 0)) ∧
      (kind = 6 → exec (.unitRetireDecision kind unit) s = .next (((u 6).updPort (unit / 16) (fun x =>
        { x with retired := x.retired ||| BitVec.ofNat 9 (2 ^ (unit % 16)) })).logEvent 0x20 6 unit e.2.2 0)) ∧
      (kind = 0 ∨ 6 < kind → exec (.unitRetireDecision kind unit) s = .next ((u kind).logEvent 0x20 kind unit e.2.2 0))) ∧
    (∀ retires, ((s.pan p).role = .spareIdle → s.decideVacate p retires = (none, if retires then s.updPan p (fun x => { x with role := .retired }) else s)) ∧
      ((s.pan p).role = .retired → s.decideVacate p retires = (none, s)) ∧
      ((s.pan p).role = .active ∨ (s.pan p).role = .spareServing →
        (∀ q b, (s.pan p).vacateTo = some (q, b) →
          s.decideVacate p retires = (some q, s.updPan p (fun x => { x with vacateRetires := x.vacateRetires || retires }))) ∧
        (∀ q, (s.pan p).vacateTo = none → s.dev.freeSpare p = some q → s.decideVacate p retires =
          (some q, s.updPan p (fun x => { x with vacateTo := some (q, s.dev.fab.frameAfter s.tick 2), vacateRetires := retires }))) ∧
        ((s.pan p).vacateTo = none → s.dev.freeSpare p = none → s.decideVacate p retires = (none, s.leavePosition (Pan.island p))))) ∧
    ((s.pan p).vacateTo = none → exec (.panSubstitution p) s = .next s) ∧
    (∀ q b, (s.pan p).vacateTo = some (q, b) →
      (s.tick < b ∨ s.tick % max 1 s.dev.fab.frame ≠ 0 → exec (.panSubstitution p) s = .next s) ∧
      (b ≤ s.tick → s.tick % max 1 s.dev.fab.frame = 0 → exec (.panSubstitution p) s =
        .next ((((s.movePayload p q (s.pan p).vacateRetires).endVerify p q).endRetires 2 [p]).endRetires 1 ((List.range 8).map (fun a => 8 * p + a))))) ∧
    (∀ w, n < 64 → (fieldAt v.toNat 20 4 ≤ 10 → w = v &&& 0x80FFFFFF) →
      (10 < fieldAt v.toNat 20 4 → w = (v &&& 0x800FFFFF) ||| (s.dev.chk.denyWord n &&& 0x00F00000)) →
      exec (.denyWrite n v) s = .next (s.updChk (fun c => { c with denyDue := c.denyDue.filter (fun e => e.1 != n) ++ [(n, w)] })) ∧
      (s.dev.awake = true → exec (.mgmtDenyWrite n v) s = .next (s.updChk (fun c =>
        { c with denyDue := c.denyDue.filter (fun e => e.1 != n) ++ [(n, w)] })))) ∧
    (64 ≤ n → exec (.denyWrite n v) s = .next s ∧ exec (.mgmtDenyWrite n v) s = .next s) ∧
    (s.dev.awake = false → exec (.mgmtDenyWrite n v) s = .next s)

/-- FLIT_FORWARD, after the check of the data and sum planes, discards and counts flits with no entry for their input; then, port by port, the flits that the slot's entries bring to it leave there: with one entry its input's flits; with several, on the sum plane, all ADD and dense, their sums; on the control plane, all MAX and AMAX frames, their maximum; else the lowest input's flits, and the conflict counts. At LOCAL of the sum plane they are added into the pan that stands there; EDGE leads nowhere inside the die. CONTROL_FRAME_RECEIVE of a frame with a bad CRC counts in CTL_CRC, is logged, blames the router that feeds the port and fails the position it names. A good frame that names no position changes nothing. AMAX keeps the value for its vector, with FAULT as a numeric fault; its root multicasts it. FLAGS with CLAMPED marks the accumulation and the position, with POISON poisons it, with FAULT fails it; CHECK with FAULT fails it; SLIP makes it wait for the next tick unless it waits; other types change nothing. (05 R131; 05 R132; 05 R133; 05 R134; 05 R137; 05 R139; 05 R141; 04 R105; 11 R345) -/
def Obligations.RouterFlitsAndControlFrames : Prop :=
  ∀ (s u : State) (p slot inp : Nat) (plane : Plane) (flits f : List Flit) (es : List HopEntry),
    ((plane = .control → f = flits ∧ u = s) → (plane ≠ .control → (f, u) = s.eccFlits p flits) →
      es = (u.dev.fab.entries plane p).filter (fun e => e.covers slot) →
      (es = [] → exec (.flitForward p plane slot flits) s = .next ((u.updPan p (fun q => { q with conflicts := wrapInc q.conflicts f.length })))) ∧
      (∀ lost, lost = (f.filter (fun x => es.all (fun e => e.inp != x.inp))).length → exec (.flitForward p plane slot flits) s =
        .next ((u.updPan p (fun q => { q with conflicts := wrapInc q.conflicts lost })).each (List.range 6) (fun t n =>
          let o := portFlits plane (es.filter (fun e => bitAt e.out n)) f
          let t := if o.2 then t.updPan p (fun q => { q with conflicts := q.conflicts + 1 }) else t
          if o.1 = [] ∨ (n = 5 ∧ edgeOf p = none) then t
          else if n = 4 ∧ plane = .sum then t.each o.1 (State.accumulate (t.dev.standIn p))
          else t.emit (.flits p plane n o.1))))) ∧
    portFlits plane [] f = ([], false) ∧ (∀ e, portFlits plane [e] f = (f.filter (fun x => x.inp == e.inp), false)) ∧
    (∀ a b x y, a.inp < b.inp → x = f.filter (fun z => z.inp == a.inp) → y = f.filter (fun z => z.inp == b.inp) → x.length = y.length →
      (plane = .sum → a.op = 1 → b.op = 1 → (∀ z ∈ x ++ y, z.sparse = false) → portFlits plane [a, b] f = (List.zipWith addFlits x y, false)) ∧
      (plane = .control → a.op = 2 → b.op = 2 → (∀ z ∈ x ++ y, z.amax = true) → portFlits plane [a, b] f = (List.zipWith maxFlits x y, false))) ∧
    (∀ (es : List HopEntry) (part : HopEntry → List Flit), (∀ e, part e = f.filter (fun z => z.inp == e.inp)) → 2 ≤ es.length →
      (plane = .sum → (∀ e ∈ es, e.op = 1 ∧ ∀ z ∈ part e, z.sparse = false) →
        portFlits plane es f = (combine addFlits ((sortBy (·.inp) es).map part), false)) ∧
      (plane = .control → (∀ e ∈ es, e.op = 2 ∧ ∀ z ∈ part e, z.amax = true) →
        portFlits plane es f = (combine maxFlits ((sortBy (·.inp) es).map part), false)) ∧
      (¬ (plane = .sum ∧ ∀ e ∈ es, e.op = 1 ∧ ∀ z ∈ part e, z.sparse = false) → ¬ (plane = .control ∧ ∀ e ∈ es, e.op = 2 ∧ ∀ z ∈ part e, z.amax = true) →
        (portFlits plane es f).2 = true ∧ ∃ e ∈ es, (∀ x ∈ es, e.inp ≤ x.inp) ∧ (portFlits plane es f).1 = part e)) ∧
    (∀ bytes bad r work v, work = s.dev.fab.tagged (leAt bytes 8 4) → r = feeder p inp →
      bad = (decide (bytes.length < 4) || crc32c (bytes.take (bytes.length - 4)) != BitVec.ofNat 32 (leAt bytes (bytes.length - 4) 4)) →
      v = (((s.updPan p (fun q => { q with ctlCrc := q.ctlCrc + 1 })).logEvent 0x11 3 r inp 0).failEvent 3 r 0x11) →
      (bad = true → work = none → exec (.controlFrameReceive p inp bytes) s = .next v) ∧
      (∀ w, bad = true → work = some w → exec (.controlFrameReceive p inp bytes) s = .next (v.failWork w.stream w.index 1 0x11 3 r)) ∧
      (bad = false → work = none → exec (.controlFrameReceive p inp bytes) s = .next s) ∧
      (∀ w ty fl, bad = false → work = some w → ty = leAt bytes 0 1 → fl = leAt bytes 1 1 →
        (∀ (t : VecTag) (a : W32) (x y : State), ty = 2 → t = ⟨fieldAt (leAt bytes 8 4) 28 4, w.stream, w.index, leAt bytes 8 2⟩ →
          a = BitVec.ofNat 32 (leAt bytes 16 4) → x = s.updPan p (fun q => { q with amaxes := q.amaxes.filter (fun e => e.1 != t) ++ [(t, a, bitAt fl 2)] }) →
          (bitAt fl 2 = false → y = x) → (bitAt fl 2 = true → y = x.numericFault w.stream w.index) →
          (leAt bytes 4 2 ≠ p → exec (.controlFrameReceive p inp bytes) s = .next y) ∧
          (leAt bytes 4 2 = p → exec (.controlFrameReceive p inp bytes) s =
            .next (y.emit (.flits p .control 4 [y.controlFlit p 2 (fl % 8) 0xFFFF t.slot t.stream t.index t.vec a])))) ∧
        (∀ x y z, ty = 3 → (bitAt fl 0 = false → x = s) → (bitAt fl 0 = true → x = (s.updPan p (fun q =>
            { q with accs := q.accs.map (fun a => if a.stream = w.stream ∧ a.index = w.index ∧ a.slot = fieldAt (leAt bytes 8 4) 28 4 ∧ a.vec = leAt bytes 8 2 then
                { a with clamped := true } else a) })).updWork w.stream w.index (fun w =>
              { w with clamped := true, clampSlot := some (fieldAt (leAt bytes 8 4) 28 4) })) →
          (bitAt fl 1 = false → y = x) → (bitAt fl 1 = true → y = x.poisonWork w.stream w.index 1) →
          (bitAt fl 2 = false → z = y) → (bitAt fl 2 = true → z = y.failWork w.stream w.index 1 0 0 0) →
          exec (.controlFrameReceive p inp bytes) s = .next z) ∧
        (ty = 4 → bitAt fl 2 = true → exec (.controlFrameReceive p inp bytes) s = .next (s.failWork w.stream w.index 1 0 0 0)) ∧
        (ty = 4 → bitAt fl 2 = false → exec (.controlFrameReceive p inp bytes) s = .next s) ∧
        (ty = 6 → w.slipped = true → exec (.controlFrameReceive p inp bytes) s = .next s) ∧
        (ty = 6 → w.slipped = false → exec (.controlFrameReceive p inp bytes) s =
          .next (s.updWork w.stream w.index (fun w => { w with slipped := true, tick := s.tick + 1, slipAt := s.tick }))) ∧
        (ty ≠ 2 → ty ≠ 3 → ty ≠ 4 → ty ≠ 6 → exec (.controlFrameReceive p inp bytes) s = .next s)))

/-- CALL of each entry: after the pan SRAM read with the errors given, the effect below, and VCORE_BUSY counts one cycle per 32 elements begun. AMAX sends its frame to the root and keeps its value, with FAULT and a numeric fault when an element is not finite. A8 quantization takes the agreed amax, else its own elements' maximum, and leaves the rounded elements as a segment with their scale; KV rounding stores the run in the position's hot entry, but not of a rebuild elsewhere; the rake in full mode leaves the elements rotated by the layer's record, as they are where it lists none, and in head mode rotated by head, Q in BF16; the residual add leaves the FP32 sums and keeps them; the layer's result is rounded to BF16 with the draws, a value that grows infinite being a numeric fault; an expert's output is rounded to nearest even; the row-sum entry judges the vector that waits; another entry leaves what the image's program gives. The rounding and rake entries on an element that is not finite take the numeric fault instead. KV_WRITE_COMPLETE drains the position's hot entry to the pool and marks it written, unless it is provisional. (02 R52; 02 R53; 02 R57; 02 R58; 02 R61; 02 R65; 02 R70; 05 R127; 05 R129; 05 R141; 09 R288; 09 R302) -/
def Obligations.PanProgramEntries : Prop :=
  ∀ (s x : State) (p slot st i ecc base : Nat) (xs : List W32) (busy : Nat → State → State) (l : LayerRec) (seed : W64), x = s.eccPan p st i ecc →
    l = (x.dev.ws.layer slot).getD {} → seed = (x.dev.ws.img.getD {}).srSeed →
    (∀ n t, busy n t = t.updPan p (fun q => { q with vcoreBusy := wrapInc q.vcoreBusy (ceilDiv n 32) })) →
    (∀ root vec v, v = (x.emit (.flits p .control 4 [x.controlFlit p 2 (if allFinite xs then 0 else 4) root slot st i vec (amaxOf xs)])).updPan p (fun q =>
        { q with amaxes := q.amaxes.filter (fun e => e.1 != ⟨slot, st, i, vec⟩) ++ [(⟨slot, st, i, vec⟩, amaxOf xs, !allFinite xs)] }) →
      (allFinite xs = true → exec (.call p slot st i (.amax root vec xs) ecc) s = .next (busy xs.length v)) ∧
      (allFinite xs = false → exec (.call p slot st i (.amax root vec xs) ecc) s = .next (busy xs.length (v.numericFault st i)))) ∧
    (∀ (q vec : Nat) (amax : W32) (qs : List Int), (∀ e, (x.pan p).amaxes.find? (fun e => e.1 == ⟨slot, st, i, vec⟩) = some e → amax = e.2.1) →
      ((x.pan p).amaxes.find? (fun e => e.1 == ⟨slot, st, i, vec⟩) = none → amax = amaxOf xs) →
      qs = (xs.zipIdx).map (fun e => quantOne 127 (scaleWord amax 127)
        (if bitAt l.srMask q then some (srDraw seed st (0x10 + q) l.layer i (base + e.2)) else none) e.1) →
      (allFinite (amax :: xs) = true → exec (.call p slot st i (.quantA8 q base vec xs) ecc) s = .next (busy xs.length ((x.updPan p (fun y =>
        { y with work := qs.map (BitVec.ofInt 32) })).emit (.segment p (qs.map byteOfInt) (scaleWord amax 127))))) ∧
      (allFinite (amax :: xs) = false → exec (.call p slot st i (.quantA8 q base vec xs) ecc) s = .next (busy xs.length (x.numericFault st i)))) ∧
    (∀ use run, allFinite xs = true →
      (x.dev.kvWork st i = none → exec (.call p slot st i (.quantKV use run xs) ecc) s = .next (busy xs.length x)) ∧
      (∀ w, x.dev.kvWork st i = some w →
        (w.rebuild = false ∨ x.dev.role.position = w.target → exec (.call p slot st i (.quantKV use run xs) ecc) s = .next (busy xs.length (x.storeKv slot use run w l xs))) ∧
        (w.rebuild = true → x.dev.role.position ≠ w.target → exec (.call p slot st i (.quantKV use run xs) ecc) s = .next (busy xs.length x)))) ∧
    (∀ n, allFinite xs = true →
      (∀ r, l.rots[n]? = some r → exec (.call p slot st i (.rakeFull n xs) ecc) s =
        .next (busy xs.length (x.panOut p (rotate ((l.seeds.drop r.2.1).take r.2.2) xs)))) ∧
      (l.rots[n]? = none → exec (.call p slot st i (.rakeFull n xs) ecc) s = .next (busy xs.length (x.panOut p xs)))) ∧
    (∀ heads ys, allFinite xs = true → ys = rotateHeads l.kSeeds heads l.headDim xs →
      exec (.call p slot st i (.rakeHead false heads xs) ecc) s = .next (busy xs.length (x.panOut p ys)) ∧
      exec (.call p slot st i (.rakeHead true heads xs) ecc) s = .next (busy xs.length (x.panOut p (ys.map (fun y => bf16To32 (fp32ToBf16 y)))))) ∧
    (∀ start old : List W32, (x.dev.fab.work st i = none → start = []) →
      (∀ w, x.dev.fab.work st i = some w → start = ((if w.outRes.length ≤ base then w.residual else w.outRes).drop base).take xs.length) →
      old = ((x.pan p).residualOf st i base).getD (start ++ List.replicate (xs.length - start.length) 0) →
      exec (.call p slot st i (.residualAdd base xs) ecc) s = .next (busy xs.length ((x.updPan p (fun q =>
        { q with resid := q.resid.filter (fun e => !(e.1 == st && e.2.1 == i && e.2.2.1 == base)) ++ [(st, i, base, List.zipWith fpAdd old xs)] })).panOut p
          (List.zipWith fpAdd old xs)))) ∧
    (∀ (rs : List (W16 × Bool)) (vals : List W32) (u : State), xs = ((s.pan p).residualOf st i base).getD [] →
      rs = (xs.zipIdx).map (fun e => residualOne (srDraw seed st 0x03 l.layer i (base + e.2)) e.1) → vals = rs.map (fun r => bf16To32 r.1) →
      u = ((x.updPan p (fun q => { q with resid := q.resid.filter (fun e => !(e.1 == st && e.2.1 == i && e.2.2.1 == base)) })).updWork st i (fun w =>
        { w with outRes := (w.outRes ++ List.replicate (base + vals.length - w.outRes.length) 0).take base ++ vals ++
            (w.outRes ++ List.replicate (base + vals.length - w.outRes.length) 0).drop (base + vals.length) })).panOut p vals →
      (allFinite xs = true → (∀ r ∈ rs, r.2 = false) → exec (.call p slot st i (.residualRound base) ecc) s = .next (busy xs.length u)) ∧
      (allFinite xs = true → (∃ r ∈ rs, r.2 = true) → exec (.call p slot st i (.residualRound base) ecc) s = .next (busy xs.length (u.numericFault st i))) ∧
      (allFinite xs = false → exec (.call p slot st i (.residualRound base) ecc) s = .next (busy xs.length (x.numericFault st i)))) ∧
    (∀ vals, allFinite xs = true → vals = xs.map (fun x => bf16To32 (fp32ToBf16 x)) → exec (.call p slot st i (.expertOut base xs) ecc) s =
      .next (busy xs.length ((x.updWork st i (fun w =>
        { w with outRes := (w.outRes ++ List.replicate (base + vals.length - w.outRes.length) 0).take base ++ vals ++
            (w.outRes ++ List.replicate (base + vals.length - w.outRes.length) 0).drop (base + vals.length) })).panOut p vals))) ∧
    (∀ a, (∀ v, (x.arr p a).done.find? (fun v => v.stream == st && v.index == i && !v.checked) = some v →
        exec (.call p slot st i (.rowSum a) ecc) s = .next (busy 1024 (x.judge p a v.slot st i v.vec))) ∧
      ((x.arr p a).done.find? (fun v => v.stream == st && v.index == i && !v.checked) = none →
        exec (.call p slot st i (.rowSum a) ecc) s = .next (busy 1024 x))) ∧
    (∀ n, exec (.call p slot st i (.other n xs) ecc) s = .next (busy xs.length (x.panOut p ((List.range xs.length).map (Config.panProgram n xs))))) ∧
    (∀ op use run n heads isQ, allFinite xs = false →
      op ∈ [.quantKV use run xs, .rakeFull n xs, .rakeHead isQ heads xs, .expertOut base xs] →
      exec (.call p slot st i op ecc) s = .next (busy xs.length (x.numericFault st i))) ∧
    (∀ mine : HotEntry → Bool, (∀ h, mine h = (h.stream == st && h.index == i && !h.provisional)) →
      exec (.kvWriteComplete st i) s = .next (s.updFab (fun b => { ((b.hot.filter mine).foldl Fab.drain b) with
        hot := b.hot.map (fun h => if mine h = true then { h with done := true } else h) })))

/-- DLE_ATTENTION of a position runs at once while no slipped position waits, or when it is the one that waits; then the attention held back runs once none waits. Else it is held back. For a slot with no layer, or with no cluster online, it computes nothing. Attention keeps the heads' results for return, counts the position and its MAC slots; a head with a NaN score also sets NUMERIC and takes the numeric fault; a cluster's residue mismatch or uncorrectable SRAM error is logged, counted and fails the position, a corrected one counts; context in a poisoned block poisons it. DLE_TIER2_PASS of a matrix that the slot does not have, that is not on the DLE, or with no cluster online, does nothing; a matrix in arrays is there only while its layer runs on the DLE. Else it keeps the outputs of each position of the pass, counts its MAC slots and, for a tier-2 matrix, the pass; outputs that are not finite are numeric faults of their positions; a residue mismatch or uncorrectable error takes every position of the pass. (04 R108; 04 R114; 04 R115; 04 R117; 04 R118; 04 R119; 04 R122; 04 R123; 11 R342; 11 R344) -/
def Obligations.LayerEngine : Prop :=
  ∀ (s : State) (st i slot name len : Nat) (blocks : List Nat) (q : List W16) (fault : Option (Nat × DleFault)) (arrays : List (Nat × Nat))
      (acts : List (Nat × Nat × W16 × List Byte)) (j : AttnJob), j = { stream := st, index := i, slot, blocks, len, q, fault } →
    (s.dev.dle.attnWait ≠ [] → (st, i) ∉ s.dev.dle.attnWait →
      exec (.dleAttention st i slot blocks len q fault) s = .next (s.updDle (fun d => { d with attnHeld := d.attnHeld ++ [j] }))) ∧
    (∀ u, s.dev.dle.attnWait = [] ∨ (st, i) ∈ s.dev.dle.attnWait →
      u = (s.updDle (fun d => { d with attnWait := d.attnWait.filter (fun e => e != (st, i)) })).runAttention j →
      (u.dev.dle.attnWait ≠ [] → exec (.dleAttention st i slot blocks len q fault) s = .next u) ∧
      (u.dev.dle.attnWait = [] → exec (.dleAttention st i slot blocks len q fault) s =
        .next ((u.updDle (fun d => { d with attnHeld := [] })).each u.dev.dle.attnHeld State.runAttention))) ∧
    (s.dev.ws.layer slot = none ∨ s.dev.dle.onlineCount = 0 → s.runAttention j = s) ∧
    (∀ l n ctx heads outs per u v w, s.dev.ws.layer slot = some l → s.dev.dle.onlineCount ≠ 0 → l.headDim ≠ 0 →
      (bitAt (s.dev.ws.img.getD {}).flags 3 = false → n = i + 1) → (bitAt (s.dev.ws.img.getD {}).flags 3 = true → n = len) →
      ctx = (List.range n).map (fun j => (blocks.getD (j / 64) 4194304, j % 64)) → heads = q.length / l.headDim → per = heads * l.headDim →
      outs = (List.range heads).map (fun h => s.dev.headAttention l slot ctx (h * l.kvHeads / max 1 heads) (((q.map bf16To32).drop (h * l.headDim)).take l.headDim)) →
      u = (s.dleWork (n * ((if s.dev.kvBits = 8 then per else per / 2) + per))).updDle (fun d =>
        { d with attnPos := d.attnPos + 1,
                 attnOut := d.attnOut.filter (fun e => !(e.1 == st && e.2.1 == i)) ++ [(st, i, outs.flatMap (fun o => o.getD (List.replicate l.headDim 0x7FC0)))] }) →
      (outs.any Option.isNone = false → v = u) →
      (outs.any Option.isNone = true → v = (u.updDle (fun d => { d with numeric := true, numericCnt := satInc d.numericCnt })).numericFault st i) →
      (fault = none → w = v) → (∀ c, fault = some (c, .residue) → w = (((v.updChk (fun k => { k with residue := k.residue + 1 })).logEvent 0x06 4 c c 0).failEvent
        4 c 0x06).failWork st i 1 0x06 4 c) →
      (∀ c, fault = some (c, .ue) → w = (((v.updDle (fun d => { d with eccUE := true, ueCnt := satInc d.ueCnt })).logEvent 0x10 4 c 4 0).failEvent
        4 c 0x10).poisonWork st i 1) →
      (∀ c, fault = some (c, .ce) → w = v.updDle (fun d => { d with sramCE := Sparse.upd (fun _ => 0) d.sramCE c (· + 1) })) →
      ((∀ c ∈ ctx, c.1 ∉ s.dev.fab.poisonBlocks) → s.runAttention j = w) ∧
      ((∃ c ∈ ctx, c.1 ∈ s.dev.fab.poisonBlocks) → s.runAttention j = w.poisonWork st i 3)) ∧
    (s.dev.descOf slot name = none ∨ s.dev.dle.onlineCount = 0 → exec (.dleTier2Pass slot name arrays acts fault) s = .next s) ∧
    (∀ m (out : (W16 → List Byte → List W32) → List DleOut), s.dev.descOf slot name = some m →
      (∀ f, out f = acts.map (fun a => ⟨slot, m.name, a.1, a.2.1, f a.2.2.1 a.2.2.2⟩)) →
      (m.place = 1 → s.dev.dleOutputs slot m arrays acts = (Tab.find s.dev.dle.mats m.sect).map (fun y => out (dleApply m y.bytes))) ∧
      (m.place = 2 → s.dev.dleOutputs slot m arrays acts = (Tab.find s.dev.dle.tier2 m.sect).map (fun y => out (tier2Apply m (s.dev.wideLayer slot)
        (fun k => sliceAt y.bytes (k * tier2Stride (fmtOf m.fmt)) (tier2Stride (fmtOf m.fmt)))))) ∧
      (m.place ≠ 1 → m.place ≠ 2 → (s.dev.clamp slot).placed ≠ .dle ∨ arrays = [] → s.dev.dleOutputs slot m arrays acts = none) ∧
      (m.place ≠ 1 → m.place ≠ 2 → (s.dev.clamp slot).placed = .dle → arrays ≠ [] → s.dev.dleOutputs slot m arrays acts =
        some (out (tier2Apply m (s.dev.wideLayer slot) (fun k => (arrays[k]?.map (fun e => s.dev.switchedBytes slot (fmtOf m.fmt) e.1 e.2)).getD [])))) ∧
      (s.dev.dleOutputs slot m arrays acts = none → exec (.dleTier2Pass slot name arrays acts fault) s = .next s) ∧
      (∀ (outs : List DleOut) (u v : State), s.dev.dleOutputs slot m arrays acts = some outs → s.dev.dle.onlineCount ≠ 0 →
        u = (s.dleWork (m.rows * m.cols * acts.length)).updDle (fun d => { d with
          tier2Passes := if m.place = 1 then d.tier2Passes else d.tier2Passes + 1,
          outs := d.outs.filter (fun e => !outs.any (fun o => o.slot == e.slot && o.name == e.name && o.stream == e.stream && o.index == e.index)) ++ outs }) →
        v = u.each (outs.filter (fun o => !allFinite o.out)) (fun t o =>
          (t.updDle (fun d => { d with numeric := true, numericCnt := satInc d.numericCnt })).numericFault o.stream o.index) →
        (fault = none → exec (.dleTier2Pass slot name arrays acts fault) s = .next v) ∧
        (∀ c, fault = some (c, .ce) → exec (.dleTier2Pass slot name arrays acts fault) s =
          .next (v.updDle (fun d => { d with sramCE := Sparse.upd (fun _ => 0) d.sramCE c (· + 1) }))) ∧
        (∀ c, fault = some (c, .residue) → exec (.dleTier2Pass slot name arrays acts fault) s = .next (v.each acts (fun t a =>
          (((t.updChk (fun k => { k with residue := k.residue + 1 })).logEvent 0x06 4 c c 0).failEvent 4 c 0x06).failWork a.1 a.2.1 1 0x06 4 c))) ∧
        (∀ c, fault = some (c, .ue) → exec (.dleTier2Pass slot name arrays acts fault) s = .next (v.each acts (fun t a =>
          (((t.updDle (fun d => { d with eccUE := true, ueCnt := satInc d.ueCnt })).logEvent 0x10 4 c 4 0).failEvent 4 c 0x10).poisonWork a.1 a.2.1 1)))))

/-- BUNDLE_RECEIVE at a package without a position changes nothing. At a layer package the marks apply, the entries with no position join the outgoing bundle, the others become work of this tick, a tack marker is noted and resizes the pool, poisoned ones are poisoned, and positions of a late bundle slip: those of one that came after their tick at the pan that waited, those of an older bundle for the tick that they missed. At the head each entry with a position acts: one that names no awaited position changes nothing; an awaited one has arrived, enters the LM head pass in this tick when it needs logits and no older epoch's pass stands before it, keeps its hidden state for an EMBED, and a poisoned one is to fail. VERDICT_RECEIVE notes a message that came by local cycle 64, or one of the next boundary that came early, and a spare's; a layer package keeps the stamps to pass them on; the head takes each stamp's SCRUB and stretch request, and an entry that passes a position joins its passes, one that fails or revokes it is to act at the next boundary. (05 R158; 09 R280; 10 R319; 10 R320; 10 R327; 11 R346; 11 R347; 11 R348; 11 R349; 07 R219; 07 R222; 07 R457) -/
def Obligations.BundlesAndVerdicts : Prop :=
  ∀ (s : State) (b : Bundle) (late : Option Nat) (stamps : List Stamp),
    (s.dev.isHead = false → s.dev.role.position = 0xFFFF → exec (.bundleReceive b late) s = .next s) ∧
    (∀ pos u v w x, s.dev.isHead = false → s.dev.role.position ≠ 0xFFFF → pos = b.entries.filter (fun e => !e.noPos) →
      u = s.each b.entries (fun s e => match e.mark with
        | some n => s.updFab (fun f => f.applyMark e.stream n)
        | none => s) →
      v = u.updFab (fun f => { f with outBundle := f.outBundle ++ b.entries.filter (·.noPos), works := f.works ++ pos.map (fun e => workOfEntry e s.tick),
                                      markerSeen := if b.tack then some (s.tick, b.epoch) else f.markerSeen }) →
      (b.tack = false → w = v) → (b.tack = true → w = v.updWs (fun y => { y with op := 4, pool := match y.staged with
        | some p => if y.mixOk then max y.pool p.hdr.kvBlocks else p.hdr.kvBlocks
        | none => y.pool })) →
      x = w.each (pos.filter (·.poison)) (fun s e => s.poisonWork e.stream e.index 1) →
      (late = none → s.tick ≤ b.tick + 1 → exec (.bundleReceive b late) s = .next x) ∧
      (∀ p, late = some p → exec (.bundleReceive b late) s = .next (x.each pos (fun s e => s.slip p e.stream e.index .link))) ∧
      (late = none → b.tick + 1 < s.tick → exec (.bundleReceive b late) s = .next (x.each pos (fun t e => match t.dev.fab.work e.stream e.index with
        | some y => (t.slipOne .link y).updWork e.stream e.index (fun z => { z with tick := s.tick, slipAt := b.tick + 1 })
        | none => t)))) ∧
    (s.dev.isHead = true → exec (.bundleReceive b late) s = .next (s.each (b.entries.filter (fun e => !e.noPos)) State.headEntry)) ∧
    (∀ e : BundleEntry, (s.dev.srv.flights.find? (fun f => f.stream == e.stream && f.index == e.index && f.epoch == e.epoch && !f.arrived) = none →
        s.headEntry e = s) ∧
      (∀ f u, s.dev.srv.flights.find? (fun f => f.stream == e.stream && f.index == e.index && f.epoch == e.epoch && !f.arrived) = some f →
        u = s.updSrv (fun v => { v with flights := v.flights.map (fun (x : Flight) => if x = f then
          { x with arrived := true, passTick := if f.needLogits && !s.dev.lmWaits f then some s.tick else none,
                   hidden := if (Tab.find s.dev.srv.embeds f.ch).isSome then e.residual else [] } else x) }) →
        (e.poison = false ∨ f.dropped = true → s.headEntry e = u) ∧
        (e.poison = true → f.dropped = false → s.headEntry e = u.noteFailure e.stream e.index 1 0x12))) ∧
    (∀ (u : State) (early path : Bool), early = stamps.any (fun x => decide (s.tick ≤ x.tick)) →
      path = (!s.dev.isHead || stamps.any (fun x => (s.dev.lnk.pipeline.getLast?).any (fun m => m.pkg == x.pkg))) →
      u = s.updLnk (fun l => { l with
        verdictHere := l.verdictHere || (path && !early && decide (s.dev.time.cycle ≤ 64)), verdictEarly := l.verdictEarly || (path && early),
        members := l.members.map (fun m => if m.position = 0xFFFF ∧ (∃ x ∈ stamps, x.pkg = m.pkg) then { m with missed := 0 } else m) }) →
      (s.dev.isHead = true → exec (.verdictReceive stamps) s = .next (u.each stamps State.takeStamp)) ∧
      (s.dev.isHead = false → s.dev.role.position = 0xFFFF → exec (.verdictReceive stamps) s = .next u) ∧
      (s.dev.isHead = false → s.dev.role.position ≠ 0xFFFF → exec (.verdictReceive stamps) s = .next (u.updFab (fun f => { f with
        upstream := f.upstream ++ stamps,
        stamped := f.stamped ++ stamps.flatMap (fun x => (x.entries.filter (fun e => e.result != 2)).map (fun e => ((e.stream, e.index), x.pkg))) })))) ∧
    (∀ st : Stamp, s.takeStamp st = ((s.updSrv (fun v => { v with scrubs := Tab.put v.scrubs st.pkg (max st.scrub ((Tab.find v.scrubs st.pkg).getD 0)) })).updTime
      (fun t => { t with requests := Tab.put t.requests st.pkg st.stretch })).each st.entries (fun s e => s.takeEntry st.pkg st.tick e)) ∧
    (∀ pkg k (e : StampEntry),
      (e.result = 2 → s.dev.srv.flights.any (fun f => f.stream == e.stream && f.index == e.index && !f.dropped) = false → s.takeEntry pkg k e = s) ∧
      (e.result = 2 → s.dev.srv.flights.any (fun f => f.stream == e.stream && f.index == e.index && !f.dropped) = true →
        s.takeEntry pkg k e = s.noteFailure e.stream e.index 2 e.cause) ∧
      (e.result ≠ 2 → s.dev.srv.flights.find? (fun f => f.stream == e.stream && f.index == e.index && !(f.passes.any (fun p => p.1 == pkg)) &&
        f.failed.isNone) = none → s.takeEntry pkg k e = s) ∧
      (∀ f, e.result ≠ 2 → s.dev.srv.flights.find? (fun f => f.stream == e.stream && f.index == e.index && !(f.passes.any (fun p => p.1 == pkg)) &&
          f.failed.isNone) = some f →
        (e.result = 0 → s.takeEntry pkg k e = s.updSrv (fun v => { v with flights := v.flights.map (fun (x : Flight) => if x = f then
          { x with passes := x.passes ++ [(pkg, k)], clamped := x.clamped || e.clamped, slips := x.slips + e.slips } else x) })) ∧
        (e.result ≠ 0 → ∀ u, u = s.updSrv (fun v =>
            { v with flights := v.flights.map (fun (x : Flight) => if x = f then { x with failed := some (e.result, e.cause) } else x) }) →
          (f.dropped = false → s.takeEntry pkg k e = u.noteFailure e.stream e.index e.result e.cause) ∧
          (f.dropped = true → s.takeEntry pkg k e = u))))

/-- MOE_DISPATCH at a router takes its tick's positions in bundle order, each with the gate scores that its DLE formed, else those given: scores that are not finite are a numeric fault; with an expert of its top k at the slot's EXPERT_SLOTS the position slips; else each chosen expert counts one position, the position goes on in its FFN half, and is sent with its softmax weight; at the end every expert is sent its positions. MOE_DISPATCH at an expert's package adds the positions to this tick's work, in the FFN half. MOE_RETURN adds the weighted outputs to the residual in FP32, rounds the sum stochastically under the MoE layer's number, and starts the position's own step; a sum that is not finite, or that exceeds BF16, is a numeric fault. (02 R53; 02 R70; 04 R114; 05 R158; 09 R302) -/
def Obligations.MixtureOfExperts : Prop :=
  ∀ (s : State) (slot k layer stream index e : Nat) (ps : List (Nat × Nat × W32 × List W32)) (outs : List (W32 × List W16)) (residual : List W32),
    (∀ (scores ordered : List (Nat × Nat × List W32)) (n : Nat) (u : State)
        (step : State × List (Nat × Nat × Nat × W32) → Nat × Nat × List W32 → State × List (Nat × Nat × Nat × W32)),
      ordered = s.dev.fab.works.filterMap (fun w => (scores.find? (fun x => x.1 == w.stream && x.2.1 == w.index)).map (fun x =>
        (x.1, x.2.1, (s.dev.dle.outOf (fun y => y == slot) 7 x.1 x.2.1).getD x.2.2))) →
      u = s.each ordered (fun s x => s.updDle (fun d => d.dropOut (fun y => y == slot) 7 x.1 x.2.1)) →
      n = (ordered.map (fun x => x.2.2.length)).foldl max 0 →
      (∀ t l x, allFinite x.2.2 = false → step (t, l) x = (t.numericFault x.1 x.2.1, l)) →
      (∀ t l x, allFinite x.2.2 = true → (∃ e ∈ topK k x.2.2, ((s.dev.ws.layer slot).getD {}).expertSlots ≤ Sparse.get (fun _ => 0) t.dev.fab.expertUsed e) →
        step (t, l) x = (t.slipWorks x.1 x.2.1 .other, l)) →
      (∀ (t : State) l x, allFinite x.2.2 = true →
        (∀ e ∈ topK k x.2.2, Sparse.get (fun _ => 0) t.dev.fab.expertUsed e < ((s.dev.ws.layer slot).getD {}).expertSlots) →
        step (t, l) x = ((t.updFab (fun b => { b with
            expertUsed := (topK k x.2.2).foldl (fun m e => Sparse.set (fun _ => 0) m e (Sparse.get (fun _ => 0) m e + 1)) b.expertUsed })).updWork x.1 x.2.1
            (fun w => { w with half := 1, tick := t.tick }),
          l ++ ((topK k x.2.2).zip (softmax32 ((topK k x.2.2).map (fun e => x.2.2.getD e 0)))).map (fun e => (e.1, x.1, x.2.1, e.2)))) →
      exec (.moeDispatch (.route slot k scores)) s = .next ((ordered.foldl step (u, [])).1.each (List.range n) (fun t e =>
        t.emit (.moe e (((ordered.foldl step (u, [])).2.filter (fun x => x.1 == e)).map (·.2)))))) ∧
    exec (.moeDispatch (.run e ps)) s = .next (s.updFab (fun b => { b with works := b.works ++ ps.map (fun p =>
      { workOfEntry ⟨p.1, p.2.1, s.dev.ws.epoch, noBlock, 0, false, false, none, false, false, 0xFFFF, p.2.2.2⟩ s.tick with half := 1, expert := some e }) })) ∧
    (∀ (sums : List W32) (rs : List (W16 × Bool)) (u : State), sums = (residual.zipIdx).map (fun (r : W32 × Nat) =>
        fpAdd (fpSum (outs.map (fun o => fpMul o.1 (bf16To32 (o.2.getD r.2 0))))) r.1) →
      rs = (sums.zipIdx).map (fun x => residualOne (srDraw s.dev.hdr.srSeed stream 0x03 layer index x.2) x.1) →
      u = s.updWork stream index (fun w =>
        { w with residual := rs.map (fun r => bf16To32 r.1), half := 0, tick := s.tick, attnDone := false, outRes := [] }) →
      (allFinite sums = true → (∀ r ∈ rs, r.2 = false) → exec (.moeReturn layer stream index outs residual) s = .next u) ∧
      (allFinite sums = false ∨ (∃ r ∈ rs, r.2 = true) → exec (.moeReturn layer stream index outs residual) s = .next (u.numericFault stream index)))

/-- LINK_RETRAIN puts a port that is enabled, neither retired nor denied, after the CC's boot, into TRAINING, and leaves another as it is; ENABLE first sets EN, a link-down first takes the port DOWN. LINK_TRAINING_DONE of a port not in TRAINING changes nothing; of one in it the port is UP, or DEGRADED with two lanes retired, with its delay and peer, its lanes are measured, its replay buffer is sent again and counted, frames that waited follow, and a peer of another identity is reported. LANE_MARGINING of the lane that the round measures at a port that is up ends that measurement, makes the next lane the next round's, records the eye and clears its STALE bit; width below 24 or height below 12 is a lane fault: logged and remembered, or, with one fault of the lane within 999 ticks or two within 999,999, its lane retires. A lane retired already has none. Elsewhere it changes nothing. (06 R185; 06 R186; 10 R309; 10 R310; 10 R311; 10 R312; 10 R315) -/
def Obligations.PortTraining : Prop :=
  ∀ (s : State) (p n width height : Nat) (r : TrainResult) (may : State → Bool) (train : State → State),
    (∀ t, may t = ((t.dev.port p).en && (t.dev.port p).state != 4 && !t.dev.chk.denies 5 p && decide (5 ≤ t.dev.rst.step.toNat))) →
    (∀ t, train t = t.updPort p (fun x => { x with state := 1, kept := x.kept || x.peer.isSome, naks := 0, eyeStale := 0x1FF })) →
    (∀ c u, (c = .retrain → u = s) → (c = .enable → u = s.updPort p (fun x => { x with en := true })) →
      (c = .linkDown → u = s.updPort p (fun x => { x with state := if x.state = 4 then 4 else 0 })) →
      (may u = true → exec (.linkRetrain p c) s = .next (train u)) ∧ (may u = false → exec (.linkRetrain p c) s = .next u)) ∧
    ((s.dev.port p).state ≠ 1 → exec (.linkTrainingDone p r) s = .next s) ∧
    (∀ x now u v w, (s.dev.port p).state = 1 → x = s.dev.port p → now = (r.peerPort, r.peerPkg, r.peerSerial) →
      u = s.updPort p (fun y => { y with state := if 2 ≤ x.retiredLanes then 3 else 2, delay := r.delayNs, peer := some now, kept := false,
                                         marginLane := 0, margining := false, retry := wrapInc y.retry x.replay.length }) →
      v = u.each ((r.eyes.take 9).zipIdx) (fun s e => s.measureLane p e.2 e.1.1 e.1.2) →
      w = (v.each (v.dev.port p).replay (fun s f => s.sendRaw p f.2)).drain p →
      (x.peer = none ∨ x.peer = some now → exec (.linkTrainingDone p r) s = .next w) ∧
      (∀ old, x.peer = some old → old ≠ now → exec (.linkTrainingDone p r) s =
        .next (w.emit (.message (w.dev.role.head.getD w.dev.role.pkg.toNat) 0x08 [0x12, w.dev.role.pkg.toNat, p])))) ∧
    (6 ≤ p ∨ (s.dev.port p).up = false ∨ (s.dev.port p).margining = false ∨ n ≠ (s.dev.port p).marginLane → exec (.laneMargining p n width height) s = .next s) ∧
    (∀ u x, p < 6 → (s.dev.port p).up = true → (s.dev.port p).margining = true → n = (s.dev.port p).marginLane →
      u = (s.updPort p (fun x => { x with margining := false, marginLane := (x.marginLane + 1) % 9 })).updPort p (fun x =>
        { x with eyes := Tab.put x.eyes n (width, height), eyeStale := x.eyeStale &&& ~~~(BitVec.ofNat 9 (2 ^ n)) }) → x = u.dev.port p →
      (24 ≤ width → 12 ≤ height → exec (.laneMargining p n width height) s = .next u) ∧
      (x.retired.getLsbD n = true → exec (.laneMargining p n width height) s = .next u) ∧
      ((width < 24 ∨ height < 12) → x.retired.getLsbD n = false → ∀ near far,
        near = (x.faults.filter (fun e => e.1 == n && decide (s.tick ≤ e.2 + 999))).length →
        far = (x.faults.filter (fun e => e.1 == n && decide (s.tick ≤ e.2 + 999999))).length →
        (near = 0 → far ≤ 1 → exec (.laneMargining p n width height) s = .next ((u.logEvent 0x40 6 (16 * p + n) width height).updPort p (fun x =>
          { x with faults := (x.faults.filter (fun e => decide (s.tick ≤ e.2 + 999999))) ++ [(n, s.tick)] }))) ∧
        (1 ≤ near ∨ 2 ≤ far → exec (.laneMargining p n width height) s = .next (((u.logEvent 0x40 6 (16 * p + n) width height).updPort p (fun x =>
          { x with faults := x.faults.filter (fun e => e.1 != n) })).retireLane p n))))

/-- FRAME_RECEIVE on a port that is not up changes nothing; else its codewords count. A frame with an uncorrectable codeword is NAKed; one with a bad CRC also counts in CRC; one out of order is NAKed once, then discarded. One in order moves the expected SEQ, counts its bytes and is acknowledged; then a reserved TYPE, or 8 hops, drops it in DROP_ROUTE; for this package it is accepted, or counts in DROP_SLICE where its slice's bit is 0; for another it is forwarded by its route; a directed frame follows its path. A forwarded frame waits at its port; one with no valid route counts in DROP_ROUTE; frames that wait leave while the port is up and its replay buffer has room. LINK_ACK of a SEQ in the replay buffer frees the frames up to it; of another it changes nothing. LINK_NAK frees the frames before its SEQ and sends the rest again, or, the eighth time for one frame, takes the port down to retrain; of the next SEQ to be sent it empties the buffer. (10 R307; 10 R313; 10 R315; 10 R322; 10 R323) -/
def Obligations.FramesAndRetry : Prop :=
  ∀ (s : State) (p seq : Nat) (bytes : List Byte) (lanes : List (Nat × Nat)) (bad : Bool),
    ((s.dev.port p).up = false → exec (.frameReceive p bytes lanes bad) s = .next s) ∧
    (∀ u n crc got hdr payload v, (s.dev.port p).up = true → u = s.countFec p lanes bad → n = frameLen bytes →
      crc = (decide (20 + n ≤ bytes.length) && crc32c (bytes.take (16 + n)) == BitVec.ofNat 32 (leAt bytes (16 + n) 4)) →
      got = fieldAt (leAt bytes 10 2) 0 12 → hdr = bytes.take 16 → payload = (bytes.drop 16).take n →
      v = (u.updPort p (fun x => { x with rxSeq := x.rxSeq + 1, discard := false, rx := x.rx + BitVec.ofNat 64 n })).emit (.ack p got) →
      (bad = true → exec (.frameReceive p bytes lanes bad) s =
        .next ((u.updPort p (fun x => { x with discard := true })).emit (.nak p (u.dev.port p).rxSeq.toNat))) ∧
      (∀ w, bad = false → crc = false → w = u.updPort p (fun x => { x with crc := x.crc + 1 }) → exec (.frameReceive p bytes lanes bad) s =
        .next ((w.updPort p (fun x => { x with discard := true })).emit (.nak p (w.dev.port p).rxSeq.toNat))) ∧
      (bad = false → crc = true → got ≠ (u.dev.port p).rxSeq.toNat →
        ((u.dev.port p).discard = true → exec (.frameReceive p bytes lanes bad) s = .next u) ∧
        ((u.dev.port p).discard = false → exec (.frameReceive p bytes lanes bad) s =
          .next ((u.updPort p (fun x => { x with discard := true })).emit (.nak p (u.dev.port p).rxSeq.toNat)))) ∧
      (bad = false → crc = true → got = (u.dev.port p).rxSeq.toNat → ∀ ty hops dst slice, ty = leAt hdr 0 1 → hops = leAt hdr 7 1 →
        dst = fieldAt (leAt hdr 2 2) 0 12 → slice = leAt hdr 6 1 →
        (ty = 0 ∨ 0x0B < ty → exec (.frameReceive p bytes lanes bad) s = .next (v.updLnk (fun l => { l with dropRoute := l.dropRoute + 1 }))) ∧
        (0 < ty → ty ≤ 0x0B → bitAt (leAt hdr 1 1) 5 = true → exec (.frameReceive p bytes lanes bad) s = .next (v.directed hdr payload)) ∧
        (0 < ty → ty ≤ 0x0B → bitAt (leAt hdr 1 1) 5 = false →
          (hops = 8 → exec (.frameReceive p bytes lanes bad) s = .next (v.updLnk (fun l => { l with dropRoute := l.dropRoute + 1 }))) ∧
          (hops ≠ 8 → dst ≠ v.dev.role.pkg.toNat → exec (.frameReceive p bytes lanes bad) s = .next (v.forward hdr payload)) ∧
          (hops ≠ 8 → dst = v.dev.role.pkg.toNat →
            (v.dev.lnk.accept.getLsbD slice = true → exec (.frameReceive p bytes lanes bad) s = .next (v.acceptFrame hdr payload)) ∧
            (v.dev.lnk.accept.getLsbD slice = false →
              exec (.frameReceive p bytes lanes bad) s = .next (v.updLnk (fun l => { l with dropSlice := l.dropSlice + 1 }))))))) ∧
    ((∀ f ∈ (s.dev.port p).replay, f.1 ≠ seq) → exec (.linkAck p seq) s = .next s ∧
      (seq ≠ (s.dev.port p).txSeq.toNat → exec (.linkNak p seq) s = .next s) ∧
      (seq = (s.dev.port p).txSeq.toNat → exec (.linkNak p seq) s = .next ((s.updPort p (fun x => { x with replay := [], naks := 0 })).drain p))) ∧
    (∀ i f u, findIdx1 (fun (f : Nat × List Byte) => f.1 == seq) (s.dev.port p).replay 0 = some (i, f) →
      u = s.updPort p (fun x => { x with replay := x.replay.drop i, naks := if i = 0 then x.naks + 1 else 1 }) →
      exec (.linkAck p seq) s = .next ((s.updPort p (fun x => { x with replay := x.replay.drop (i + 1), naks := 0 })).drain p) ∧
      (8 ≤ (u.dev.port p).naks → exec (.linkNak p seq) s =
        .next ((u.updPort p (fun x => { x with state := if x.state = 4 then 4 else 0 })).startTraining p)) ∧
      ((u.dev.port p).naks < 8 → exec (.linkNak p seq) s = .next (((u.updPort p (fun x =>
        { x with retry := wrapInc x.retry (u.dev.port p).replay.length })).each (u.dev.port p).replay (fun s f => s.sendRaw p f.2)).drain p))) ∧
    (∀ hdr payload e, e = (s.dev.lnk.route (fieldAt (leAt hdr 2 2) 0 12)).toNat →
      (bitAt e 31 = false ∨ 6 ≤ fieldAt e 28 3 → s.forward hdr payload = s.updLnk (fun l => { l with dropRoute := l.dropRoute + 1 })) ∧
      (bitAt e 31 = true → fieldAt e 28 3 < 6 → ∃ vl < 8, s.forward hdr payload =
        (s.updPort (fieldAt e 28 3) (fun x => { x with waiting := x.waiting ++ [(vl, bumpHops hdr, payload)] })).drain (fieldAt e 28 3))) ∧
    ((s.dev.port p).waiting = [] ∨ (s.dev.port p).up = false → s.drain p = s)

/-- ROUTE_WRITE without GO only holds its fields; with GO it writes the entry into both banks and owns the ID, or, for an ID that the head owns, sets WR_REFUSED. ROUTE_FRAME from a sender that is not the head of an assigned package changes nothing; else its entries go to the idle bank, and its role, unless a package retired as a whole would take one, its accept mask, parent and switch tick are held. ROUTE_BANK_SWITCH before the ordered tick, or with none ordered, changes nothing; then it exchanges the banks and puts what was held in force. VL_SHARE_WRITE whose seven shares are each at least 1 and sum to 100 makes them due; else it discards both registers' values and sets SHARE_REFUSED. (10 R321; 10 R323; 10 R325; 10 R333) -/
def Obligations.RoutesAndShares : Prop :=
  ∀ (s : State) (p src id : Nat) (v e : W32) (entries : List (Nat × W32)) (accept : Option Nat) (role : Option RoleWrite) (parent switchTick : Option Nat),
    (∀ u, id = fieldAt v.toNat 0 12 → e = BitVec.ofNat 32 (fieldAt v.toNat 27 1 * 2 ^ 31 + fieldAt v.toNat 28 3 * 2 ^ 28) →
      u = s.updLnk (fun l => { l with rwPort := BitVec.ofNat 3 (fieldAt v.toNat 28 3), rwValid := v.getLsbD 27, rwId := BitVec.ofNat 12 id }) →
      (v.getLsbD 31 = false → exec (.routeWrite v) s = .next u) ∧
      (v.getLsbD 31 = true → id ∈ s.dev.lnk.headIds → exec (.routeWrite v) s = .next (u.updLnk (fun l => { l with wrRefused := true }))) ∧
      (v.getLsbD 31 = true → id ∉ s.dev.lnk.headIds → exec (.routeWrite v) s = .next (u.updLnk (fun l => { l with
        bank0 := Sparse.set (fun _ => 0) l.bank0 id e, bank1 := Sparse.set (fun _ => 0) l.bank1 id e,
        pf0Ids := if id ∈ l.pf0Ids then l.pf0Ids else l.pf0Ids ++ [id] })))) ∧
    (s.dev.role.assigned = true → s.dev.role.head ≠ some src → exec (.routeFrame src entries accept role parent switchTick) s = .next s) ∧
    (∀ took, s.dev.role.assigned = false ∨ s.dev.role.head = some src →
      took = role.filter (fun w => !w.assigned || !s.dev.chk.isRetired 0 0) → exec (.routeFrame src entries accept role parent switchTick) s =
      .next (((s.writeIdle (entries.filter (fun e => decide (e.1 < 4096)))).updRole (fun r =>
        { r with roleDue := if took.isSome then took else r.roleDue, headDue := if took.isSome then some src else r.headDue,
                 acceptDue := if accept.isSome then accept else r.acceptDue, parentDue := if parent.isSome then parent else r.parentDue })).updLnk (fun l =>
        { l with switchTick := if switchTick.isSome then switchTick else l.switchTick }))) ∧
    (s.dev.lnk.switchTick = none → exec .routeBankSwitch s = .next s) ∧
    (∀ t, s.dev.lnk.switchTick = some t → (s.tick < t → exec .routeBankSwitch s = .next s) ∧
      (t ≤ s.tick → exec .routeBankSwitch s = .next (s.updLnk (fun l => { l with bank := !l.bank, switchTick := none })).switchRole)) ∧
    (∀ l, l = (List.range 4).map (fun i => fieldAt (s.dev.port p).held0.toNat (8 * i) 8) ++ (List.range 3).map (fun i => fieldAt v.toNat (8 * i) 8) →
      ((∀ n ∈ l, 1 ≤ n) → l.sum = 100 → exec (.vlShareWrite p v) s = .next (s.updPort p (fun x => { x with sharesDue := some l }))) ∧
      ((∃ n ∈ l, n = 0) ∨ l.sum ≠ 100 → exec (.vlShareWrite p v) s = .next ((s.updPort p (fun x =>
        { x with held0 := packShares (x.shares.take 4) })).updLnk (fun k => { k with shareRefused := true }))))

/-- Outside FIELD and SERVICE each is refused with AUTH detail 0x03. SLICE_SET with reserved flags or a count or period out of range: BAD_PARAM 0x06; with DISSOLVE, and with a list it has read: streams or an image operation 0x24; a list not read 0x04, malformed 0x20; the plan's own refusal, or in the safe state SLICE_DEGRADED 0x26; else QUEUED, with DISSOLVE too: the members that leave are released, the rest of the plan is written for the switch 16 ticks ahead, the period announced and the list kept. RERIG at the head of a package that is no layer member, or with an unfit spare: 0x25; while another one runs: SLICE_DEGRADED; else the plan's refusal, or QUEUED and the re-rig begins; at a spare of a lost head, the slice found is taken over or refused likewise. SPARE_SET with a field out of range: 0x06; of a package that is no spare: 0x25; else QUEUED, the duty is kept and sent, copies of the same kind in the ranges stand, and OK follows at once when every copy does. (07 R230; 08 R260; 10 R324; 10 R325; 10 R326; 10 R328; 10 R331; 13 R398; 14 R419) -/
def Obligations.SliceCommands : Prop :=
  ∀ (s d : State) (c : Cmd) (rest : List Cmd) (f : SliceFacts) (g : RerigFacts) (rep : Rep) (ans : State → Nat → Nat → State),
    s.dev.srv.due = c :: rest → d = s.dueLeft rest → rep = s.repOf c → (∀ t st x, ans t st x = (t.reply rep st x true true).advance) →
    (s.dev.inService = false → (c.op = 0x30 → exec (.sliceSet c.ch f) s = .next (ans d stAUTH 0x03)) ∧
      (c.op = 0x31 → exec (.rerig c.ch g) s = .next (ans d stAUTH 0x03)) ∧ (c.op = 0x32 → exec (.spareSet c.ch) s = .next (ans d stAUTH 0x03))) ∧
    (c.op = 0x30 → s.dev.inService = true → ∀ n period busy, n = c.at 0x1A 2 → period = c.at 0x1C 1 → busy = (s.dev.isHead && s.dev.sliceBusy) →
      (1 < c.at 0x19 1 → exec (.sliceSet c.ch f) s = .next (ans d stBAD 0x06)) ∧
      (c.at 0x19 1 = 1 → (busy = true → exec (.sliceSet c.ch f) s = .next (ans d stBAD 0x24)) ∧
        (busy = false → exec (.sliceSet c.ch f) s = .next (((d.reply rep stQUEUED 0 true false).releaseMembers s.dev.lnk.members s.dev.lnk.members
          (s.tick + 16)).updLnk (fun l => { l with
            members := [], duties := [], sliceSet := some rep, rerig := none, suspended := false,
            spareSets := [], switchTick := some (s.tick + 16) })).advance)) ∧
      (c.at 0x19 1 = 0 → n = 0 ∨ 4096 < n ∨ period < 4 ∨ 64 < period → exec (.sliceSet c.ch f) s = .next (ans d stBAD 0x06)) ∧
      (∀ u, c.at 0x19 1 = 0 → n ≠ 0 → n ≤ 4096 → 4 ≤ period → period ≤ 64 → u = d.emit (.hostRead c.fn (BitVec.ofNat 64 (c.at 0x20 8)) (8 * n)) →
        (f.list = none → exec (.sliceSet c.ch f) s = .next (ans u stBAD 0x04)) ∧
        (∀ bytes, f.list = some bytes →
          (busy = true → exec (.sliceSet c.ch f) s = .next (ans u stBAD 0x24)) ∧
          (busy = false → s.dev.pkgRetired = true → exec (.sliceSet c.ch f) s = .next (ans u stRETIRED 0)) ∧
          (busy = false → s.dev.pkgRetired = false →
            (parseMembers bytes n = none → exec (.sliceSet c.ch f) s = .next (ans u stBAD 0x20)) ∧
            (∀ l, parseMembers bytes n = some l →
              (∀ st x, checkPlan f l = some (st, x) → exec (.sliceSet c.ch f) s = .next (ans u st x)) ∧
              (checkPlan f l = none → s.dev.rst.safe = true → exec (.sliceSet c.ch f) s = .next (ans u stDEGRADED 0x26)) ∧
              (checkPlan f l = none → s.dev.rst.safe = false → exec (.sliceSet c.ch f) s = .next (((((u.reply rep stQUEUED 0 true false).releaseMembers s.dev.lnk.members
                (s.dev.lnk.members.filter (fun m => m.role != 1 && !l.any (fun x => x.pkg == m.pkg))) (s.tick + 16)).writePlan (c.at 0x18 1) f.links l l
                  (some (s.tick + 16))).slicePeriod period).updLnk (fun k =>
                { k with members := l, duties := [], sliceSet := some rep, rerig := none, suspended := false, spareSets := [] })).advance)))))) ∧
    (c.op = 0x31 → s.dev.inService = true → s.dev.isHead = true → ∀ pkg spare, pkg = c.at 0x18 2 → spare = c.at 0x1A 2 →
      ((∀ m ∈ s.dev.lnk.members, m.pkg ≠ pkg) → exec (.rerig c.ch g) s = .next (ans d stBAD 0x25)) ∧
      (∀ m, s.dev.lnk.members.find? (fun m => m.pkg == pkg) = some m →
        (m.role = 1 ∨ m.position = 0xFFFF ∨ (spare ≠ 0xFFFF ∧ s.dev.lnk.members.any (fun x => x.pkg == spare && x.position == 0xFFFF && x.lost.isNone) = false) →
          exec (.rerig c.ch g) s = .next (ans d stBAD 0x25)) ∧
        (∀ q, m.role ≠ 1 → m.position ≠ 0xFFFF → (spare = 0xFFFF → q = s.dev.lnk.covering m.position) → (spare ≠ 0xFFFF → q = some spare ∧
            s.dev.lnk.members.any (fun x => x.pkg == spare && x.position == 0xFFFF && x.lost.isNone) = true) →
          (∀ r, s.dev.lnk.rerig = some r → 2 ≤ r.phase → exec (.rerig c.ch g) s = .next (ans d stDEGRADED 0)) ∧
          ((∀ r, s.dev.lnk.rerig = some r → r.phase < 2) →
            (∀ st x, s.dev.rerigRefusal pkg q g = some (st, x) → exec (.rerig c.ch g) s = .next (ans d st x)) ∧
            (s.dev.rerigRefusal pkg q g = none → exec (.rerig c.ch g) s = .next (((d.reply rep stQUEUED 0 true false).noteLost pkg 0).beginRerig
              (rerigOf pkg q m.position s.tick (some rep) g false)).advance))))) ∧
    (c.op = 0x31 → s.dev.inService = true → s.dev.isHead = false → ∀ pkg own l w fit, pkg = c.at 0x18 2 → own = s.dev.role.pkg.toNat →
      l = g.members.map (fun m => memberOf m.pkg m.role m.position m.parent) → w = d.updLnk (fun k => { k with members := l }) →
      fit = (decide (s.dev.role.head = some pkg) && (decide (c.at 0x1A 2 = 0xFFFF) || decide (c.at 0x1A 2 = own)) &&
        l.any (fun m => m.pkg == pkg && m.role == 1) && l.any (fun m => m.pkg == own)) →
      (fit = false → exec (.rerig c.ch g) s = .next (ans d stBAD 0x25)) ∧
      (∀ x, fit = true → x = w.dev.rerigRefusal pkg (some own)
          { g with holds := (s.dev.ws.duties ++ s.dev.ws.store.filter (fun p => !p.own)).any (fun p => p.position == 0 && p.epoch == g.epoch) } →
        (∀ st y, x = some (st, y) → exec (.rerig c.ch g) s = .next (ans d st y)) ∧
        (x = none → exec (.rerig c.ch g) s = .next ((w.reply rep stQUEUED 0 true false).updLnk (fun k =>
          { k with suspended := true, rerigPkg := BitVec.ofNat 12 pkg, rerig := some { rerigOf pkg (some own) 0 s.tick (some rep) g false with phase := 2 } })).advance))) ∧
    (c.op = 0x32 → s.dev.inService = true → ∀ spare kind rs n, spare = c.at 0x18 2 → kind = c.at 0x1A 1 → n = s.dev.lnk.pipeline.length →
      (kind = 0 → rs = []) → (kind ≠ 0 → rs = c.ranges) →
      (2 < kind ∨ 32 < c.at 0x1B 1 ∨ (∃ r ∈ c.ranges, r.2 < r.1 ∨ n ≤ r.2) → exec (.spareSet c.ch) s = .next (ans d stBAD 0x06)) ∧
      (kind ≤ 2 → c.at 0x1B 1 ≤ 32 → (∀ r ∈ c.ranges, r.1 ≤ r.2 ∧ r.2 < n) →
        (s.dev.lnk.members.any (fun m => m.pkg == spare && m.position == 0xFFFF && m.lost.isNone) = false →
          exec (.spareSet c.ch) s = .next (ans d stBAD 0x25)) ∧
        (∀ (du : Duty) kept u, s.dev.lnk.members.any (fun m => m.pkg == spare && m.position == 0xFFFF && m.lost.isNone) = true →
          (s.dev.lnk.duties.find? (fun x => x.spare == spare) = none → kept = []) →
          (∀ old, s.dev.lnk.duties.find? (fun x => x.spare == spare) = some old → kept = if old.kind = kind then old.done.filter (inRanges rs) else []) →
          du = { spare, kind, ranges := rs, done := kept } →
          u = (((d.reply rep stQUEUED 0 true false).updLnk (fun l => { l with duties := l.duties.filter (fun x => x.spare != spare) ++ [du], members := l.members.map (fun m => if m.pkg = spare ∧ kind ≠ 0 then { m with role := 2 + kind } else m) })).emit
            (.message spare 0x08 ([0x16, kind] ++ rs.flatMap (fun r => [r.1, r.2])))) →
          ((∀ x ∈ du.positions n, x ∈ kept) → exec (.spareSet c.ch) s = .next (u.reply rep stOK 0 false true).advance) ∧
          ((∃ x ∈ du.positions n, x ∉ kept) → exec (.spareSet c.ch) s = .next (u.updLnk (fun l => { l with spareSets := l.spareSets ++ [(spare, rep)] })).advance))))

/-- MEMBER_LOSS_REPORT and MEMBER_LOST at the head of a layer member or spare not yet lost mark it, take its duties, log it and end an image operation that needs it; of another package, or at another package without cause to report, they change nothing; a package with a position that misses 3 boundaries, or with a dead link to it, reports to the head. MEMBER_REJOIN within the wait with its epoch kept resumes the slice and rebuilds the last 256 positions; otherwise it changes nothing. RERIG_WAIT_EXPIRY without AUTO, or before the wait ends, changes nothing; after it the re-rig begins, or the streams report SLICE_DEGRADED; with no member lost and a failed link that can be routed around, that re-rig begins. STREAM_REBUILT with ranges left changes nothing; else the rebuild ends, and a parked stream's restore. SYNC_LOCK of a member at the head marks it in RUN, and the slice may stand. (05 R145; 07 R207; 10 R325; 10 R327; 10 R328; 10 R330) -/
def Obligations.LostMembers : Prop :=
  ∀ (s : State) (pkg cause ch : Nat) (kept : Bool) (f : RerigFacts),
    (s.dev.isHead = true →
      (∀ (m : Member) (u : Nat → State), s.dev.lnk.members.find? (fun m => m.pkg == pkg) = some m → m.lost = none → m.role ≠ 1 →
        (∀ n, u n = ((s.updLnk (fun l =>
          { l with members := l.members.map (fun x => if x.pkg = pkg then { x with lost := some n, inRun := false } else x),
                   duties := l.duties.filter (fun d => d.spare != pkg) })).logEvent 0x41 10 pkg pkg n).abortImage 0x12) →
        exec (.memberLossReport pkg) s = .next (u 1) ∧ exec (.memberLost pkg cause) s = .next (u cause)) ∧
      ((∀ m, s.dev.lnk.members.find? (fun m => m.pkg == pkg) = some m → m.lost.isSome = true ∨ m.role = 1) →
        exec (.memberLossReport pkg) s = .next s ∧ exec (.memberLost pkg cause) s = .next s)) ∧
    (∀ missed (dead : Prop), s.dev.isHead = false →
      missed = s.dev.lnk.missed + (if s.dev.lnk.verdictHere = false ∧ 64 < s.dev.time.cycle then 1 else 0) →
      (dead ↔ ∃ p < 6, ∃ x, (s.dev.port p).peer = some x ∧ x.2.1 = pkg ∧ (s.dev.port p).up = false) →
      exec (.memberLost pkg cause) s = .next s ∧
      (s.dev.role.assigned = true → (s.dev.role.position ≠ 0xFFFF ∧ 3 ≤ missed) ∨ dead →
        exec (.memberLossReport pkg) s = .next (s.emit (.message (s.dev.role.head.getD 0) 0x08 [0x15, pkg]))) ∧
      (s.dev.role.assigned = false ∨ ((s.dev.role.position = 0xFFFF ∨ missed < 3) ∧ ¬ dead) → exec (.memberLossReport pkg) s = .next s)) ∧
    (∀ m r u, s.dev.lnk.members.find? (fun m => m.pkg == pkg && m.lost.isSome) = some m → s.dev.lnk.rerig = some r →
      u = s.updLnk (fun l => { l with members := l.members.map (fun x => if x.pkg = pkg then { x with lost := none, inRun := true, missed := 0 } else x) }) →
      (s.dev.isHead = false ∨ r.phase ≠ 1 ∨ r.pkg ≠ pkg ∨ kept = false ∨ s.dev.waitOver r = true → exec (.memberRejoin pkg kept) s = .next s) ∧
      (s.dev.isHead = true → r.phase = 1 → r.pkg = pkg → s.dev.waitOver r = false →
        (∀ x, u.dev.lnk.members.find? (fun x => x.lost.isSome && x.position != 0xFFFF) = some x → exec (.memberRejoin pkg true) s =
          .next (u.updLnk (fun l => { l with rerig := some { r with pkg := x.pkg, position := x.position }, rerigPkg := BitVec.ofNat 12 x.pkg }))) ∧
        (u.dev.lnk.members.find? (fun x => x.lost.isSome && x.position != 0xFFFF) = none → exec (.memberRejoin pkg true) s =
          .next ((u.resumeSlice.updLnk (fun l => { l with rerig := some { r with phase := 5 } })).startRebuild m.position true)))) ∧
    ((∀ m ∈ s.dev.lnk.members, m.pkg = pkg → m.lost = none) ∨ s.dev.lnk.rerig = none → exec (.memberRejoin pkg kept) s = .next s) ∧
    (s.dev.isHead = false ∨ s.dev.lnk.auto = false → exec (.rerigWaitExpiry f) s = .next s) ∧
    (s.dev.isHead = true → s.dev.lnk.auto = true → s.dev.lnk.rerig = none →
      ((f.linkOnly && hopsFit f.links s.dev.lnk.members && allReach f.links s.dev.lnk.members) = false → exec (.rerigWaitExpiry f) s = .next s) ∧
      ((f.linkOnly && hopsFit f.links s.dev.lnk.members && allReach f.links s.dev.lnk.members) = true → exec (.rerigWaitExpiry f) s = .next (s.beginRerig
        { pkg := 0, spare := none, phase := 1, reply := none, since := s.tick, position := 0, start := false, links := f.links, linkOnly := true, epoch := 0 }))) ∧
    (∀ r, s.dev.isHead = true → s.dev.lnk.auto = true → s.dev.lnk.rerig = some r →
      (r.phase ≠ 1 ∨ s.dev.waitOver r = false → exec (.rerigWaitExpiry f) s = .next s) ∧
      (r.phase = 1 → s.dev.waitOver r = true →
        ((s.dev.rerigRefusal r.pkg (s.dev.lnk.covering r.position) f).isSome = true → exec (.rerigWaitExpiry f) s = .next s.degradedRecords) ∧
        (s.dev.rerigRefusal r.pkg (s.dev.lnk.covering r.position) f = none → exec (.rerigWaitExpiry f) s =
          .next (s.beginRerig (rerigOf r.pkg (s.dev.lnk.covering r.position) r.position r.since none f false))))) ∧
    (s.dev.stream ch = none → exec (.streamRebuilt ch) s = .next s) ∧
    (∀ t, s.dev.stream ch = some t →
      (t.rebuild = none → exec (.streamRebuilt ch) s = .next s) ∧
      (∀ n l, t.rebuild = some (n, l) →
        (0 < rangeSum l ∨ s.dev.srv.waitsShared t = true → exec (.streamRebuilt ch) s = .next s) ∧
        (rangeSum l = 0 → s.dev.srv.waitsShared t = false →
          (t.st ≠ .parked → exec (.streamRebuilt ch) s = .next (s.updStream ch (fun t => { t with rebuild := none }))) ∧
          (t.st = .parked → exec (.streamRebuilt ch) s = .next ((s.updStream ch (fun t => { t with rebuild := none })).finishRestore ch false))))) ∧
    (s.dev.isHead = true → pkg ≠ s.dev.role.pkg.toNat → exec (.syncLock pkg) s =
      .next (s.updLnk (fun l => { l with members := l.members.map (fun m => if m.pkg = pkg then { m with inRun := true } else m) })).finishSlice) ∧
    (s.dev.isHead = false ∨ pkg = s.dev.role.pkg.toNat → exec (.syncLock pkg) s = .next s.lockSync)

/-- MARGIN_TEST outside FIELD and RETIRE outside FIELD and SERVICE: AUTH 0x03; a unit field out of range, or a package that is neither this one nor a member: BAD_PARAM 0x06; a unit retired already: RETIRED; a MARGIN_TEST that R357 refuses: BAD_PARAM 0x05. Else QUEUED. A unit of this package that passes stressed: OK 0; that passes at its nominal setting, with a step left: the setting is raised and OK 1; else it is named permanent and the reply is RETIRED; each result is logged. RETIRE of this package as a whole is due at the boundary; of its unit, the unit is named permanent and the command waits; of another member's unit, that package is told and the command waits; of another member as a whole, a spare's duties lapse and the command waits, a layer package is counted as lost and its re-rig begins or cannot. (08 R262; 11 R352; 11 R355; 11 R356; 11 R357; 11 R455) -/
def Obligations.MarginTestAndRetire : Prop :=
  ∀ (s d q : State) (c : Cmd) (rest : List Cmd) (f : MarginFacts) (gone : Bool) (g : RerigFacts) (rep : Rep) (ans : Nat → Nat → State) (pkg : Nat) (own : Bool),
    s.dev.srv.due = c :: rest → d = s.dueLeft rest → rep = s.repOf c → (∀ st x, ans st x = (d.reply rep st x true true).advance) →
    pkg = c.at 0x18 2 → own = (pkg == s.dev.role.pkg.toNat) → q = d.reply rep stQUEUED 0 true false →
    (c.op = 0x40 →
      (s.dev.nv.lc ≠ .field → exec (.marginTest c.ch f) s = .next (ans stAUTH 0x03)) ∧
      (s.dev.nv.lc = .field → unitOf c true = none ∨ s.dev.knows pkg = false → exec (.marginTest c.ch f) s = .next (ans stBAD 0x06)) ∧
      (∀ kind unit limit u, s.dev.nv.lc = .field → unitOf c true = some (kind, unit) → s.dev.knows pkg = true →
        ((own = true ∧ s.dev.chk.isRetired kind unit = true) ∨ (own = false ∧ f.retired = true) → exec (.marginTest c.ch f) s = .next (ans stRETIRED 0)) ∧
        ((own = true ∧ s.dev.chk.isRetired kind unit = false ∧ s.dev.marginRefused kind unit = true) ∨ (own = false ∧ f.retired = false ∧ f.refused = true) →
          exec (.marginTest c.ch f) s = .next (ans stBAD 0x05)) ∧
        ((own = true ∧ s.dev.chk.isRetired kind unit = false ∧ s.dev.marginRefused kind unit = false) ∨ (own = false ∧ f.retired = false ∧ f.refused = false) →
          (own = true → u = q ∧ limit = q.dev.atLimit kind unit) → (own = false → u = q.emit (.message pkg 0x08 [0x18, kind, unit]) ∧ limit = f.atLimit) →
          (f.stressPass = true → exec (.marginTest c.ch f) s = .next (u.endMargin rep kind unit stOK 0).advance) ∧
          (f.stressPass = false → f.nominalPass = true → limit = false →
            (own = true → exec (.marginTest c.ch f) s = .next ((u.raiseStep kind unit).endMargin rep kind unit stOK 1).advance) ∧
            (own = false → exec (.marginTest c.ch f) s = .next (u.endMargin rep kind unit stOK 1).advance)) ∧
          (f.stressPass = false → f.nominalPass = false ∨ limit = true →
            (own = true → exec (.marginTest c.ch f) s = .next ((u.markRetired kind unit).endMargin rep kind unit stRETIRED 0).advance) ∧
            (own = false → exec (.marginTest c.ch f) s = .next (u.endMargin rep kind unit stRETIRED 0).advance))))) ∧
    (c.op = 0x41 →
      (s.dev.inService = false → exec (.retire c.ch gone g) s = .next (ans stAUTH 0x03)) ∧
      (s.dev.inService = true → unitOf c false = none ∨ s.dev.knows pkg = false → exec (.retire c.ch gone g) s = .next (ans stBAD 0x06)) ∧
      (∀ kind unit, s.dev.inService = true → unitOf c false = some (kind, unit) → s.dev.knows pkg = true →
        ((own = true ∧ s.dev.chk.isRetired kind unit = true) ∨ (own = false ∧ gone = true) → exec (.retire c.ch gone g) s = .next (ans stRETIRED 0)) ∧
        (own = true → s.dev.chk.isRetired kind unit = false →
          (kind = 0 → exec (.retire c.ch gone g) s = .next (q.updChk (fun k => { k with pkgDue := some rep })).advance) ∧
          (kind ≠ 0 → exec (.retire c.ch gone g) s =
            .next ((q.markRetired kind unit).updChk (fun k => { k with retires := k.retires ++ [⟨kind, unit, pkg, rep, s.tick + 1⟩] })).advance)) ∧
        (own = false → gone = false → kind ≠ 0 → exec (.retire c.ch gone g) s = .next (q.retireRemote rep pkg kind unit).advance) ∧
        (∀ m, own = false → gone = false → kind = 0 → q.dev.lnk.members.find? (fun m => m.pkg == pkg) = some m →
          exec (.retire c.ch gone g) s = .next (q.retireMember rep m g).advance))) ∧
    (∀ (m : Member) u, u = s.emit (.message m.pkg 0x08 [0x19, 0, 0]) →
      (m.position = 0xFFFF → s.retireMember rep m g = (u.updLnk (fun l => { l with
          duties := l.duties.filter (fun d => d.spare != m.pkg),
          members := l.members.filter (fun x => x.pkg != m.pkg) })).updChk (fun k => { k with retires := k.retires ++ [⟨0, 0, m.pkg, rep, s.tick + 1⟩] })) ∧
      (∀ x h, m.position ≠ 0xFFFF → h = u.dev.lnk.covering m.position → x = u.noteLost m.pkg 0x20 →
        ((x.dev.rerigRefusal m.pkg h g).isSome = true → s.retireMember rep m g = x.reply rep stDEGRADED 0x27 false true) ∧
        (x.dev.rerigRefusal m.pkg h g = none → s.retireMember rep m g = x.updLnk (fun l => { l with
          rerig := some (rerigOf m.pkg h m.position x.tick (some rep) g true), rerigPkg := BitVec.ofNat 12 m.pkg }))))

/-- ARB_REQUEST at a free unit is granted and ARB_MAXWAIT takes its wait; a higher rank revokes an ordinary holder, an emergency a privileged one: PREEMPTS counts, the holder backs off or waits; any other request backs off or, privileged, emergency or at the DMA engines, waits; during the reset after a bite it waits. BACKOFF_EXPIRY asks again, its wait longer by 8 x 2^n cycles. ARB_TRANSFER_COMPLETE of a held unit frees it, clears the holder's losses, serves the first waiting request and counts the bytes, no more than the class's largest transfer; a DRAM read's wrong bits count, an uncorrectable one logged, and an island's KV stream lands the prefetch that it read. ARB_WATCHDOG_BITE aborts every grant, lets the others wait, counts, records and logs the bite, starts the reset and completes the holder's transfer in error; at its end the units serve, and an ordinary request that none takes has lost. COMPLETION_TIMEOUT of a held unit frees it, serves it, counts and completes in error; a host reader's own fetch then fails. With no holder, and with no reset at its end, nothing changes. (05 R129; 05 R152; 05 R153; 05 R154; 05 R155; 05 R156; 05 R157; 08 R240; 12 R374; 12 R375) -/
def Obligations.ArbitratedEdge : Prop :=
  ∀ (s : State) (res unit waited bytes ecc u : Nat) (who : Requester) (write pcie : Bool) (data : List Byte) (ch : Option Nat) (a : Arb) (g : Grant),
    a = s.dev.arbiter res → pcie = (res == 4) →
    u = (if res = 4 then a.engine else unit) → g = ⟨who, waited, a.lossesOf (lossKey pcie unit) who, false, ch⟩ →
    (a.resetting = true → exec (.arbRequest res unit who waited ch) s = .next (s.updArb res (fun a => { a with queue := a.queue ++ [(unit, { g with waits := true })] }))) ∧
    (a.resetting = false → Tab.find a.held u = none → exec (.arbRequest res unit who waited ch) s = .next (s.updArb res (fun a =>
      { a with held := Tab.put a.held u g, maxWait := max a.maxWait waited, last := (u, who) :: a.last.filter (fun e => e.1 != u) }))) ∧
    (∀ h, a.resetting = false → Tab.find a.held u = some h →
      ((ordinaryReq h.who = true ∧ a.rank h.who < a.rank who) ∨ (ordinaryReq h.who = false ∧ a.rank h.who = 4 ∧ a.rank who = 5) →
        exec (.arbRequest res unit who waited ch) s = .next (s.updArb res (fun a =>
          (({ a with preempts := a.preempts + 1, held := Tab.del a.held u } : Arb).lose pcie u h (!ordinaryReq h.who)).grant u g))) ∧
      ((ordinaryReq h.who = true ∧ a.rank who ≤ a.rank h.who) ∨ (ordinaryReq h.who = false ∧ (a.rank h.who ≠ 4 ∨ a.rank who ≠ 5)) →
        exec (.arbRequest res unit who waited ch) s = .next (s.updArb res (fun a => a.lose pcie u g (!ordinaryReq who || pcie))))) ∧
    (∀ h n, a.lose pcie u h true = { a with queue := a.queue ++ [(u, { h with waits := true })] } ∧
      (n = a.lossesOf (lossKey pcie u) h.who + 1 → a.lose pcie u h false = { a.setLosses (lossKey pcie u) h.who n with
        losses := a.losses + 1, queue := a.queue ++ [(u, { h with losses := n, waits := false })] })) ∧
    (a.queue.find? (fun e => e.1 == unit && e.2.who == who && !e.2.waits) = none →
      exec (.backoffExpiry res unit who) s = .next (s.updArb res (fun a => a))) ∧
    (∀ e b, a.queue.find? (fun e => e.1 == unit && e.2.who == who && !e.2.waits) = some e →
      b = { a with queue := a.queue.filter (fun x => !(x.1 == unit && x.2.who == who && !x.2.waits)) } →
      exec (.backoffExpiry res unit who) s =
        .next (s.updArb res (fun _ => b.ask pcie unit { e.2 with waited := e.2.waited + 8 * 2 ^ min e.2.losses 10 }))) ∧
    ((a.resetting = true ∨ (Tab.find a.held u).isSome = true → a.serveUnit pcie u = a) ∧
      (a.resetting = false → Tab.find a.held u = none → (a.choose pcie u = none → a.serveUnit pcie u = a) ∧
        (∀ w, a.choose pcie u = some w → a.serveUnit pcie u = (a.drop pcie u w).grant u w))) ∧
    (Tab.find a.held unit = none → exec (.arbTransferComplete res unit bytes write data ecc) s = .next s ∧ exec (.arbWatchdogBite res unit) s = .next s ∧
      exec (.completionTimeout res unit) s = .next s) ∧
    (∀ h, Tab.find a.held unit = some h →
      (∀ (n : Nat) (v x y : State), v = s.updArb res (fun _ =>
          (({ a with held := Tab.del a.held unit } : Arb).setLosses (lossKey pcie unit) h.who 0).serveUnit pcie unit) → n = min bytes (grantMax h.who.cls) →
        (res < 3 → write = true → x = v.updMem res (fun m => { m with wr := wrapInc m.wr n })) →
        (res < 3 → write = false → x = v.updMem res (fun m => { m with rd := wrapInc m.rd n })) → (res = 3 ∨ 4 < res → x = v) →
        (res = 4 → write = true → x = v.updPcie (fun p => { p with wr := wrapInc p.wr n })) →
        (res = 4 → write = false → x = v.updPcie (fun p => { p with rd := wrapInc p.rd n })) →
        (res < 3 → ecc = 1 → y = x.updMem res (fun m => { m with ce := satInc m.ce })) →
        (res < 3 → 2 ≤ ecc → y = (x.updMem res (fun m => { m with ue := satInc m.ue })).logEvent 0x10 8 res 5 0) → (3 ≤ res ∨ ecc = 0 → y = x) →
        (write = true → exec (.arbTransferComplete res unit bytes write data ecc) s = .next x) ∧
        (write = false → h.who.cls ≠ 5 ∨ s.dev.fab.fetching res unit h.who.inst = none →
          exec (.arbTransferComplete res unit bytes write data ecc) s = .next y) ∧
        (∀ f, write = false → h.who.cls = 5 → s.dev.fab.fetching res unit h.who.inst = some f →
          exec (.arbTransferComplete res unit bytes write data ecc) s = .next ((y.updFab (fun b => { b with prefetches := b.prefetches.map (fun p =>
            if p = f then { p with landed := true, poison := decide (2 ≤ ecc) } else p) })).updPan f.pan (fun q =>
              { q with sram := Memory.writeBytes q.sram (0x1A000 + f.dst) (sliceAt data 0 f.len) })))) ∧
      (∀ fail : State → State, (∀ t c, h.ch = some c → res = 4 → h.who.cls = 7 → fail t = (t.failFetch (fun x => x.ch == c)).emit (.errorCompletion res unit h.who)) →
        (∀ t, h.ch = none ∨ res ≠ 4 ∨ h.who.cls ≠ 7 → fail t = t.emit (.errorCompletion res unit h.who)) →
        exec (.arbWatchdogBite res unit) s = .next ((fail (s.updArb res (fun b => { b with
          held := [], queue := b.queue ++ (a.held.filter (fun e => e.1 != unit)).map (fun e => (e.1, { e.2 with waits := true })), bites := b.bites + 1,
          resetting := true, logTick := BitVec.ofNat 20 s.tick, logInst := BitVec.ofNat 8 h.who.inst, logClass := BitVec.ofNat 4 h.who.cls }))).logEvent
            0x30 (resUnit res).1 (resUnit res).2 res h.who.cls) ∧
        exec (.completionTimeout res unit) s = .next (fail ((s.updArb res (fun b => ({ b with held := Tab.del b.held unit } : Arb).serveUnit pcie unit)).updPcie
          (fun p => { p with cplTimeout := p.cplTimeout + 1 }))))) ∧
    (a.resetting = false → exec (.biteResetEnd res) s = .next s) ∧
    (∀ b, a.resetting = true → b = { a with resetting := false } →
      (pcie = true → exec (.biteResetEnd res) s = .next (s.updArb res (fun _ => (List.range 16).foldl (fun b u => b.serveUnit true u) b))) ∧
      (pcie = false → exec (.biteResetEnd res) s = .next (s.updArb res (fun _ => ((a.queue.map (·.1)).foldl (fun b u => b.serveUnit false u) b).loseRest)))) ∧
    (∀ e ∈ a.loseRest.queue, e.2.waits = true → ordinaryReq e.2.who = false) ∧
    (∀ k, k = (a.queue.filter (fun e => e.2.waits && ordinaryReq e.2.who)).length → a.loseRest.queue.length = a.queue.length ∧
      a.loseRest.losses = a.losses + BitVec.ofNat 32 k ∧ a.loseRest.held = a.held)

/-- FLR_VF of functions 1 to 31 abandons its transfers at the DMA engines and sets FLR_BUSY there; of another number it changes nothing. FLR_PF0 clears VF Enable and does so at every function, VF_ENABLE_CLEAR at every VF. FLR_COMPLETION of a function that is not busy changes nothing. Of a busy VF it drops the function's streams, empties its slots' bytes, SEQ, seals and locks, drops its waiting and due commands, its cached descriptors, refusal records, unsent bytes and waiting ATTESTs, and returns its rings, table, IRQ, PEND with its latches and its configuration state to reset, keeping its channel range and tenant mask. Once PF0's is busy, it does so for every busy function and returns the ranges and masks too. The pool then shrinks where it was due to. (08 R265; 08 R266; 08 R267; 12 R369; 12 R376) -/
def Obligations.FunctionResets : Prop :=
  ∀ (s : State) (f : Nat) (busy : State → Nat → State), (∀ t f, busy t f = (t.abandonGrants f).updFn f (fun n => { n with flrBusy := true })) →
    (1 ≤ f → f < 32 → exec (.flrVf f) s = .next (busy s f)) ∧
    (f = 0 ∨ 32 ≤ f → exec (.flrVf f) s = .next s) ∧
    exec .flrPf0 s = .next ((s.updPcie (fun p => { p with numVfs := 0 })).each (List.range 32) busy) ∧
    exec .vfEnableClear s = .next ((s.updPcie (fun p => { p with numVfs := 0 })).each (upFrom 1 31) busy) ∧
    ((s.dev.fn f).flrBusy = false → exec (.flrCompletion f) s = .next s) ∧
    (∀ n u v w, n = s.dev.fn f → n.flrBusy = true → (s.dev.fn 0).flrBusy = false →
      u = s.each ((s.dev.srv.streams.filter (fun e => e.2.fn == f)).map (·.1)) State.dropStream →
      v = u.updSrv (fun v => { v with
        window := Memory.erase v.window (256 * n.base) (256 * n.count), lastSeq := v.lastSeq.filter (fun e => !n.owns e.1),
        sealedTab := v.sealedTab.filter (fun e => !n.owns e.1), busy := v.busy.filter (fun ch => !n.owns ch),
        waiting := v.waiting.filter (fun (c : Cmd) => c.fn != f), due := v.due.filter (fun (c : Cmd) => c.fn != f),
        dcache := v.dcache.filter (fun e => e.fn != f), embeds := v.embeds.filter (fun e => e.2.rep.fn != f),
        hostOuts := v.hostOuts.filter (fun e => e.1 != f) }) →
      w = v.updSec (fun x => { x with waiting := x.waiting.filter (fun w => w.rep.fn != f) }) →
      exec (.flrCompletion f) s = .next ((((w.updFn f (fun n =>
        { n with table := 0, irqEn := false, holdoff := 0, vector := 0, pend := 0, irqWant := false, lastMsg := none, rings := [], flrBusy := false })).updFnCfg
          f (fun _ => FnCfg.reset f)).dropLatches f).shrinkPool)) ∧
    (s.dropLatches f).latches = s.latches.filter (fun e => e.1 != f && e.2.1 != pendKey f) ∧ (s.dropLatches f).dev = s.dev ∧
    (∀ e, e ∈ ((s.abandonGrants f).dev.arbiter 4).held → e ∈ (s.dev.arbiter 4).held ∨ ∃ x ∈ (s.dev.arbiter 4).queue, x.2 = e.2) ∧
    (∀ e c, e ∈ ((s.abandonGrants f).dev.arbiter 4).held ++ ((s.abandonGrants f).dev.arbiter 4).queue → e.2.ch = some c → (s.dev.fn f).owns c = false) ∧
    ((s.dev.fn f).flrBusy = true → (s.dev.fn 0).flrBusy = true → exec (.flrCompletion f) s =
      .next ((((s.each ((List.range 32).filter (fun f => (s.dev.fn f).flrBusy)) State.clearFn)).each (List.range 32) (fun s f => s.updFn f (fun n =>
        { n with count := (Fn.reset f).count, base := (Fn.reset f).base, tenants := (Fn.reset f).tenants }))).shrinkPool))

/-- BUS_MASTER_DISABLE and D3HOT_ENTRY of functions 0 to 31 set the state and stop the function: its transfers and its reads are abandoned and its unissued records wait in their backlogs. BUS_MASTER_ENABLE, with NumVFs raised to the function, and D3HOT_EXIT set the state and, where the function may write, send its bytes and drain its backlogs. PCIE_LINK_UP at x8 or x16 and generation 1 to 7 takes link, speed, width, reversal and SRIS, except under PERST# or in FURL. PCIE_LINK_DOWN stops every function, sets the stockpile's error where a park is copied, resets the controller but LINKDOWNS, which counts, PTM and the DMA arbiter, and requests the FLR of every function. Elsewhere nothing changes. (08 R249; 08 R250; 12 R366; 12 R367; 12 R376; 12 R380; 12 R381) -/
def Obligations.BusMasterAndLink : Prop :=
  ∀ (s : State) (f speed width : Nat) (reversed sris : Bool) (stop resume : State → State),
    (∀ t, stop t = ((t.abandonGrants f).abandonReads f).updFn f Fn.unissue) →
    (∀ t, t.dev.canWrite f = false → resume t = t) → (∀ t, t.dev.canWrite f = true → resume t =
      (t.flushOuts f).each (((t.flushOuts f).dev.fn f).rings.map (·.1)) (fun s r => stepBacklogDrain f r s)) →
    (f < 32 →
      exec (.busMasterDisable f) s = .next (stop (s.updFnCfg f (fun c => { c with bme := false }))) ∧
      exec (.d3hotEntry f) s = .next (stop (s.updFnCfg f (fun c => { c with d3 := true }))) ∧
      exec (.busMasterEnable f) s = .next (resume ((s.updPcie (fun p => { p with numVfs := max p.numVfs f })).updFnCfg f (fun c => { c with bme := true }))) ∧
      exec (.d3hotExit f) s = .next (resume (s.updFnCfg f (fun c => { c with d3 := false })))) ∧
    (32 ≤ f → exec (.busMasterDisable f) s = .next s ∧ exec (.d3hotEntry f) s = .next s ∧ exec (.busMasterEnable f) s = .next s ∧
      exec (.d3hotExit f) s = .next s) ∧
    (s.dev.rst.perstLow = false → s.dev.rst.furl = false → width = 8 ∨ width = 16 → 1 ≤ speed → speed ≤ 7 →
      exec (.pcieLinkUp speed width reversed sris) s = .next (s.updPcie (fun p =>
        { p with linkUp := true, speed := BitVec.ofNat 3 speed, width := BitVec.ofNat 5 width, reversed := reversed, sris := sris }))) ∧
    (s.dev.rst.perstLow = true ∨ s.dev.rst.furl = true ∨ (width ≠ 8 ∧ width ≠ 16) ∨ speed = 0 ∨ 7 < speed →
      exec (.pcieLinkUp speed width reversed sris) s = .next s) ∧
    (∀ u v parks, u = s.each (List.range 32) State.stopFn → (parks = true ↔ ∃ e ∈ u.dev.srv.streams, ∃ p, e.2.park = some p ∧ p.copying.isSome = true ∧ p.inPlace = false) →
      v = ((u.updSrv (fun v => { v with stockErr := v.stockErr || parks })).updPcie (fun p => { linkDowns := satInc p.linkDowns })).updTime (fun t =>
        { t with ptmValid := false, ptmFail := false, ptmMisses := 0, ptmDialogs := [] }) →
      exec .pcieLinkDown s = .next (((v.updArb 4 (fun _ => {})).updPcie (fun p => { p with numVfs := 0 })).each (List.range 32) (fun t f =>
        (t.abandonGrants f).updFn f (fun n => { n with flrBusy := true }))))

/-- REGISTER_WRITE past the end of BAR0, and LOW_WORD_READ past the end of BAR0 or BAR2, fault. Before the function's BARs answer they are unsupported requests. A write at an address that is no multiple of 4 is discarded; else its whole words are written in ascending order, and a write narrower than a word is discarded. A read of BAR2 answers the slots' bytes as last written, 0 outside the function's channels. A read of BAR0 of 32 bits or wider at a multiple of 4 answers its words, read in ascending order with each read's effect; any other answers the addressed bytes of the registers that it covers. SNAP_HOLD with no hold keeps the visible snapshot, its tag and the tick; with a hold, nothing changes. SNAP_RELEASE ends it. SNAP_HOLD_EXPIRY ends a hold of 100 ticks and sets its flag, not a younger one. MGMT_TS_READ answers a block's TS words from the latest snapshot with its tag, and nothing out of range. (01 R37; 01 R38; 01 R39; 01 R42; 08 R241; 12 R370; 15 R441) -/
def Obligations.RegisterAccess : Prop :=
  ∀ (s : State) (f off blk len : Nat) (data : List Byte),
    (bar0Size f < off + data.length → exec (.registerWrite f off data) s = .fault .outsideBar) ∧
    (bar0Size f < off + len → exec (.lowWordRead f false off len) s = .fault .outsideBar) ∧
    (4194304 < off + len → exec (.lowWordRead f true off len) s = .fault .outsideBar) ∧
    (off + data.length ≤ bar0Size f →
      (s.dev.barUp f = false → exec (.registerWrite f off data) s = .next (s.emit (.unsupported f))) ∧
      (s.dev.barUp f = true → off % 4 ≠ 0 ∨ data.length < 4 → exec (.registerWrite f off data) s = .next s) ∧
      (s.dev.barUp f = true → off % 4 = 0 → exec (.registerWrite f off data) s = .next (s.each (List.range (data.length / 4)) (fun s i =>
        match fnBlockOf f (off + 4 * i) with
        | some (b, o) => s.writeReg f b o (BitVec.ofNat 32 (leAt data (4 * i) 4))
        | none => s)))) ∧
    (∀ slots, off + len ≤ (if slots then 4194304 else bar0Size f) → s.dev.barUp f = false →
      exec (.lowWordRead f slots off len) s = .next (s.emit (.unsupported f))) ∧
    (off + len ≤ 4194304 → s.dev.barUp f = true → exec (.lowWordRead f true off len) s = .next (s.emit (.readBytes ((List.range len).map (fun i =>
      if f = 0 ∨ (s.dev.fn f).owns (s.dev.slotChannel f ((off + i) / 256)) = true then
        Memory.read s.dev.srv.window (256 * s.dev.slotChannel f ((off + i) / 256) + (off + i) % 256) else 0))))) ∧
    (∀ k ws t, off + len ≤ bar0Size f → s.dev.barUp f = true → k = off % 4 → (ws, t) = State.readWords f ((k + len + 3) / 4) (off - k) s →
      (k = 0 → 4 ≤ len → exec (.lowWordRead f false off len) s = .next (t.each ws (fun t v => t.emit (.readData v)))) ∧
      (k ≠ 0 ∨ len < 4 → exec (.lowWordRead f false off len) s =
        .next (t.emit (.readBytes (sliceAt (ws.flatMap (fun v => leBytes 4 v.toNat)) k len))))) ∧
    (∀ n a, State.readWords f 0 a s = ([], s) ∧ State.readWords f (n + 1) a s =
      ((s.readAt f a).1 :: (State.readWords f n (a + 4) (s.readAt f a).2).1, (State.readWords f n (a + 4) (s.readAt f a).2).2)) ∧
    (s.hold = none → exec .snapHold s = .next { s with hold := some ⟨s.snap, s.snapTick, s.tick⟩ } ∧ exec .snapHoldExpiry s = .next s) ∧
    exec .snapRelease s = .next { s with hold := none } ∧
    (∀ h, s.hold = some h → exec .snapHold s = .next s ∧
      (h.setAt + 100 ≤ s.tick → exec .snapHoldExpiry s = .next { s with hold := none, holdExpired := true }) ∧
      (s.tick < h.setAt + 100 → exec .snapHoldExpiry s = .next s)) ∧
    (s.dev.cn.auxOk = true → blk < 15 → off % 4 = 0 → exec (.mgmtTsRead blk off len) s =
      .next (s.emit (.mgmt s.snapTick ((List.range (len / 4)).flatMap (fun i => leBytes 4 (tsWord s.snap s.snapTick blk (off + 4 * i))))))) ∧
    (s.dev.cn.auxOk = false ∨ 15 ≤ blk ∨ off % 4 ≠ 0 → exec (.mgmtTsRead blk off len) s = .next s)

/-- TRIM_STORE_LOAD with a matching hash keeps the DRAM copy and fills each store that has lost its record, its taps to jump at the next boundary; with a mismatch every island goes DARK, its stores are lost, and the event is logged. VERIFY_REQUEST names its pan; refused, REFUSED and the reason are set; else the payload is to leave, and the pan is busy. VERIFICATION_COMPLETE of another pan, or before the payload has left, changes nothing; else the eight figures are kept, each with WARN, OUT_ENV and the patterns that the run leaves; with all below 116 the payload returns from its spare at a frame boundary, with one at 116 or more the verification ends and it stays. FACTORY_CALIBRATION outside MANUFACTURE and SERVICE, or of a point above 2, changes nothing; a ladder over 64 discards the point, else each array's taps are taken or kept and the point noted; the last call then writes tables and hash, then the crow's nest's hash and the count, unless power fails between the two. (06 R170; 06 R171; 06 R172; 06 R174; 06 R175; 06 R182; 06 R183; 06 R184) -/
def Obligations.TrimAndVerification : Prop :=
  ∀ (s : State) (pan point ladder : Nat) (qfs : List Nat) (taps : List (Nat × List Byte)) (resid : List (Nat × Nat)) (last torn : Bool),
    (∀ r, r = s.dev.ws.regionCopy.getD s.dev.ws.region →
      (regionHash r = s.dev.nv.tableHash → exec .trimStoreLoad s = .next ((s.updWs (fun w => { w with regionCopy := some r, trimFault := false })).each
        ((List.range 2112).filter (fun p => !(s.pan p).trimLoaded && (s.dev.isl (Pan.island p)).st.keepsTrim))
        (fun s p => s.updPan p (fun q => q.loadTrim ((Tab.find r p).getD []) (s.dev.heldTemp (Pan.island p)))))) ∧
      (regionHash r ≠ s.dev.nv.tableHash → exec .trimStoreLoad s =
        .next (((s.updWs (fun w => { w with trimFault := true })).darkIslands).logEvent 0x33 0 0 0 0))) ∧
    (∀ i, i < 16 → (s.darkIslands.dev.isl i).st = .dark) ∧ (∀ p, (s.darkIslands.pan p).trimLoaded = false) ∧
    (∀ (q : Pan) rec_ temp, (q.loadTrim rec_ temp).trimLoaded = true ∧ (q.loadTrim rec_ temp).tapJump = true ∧
      (q.loadTrim rec_ temp).trimStore = Memory.writeBytes [] 0 rec_) ∧
    (∀ u, u = s.updFab (fun b => { b with verPan := BitVec.ofNat 12 pan }) →
      (∀ r, (2112 ≤ pan ∧ r = 3) ∨ (pan < 2112 ∧ u.dev.verifyRefusal pan = some r) → exec (.verifyRequest pan) s =
        .next (u.updFab (fun b => { b with verRefused := true, verReason := BitVec.ofNat 4 r }))) ∧
      (∀ q, pan < 2112 → u.dev.verifyRefusal pan = none → u.dev.freeSpare pan = some q → exec (.verifyRequest pan) s =
        .next (((u.updPan pan (fun x => { x with vacateTo := some (q, s.dev.fab.frameAfter s.tick 2), vacateRetires := false })).updFab (fun b =>
          { b with verBusy := true, verRunPan := BitVec.ofNat 12 pan, verSpare := some q })).updPan pan (fun x => { x with busy := true })))) ∧
    (s.dev.fab.verBusy = false ∨ s.dev.fab.verRunPan ≠ BitVec.ofNat 12 pan ∨ (s.pan pan).busy = false ∨ (s.pan pan).vacateTo ≠ none →
      exec (.verificationComplete pan qfs) s = .next s) ∧
    (∀ u, s.dev.fab.verBusy = true → s.dev.fab.verRunPan = BitVec.ofNat 12 pan → (s.pan pan).busy = true → (s.pan pan).vacateTo = none →
      u = s.each (List.range 8) (fun s a => s.setQf pan a (qfs.getD a 0)) →
      (∀ q, (∀ x ∈ qfs.take 8, x < 116) → u.dev.fab.verSpare = some q → exec (.verificationComplete pan qfs) s =
        .next (u.updPan q (fun x => { x with vacateTo := some (pan, u.dev.fab.frameAfter u.tick 2), vacateRetires := false }))) ∧
      ((∀ x ∈ qfs.take 8, x < 116) → u.dev.fab.verSpare = none → exec (.verificationComplete pan qfs) s = .next u) ∧
      ((∃ x ∈ qfs.take 8, 116 ≤ x) → exec (.verificationComplete pan qfs) s = .next ((u.updFab (fun b =>
        { b with verBusy := false, verDone := true, verSpare := none })).updPan pan (fun x => { x with busy := false })))) ∧
    (∀ a qf v w, v = s.updArr pan a (fun x => { x with
        cells := memOfBytes 0 ((List.range 65536).map Config.patternByte), valid := false, vecCnt := x.vecCnt + 16, qf := BitVec.ofNat 12 (min 0xFFF qf),
        qfStale := false, qfWarn := decide (s.dev.fab.qfWarnLimit.toNat < qf), outEnv := decide (116 ≤ qf) }) →
      (qf ≤ s.dev.fab.qfWarnLimit.toNat → w = v) → (s.dev.fab.qfWarnLimit.toNat < qf → w = v.logEvent 0x32 1 (8 * pan + a) qf 0) →
      (qf < 116 → s.setQf pan a qf = w) ∧ (116 ≤ qf → s.setQf pan a qf = w.failEvent 1 (8 * pan + a) 0x32)) ∧
    ((s.dev.nv.lc ≠ .manufacture ∧ s.dev.nv.lc ≠ .service) ∨ 2 < point → exec (.factoryCalibration point ladder taps resid last torn) s = .next s) ∧
    (∀ u, s.dev.nv.lc = .manufacture ∨ s.dev.nv.lc = .service → point ≤ 2 → (64 < ladder → u = s) →
      (ladder ≤ 64 → u = (s.each (taps.filter (fun e => decide (e.1 < 16896))) (State.calibrateArray · point resid ·)).updWs (fun w =>
        { w with calPts := w.calPts ||| 2 ^ point, calLadder := ladder })) →
      (last = false ∨ u.dev.ws.calPts = 0 → exec (.factoryCalibration point ladder taps resid last torn) s = .next u) ∧
      (last = true → u.dev.ws.calPts ≠ 0 → exec (.factoryCalibration point ladder taps resid last torn) s = .next (u.writeCalibration torn))) ∧
    (∀ v, v = s.writeCalibration torn → v.dev.ws.tableHash = regionHash v.dev.ws.region ∧ v.dev.ws.calPts = 0 ∧ v.dev.fab.calPoints = BitVec.ofNat 3 s.dev.ws.calPts ∧
      v.dev.fab.calDay = BitVec.ofNat 32 (s.dev.cn.rtc / 86400) ∧
      (torn = true → v.dev.nv = s.dev.nv ∧ v.dev.fab.calCount = s.dev.fab.calCount) ∧
      (torn = false → v.dev.nv = { s.dev.nv with tableHash := v.dev.ws.tableHash } ∧ v.dev.fab.calCount = satInc s.dev.fab.calCount ∧ v.dev.ws.regionCopy = none))

/-- PAN_DIG_READ and PAN_DIG_WRITE of a pan, array and row with no access running: in MANUFACTURE and SERVICE the access starts (a write with a copy of the 64 data bytes) and is served by PAN_DIG_COMPLETE; in any other state no access starts, DENIED and DONE are set, the array, row and operation fields hold what was written, and PAN_DIG_DATA0 to 15 and every other part of the device are unchanged. PAN_DIG_COMPLETE of a read copies the row to the data registers and sets DONE; of a write it writes the row of an array in DIGITAL mode, and is discarded with WR_DISCARD in another; with no access it changes nothing. A GO while an access runs, or that names no row, changes nothing. (03 R98) -/
def Obligations.DigitalAccess : Prop :=
  ∀ (s : State) (p a row : Nat),
    (p < 2112 → a < 8 → row < 1024 → (s.pan p).digRun = none →
      (s.dev.nv.lc = .manufacture ∨ s.dev.nv.lc = .service →
        exec (.panDigRead p a row) s = .next (s.updPan p (fun q =>
          { q with digOp := false, digArr := BitVec.ofNat 3 a, digRow := BitVec.ofNat 10 row, digRun := some (false, a, row, []) })) ∧
        exec (.panDigWrite p a row) s = .next (s.updPan p (fun q =>
          { q with digOp := true, digArr := BitVec.ofNat 3 a, digRow := BitVec.ofNat 10 row, digRun := some (true, a, row, Memory.readBytes q.digData 0 64) }))) ∧
      (s.dev.nv.lc ≠ .manufacture → s.dev.nv.lc ≠ .service →
        exec (.panDigRead p a row) s = .next (s.updPan p (fun q =>
          { q with digOp := false, digArr := BitVec.ofNat 3 a, digRow := BitVec.ofNat 10 row, digDenied := true, digDone := true })) ∧
        exec (.panDigWrite p a row) s = .next (s.updPan p (fun q =>
          { q with digOp := true, digArr := BitVec.ofNat 3 a, digRow := BitVec.ofNat 10 row, digDenied := true, digDone := true })) ∧
        (∀ t, exec (.panDigRead p a row) s = .next t ∨ exec (.panDigWrite p a row) s = .next t →
          (t.pan p).digDenied = true ∧ (t.pan p).digDone = true ∧ (t.pan p).digRun = none ∧ (t.pan p).digData = (s.pan p).digData))) ∧
    (2112 ≤ p ∨ 8 ≤ a ∨ 1024 ≤ row ∨ (s.pan p).digRun ≠ none → exec (.panDigRead p a row) s = .next s ∧ exec (.panDigWrite p a row) s = .next s) ∧
    ((s.pan p).digRun = none → exec (.panDigComplete p) s = .next s) ∧
    (∀ w x r data u, (s.pan p).digRun = some (w, x, r, data) → u = s.updPan p (fun q => { q with digRun := none, digDone := true }) →
      (w = false → exec (.panDigComplete p) s =
        .next (u.updPan p (fun q => { q with digData := Memory.writeBytes q.digData 0 (Memory.readBytes (q.arr x).cells (64 * r) 64) }))) ∧
      (w = true → (u.arr p x).mode = .digital → exec (.panDigComplete p) s =
        .next (u.updArr p x (fun y => { y with cells := Memory.writeBytes y.cells (64 * r) data }))) ∧
      (w = true → (u.arr p x).mode ≠ .digital → exec (.panDigComplete p) s = .next (u.updArr p x (fun y => { y with wrDiscard := true }))))

/-- A conversion of a channel below 64 that is triggered and runs enters the FIFO; one of the round enters only where its channel's HK_FIFO_MASK bit is set; each entry carries its channel. A result that finds 64 entries is discarded: LOST counts it, OVERFLOW is set, and the next result that enters carries GAP. A read of HK_FIFO_DATA answers the oldest entry that was there when the cycle began, with VALID, and removes it; with none it answers VALID 0. The channel's latest value stays in its register in every case: with the FIFO full, or the mask bit 0, a good conversion's value is there all the same. (15 R435) -/
def Obligations.ResultFifo : Prop :=
  ∀ (s : State) (c : Nat) (v : Int) (good trig : Bool) (enters : Bool) (ecc : List (Nat × Nat)), c < 64 →
    (trig = true → s.dev.hk.running = some true ∧ s.dev.hk.trigChan.toNat = c ∧ (s.dev.chan c).stale = false ∧ enters = true) →
    (trig = false → s.dev.hk.reverifies c = false ∧ enters = s.dev.hk.mask.getLsbD c) →
    (∃ t, exec (.hkConversionComplete c v good trig ecc) s = .next t ∧
      (good = true → (t.dev.chan c).value = BitVec.ofInt 16 v) ∧
      (enters = true → s.dev.hk.fifo.length < 64 → t.dev.hk.fifo = s.dev.hk.fifo ++ [⟨s.dev.hk.gap, trig, false, BitVec.ofNat 6 c, (t.dev.chan c).value⟩] ∧
        t.dev.hk.gap = false ∧ t.dev.hk.lostN = s.dev.hk.lostN ∧ t.dev.hk.overflow = s.dev.hk.overflow) ∧
      (enters = true → 64 ≤ s.dev.hk.fifo.length → t.dev.hk.fifo = s.dev.hk.fifo ∧ t.dev.hk.gap = true ∧ t.dev.hk.overflow = true ∧
        t.dev.hk.lostN = satInc s.dev.hk.lostN) ∧
      (enters = false → t.dev.hk.fifo = s.dev.hk.fifo ∧ t.dev.hk.gap = s.dev.hk.gap ∧ t.dev.hk.overflow = s.dev.hk.overflow ∧ t.dev.hk.lostN = s.dev.hk.lostN) ∧
      t.pending = s.pending ∧ t.dev.time = s.dev.time ∧ t.dev.role = s.dev.role ∧ t.dev.lnk = s.dev.lnk ∧ t.dev.nv = s.dev.nv) ∧
    (∀ seen, seen = s.dev.hk.fifo.filter (fun x => decide (x ∈ s.begun.dev.hk.fifo)) →
      (∀ r l, seen = r :: l → exec .hkFifoDataRead s = .next ((s.updHk (fun h => { h with fifo := h.fifo.drop 1 })).emit (.readData
        (BitVec.ofNat 32 (2 ^ 31 + b2n r.gap * 2 ^ 30 + b2n r.trig * 2 ^ 29 + b2n r.stale * 2 ^ 28 + r.chan.toNat * 2 ^ 22 + r.value.toNat))))) ∧
      (seen = [] → exec .hkFifoDataRead s = .next (s.emit (.readData 0))))

/-- HK_TRIGGER with triggers off changes nothing; while a conversion runs it is dropped and counts in HK_TRIG_MISS; else the triggered conversion runs. A triggered result that is not awaited, and a channel above 63, change nothing. HK_ROUND_END, after the lane shares and the start of each port's next lane: round power above the limit of the step in force lowers f, down to 8, then raises the stretch request by a sixteenth of the tick, up to a tick; below the next step's limit it lowers the request to 0, then raises f, up to 16; the thermal step and the step in force follow for the next round, the round counts, and a member reports f, with its rate, to its head. HEAD_FRACTION_UPDATE of 8 to 16 is the member's fraction, with its rate; another value changes nothing. (15 R424; 15 R425; 15 R426; 15 R427; 15 R430; 15 R434) -/
def Obligations.RoundsTriggersAndReef : Prop :=
  ∀ (s : State) (busy good : Bool) (c pkg n : Nat) (v : Int) (ecc : List (Nat × Nat)) (rate : RateReport),
    (s.dev.hk.trigEn = false → exec (.hkTrigger busy) s = .next s) ∧
    (s.dev.hk.trigEn = true → busy = true ∨ s.dev.hk.running.isSome = true →
      exec (.hkTrigger busy) s = .next (s.updHk (fun h => { h with trigMiss := h.trigMiss + 1 }))) ∧
    (s.dev.hk.trigEn = true → busy = false → s.dev.hk.running = none → exec (.hkTrigger busy) s = .next (s.updHk (fun h => { h with running := some true }))) ∧
    (64 ≤ c → exec (.hkConversionComplete c v good false ecc) s = .next s) ∧
    (64 ≤ c ∨ s.dev.hk.running ≠ some true ∨ s.dev.hk.trigChan.toNat ≠ c → exec (.hkConversionComplete c v good true ecc) s = .next s) ∧
    (∀ u p t f0 s0 f st therm w, u = s.laneShares.beginMargining → p = u.dev.roundPower → t = 2000 * u.dev.time.inForce → f0 = u.dev.hk.frac → s0 = u.dev.hk.stretch →
      (reefLimit u.dev.hk.reef < p → 8 < f0 → f = f0 - 1 ∧ st = s0) → (reefLimit u.dev.hk.reef < p → f0 ≤ 8 → f = f0 ∧ st = min (s0 + t / 16) t) →
      (p ≤ reefLimit u.dev.hk.reef → p < reefLimit (u.dev.hk.reef + 1) → 0 < s0 → f = f0 ∧ st = s0 - t / 16) →
      (p ≤ reefLimit u.dev.hk.reef → p < reefLimit (u.dev.hk.reef + 1) → s0 = 0 → (f0 < 16 → f = f0 + 1) ∧ (16 ≤ f0 → f = f0) ∧ st = 0) →
      (p ≤ reefLimit u.dev.hk.reef → reefLimit (u.dev.hk.reef + 1) ≤ p → f = f0 ∧ st = s0) →
      therm = u.dev.nextTherm → w = u.updHk (fun h => { h with frac := f, stretch := st, therm, reef := max therm (max h.floor.toNat u.dev.cn.reefFloor.toNat), round := h.round + 1, roundStart := u.dev.time.mems }) →
      (s.dev.role.head = none ∨ s.dev.isHead = true → exec .hkRoundEnd s = .next w) ∧
      (∀ q, s.dev.role.head = some q → s.dev.isHead = false → exec .hkRoundEnd s = .next (w.emit (.message q 0x08 [0x11, s.dev.role.pkg.toNat, f, w.dev.ownRate.phi, b2n w.dev.ownRate.narrow, w.dev.ownRate.dleWeights])))) ∧
    (8 ≤ n → n ≤ 16 → exec (.headFractionUpdate pkg n rate) s =
      .next (s.updLnk (fun l => { l with members := l.members.map (fun m => if m.pkg = pkg then { m with frac := n, rate } else m) }))) ∧
    (n < 8 ∨ 16 < n → exec (.headFractionUpdate pkg n rate) s = .next s)

/-- KEY_ENROL and KEY_REVOKE of a slot hold operation and slot and queue the operation with the 60 data bytes; no key changes before the boundary, where a refused operation sets REFUSED and its REASON and one that is not refused writes the slot: enrolled with the key, or revoked with the key it held. LC_CHALLENGE draws a new challenge of 32 true random bytes. FW_UPDATE in RETIRED, or while one runs, changes nothing; a reset during the read or the write leaves the inactive copy empty and nothing pending; a bundle that was not read or fails its checks sets ERROR and nothing else; one that passes is written to the copy not in use and is pending. COMMIT_SVN raises each kind's version to that of the running image, never down, and revokes FW0 when the running firmware says so. ATTESTATION_KEY_GENERATION outside MANUFACTURE changes nothing; in it seed and identifier come from the true random source, and tree, public key and certificate are made from them. (13 R386; 13 R388; 13 R390; 13 R391; 13 R398; 13 R400) -/
def Obligations.KeysAndFirmware : Prop :=
  ∀ (s : State) (slot : Nat) (l : List (List Byte)) (op : Bool × Nat × List Byte),
    (∀ revoke u, u = s.updSec (fun x => { x with keyOp := revoke, keySlot := BitVec.ofNat 3 (slot % 8), keyDue := x.keyDue ++ [(revoke, slot % 8, x.keyBytes)] }) →
      (revoke = false → exec (.keyEnrol slot) s = .next u) ∧ (revoke = true → exec (.keyRevoke slot) s = .next u)) ∧
    (∀ r, s.dev.nv.keyRefusal op.1 op.2.1 op.2.2 = some r →
      s.keyOperation op = s.updSec (fun x => { x with keyRefused := true, keyReason := BitVec.ofNat 3 r })) ∧
    (s.dev.nv.keyRefusal op.1 op.2.1 op.2.2 = none →
      (op.1 = false → s.keyOperation op = s.updNv (fun n => { n with keys := Sparse.set KeySlot.reset n.keys op.2.1 ⟨1, op.2.2⟩ })) ∧
      (op.1 = true → s.keyOperation op = (s.updNv (fun n => { n with
        keys := Sparse.set KeySlot.reset n.keys op.2.1 ⟨2, (s.dev.nv.key op.2.1).key⟩ })).endUnderKey (sha256 (s.dev.nv.key op.2.1).key))) ∧
    exec .lcChallenge s = .next (s.updSec (fun x =>
      { x with challenge := some ((List.range 32).map (Config.trueRandom x.draws)), draws := x.draws + 1 })) ∧
    (∀ bundle cut, s.dev.nv.lc = .retired ∨ s.dev.sec.fwBusy = true → exec (.fwUpdate bundle cut) s = .next s) ∧
    (s.dev.nv.lc ≠ .retired → s.dev.sec.fwBusy = false →
      (∀ bundle, exec (.fwUpdate bundle true) s =
        .next ((s.updWs (fun w => w.setFw (!s.dev.nv.fwB) .empty)).updNv (fun n => { n with fwPending := false }))) ∧
      exec (.fwUpdate none false) s = .next (s.updSec (fun x => { x with fwErr := true })) ∧
      exec (.fwUpdate (some l) false) s = .next (if s.dev.nv.bundleOk l then
        (s.updWs (fun w => if s.dev.nv.fwB then { w with fwA := .bundle l } else { w with fwB := .bundle l })).updNv (fun n => { n with fwPending := true })
        else s.updSec (fun x => { x with fwErr := true })) ∧
      (l.length ≠ 3 → exec (.fwUpdate (some l) false) s = .next (s.updSec (fun x => { x with fwErr := true })))) ∧
    (∃ t, exec .commitSvn s = .next t ∧ t = s.updNv (fun _ => t.dev.nv) ∧ t.dev.nv = { s.dev.nv with svn := t.dev.nv.svn, fw0Revoked := t.dev.nv.fw0Revoked } ∧
      t.dev.nv.svn.length = s.dev.nv.svn.length ∧ t.dev.nv.fw0Revoked = (s.dev.nv.fw0Revoked || s.dev.sec.runRevokes) ∧
      (∀ k, k < s.dev.nv.svn.length → t.dev.nv.svn.getD k 0 = max (s.dev.nv.svn.getD k 0) ((s.dev.sec.running.getD k (0, [])).1))) ∧
    (s.dev.nv.lc ≠ .manufacture → exec .attestationKeyGeneration s = .next s) ∧
    (∀ x : LmsSecret, s.dev.nv.lc = .manufacture → x.seed = (List.range 32).map (Config.trueRandom s.dev.sec.draws) →
      x.ident = (List.range 16).map (Config.trueRandom (s.dev.sec.draws + 1)) → exec .attestationKeyGeneration s =
      .next ((s.updSec (fun y => { y with draws := s.dev.sec.draws + 2 })).updNv (fun n => { n with
        attSeed := x.seed, attId := x.ident, tree := x.topNodes, devPub := x.hssPublic,
        cert := (List.range 3284).map (Config.certByte (leBytes 8 Config.serial.toNat ++ x.hssPublic)) })))

/-- LC_TRANSITION with a target that names no state, or a step that the table lacks, is refused with REASON 1; with a slice, an image operation, a tack, an update or a pending transition, with 2; to RETIRED without CONFIRM 0xA5, with 7; to FIELD from PROVISIONED with no active key, with 6; without a readable token, with 5. A refusal changes nothing else. An accepted transition writes its record, is due at the next boundary and uses up the challenge when a token carried it; to RETIRED it first erases seed, identifier, tree and key slots and writes the counter's end; a power loss during the write leaves the record before it and nothing due. From MANUFACTURE only PROVISIONED can be reached, and only with tree, certificate and calibration in place and nothing due. The state in force changes only at the reset that follows. (13 R398; 13 R399; 13 R400; 13 R401; 13 R402) -/
def Obligations.LifeCycleTransitions : Prop :=
  ∀ (s : State) (target confirm : Nat) (token : TokenRead) (torn : Bool) (refused : Nat → State) (accepted : State → Lc → Bool → Bool → State) (idle : Bool),
    (∀ r, refused r = s.updSec (fun x => { x with lcRefused := true, lcReason := BitVec.ofNat 4 r })) →
    (∀ u t debug used, accepted u t debug used = if torn then u.updNv Nv.tearLc
      else (u.updNv (fun n => n.writeLc t debug)).updSec (fun x => { x with
        lcPending := some (t, debug), challenge := if used then none else x.challenge })) →
    idle = !(s.dev.role.assigned || s.dev.ws.run.isSome || s.dev.ws.tack.isSome || s.dev.sec.fwBusy || s.dev.sec.lcPending.isSome) →
    (lcOf target = none → exec (.lcTransition target confirm token torn) s = .next (refused 1)) ∧
    (∀ t, lcOf target = some t →
      (s.dev.nv.lc = .manufacture → t = .provisioned → exec (.lcTransition target confirm token torn) s =
        .next (if s.dev.nv.tree ≠ [] ∧ s.dev.nv.cert ≠ [] ∧ s.dev.fab.calCount ≠ 0 ∧ s.dev.sec.lcPending = none then accepted s .provisioned false false else refused 1)) ∧
      (¬ (s.dev.nv.lc = .manufacture ∧ t = .provisioned) → lcStep s.dev.nv.lc t = false →
        exec (.lcTransition target confirm token torn) s = .next (refused 1)) ∧
      (lcStep s.dev.nv.lc t = true →
        (idle = false → exec (.lcTransition target confirm token torn) s = .next (refused 2)) ∧
        (idle = true → t = .retired → confirm ≠ 0xA5 → exec (.lcTransition target confirm token torn) s = .next (refused 7)) ∧
        (idle = true → t = .retired → confirm = 0xA5 → exec (.lcTransition target confirm token torn) s = .next (accepted (s.updNv (fun n =>
          { n.writePair (n.counter.1 + 1) (2 ^ 30) true with attSeed := [], attId := [], tree := [], keys := [] })) .retired false false)) ∧
        (idle = true → s.dev.nv.lc = .provisioned → t = .field →
          ((∃ i, i < 8 ∧ (s.dev.nv.key i).state = 1) → exec (.lcTransition target confirm token torn) s = .next (accepted s .field false false)) ∧
          ((∀ i, i < 8 → (s.dev.nv.key i).state ≠ 1) → exec (.lcTransition target confirm token torn) s = .next (refused 6))) ∧
        (∀ b, idle = true → s.dev.nv.lc ≠ .provisioned → t ≠ .retired → token = .ok b →
          exec (.lcTransition target confirm token torn) s = .next (if tokenSigned b target then
            (if leAt b 8 8 ≠ Config.serial.toNat ∨ s.dev.sec.challenge ≠ some (sliceAt b 0x10 32) then refused 4
             else accepted s t (decide (t = .service) && bitAt (leAt b 7 1) 0) true) else refused 3)) ∧
        (idle = true → s.dev.nv.lc ≠ .provisioned → t ≠ .retired → token = .none ∨ token = .failed →
          exec (.lcTransition target confirm token torn) s = .next (refused 5)))) ∧
    (∃ t, exec (.lcTransition target confirm token torn) s = .next t ∧ t.dev.nv.lc = s.dev.nv.lc ∧ t.dev.nv.debug = s.dev.nv.debug ∧ t.pending = s.pending)

/-- WARM_RESET, RST_CTRL_WARM with 0x5A, PCIE_HOT_RESET, PERST# going low, the watchdog's bite and a lost PLL other than MEM's are warm; COLD_RESET, the thermal-trip restart and a lost MEM PLL cold. A warm source counts; in FURL or without AUX it does no more; in reset-hold or a wider sequence it also sets its cause; else it restarts at step 5. A cold source counts and, unless AUX or the reference is gone, restarts at step 2. COLD_RESET after a trip is ignored at 85 degrees or more. PERST# low also restarts the controller and PTM. Power-on keeps the backup domain, stores and NV; a brownout also takes AUX. The reference's failure holds with code 0x01; loss of VBAK clears counters and RTC and sets LOST; the counters clear on request in FIELD and SERVICE; a kick counts while the watchdog runs. A source without its condition changes nothing. (12 R380; 14 R405; 14 R406; 14 R407; 14 R408; 14 R411; 14 R413; 14 R421; 15 R438; 15 R439) -/
def Obligations.ResetReach : Prop :=
  ∀ (s : State) (v n : Nat) (hot : Int) (dom : PllDomain),
    (exec .warmReset s = .next (s.warmFrom 3) ∧ exec .pcieHotReset s = .next (s.warmFrom 6) ∧ (v % 256 = 0x5A → exec (.rstCtrlWarm v) s = .next (s.warmFrom 4)) ∧
      (v % 256 ≠ 0x5A → exec (.rstCtrlWarm v) s = .next s)) ∧
    (s.dev.rst.furl = true ∨ s.dev.cn.auxOk = false → s.warmFrom n = s.updCn (fun c => c.count n)) ∧
    (s.dev.rst.furl = false → s.dev.cn.auxOk = true → s.dev.cn.holdCode ≠ 0 ∨ (s.dev.rst.running = true ∧ s.dev.rst.warmSeq = false) →
      s.warmFrom n = (s.updCn (fun c => c.count n)).updRst (fun r => { r with cause := r.cause ||| BitVec.ofNat 10 (2 ^ n) })) ∧
    (∀ t, t = s.warmFrom n → s.dev.rst.furl = false → s.dev.cn.auxOk = true → s.dev.cn.holdCode = 0 → s.dev.rst.running = false ∨ s.dev.rst.warmSeq = true →
      t.dev.rst.step = 5 ∧ t.dev.rst.ready = false ∧ t.dev.rst.warmSeq = true ∧ t.dev.rst.wdogRuns = false ∧
      (s.dev.rst.running = false → t.dev.rst.cause = BitVec.ofNat 10 (2 ^ n)) ∧ t.dev.time = { mems := s.dev.time.mems, memsFrac := s.dev.time.memsFrac } ∧
      t.dev.pans = [] ∧ t.dev.srv.streams = [] ∧ t.dev.srv.window = [] ∧ t.dev.srv.tenants = s.dev.srv.tenants ∧ t.dev.lnk.members = s.dev.lnk.members ∧
      t.dev.role.assigned = s.dev.role.assigned ∧ t.dev.role.slice = s.dev.role.slice ∧ t.dev.ws.store = s.dev.ws.store ∧ t.dev.fab.kv = s.dev.fab.kv ∧
      t.dev.mem = s.dev.mem ∧ t.dev.hk = s.dev.hk ∧ t.dev.cn = s.dev.cn.count n ∧ t.hold = none ∧ t.latches = [] ∧ t.pending = s.pending ∧ t.out = s.out) ∧
    (s.dev.cn.auxOk = false → s.coldFrom n = s) ∧
    (s.dev.cn.auxOk = true → s.dev.cn.onOsc = true → ∃ c, s.coldFrom n = (s.updCn (fun c => c.count n)).updRst (fun r => { r with cause := c })) ∧
    (∀ t, t = s.coldFrom n → s.dev.cn.auxOk = true → s.dev.cn.onOsc = false →
      t.dev.rst.step = 2 ∧ t.dev.rst.furl = false ∧ t.dev.role = {} ∧ t.dev.pans = [] ∧ t.dev.lnk = {} ∧ t.dev.srv = {} ∧ t.dev.chk = {} ∧ t.dev.hk = {} ∧
      t.dev.mem = [] ∧ t.dev.ws.store = s.dev.ws.store ∧ t.dev.ws.fwA = s.dev.ws.fwA ∧ t.dev.ws.fwB = s.dev.ws.fwB ∧ t.dev.nv.keys = s.dev.nv.keys ∧
      t.dev.cn.holdCode = 0 ∧ t.dev.cn.vinFault = false ∧ t.dev.cn.counts = (s.dev.cn.count n).counts ∧ t.snap = t.dev ∧ t.snapTick = 0 ∧ t.hold = none ∧
      t.pending = s.pending) ∧
    (s.dev.cn.tripped = false → exec (.coldReset hot) s = .next (s.coldFrom 1) ∧ exec (.thermalTripRestart hot) s = .next s) ∧
    (s.dev.cn.tripped = true → (1360 ≤ hot → exec (.coldReset hot) s = .next s ∧ exec (.thermalTripRestart hot) s = .next s) ∧
      (hot < 1360 → ∀ t, t = (s.updCn (fun c => { c with tripped := false, tripCmp := false })).coldFrom 2 →
        exec (.coldReset hot) s = .next t ∧ exec (.thermalTripRestart hot) s = .next t)) ∧
    (∀ m, dom = .mem m → s.dev.rst.locked.getLsbD (pllBit dom) = true → exec (.pllLossOfLock dom) s = .next (s.coldFrom 8)) ∧
    ((∀ m, dom ≠ .mem m) → s.dev.rst.locked.getLsbD (pllBit dom) = true → exec (.pllLossOfLock dom) s = .next (s.warmFrom 8)) ∧
    (s.dev.rst.locked.getLsbD (pllBit dom) = false → exec (.pllLossOfLock dom) s = .next s) ∧
    exec (.perst s.dev.rst.perstLow) s = .next s ∧
    (s.dev.rst.perstLow = false → exec (.perst true) s = .next ((((s.updRst (fun r => { r with perstLow := true })).warmFrom 5).updPcie (fun p =>
      { linkDowns := p.linkDowns })).updTime (fun t => { t with ptmValid := false, ptmFail := false, ptmMisses := 0, ptmDialogs := [] }))) ∧
    (∀ t, s.dev.rst.perstLow = true → t = s.updRst (fun r => { r with perstLow := false }) →
      (t.dev.rst.running = true → t.dev.rst.warmSeq = true → exec (.perst false) s = .next t.release) ∧
      (t.dev.rst.running = false ∨ t.dev.rst.warmSeq = false → exec (.perst false) s = .next t)) ∧
    (s.dev.rst.wdogRuns = true → exec .deviceWatchdogBite s = .next ((s.updRst (fun r => { r with biteLimit := s.dev.rst.limit.toNat })).warmFrom 7) ∧
      exec .watchdogKick s = .next (s.updRst (fun r => { r with kicks := r.kicks + 1 }))) ∧
    (s.dev.rst.wdogRuns = false → exec .deviceWatchdogBite s = .next s ∧ exec .watchdogKick s = .next s) ∧
    (s.dev.cn.auxOk = true → exec .referenceFailure s = .next ((s.updCn (fun c => { c with onOsc := true })).resetHold 0x01 0)) ∧
    (s.dev.cn.auxOk = false → exec .referenceFailure s = .next s) ∧
    exec .vbakLoss s = .next (s.updCn (fun c => { c with counts := [], rtc := 0, sub := 0, subFrac := 0, vbakLost := true })) ∧
    (s.dev.nv.lc = .field ∨ s.dev.nv.lc = .service → exec .resetCountClear s = .next (s.updCn (fun c => { c with counts := [] }))) ∧
    (s.dev.nv.lc ≠ .field → s.dev.nv.lc ≠ .service → exec .resetCountClear s = .next s) ∧
    (∀ d, d = (s.updCn (fun c => c.count 0)).dev.powerOn → exec .powerOnReset s =
      .next { s with dev := d, snap := d, snapTick := 0, hold := none, holdExpired := false, latches := [] }) ∧
    (∀ d, d = { s.dev.powerOn with rst := { perstLow := s.dev.rst.perstLow, step := 0, cause := 0 }, cn := { s.dev.powerOn.cn with auxOk := false } } →
      exec .auxBrownout s = .next { s with dev := d, snap := d, snapTick := 0, hold := none, holdExpired := false, latches := [] })

/-- RAILS_SOFT_START without AUX, in FURL, in reset-hold, or outside steps 1 to 4 changes nothing; a bad rail holds the device with code 0x31; else the sequence is at step 5, every PLL locked, VIN good, and each step ended has a free duration. CC_BOOT outside step 5, under PERST#, in FURL, in reset-hold or without AUX changes nothing; without a valid life-cycle record the device holds with 0x02; a hold met in a sequence that is not warm holds with its code; a boot chain that fails holds with 0x12 and the failing kind; else the boot goes on after the chain. BIST_REQUEST writes its legal fields; where it is allowed and none runs, one runs; where it is not, DENIED is set. BIST_COMPLETE with none running changes nothing; a BIST that ends in COND leaves that result; another its result, its first unit and its count, the effects of the test and of its failures. (13 R390; 13 R398; 14 R414; 14 R416; 14 R417; 14 R418; 14 R419; 14 R420) -/
def Obligations.PowerUpAndSelfTest : Prop :=
  ∀ (s : State) (ok cond : Bool) (f : BootFacts) (fclk kind target : Nat) (bad : List Nat),
    (s.dev.cn.auxOk = false ∨ s.dev.rst.furl = true ∨ s.dev.cn.holdCode ≠ 0 ∨ s.dev.rst.step = 0 ∨ 5 ≤ s.dev.rst.step.toNat →
      exec (.railsSoftStart ok) s = .next s) ∧
    (s.dev.cn.auxOk = true → s.dev.rst.furl = false → s.dev.cn.holdCode = 0 → s.dev.rst.step ≠ 0 → s.dev.rst.step.toNat < 5 →
      exec (.railsSoftStart false) s = .next (({ s with freeCtr := s.freeCtr + 1 }).resetHold 0x31 (Config.free32 s.freeCtr).toNat) ∧
      (∃ t first, (s.dev.rst.step = 1 → first = 0) ∧ (s.dev.rst.step ≠ 1 → first = 1) ∧ exec (.railsSoftStart true) s = .next t ∧
        t = { s with dev := { s.dev with rst := t.dev.rst, cn := { s.dev.cn with vinOk := true } }, freeCtr := s.freeCtr + (4 - first) } ∧
        t.dev.rst = { s.dev.rst with step := 5, locked := 0x1FFFF, coolWait := false, stepUs := t.dev.rst.stepUs } ∧
        t.dev.rst.stepUs = (List.range (4 - first)).foldl (fun m i =>
          Sparse.set (fun _ => 0) m (first + i) (Config.free32 (s.freeCtr + i))) s.dev.rst.stepUs)) ∧
    (s.dev.rst.step ≠ 5 ∨ s.dev.rst.perstLow = true ∨ s.dev.rst.furl = true ∨ s.dev.cn.holdCode ≠ 0 ∨ s.dev.cn.auxOk = false →
      exec (.ccBoot f) s = .next s) ∧
    (s.dev.rst.step = 5 → s.dev.rst.perstLow = false → s.dev.rst.furl = false → s.dev.cn.holdCode = 0 → s.dev.cn.auxOk = true →
      ((∀ e ∈ s.dev.nv.lcSlots, nvValid e.2 = false) → exec (.ccBoot f) s = .next (s.resetHold 0x02 0)) ∧
      ((∃ e ∈ s.dev.nv.lcSlots, nvValid e.2 = true) →
        (∀ code arg, s.dev.rst.warmSeq = false → f.hold = some (code, arg) → exec (.ccBoot f) s = .next (s.resetHold code arg)) ∧
        (s.dev.rst.warmSeq = true ∨ f.hold = none →
          (∀ k t, s.bootChain = (some k, t) → exec (.ccBoot f) s = .next (t.resetHold 0x12 k)) ∧
          (∀ t, s.bootChain = (none, t) → exec (.ccBoot f) s = .next (t.afterBoot f))))) ∧
    (∀ u, u = s.updRst (fun r => { r with fclk := if fclk < 7 then BitVec.ofNat 3 fclk else r.fclk, kind := if kind < 10 then BitVec.ofNat 8 kind else r.kind,
                                          target := BitVec.ofNat 12 target }) →
      (s.dev.rst.busy = true → exec (.bistRequest fclk kind target) s = .next u) ∧
      (s.dev.rst.busy = false → s.dev.bistAllowed = true → exec (.bistRequest fclk kind target) s = .next (u.updRst (fun r => { r with busy := true }))) ∧
      (s.dev.rst.busy = false → s.dev.bistAllowed = false → exec (.bistRequest fclk kind target) s = .next (u.updRst (fun r => { r with denied := true })))) ∧
    (s.dev.rst.busy = false → exec (.bistComplete cond bad) s = .next s) ∧
    (s.dev.rst.busy = true → exec (.bistComplete true bad) s = .next (s.updRst (fun r => { r with busy := false, done := true, result := 2 })) ∧
      (∀ u, u = s.updRst (fun r => { r with busy := false, done := true, result := if bad = [] then 0 else 1, unit := BitVec.ofNat 12 (bad.headD 0),
                                            fails := BitVec.ofNat 12 (min 0xFFF bad.length) }) →
        exec (.bistComplete false bad) s =
          .next ((u.afterTest s.dev.rst.kind.toNat s.dev.rst.target.toNat).testFailures s.dev.rst.kind.toNat bad)))

/-- FURL_REQUEST, and MGMT_FURL while management reaches the blocks, make FURL due; otherwise MGMT_FURL changes nothing. WAKE_N and MGMT_WAKE in FURL, with AUX and neither trip nor VIN fault, restart the power-up at step 2; else nothing. THERMAL_TRIP and VIN_FAULT without AUX, or while one of the kind stands, change nothing; else they write the next trip record, enter FURL, latch, and send their interrupt where it is enabled. The island requests hold operation and island and are due at the boundary. ISLAND_FURL_COMPLETE ends the furl that runs in RETAIN or DARK; ISLAND_UNFURL_COMPLETE makes the island UP and its taps jump, after a refill when it was DARK; in another state they change nothing. (06 R180; 15 R423; 15 R428; 15 R429; 15 R436; 15 R437; 15 R439; 15 R441) -/
def Obligations.FurlTripsAndIslands : Prop :=
  ∀ (s : State) (sensor i : Nat) (temp : Int),
    exec .furlRequest s = .next (s.updHk (fun h => { h with furlDue := true })) ∧
    (s.dev.awake = true → exec .mgmtFurl s = .next (s.updHk (fun h => { h with furlDue := true }))) ∧
    (s.dev.awake = false → exec .mgmtFurl s = .next s) ∧
    (∀ ok, ok = (s.dev.rst.furl && s.dev.cn.auxOk && !s.dev.cn.tripped && !s.dev.cn.vinFault) →
      (ok = true → exec .wakeN s = .next (s.updRst (fun r => { r with furl := false, step := 2, warmSeq := false })) ∧
        exec .mgmtWake s = .next (s.updRst (fun r => { r with furl := false, step := 2, warmSeq := false }))) ∧
      (ok = false → exec .wakeN s = .next s ∧ exec .mgmtWake s = .next s)) ∧
    (s.dev.cn.auxOk = false ∨ s.dev.cn.tripped = true → exec (.thermalTrip sensor temp) s = .next s) ∧
    (s.dev.cn.auxOk = false ∨ s.dev.cn.vinFault = true → exec .vinFault s = .next s) ∧
    (∀ u, s.dev.cn.auxOk = true → s.dev.cn.tripped = false →
      u = ((s.tripRecord 1 sensor temp).enterFurl).updCn (fun c => { c with tripped := true, tripCmp := true }) →
      (s.dev.cn.ibiEn.getLsbD 0 = true → exec (.thermalTrip sensor temp) s = .next (u.emit (.ibi 0))) ∧
      (s.dev.cn.ibiEn.getLsbD 0 = false → exec (.thermalTrip sensor temp) s = .next u)) ∧
    (∀ u, s.dev.cn.auxOk = true → s.dev.cn.vinFault = false →
      u = ((({ s with freeCtr := s.freeCtr + 1 }).tripRecord 2 0xFF (signed 16 (Config.free32 s.freeCtr).toNat)).enterFurl).updCn (fun c =>
        { c with vinFault := true, vinOk := false }) →
      (s.dev.cn.ibiEn.getLsbD 1 = true → exec .vinFault s = .next (u.emit (.ibi 1))) ∧
      (s.dev.cn.ibiEn.getLsbD 1 = false → exec .vinFault s = .next u)) ∧
    (∀ n u, u = s.updHk (fun h => { h with islOp := BitVec.ofNat 2 n, islSel := BitVec.ofNat 4 i, islDue := h.islDue ++ [(n, i % 16)] }) →
      (n = 1 → exec (.islandFurlRetain i) s = .next u) ∧ (n = 2 → exec (.islandFurlDark i) s = .next u) ∧ (n = 3 → exec (.islandUnfurl i) s = .next u)) ∧
    ((s.dev.isl i).st = .furlingRetain → exec (.islandFurlComplete i) s = .next (s.updIsl i (fun x => { x with st := .retain }))) ∧
    ((s.dev.isl i).st = .furlingDark → exec (.islandFurlComplete i) s = .next (s.updIsl i (fun x => { x with st := .dark }))) ∧
    ((s.dev.isl i).st ≠ .furlingRetain → (s.dev.isl i).st ≠ .furlingDark → exec (.islandFurlComplete i) s = .next s) ∧
    ((s.dev.isl i).st = .unfurling false → exec (.islandUnfurlComplete i) s = .next ((s.updIsl i (fun x => { x with st := .up })).jumpTaps i)) ∧
    ((s.dev.isl i).st = .unfurling true → exec (.islandUnfurlComplete i) s =
      .next (((s.updIsl i (fun x => { x with st := .up })).refillIsland i).jumpTaps i)) ∧
    ((∀ b, (s.dev.isl i).st ≠ .unfurling b) → exec (.islandUnfurlComplete i) s = .next s)

/-- RTC_SET makes a setting due, and nothing else. It waits while no edge of the 32.768 kHz clock passes; at the first edge the RTC takes CN_RTC_NEW with the fraction cleared (FAB cycles of 0.5 ns: an edge passes for every 2,000,000,000 of 32,768 per cycle). MGMT_REEF_FLOOR_WRITE of 0 to 8 sets the floor; of a reserved value it leaves it. MGMT_I3C_CFG_WRITE sets bus, speed, interrupt enables and address from their fields. MGMT_TRIP_RECORD_READ of records 0 to 63 answers the record's 64 bytes, zeros where none was written, and the hold code; it changes nothing of the device. Without AUX, or for another record, the management commands change nothing. (15 R437; 15 R440; 15 R441; 15 R443) -/
def Obligations.CrowsNest : Prop :=
  ∀ (s : State) (v : W32) (n : Nat),
    exec .rtcSet s = .next (s.updCn (fun c => { c with rtcDue := true })) ∧
    (∀ q t, q = s.dev.cn.subFrac + 32768 * n → t = s.passCycles n → s.dev.cn.rtcDue = true →
      (q < 2000000000 → t.dev.cn.rtcDue = true ∧ t.dev.cn.subFrac = q ∧ t.dev.cn.rtcNew = s.dev.cn.rtcNew) ∧
      (2000000000 ≤ q → q < 4000000000 → t.dev.cn.rtcDue = false ∧ t.dev.cn.rtc = s.dev.cn.rtcNew.toNat % 2 ^ 48 ∧ t.dev.cn.sub = 0 ∧
        t.dev.cn.subFrac = q - 2000000000)) ∧
    (s.dev.cn.auxOk = true →
      (fieldAt v.toNat 0 4 ≤ 8 → exec (.mgmtReefFloorWrite v) s = .next (s.updCn (fun c => { c with reefFloor := BitVec.ofNat 4 (fieldAt v.toNat 0 4) }))) ∧
      (8 < fieldAt v.toNat 0 4 → exec (.mgmtReefFloorWrite v) s = .next s) ∧
      exec (.mgmtI3cCfgWrite v) s = .next (s.updCn (fun c =>
        { c with smbus := v.getLsbD 31, fast := v.getLsbD 30, ibiEn := BitVec.ofNat 3 (fieldAt v.toNat 8 3), i3cAddr := BitVec.ofNat 7 (fieldAt v.toNat 0 7) })) ∧
      (∀ r, n < 64 → r = Sparse.get TripRec.reset s.dev.nv.trips n →
        exec (.mgmtTripRecordRead n) s = .next (s.emit (.mgmt s.snapTick (r.bytes ++ leBytes 4 (s.dev.cn.holdArg.toNat * 2 ^ 16 + s.dev.cn.holdCode.toNat)))) ∧
        r.bytes.length = 64 ∧ (r.kind = 0 → r.bytes = List.replicate 64 0)) ∧
      (64 ≤ n → exec (.mgmtTripRecordRead n) s = .next s)) ∧
    (s.dev.cn.auxOk = false → exec (.mgmtReefFloorWrite v) s = .next s ∧ exec (.mgmtI3cCfgWrite v) s = .next s ∧ exec (.mgmtTripRecordRead n) s = .next s)

/-- TICK_BOUNDARY in FURL, in reset-hold or without AUX changes nothing. While ticks run, the tick that ends passes its last cycles, messages of it still on their way arrive, the positions end their step, the waits that end are dropped, the head ends its work, the missing verdicts are counted, and the next tick opens: its number is one higher, its cycle is 0, the crow's nest notes it, and the snapshot visible from then on is the device at that moment under that tag. The windows close on the tick's fresh counts; then a pending life-cycle transition or FURL ends the boundary, or the changes due take effect, the stamps of the old tick leave, the marker is sent, and messages and commands follow. While no ticks are counted the number stays, no snapshot is taken, and only the changes due, the messages and the collection follow. (01 R35; 05 R142; 05 R144; 05 R145; 13 R401; 15 R423; 15 R440) -/
def Obligations.TickBoundary : Prop :=
  ∀ (s u v : State),
    (s.dev.awake = false → exec .tickBoundary s = .next s) ∧
    (s.dev.awake = true → s.dev.time.runs = true → u = (s.passTick.arriveAll.closeWorks.dropWaits.closeHead.countVerdicts.closeTick).openTick → v = ((u.capture).upd Dev.newTick).closeWindows →
      u.dev.time.tick = s.dev.time.tick + 1 ∧ u.dev.time.cycle = 0 ∧ u.dev.cn.tickLast = s.dev.time.tick + 1 ∧ u.dev.cn.sinceTick = 0 ∧
      u.capture.snap = u.dev ∧ u.capture.snapTick = s.dev.time.tick + 1 ∧ u.pending = s.pending ∧ u.dev.srv.window = s.dev.srv.window ∧
      (v.goesDown = none → exec .tickBoundary s = .next ((((((v.applyFurl.applyFabric.applyRest).sendStamps s.dev.time.tick).decideStretch).sendMarker).admitWaiting).messages.collectAll)) ∧
      (∀ t, v.goesDown = some t → exec .tickBoundary s = .next t)) ∧
    (s.dev.awake = true → s.dev.time.runs = false → u = s.passTick →
      u.dev.time.tick = s.dev.time.tick ∧ u.snap = s.snap ∧ u.snapTick = s.snapTick ∧
      (u.goesDown = none → exec .tickBoundary s = .next (u.applyFurl.applyFabric.applyRest.messages.collectAll)) ∧
      (∀ t, u.goesDown = some t → exec .tickBoundary s = .next t)) ∧
    (s.dev.sec.lcPending.isSome = true → s.goesDown = some (s.warmFrom 9)) ∧
    (s.dev.sec.lcPending = none → s.dev.hk.furlDue = false → s.goesDown = none) ∧
    (s.dev.hk.furlDue = true → (s.dev.role.assigned = false → s.dev.time.st = .stopped → s.applyFurl = s.enterFurl) ∧
      (s.dev.role.assigned = true ∨ s.dev.time.st ≠ .stopped →
        s.applyFurl = s.updHk (fun h => { h with furlDue := false, refused := true, reason := 3 }))) ∧
    (∀ t, t = s.enterFurl → t.dev.rst.furl = true ∧ t.dev.rst.step = 0 ∧ t.dev.cn = s.dev.cn ∧ t.dev.pans = [] ∧ t.dev.role = {} ∧ t.dev.srv = {} ∧
      t.dev.ws.store = s.dev.ws.store ∧ t.snap = s.snap ∧ t.snapTick = s.snapTick ∧ t.hold = none ∧ t.pending = s.pending)
end

