-- ==== Sys2Proof/Laws/State.lean ====
section
/-! SUPPORT. One lemma per field per update of the state: what each named update leaves and what it changes. -/

namespace Sys2Proof.Machine

variable (s : State)

@[simp] theorem State.updRole_role (f : Role → Role) : (s.updRole f).dev.role = f s.dev.role := rfl
@[simp] theorem State.updRole_time (f : Role → Role) : (s.updRole f).dev.time = s.dev.time := rfl
@[simp] theorem State.updRole_fab (f : Role → Role) : (s.updRole f).dev.fab = s.dev.fab := rfl
@[simp] theorem State.updRole_pans (f : Role → Role) : (s.updRole f).dev.pans = s.dev.pans := rfl
@[simp] theorem State.updRole_dle (f : Role → Role) : (s.updRole f).dev.dle = s.dev.dle := rfl
@[simp] theorem State.updRole_mem (f : Role → Role) : (s.updRole f).dev.mem = s.dev.mem := rfl
@[simp] theorem State.updRole_arb (f : Role → Role) : (s.updRole f).dev.arb = s.dev.arb := rfl
@[simp] theorem State.updRole_ws (f : Role → Role) : (s.updRole f).dev.ws = s.dev.ws := rfl
@[simp] theorem State.updRole_lnk (f : Role → Role) : (s.updRole f).dev.lnk = s.dev.lnk := rfl
@[simp] theorem State.updRole_pcie (f : Role → Role) : (s.updRole f).dev.pcie = s.dev.pcie := rfl
@[simp] theorem State.updRole_srv (f : Role → Role) : (s.updRole f).dev.srv = s.dev.srv := rfl
@[simp] theorem State.updRole_chk (f : Role → Role) : (s.updRole f).dev.chk = s.dev.chk := rfl
@[simp] theorem State.updRole_sec (f : Role → Role) : (s.updRole f).dev.sec = s.dev.sec := rfl
@[simp] theorem State.updRole_nv (f : Role → Role) : (s.updRole f).dev.nv = s.dev.nv := rfl
@[simp] theorem State.updRole_rst (f : Role → Role) : (s.updRole f).dev.rst = s.dev.rst := rfl
@[simp] theorem State.updRole_hk (f : Role → Role) : (s.updRole f).dev.hk = s.dev.hk := rfl
@[simp] theorem State.updRole_cn (f : Role → Role) : (s.updRole f).dev.cn = s.dev.cn := rfl
@[simp] theorem State.updRole_snap (f : Role → Role) : (s.updRole f).snap = s.snap := rfl
@[simp] theorem State.updRole_snapTick (f : Role → Role) : (s.updRole f).snapTick = s.snapTick := rfl
@[simp] theorem State.updRole_hold (f : Role → Role) : (s.updRole f).hold = s.hold := rfl
@[simp] theorem State.updRole_holdExpired (f : Role → Role) : (s.updRole f).holdExpired = s.holdExpired := rfl
@[simp] theorem State.updRole_latches (f : Role → Role) : (s.updRole f).latches = s.latches := rfl
@[simp] theorem State.updRole_out (f : Role → Role) : (s.updRole f).out = s.out := rfl
@[simp] theorem State.updRole_freeCtr (f : Role → Role) : (s.updRole f).freeCtr = s.freeCtr := rfl
@[simp] theorem State.updRole_pending (f : Role → Role) : (s.updRole f).pending = s.pending := rfl
@[simp] theorem State.updRole_begun (f : Role → Role) : (s.updRole f).begun = s.begun := rfl
@[simp] theorem State.updTime_role (f : Time → Time) : (s.updTime f).dev.role = s.dev.role := rfl
@[simp] theorem State.updTime_time (f : Time → Time) : (s.updTime f).dev.time = f s.dev.time := rfl
@[simp] theorem State.updTime_fab (f : Time → Time) : (s.updTime f).dev.fab = s.dev.fab := rfl
@[simp] theorem State.updTime_pans (f : Time → Time) : (s.updTime f).dev.pans = s.dev.pans := rfl
@[simp] theorem State.updTime_dle (f : Time → Time) : (s.updTime f).dev.dle = s.dev.dle := rfl
@[simp] theorem State.updTime_mem (f : Time → Time) : (s.updTime f).dev.mem = s.dev.mem := rfl
@[simp] theorem State.updTime_arb (f : Time → Time) : (s.updTime f).dev.arb = s.dev.arb := rfl
@[simp] theorem State.updTime_ws (f : Time → Time) : (s.updTime f).dev.ws = s.dev.ws := rfl
@[simp] theorem State.updTime_lnk (f : Time → Time) : (s.updTime f).dev.lnk = s.dev.lnk := rfl
@[simp] theorem State.updTime_pcie (f : Time → Time) : (s.updTime f).dev.pcie = s.dev.pcie := rfl
@[simp] theorem State.updTime_srv (f : Time → Time) : (s.updTime f).dev.srv = s.dev.srv := rfl
@[simp] theorem State.updTime_chk (f : Time → Time) : (s.updTime f).dev.chk = s.dev.chk := rfl
@[simp] theorem State.updTime_sec (f : Time → Time) : (s.updTime f).dev.sec = s.dev.sec := rfl
@[simp] theorem State.updTime_nv (f : Time → Time) : (s.updTime f).dev.nv = s.dev.nv := rfl
@[simp] theorem State.updTime_rst (f : Time → Time) : (s.updTime f).dev.rst = s.dev.rst := rfl
@[simp] theorem State.updTime_hk (f : Time → Time) : (s.updTime f).dev.hk = s.dev.hk := rfl
@[simp] theorem State.updTime_cn (f : Time → Time) : (s.updTime f).dev.cn = s.dev.cn := rfl
@[simp] theorem State.updTime_snap (f : Time → Time) : (s.updTime f).snap = s.snap := rfl
@[simp] theorem State.updTime_snapTick (f : Time → Time) : (s.updTime f).snapTick = s.snapTick := rfl
@[simp] theorem State.updTime_hold (f : Time → Time) : (s.updTime f).hold = s.hold := rfl
@[simp] theorem State.updTime_holdExpired (f : Time → Time) : (s.updTime f).holdExpired = s.holdExpired := rfl
@[simp] theorem State.updTime_latches (f : Time → Time) : (s.updTime f).latches = s.latches := rfl
@[simp] theorem State.updTime_out (f : Time → Time) : (s.updTime f).out = s.out := rfl
@[simp] theorem State.updTime_freeCtr (f : Time → Time) : (s.updTime f).freeCtr = s.freeCtr := rfl
@[simp] theorem State.updTime_pending (f : Time → Time) : (s.updTime f).pending = s.pending := rfl
@[simp] theorem State.updTime_begun (f : Time → Time) : (s.updTime f).begun = s.begun := rfl
@[simp] theorem State.updFab_role (f : Fab → Fab) : (s.updFab f).dev.role = s.dev.role := rfl
@[simp] theorem State.updFab_time (f : Fab → Fab) : (s.updFab f).dev.time = s.dev.time := rfl
@[simp] theorem State.updFab_fab (f : Fab → Fab) : (s.updFab f).dev.fab = f s.dev.fab := rfl
@[simp] theorem State.updFab_pans (f : Fab → Fab) : (s.updFab f).dev.pans = s.dev.pans := rfl
@[simp] theorem State.updFab_dle (f : Fab → Fab) : (s.updFab f).dev.dle = s.dev.dle := rfl
@[simp] theorem State.updFab_mem (f : Fab → Fab) : (s.updFab f).dev.mem = s.dev.mem := rfl
@[simp] theorem State.updFab_arb (f : Fab → Fab) : (s.updFab f).dev.arb = s.dev.arb := rfl
@[simp] theorem State.updFab_ws (f : Fab → Fab) : (s.updFab f).dev.ws = s.dev.ws := rfl
@[simp] theorem State.updFab_lnk (f : Fab → Fab) : (s.updFab f).dev.lnk = s.dev.lnk := rfl
@[simp] theorem State.updFab_pcie (f : Fab → Fab) : (s.updFab f).dev.pcie = s.dev.pcie := rfl
@[simp] theorem State.updFab_srv (f : Fab → Fab) : (s.updFab f).dev.srv = s.dev.srv := rfl
@[simp] theorem State.updFab_chk (f : Fab → Fab) : (s.updFab f).dev.chk = s.dev.chk := rfl
@[simp] theorem State.updFab_sec (f : Fab → Fab) : (s.updFab f).dev.sec = s.dev.sec := rfl
@[simp] theorem State.updFab_nv (f : Fab → Fab) : (s.updFab f).dev.nv = s.dev.nv := rfl
@[simp] theorem State.updFab_rst (f : Fab → Fab) : (s.updFab f).dev.rst = s.dev.rst := rfl
@[simp] theorem State.updFab_hk (f : Fab → Fab) : (s.updFab f).dev.hk = s.dev.hk := rfl
@[simp] theorem State.updFab_cn (f : Fab → Fab) : (s.updFab f).dev.cn = s.dev.cn := rfl
@[simp] theorem State.updFab_snap (f : Fab → Fab) : (s.updFab f).snap = s.snap := rfl
@[simp] theorem State.updFab_snapTick (f : Fab → Fab) : (s.updFab f).snapTick = s.snapTick := rfl
@[simp] theorem State.updFab_hold (f : Fab → Fab) : (s.updFab f).hold = s.hold := rfl
@[simp] theorem State.updFab_holdExpired (f : Fab → Fab) : (s.updFab f).holdExpired = s.holdExpired := rfl
@[simp] theorem State.updFab_latches (f : Fab → Fab) : (s.updFab f).latches = s.latches := rfl
@[simp] theorem State.updFab_out (f : Fab → Fab) : (s.updFab f).out = s.out := rfl
@[simp] theorem State.updFab_freeCtr (f : Fab → Fab) : (s.updFab f).freeCtr = s.freeCtr := rfl
@[simp] theorem State.updFab_pending (f : Fab → Fab) : (s.updFab f).pending = s.pending := rfl
@[simp] theorem State.updFab_begun (f : Fab → Fab) : (s.updFab f).begun = s.begun := rfl
@[simp] theorem State.updDle_role (f : Dle → Dle) : (s.updDle f).dev.role = s.dev.role := rfl
@[simp] theorem State.updDle_time (f : Dle → Dle) : (s.updDle f).dev.time = s.dev.time := rfl
@[simp] theorem State.updDle_fab (f : Dle → Dle) : (s.updDle f).dev.fab = s.dev.fab := rfl
@[simp] theorem State.updDle_pans (f : Dle → Dle) : (s.updDle f).dev.pans = s.dev.pans := rfl
@[simp] theorem State.updDle_dle (f : Dle → Dle) : (s.updDle f).dev.dle = f s.dev.dle := rfl
@[simp] theorem State.updDle_mem (f : Dle → Dle) : (s.updDle f).dev.mem = s.dev.mem := rfl
@[simp] theorem State.updDle_arb (f : Dle → Dle) : (s.updDle f).dev.arb = s.dev.arb := rfl
@[simp] theorem State.updDle_ws (f : Dle → Dle) : (s.updDle f).dev.ws = s.dev.ws := rfl
@[simp] theorem State.updDle_lnk (f : Dle → Dle) : (s.updDle f).dev.lnk = s.dev.lnk := rfl
@[simp] theorem State.updDle_pcie (f : Dle → Dle) : (s.updDle f).dev.pcie = s.dev.pcie := rfl
@[simp] theorem State.updDle_srv (f : Dle → Dle) : (s.updDle f).dev.srv = s.dev.srv := rfl
@[simp] theorem State.updDle_chk (f : Dle → Dle) : (s.updDle f).dev.chk = s.dev.chk := rfl
@[simp] theorem State.updDle_sec (f : Dle → Dle) : (s.updDle f).dev.sec = s.dev.sec := rfl
@[simp] theorem State.updDle_nv (f : Dle → Dle) : (s.updDle f).dev.nv = s.dev.nv := rfl
@[simp] theorem State.updDle_rst (f : Dle → Dle) : (s.updDle f).dev.rst = s.dev.rst := rfl
@[simp] theorem State.updDle_hk (f : Dle → Dle) : (s.updDle f).dev.hk = s.dev.hk := rfl
@[simp] theorem State.updDle_cn (f : Dle → Dle) : (s.updDle f).dev.cn = s.dev.cn := rfl
@[simp] theorem State.updDle_snap (f : Dle → Dle) : (s.updDle f).snap = s.snap := rfl
@[simp] theorem State.updDle_snapTick (f : Dle → Dle) : (s.updDle f).snapTick = s.snapTick := rfl
@[simp] theorem State.updDle_hold (f : Dle → Dle) : (s.updDle f).hold = s.hold := rfl
@[simp] theorem State.updDle_holdExpired (f : Dle → Dle) : (s.updDle f).holdExpired = s.holdExpired := rfl
@[simp] theorem State.updDle_latches (f : Dle → Dle) : (s.updDle f).latches = s.latches := rfl
@[simp] theorem State.updDle_out (f : Dle → Dle) : (s.updDle f).out = s.out := rfl
@[simp] theorem State.updDle_freeCtr (f : Dle → Dle) : (s.updDle f).freeCtr = s.freeCtr := rfl
@[simp] theorem State.updDle_pending (f : Dle → Dle) : (s.updDle f).pending = s.pending := rfl
@[simp] theorem State.updDle_begun (f : Dle → Dle) : (s.updDle f).begun = s.begun := rfl
@[simp] theorem State.updWs_role (f : Ws → Ws) : (s.updWs f).dev.role = s.dev.role := rfl
@[simp] theorem State.updWs_time (f : Ws → Ws) : (s.updWs f).dev.time = s.dev.time := rfl
@[simp] theorem State.updWs_fab (f : Ws → Ws) : (s.updWs f).dev.fab = s.dev.fab := rfl
@[simp] theorem State.updWs_pans (f : Ws → Ws) : (s.updWs f).dev.pans = s.dev.pans := rfl
@[simp] theorem State.updWs_dle (f : Ws → Ws) : (s.updWs f).dev.dle = s.dev.dle := rfl
@[simp] theorem State.updWs_mem (f : Ws → Ws) : (s.updWs f).dev.mem = s.dev.mem := rfl
@[simp] theorem State.updWs_arb (f : Ws → Ws) : (s.updWs f).dev.arb = s.dev.arb := rfl
@[simp] theorem State.updWs_ws (f : Ws → Ws) : (s.updWs f).dev.ws = f s.dev.ws := rfl
@[simp] theorem State.updWs_lnk (f : Ws → Ws) : (s.updWs f).dev.lnk = s.dev.lnk := rfl
@[simp] theorem State.updWs_pcie (f : Ws → Ws) : (s.updWs f).dev.pcie = s.dev.pcie := rfl
@[simp] theorem State.updWs_srv (f : Ws → Ws) : (s.updWs f).dev.srv = s.dev.srv := rfl
@[simp] theorem State.updWs_chk (f : Ws → Ws) : (s.updWs f).dev.chk = s.dev.chk := rfl
@[simp] theorem State.updWs_sec (f : Ws → Ws) : (s.updWs f).dev.sec = s.dev.sec := rfl
@[simp] theorem State.updWs_nv (f : Ws → Ws) : (s.updWs f).dev.nv = s.dev.nv := rfl
@[simp] theorem State.updWs_rst (f : Ws → Ws) : (s.updWs f).dev.rst = s.dev.rst := rfl
@[simp] theorem State.updWs_hk (f : Ws → Ws) : (s.updWs f).dev.hk = s.dev.hk := rfl
@[simp] theorem State.updWs_cn (f : Ws → Ws) : (s.updWs f).dev.cn = s.dev.cn := rfl
@[simp] theorem State.updWs_snap (f : Ws → Ws) : (s.updWs f).snap = s.snap := rfl
@[simp] theorem State.updWs_snapTick (f : Ws → Ws) : (s.updWs f).snapTick = s.snapTick := rfl
@[simp] theorem State.updWs_hold (f : Ws → Ws) : (s.updWs f).hold = s.hold := rfl
@[simp] theorem State.updWs_holdExpired (f : Ws → Ws) : (s.updWs f).holdExpired = s.holdExpired := rfl
@[simp] theorem State.updWs_latches (f : Ws → Ws) : (s.updWs f).latches = s.latches := rfl
@[simp] theorem State.updWs_out (f : Ws → Ws) : (s.updWs f).out = s.out := rfl
@[simp] theorem State.updWs_freeCtr (f : Ws → Ws) : (s.updWs f).freeCtr = s.freeCtr := rfl
@[simp] theorem State.updWs_pending (f : Ws → Ws) : (s.updWs f).pending = s.pending := rfl
@[simp] theorem State.updWs_begun (f : Ws → Ws) : (s.updWs f).begun = s.begun := rfl
@[simp] theorem State.updLnk_role (f : Lnk → Lnk) : (s.updLnk f).dev.role = s.dev.role := rfl
@[simp] theorem State.updLnk_time (f : Lnk → Lnk) : (s.updLnk f).dev.time = s.dev.time := rfl
@[simp] theorem State.updLnk_fab (f : Lnk → Lnk) : (s.updLnk f).dev.fab = s.dev.fab := rfl
@[simp] theorem State.updLnk_pans (f : Lnk → Lnk) : (s.updLnk f).dev.pans = s.dev.pans := rfl
@[simp] theorem State.updLnk_dle (f : Lnk → Lnk) : (s.updLnk f).dev.dle = s.dev.dle := rfl
@[simp] theorem State.updLnk_mem (f : Lnk → Lnk) : (s.updLnk f).dev.mem = s.dev.mem := rfl
@[simp] theorem State.updLnk_arb (f : Lnk → Lnk) : (s.updLnk f).dev.arb = s.dev.arb := rfl
@[simp] theorem State.updLnk_ws (f : Lnk → Lnk) : (s.updLnk f).dev.ws = s.dev.ws := rfl
@[simp] theorem State.updLnk_lnk (f : Lnk → Lnk) : (s.updLnk f).dev.lnk = f s.dev.lnk := rfl
@[simp] theorem State.updLnk_pcie (f : Lnk → Lnk) : (s.updLnk f).dev.pcie = s.dev.pcie := rfl
@[simp] theorem State.updLnk_srv (f : Lnk → Lnk) : (s.updLnk f).dev.srv = s.dev.srv := rfl
@[simp] theorem State.updLnk_chk (f : Lnk → Lnk) : (s.updLnk f).dev.chk = s.dev.chk := rfl
@[simp] theorem State.updLnk_sec (f : Lnk → Lnk) : (s.updLnk f).dev.sec = s.dev.sec := rfl
@[simp] theorem State.updLnk_nv (f : Lnk → Lnk) : (s.updLnk f).dev.nv = s.dev.nv := rfl
@[simp] theorem State.updLnk_rst (f : Lnk → Lnk) : (s.updLnk f).dev.rst = s.dev.rst := rfl
@[simp] theorem State.updLnk_hk (f : Lnk → Lnk) : (s.updLnk f).dev.hk = s.dev.hk := rfl
@[simp] theorem State.updLnk_cn (f : Lnk → Lnk) : (s.updLnk f).dev.cn = s.dev.cn := rfl
@[simp] theorem State.updLnk_snap (f : Lnk → Lnk) : (s.updLnk f).snap = s.snap := rfl
@[simp] theorem State.updLnk_snapTick (f : Lnk → Lnk) : (s.updLnk f).snapTick = s.snapTick := rfl
@[simp] theorem State.updLnk_hold (f : Lnk → Lnk) : (s.updLnk f).hold = s.hold := rfl
@[simp] theorem State.updLnk_holdExpired (f : Lnk → Lnk) : (s.updLnk f).holdExpired = s.holdExpired := rfl
@[simp] theorem State.updLnk_latches (f : Lnk → Lnk) : (s.updLnk f).latches = s.latches := rfl
@[simp] theorem State.updLnk_out (f : Lnk → Lnk) : (s.updLnk f).out = s.out := rfl
@[simp] theorem State.updLnk_freeCtr (f : Lnk → Lnk) : (s.updLnk f).freeCtr = s.freeCtr := rfl
@[simp] theorem State.updLnk_pending (f : Lnk → Lnk) : (s.updLnk f).pending = s.pending := rfl
@[simp] theorem State.updLnk_begun (f : Lnk → Lnk) : (s.updLnk f).begun = s.begun := rfl
@[simp] theorem State.updPcie_role (f : Pcie → Pcie) : (s.updPcie f).dev.role = s.dev.role := rfl
@[simp] theorem State.updPcie_time (f : Pcie → Pcie) : (s.updPcie f).dev.time = s.dev.time := rfl
@[simp] theorem State.updPcie_fab (f : Pcie → Pcie) : (s.updPcie f).dev.fab = s.dev.fab := rfl
@[simp] theorem State.updPcie_pans (f : Pcie → Pcie) : (s.updPcie f).dev.pans = s.dev.pans := rfl
@[simp] theorem State.updPcie_dle (f : Pcie → Pcie) : (s.updPcie f).dev.dle = s.dev.dle := rfl
@[simp] theorem State.updPcie_mem (f : Pcie → Pcie) : (s.updPcie f).dev.mem = s.dev.mem := rfl
@[simp] theorem State.updPcie_arb (f : Pcie → Pcie) : (s.updPcie f).dev.arb = s.dev.arb := rfl
@[simp] theorem State.updPcie_ws (f : Pcie → Pcie) : (s.updPcie f).dev.ws = s.dev.ws := rfl
@[simp] theorem State.updPcie_lnk (f : Pcie → Pcie) : (s.updPcie f).dev.lnk = s.dev.lnk := rfl
@[simp] theorem State.updPcie_pcie (f : Pcie → Pcie) : (s.updPcie f).dev.pcie = f s.dev.pcie := rfl
@[simp] theorem State.updPcie_srv (f : Pcie → Pcie) : (s.updPcie f).dev.srv = s.dev.srv := rfl
@[simp] theorem State.updPcie_chk (f : Pcie → Pcie) : (s.updPcie f).dev.chk = s.dev.chk := rfl
@[simp] theorem State.updPcie_sec (f : Pcie → Pcie) : (s.updPcie f).dev.sec = s.dev.sec := rfl
@[simp] theorem State.updPcie_nv (f : Pcie → Pcie) : (s.updPcie f).dev.nv = s.dev.nv := rfl
@[simp] theorem State.updPcie_rst (f : Pcie → Pcie) : (s.updPcie f).dev.rst = s.dev.rst := rfl
@[simp] theorem State.updPcie_hk (f : Pcie → Pcie) : (s.updPcie f).dev.hk = s.dev.hk := rfl
@[simp] theorem State.updPcie_cn (f : Pcie → Pcie) : (s.updPcie f).dev.cn = s.dev.cn := rfl
@[simp] theorem State.updPcie_snap (f : Pcie → Pcie) : (s.updPcie f).snap = s.snap := rfl
@[simp] theorem State.updPcie_snapTick (f : Pcie → Pcie) : (s.updPcie f).snapTick = s.snapTick := rfl
@[simp] theorem State.updPcie_hold (f : Pcie → Pcie) : (s.updPcie f).hold = s.hold := rfl
@[simp] theorem State.updPcie_holdExpired (f : Pcie → Pcie) : (s.updPcie f).holdExpired = s.holdExpired := rfl
@[simp] theorem State.updPcie_latches (f : Pcie → Pcie) : (s.updPcie f).latches = s.latches := rfl
@[simp] theorem State.updPcie_out (f : Pcie → Pcie) : (s.updPcie f).out = s.out := rfl
@[simp] theorem State.updPcie_freeCtr (f : Pcie → Pcie) : (s.updPcie f).freeCtr = s.freeCtr := rfl
@[simp] theorem State.updPcie_pending (f : Pcie → Pcie) : (s.updPcie f).pending = s.pending := rfl
@[simp] theorem State.updPcie_begun (f : Pcie → Pcie) : (s.updPcie f).begun = s.begun := rfl
@[simp] theorem State.updSrv_role (f : Srv → Srv) : (s.updSrv f).dev.role = s.dev.role := rfl
@[simp] theorem State.updSrv_time (f : Srv → Srv) : (s.updSrv f).dev.time = s.dev.time := rfl
@[simp] theorem State.updSrv_fab (f : Srv → Srv) : (s.updSrv f).dev.fab = s.dev.fab := rfl
@[simp] theorem State.updSrv_pans (f : Srv → Srv) : (s.updSrv f).dev.pans = s.dev.pans := rfl
@[simp] theorem State.updSrv_dle (f : Srv → Srv) : (s.updSrv f).dev.dle = s.dev.dle := rfl
@[simp] theorem State.updSrv_mem (f : Srv → Srv) : (s.updSrv f).dev.mem = s.dev.mem := rfl
@[simp] theorem State.updSrv_arb (f : Srv → Srv) : (s.updSrv f).dev.arb = s.dev.arb := rfl
@[simp] theorem State.updSrv_ws (f : Srv → Srv) : (s.updSrv f).dev.ws = s.dev.ws := rfl
@[simp] theorem State.updSrv_lnk (f : Srv → Srv) : (s.updSrv f).dev.lnk = s.dev.lnk := rfl
@[simp] theorem State.updSrv_pcie (f : Srv → Srv) : (s.updSrv f).dev.pcie = s.dev.pcie := rfl
@[simp] theorem State.updSrv_srv (f : Srv → Srv) : (s.updSrv f).dev.srv = f s.dev.srv := rfl
@[simp] theorem State.updSrv_chk (f : Srv → Srv) : (s.updSrv f).dev.chk = s.dev.chk := rfl
@[simp] theorem State.updSrv_sec (f : Srv → Srv) : (s.updSrv f).dev.sec = s.dev.sec := rfl
@[simp] theorem State.updSrv_nv (f : Srv → Srv) : (s.updSrv f).dev.nv = s.dev.nv := rfl
@[simp] theorem State.updSrv_rst (f : Srv → Srv) : (s.updSrv f).dev.rst = s.dev.rst := rfl
@[simp] theorem State.updSrv_hk (f : Srv → Srv) : (s.updSrv f).dev.hk = s.dev.hk := rfl
@[simp] theorem State.updSrv_cn (f : Srv → Srv) : (s.updSrv f).dev.cn = s.dev.cn := rfl
@[simp] theorem State.updSrv_snap (f : Srv → Srv) : (s.updSrv f).snap = s.snap := rfl
@[simp] theorem State.updSrv_snapTick (f : Srv → Srv) : (s.updSrv f).snapTick = s.snapTick := rfl
@[simp] theorem State.updSrv_hold (f : Srv → Srv) : (s.updSrv f).hold = s.hold := rfl
@[simp] theorem State.updSrv_holdExpired (f : Srv → Srv) : (s.updSrv f).holdExpired = s.holdExpired := rfl
@[simp] theorem State.updSrv_latches (f : Srv → Srv) : (s.updSrv f).latches = s.latches := rfl
@[simp] theorem State.updSrv_out (f : Srv → Srv) : (s.updSrv f).out = s.out := rfl
@[simp] theorem State.updSrv_freeCtr (f : Srv → Srv) : (s.updSrv f).freeCtr = s.freeCtr := rfl
@[simp] theorem State.updSrv_pending (f : Srv → Srv) : (s.updSrv f).pending = s.pending := rfl
@[simp] theorem State.updSrv_begun (f : Srv → Srv) : (s.updSrv f).begun = s.begun := rfl
@[simp] theorem State.updChk_role (f : Chk → Chk) : (s.updChk f).dev.role = s.dev.role := rfl
@[simp] theorem State.updChk_time (f : Chk → Chk) : (s.updChk f).dev.time = s.dev.time := rfl
@[simp] theorem State.updChk_fab (f : Chk → Chk) : (s.updChk f).dev.fab = s.dev.fab := rfl
@[simp] theorem State.updChk_pans (f : Chk → Chk) : (s.updChk f).dev.pans = s.dev.pans := rfl
@[simp] theorem State.updChk_dle (f : Chk → Chk) : (s.updChk f).dev.dle = s.dev.dle := rfl
@[simp] theorem State.updChk_mem (f : Chk → Chk) : (s.updChk f).dev.mem = s.dev.mem := rfl
@[simp] theorem State.updChk_arb (f : Chk → Chk) : (s.updChk f).dev.arb = s.dev.arb := rfl
@[simp] theorem State.updChk_ws (f : Chk → Chk) : (s.updChk f).dev.ws = s.dev.ws := rfl
@[simp] theorem State.updChk_lnk (f : Chk → Chk) : (s.updChk f).dev.lnk = s.dev.lnk := rfl
@[simp] theorem State.updChk_pcie (f : Chk → Chk) : (s.updChk f).dev.pcie = s.dev.pcie := rfl
@[simp] theorem State.updChk_srv (f : Chk → Chk) : (s.updChk f).dev.srv = s.dev.srv := rfl
@[simp] theorem State.updChk_chk (f : Chk → Chk) : (s.updChk f).dev.chk = f s.dev.chk := rfl
@[simp] theorem State.updChk_sec (f : Chk → Chk) : (s.updChk f).dev.sec = s.dev.sec := rfl
@[simp] theorem State.updChk_nv (f : Chk → Chk) : (s.updChk f).dev.nv = s.dev.nv := rfl
@[simp] theorem State.updChk_rst (f : Chk → Chk) : (s.updChk f).dev.rst = s.dev.rst := rfl
@[simp] theorem State.updChk_hk (f : Chk → Chk) : (s.updChk f).dev.hk = s.dev.hk := rfl
@[simp] theorem State.updChk_cn (f : Chk → Chk) : (s.updChk f).dev.cn = s.dev.cn := rfl
@[simp] theorem State.updChk_snap (f : Chk → Chk) : (s.updChk f).snap = s.snap := rfl
@[simp] theorem State.updChk_snapTick (f : Chk → Chk) : (s.updChk f).snapTick = s.snapTick := rfl
@[simp] theorem State.updChk_hold (f : Chk → Chk) : (s.updChk f).hold = s.hold := rfl
@[simp] theorem State.updChk_holdExpired (f : Chk → Chk) : (s.updChk f).holdExpired = s.holdExpired := rfl
@[simp] theorem State.updChk_latches (f : Chk → Chk) : (s.updChk f).latches = s.latches := rfl
@[simp] theorem State.updChk_out (f : Chk → Chk) : (s.updChk f).out = s.out := rfl
@[simp] theorem State.updChk_freeCtr (f : Chk → Chk) : (s.updChk f).freeCtr = s.freeCtr := rfl
@[simp] theorem State.updChk_pending (f : Chk → Chk) : (s.updChk f).pending = s.pending := rfl
@[simp] theorem State.updChk_begun (f : Chk → Chk) : (s.updChk f).begun = s.begun := rfl
@[simp] theorem State.updSec_role (f : Sec → Sec) : (s.updSec f).dev.role = s.dev.role := rfl
@[simp] theorem State.updSec_time (f : Sec → Sec) : (s.updSec f).dev.time = s.dev.time := rfl
@[simp] theorem State.updSec_fab (f : Sec → Sec) : (s.updSec f).dev.fab = s.dev.fab := rfl
@[simp] theorem State.updSec_pans (f : Sec → Sec) : (s.updSec f).dev.pans = s.dev.pans := rfl
@[simp] theorem State.updSec_dle (f : Sec → Sec) : (s.updSec f).dev.dle = s.dev.dle := rfl
@[simp] theorem State.updSec_mem (f : Sec → Sec) : (s.updSec f).dev.mem = s.dev.mem := rfl
@[simp] theorem State.updSec_arb (f : Sec → Sec) : (s.updSec f).dev.arb = s.dev.arb := rfl
@[simp] theorem State.updSec_ws (f : Sec → Sec) : (s.updSec f).dev.ws = s.dev.ws := rfl
@[simp] theorem State.updSec_lnk (f : Sec → Sec) : (s.updSec f).dev.lnk = s.dev.lnk := rfl
@[simp] theorem State.updSec_pcie (f : Sec → Sec) : (s.updSec f).dev.pcie = s.dev.pcie := rfl
@[simp] theorem State.updSec_srv (f : Sec → Sec) : (s.updSec f).dev.srv = s.dev.srv := rfl
@[simp] theorem State.updSec_chk (f : Sec → Sec) : (s.updSec f).dev.chk = s.dev.chk := rfl
@[simp] theorem State.updSec_sec (f : Sec → Sec) : (s.updSec f).dev.sec = f s.dev.sec := rfl
@[simp] theorem State.updSec_nv (f : Sec → Sec) : (s.updSec f).dev.nv = s.dev.nv := rfl
@[simp] theorem State.updSec_rst (f : Sec → Sec) : (s.updSec f).dev.rst = s.dev.rst := rfl
@[simp] theorem State.updSec_hk (f : Sec → Sec) : (s.updSec f).dev.hk = s.dev.hk := rfl
@[simp] theorem State.updSec_cn (f : Sec → Sec) : (s.updSec f).dev.cn = s.dev.cn := rfl
@[simp] theorem State.updSec_snap (f : Sec → Sec) : (s.updSec f).snap = s.snap := rfl
@[simp] theorem State.updSec_snapTick (f : Sec → Sec) : (s.updSec f).snapTick = s.snapTick := rfl
@[simp] theorem State.updSec_hold (f : Sec → Sec) : (s.updSec f).hold = s.hold := rfl
@[simp] theorem State.updSec_holdExpired (f : Sec → Sec) : (s.updSec f).holdExpired = s.holdExpired := rfl
@[simp] theorem State.updSec_latches (f : Sec → Sec) : (s.updSec f).latches = s.latches := rfl
@[simp] theorem State.updSec_out (f : Sec → Sec) : (s.updSec f).out = s.out := rfl
@[simp] theorem State.updSec_freeCtr (f : Sec → Sec) : (s.updSec f).freeCtr = s.freeCtr := rfl
@[simp] theorem State.updSec_pending (f : Sec → Sec) : (s.updSec f).pending = s.pending := rfl
@[simp] theorem State.updSec_begun (f : Sec → Sec) : (s.updSec f).begun = s.begun := rfl
@[simp] theorem State.updNv_role (f : Nv → Nv) : (s.updNv f).dev.role = s.dev.role := rfl
@[simp] theorem State.updNv_time (f : Nv → Nv) : (s.updNv f).dev.time = s.dev.time := rfl
@[simp] theorem State.updNv_fab (f : Nv → Nv) : (s.updNv f).dev.fab = s.dev.fab := rfl
@[simp] theorem State.updNv_pans (f : Nv → Nv) : (s.updNv f).dev.pans = s.dev.pans := rfl
@[simp] theorem State.updNv_dle (f : Nv → Nv) : (s.updNv f).dev.dle = s.dev.dle := rfl
@[simp] theorem State.updNv_mem (f : Nv → Nv) : (s.updNv f).dev.mem = s.dev.mem := rfl
@[simp] theorem State.updNv_arb (f : Nv → Nv) : (s.updNv f).dev.arb = s.dev.arb := rfl
@[simp] theorem State.updNv_ws (f : Nv → Nv) : (s.updNv f).dev.ws = s.dev.ws := rfl
@[simp] theorem State.updNv_lnk (f : Nv → Nv) : (s.updNv f).dev.lnk = s.dev.lnk := rfl
@[simp] theorem State.updNv_pcie (f : Nv → Nv) : (s.updNv f).dev.pcie = s.dev.pcie := rfl
@[simp] theorem State.updNv_srv (f : Nv → Nv) : (s.updNv f).dev.srv = s.dev.srv := rfl
@[simp] theorem State.updNv_chk (f : Nv → Nv) : (s.updNv f).dev.chk = s.dev.chk := rfl
@[simp] theorem State.updNv_sec (f : Nv → Nv) : (s.updNv f).dev.sec = s.dev.sec := rfl
@[simp] theorem State.updNv_nv (f : Nv → Nv) : (s.updNv f).dev.nv = f s.dev.nv := rfl
@[simp] theorem State.updNv_rst (f : Nv → Nv) : (s.updNv f).dev.rst = s.dev.rst := rfl
@[simp] theorem State.updNv_hk (f : Nv → Nv) : (s.updNv f).dev.hk = s.dev.hk := rfl
@[simp] theorem State.updNv_cn (f : Nv → Nv) : (s.updNv f).dev.cn = s.dev.cn := rfl
@[simp] theorem State.updNv_snap (f : Nv → Nv) : (s.updNv f).snap = s.snap := rfl
@[simp] theorem State.updNv_snapTick (f : Nv → Nv) : (s.updNv f).snapTick = s.snapTick := rfl
@[simp] theorem State.updNv_hold (f : Nv → Nv) : (s.updNv f).hold = s.hold := rfl
@[simp] theorem State.updNv_holdExpired (f : Nv → Nv) : (s.updNv f).holdExpired = s.holdExpired := rfl
@[simp] theorem State.updNv_latches (f : Nv → Nv) : (s.updNv f).latches = s.latches := rfl
@[simp] theorem State.updNv_out (f : Nv → Nv) : (s.updNv f).out = s.out := rfl
@[simp] theorem State.updNv_freeCtr (f : Nv → Nv) : (s.updNv f).freeCtr = s.freeCtr := rfl
@[simp] theorem State.updNv_pending (f : Nv → Nv) : (s.updNv f).pending = s.pending := rfl
@[simp] theorem State.updNv_begun (f : Nv → Nv) : (s.updNv f).begun = s.begun := rfl
@[simp] theorem State.updRst_role (f : Rst → Rst) : (s.updRst f).dev.role = s.dev.role := rfl
@[simp] theorem State.updRst_time (f : Rst → Rst) : (s.updRst f).dev.time = s.dev.time := rfl
@[simp] theorem State.updRst_fab (f : Rst → Rst) : (s.updRst f).dev.fab = s.dev.fab := rfl
@[simp] theorem State.updRst_pans (f : Rst → Rst) : (s.updRst f).dev.pans = s.dev.pans := rfl
@[simp] theorem State.updRst_dle (f : Rst → Rst) : (s.updRst f).dev.dle = s.dev.dle := rfl
@[simp] theorem State.updRst_mem (f : Rst → Rst) : (s.updRst f).dev.mem = s.dev.mem := rfl
@[simp] theorem State.updRst_arb (f : Rst → Rst) : (s.updRst f).dev.arb = s.dev.arb := rfl
@[simp] theorem State.updRst_ws (f : Rst → Rst) : (s.updRst f).dev.ws = s.dev.ws := rfl
@[simp] theorem State.updRst_lnk (f : Rst → Rst) : (s.updRst f).dev.lnk = s.dev.lnk := rfl
@[simp] theorem State.updRst_pcie (f : Rst → Rst) : (s.updRst f).dev.pcie = s.dev.pcie := rfl
@[simp] theorem State.updRst_srv (f : Rst → Rst) : (s.updRst f).dev.srv = s.dev.srv := rfl
@[simp] theorem State.updRst_chk (f : Rst → Rst) : (s.updRst f).dev.chk = s.dev.chk := rfl
@[simp] theorem State.updRst_sec (f : Rst → Rst) : (s.updRst f).dev.sec = s.dev.sec := rfl
@[simp] theorem State.updRst_nv (f : Rst → Rst) : (s.updRst f).dev.nv = s.dev.nv := rfl
@[simp] theorem State.updRst_rst (f : Rst → Rst) : (s.updRst f).dev.rst = f s.dev.rst := rfl
@[simp] theorem State.updRst_hk (f : Rst → Rst) : (s.updRst f).dev.hk = s.dev.hk := rfl
@[simp] theorem State.updRst_cn (f : Rst → Rst) : (s.updRst f).dev.cn = s.dev.cn := rfl
@[simp] theorem State.updRst_snap (f : Rst → Rst) : (s.updRst f).snap = s.snap := rfl
@[simp] theorem State.updRst_snapTick (f : Rst → Rst) : (s.updRst f).snapTick = s.snapTick := rfl
@[simp] theorem State.updRst_hold (f : Rst → Rst) : (s.updRst f).hold = s.hold := rfl
@[simp] theorem State.updRst_holdExpired (f : Rst → Rst) : (s.updRst f).holdExpired = s.holdExpired := rfl
@[simp] theorem State.updRst_latches (f : Rst → Rst) : (s.updRst f).latches = s.latches := rfl
@[simp] theorem State.updRst_out (f : Rst → Rst) : (s.updRst f).out = s.out := rfl
@[simp] theorem State.updRst_freeCtr (f : Rst → Rst) : (s.updRst f).freeCtr = s.freeCtr := rfl
@[simp] theorem State.updRst_pending (f : Rst → Rst) : (s.updRst f).pending = s.pending := rfl
@[simp] theorem State.updRst_begun (f : Rst → Rst) : (s.updRst f).begun = s.begun := rfl
@[simp] theorem State.updHk_role (f : Hk → Hk) : (s.updHk f).dev.role = s.dev.role := rfl
@[simp] theorem State.updHk_time (f : Hk → Hk) : (s.updHk f).dev.time = s.dev.time := rfl
@[simp] theorem State.updHk_fab (f : Hk → Hk) : (s.updHk f).dev.fab = s.dev.fab := rfl
@[simp] theorem State.updHk_pans (f : Hk → Hk) : (s.updHk f).dev.pans = s.dev.pans := rfl
@[simp] theorem State.updHk_dle (f : Hk → Hk) : (s.updHk f).dev.dle = s.dev.dle := rfl
@[simp] theorem State.updHk_mem (f : Hk → Hk) : (s.updHk f).dev.mem = s.dev.mem := rfl
@[simp] theorem State.updHk_arb (f : Hk → Hk) : (s.updHk f).dev.arb = s.dev.arb := rfl
@[simp] theorem State.updHk_ws (f : Hk → Hk) : (s.updHk f).dev.ws = s.dev.ws := rfl
@[simp] theorem State.updHk_lnk (f : Hk → Hk) : (s.updHk f).dev.lnk = s.dev.lnk := rfl
@[simp] theorem State.updHk_pcie (f : Hk → Hk) : (s.updHk f).dev.pcie = s.dev.pcie := rfl
@[simp] theorem State.updHk_srv (f : Hk → Hk) : (s.updHk f).dev.srv = s.dev.srv := rfl
@[simp] theorem State.updHk_chk (f : Hk → Hk) : (s.updHk f).dev.chk = s.dev.chk := rfl
@[simp] theorem State.updHk_sec (f : Hk → Hk) : (s.updHk f).dev.sec = s.dev.sec := rfl
@[simp] theorem State.updHk_nv (f : Hk → Hk) : (s.updHk f).dev.nv = s.dev.nv := rfl
@[simp] theorem State.updHk_rst (f : Hk → Hk) : (s.updHk f).dev.rst = s.dev.rst := rfl
@[simp] theorem State.updHk_hk (f : Hk → Hk) : (s.updHk f).dev.hk = f s.dev.hk := rfl
@[simp] theorem State.updHk_cn (f : Hk → Hk) : (s.updHk f).dev.cn = s.dev.cn := rfl
@[simp] theorem State.updHk_snap (f : Hk → Hk) : (s.updHk f).snap = s.snap := rfl
@[simp] theorem State.updHk_snapTick (f : Hk → Hk) : (s.updHk f).snapTick = s.snapTick := rfl
@[simp] theorem State.updHk_hold (f : Hk → Hk) : (s.updHk f).hold = s.hold := rfl
@[simp] theorem State.updHk_holdExpired (f : Hk → Hk) : (s.updHk f).holdExpired = s.holdExpired := rfl
@[simp] theorem State.updHk_latches (f : Hk → Hk) : (s.updHk f).latches = s.latches := rfl
@[simp] theorem State.updHk_out (f : Hk → Hk) : (s.updHk f).out = s.out := rfl
@[simp] theorem State.updHk_freeCtr (f : Hk → Hk) : (s.updHk f).freeCtr = s.freeCtr := rfl
@[simp] theorem State.updHk_pending (f : Hk → Hk) : (s.updHk f).pending = s.pending := rfl
@[simp] theorem State.updHk_begun (f : Hk → Hk) : (s.updHk f).begun = s.begun := rfl
@[simp] theorem State.updCn_role (f : Cn → Cn) : (s.updCn f).dev.role = s.dev.role := rfl
@[simp] theorem State.updCn_time (f : Cn → Cn) : (s.updCn f).dev.time = s.dev.time := rfl
@[simp] theorem State.updCn_fab (f : Cn → Cn) : (s.updCn f).dev.fab = s.dev.fab := rfl
@[simp] theorem State.updCn_pans (f : Cn → Cn) : (s.updCn f).dev.pans = s.dev.pans := rfl
@[simp] theorem State.updCn_dle (f : Cn → Cn) : (s.updCn f).dev.dle = s.dev.dle := rfl
@[simp] theorem State.updCn_mem (f : Cn → Cn) : (s.updCn f).dev.mem = s.dev.mem := rfl
@[simp] theorem State.updCn_arb (f : Cn → Cn) : (s.updCn f).dev.arb = s.dev.arb := rfl
@[simp] theorem State.updCn_ws (f : Cn → Cn) : (s.updCn f).dev.ws = s.dev.ws := rfl
@[simp] theorem State.updCn_lnk (f : Cn → Cn) : (s.updCn f).dev.lnk = s.dev.lnk := rfl
@[simp] theorem State.updCn_pcie (f : Cn → Cn) : (s.updCn f).dev.pcie = s.dev.pcie := rfl
@[simp] theorem State.updCn_srv (f : Cn → Cn) : (s.updCn f).dev.srv = s.dev.srv := rfl
@[simp] theorem State.updCn_chk (f : Cn → Cn) : (s.updCn f).dev.chk = s.dev.chk := rfl
@[simp] theorem State.updCn_sec (f : Cn → Cn) : (s.updCn f).dev.sec = s.dev.sec := rfl
@[simp] theorem State.updCn_nv (f : Cn → Cn) : (s.updCn f).dev.nv = s.dev.nv := rfl
@[simp] theorem State.updCn_rst (f : Cn → Cn) : (s.updCn f).dev.rst = s.dev.rst := rfl
@[simp] theorem State.updCn_hk (f : Cn → Cn) : (s.updCn f).dev.hk = s.dev.hk := rfl
@[simp] theorem State.updCn_cn (f : Cn → Cn) : (s.updCn f).dev.cn = f s.dev.cn := rfl
@[simp] theorem State.updCn_snap (f : Cn → Cn) : (s.updCn f).snap = s.snap := rfl
@[simp] theorem State.updCn_snapTick (f : Cn → Cn) : (s.updCn f).snapTick = s.snapTick := rfl
@[simp] theorem State.updCn_hold (f : Cn → Cn) : (s.updCn f).hold = s.hold := rfl
@[simp] theorem State.updCn_holdExpired (f : Cn → Cn) : (s.updCn f).holdExpired = s.holdExpired := rfl
@[simp] theorem State.updCn_latches (f : Cn → Cn) : (s.updCn f).latches = s.latches := rfl
@[simp] theorem State.updCn_out (f : Cn → Cn) : (s.updCn f).out = s.out := rfl
@[simp] theorem State.updCn_freeCtr (f : Cn → Cn) : (s.updCn f).freeCtr = s.freeCtr := rfl
@[simp] theorem State.updCn_pending (f : Cn → Cn) : (s.updCn f).pending = s.pending := rfl
@[simp] theorem State.updCn_begun (f : Cn → Cn) : (s.updCn f).begun = s.begun := rfl
@[simp] theorem State.upd_snap (f : Dev → Dev) : (s.upd f).snap = s.snap := rfl
@[simp] theorem State.upd_snapTick (f : Dev → Dev) : (s.upd f).snapTick = s.snapTick := rfl
@[simp] theorem State.upd_hold (f : Dev → Dev) : (s.upd f).hold = s.hold := rfl
@[simp] theorem State.upd_holdExpired (f : Dev → Dev) : (s.upd f).holdExpired = s.holdExpired := rfl
@[simp] theorem State.upd_latches (f : Dev → Dev) : (s.upd f).latches = s.latches := rfl
@[simp] theorem State.upd_out (f : Dev → Dev) : (s.upd f).out = s.out := rfl
@[simp] theorem State.upd_freeCtr (f : Dev → Dev) : (s.upd f).freeCtr = s.freeCtr := rfl
@[simp] theorem State.upd_pending (f : Dev → Dev) : (s.upd f).pending = s.pending := rfl
@[simp] theorem State.upd_begun (f : Dev → Dev) : (s.upd f).begun = s.begun := rfl
@[simp] theorem State.upd_dev (f : Dev → Dev) : (s.upd f).dev = f s.dev := rfl
@[simp] theorem State.updPan_role (p : Nat) (f : Pan → Pan) : (s.updPan p f).dev.role = s.dev.role := rfl
@[simp] theorem State.updPan_time (p : Nat) (f : Pan → Pan) : (s.updPan p f).dev.time = s.dev.time := rfl
@[simp] theorem State.updPan_fab (p : Nat) (f : Pan → Pan) : (s.updPan p f).dev.fab = s.dev.fab := rfl
@[simp] theorem State.updPan_dle (p : Nat) (f : Pan → Pan) : (s.updPan p f).dev.dle = s.dev.dle := rfl
@[simp] theorem State.updPan_mem (p : Nat) (f : Pan → Pan) : (s.updPan p f).dev.mem = s.dev.mem := rfl
@[simp] theorem State.updPan_arb (p : Nat) (f : Pan → Pan) : (s.updPan p f).dev.arb = s.dev.arb := rfl
@[simp] theorem State.updPan_ws (p : Nat) (f : Pan → Pan) : (s.updPan p f).dev.ws = s.dev.ws := rfl
@[simp] theorem State.updPan_lnk (p : Nat) (f : Pan → Pan) : (s.updPan p f).dev.lnk = s.dev.lnk := rfl
@[simp] theorem State.updPan_pcie (p : Nat) (f : Pan → Pan) : (s.updPan p f).dev.pcie = s.dev.pcie := rfl
@[simp] theorem State.updPan_srv (p : Nat) (f : Pan → Pan) : (s.updPan p f).dev.srv = s.dev.srv := rfl
@[simp] theorem State.updPan_chk (p : Nat) (f : Pan → Pan) : (s.updPan p f).dev.chk = s.dev.chk := rfl
@[simp] theorem State.updPan_sec (p : Nat) (f : Pan → Pan) : (s.updPan p f).dev.sec = s.dev.sec := rfl
@[simp] theorem State.updPan_nv (p : Nat) (f : Pan → Pan) : (s.updPan p f).dev.nv = s.dev.nv := rfl
@[simp] theorem State.updPan_rst (p : Nat) (f : Pan → Pan) : (s.updPan p f).dev.rst = s.dev.rst := rfl
@[simp] theorem State.updPan_hk (p : Nat) (f : Pan → Pan) : (s.updPan p f).dev.hk = s.dev.hk := rfl
@[simp] theorem State.updPan_cn (p : Nat) (f : Pan → Pan) : (s.updPan p f).dev.cn = s.dev.cn := rfl
@[simp] theorem State.updPan_snap (p : Nat) (f : Pan → Pan) : (s.updPan p f).snap = s.snap := rfl
@[simp] theorem State.updPan_snapTick (p : Nat) (f : Pan → Pan) : (s.updPan p f).snapTick = s.snapTick := rfl
@[simp] theorem State.updPan_hold (p : Nat) (f : Pan → Pan) : (s.updPan p f).hold = s.hold := rfl
@[simp] theorem State.updPan_holdExpired (p : Nat) (f : Pan → Pan) : (s.updPan p f).holdExpired = s.holdExpired := rfl
@[simp] theorem State.updPan_latches (p : Nat) (f : Pan → Pan) : (s.updPan p f).latches = s.latches := rfl
@[simp] theorem State.updPan_out (p : Nat) (f : Pan → Pan) : (s.updPan p f).out = s.out := rfl
@[simp] theorem State.updPan_freeCtr (p : Nat) (f : Pan → Pan) : (s.updPan p f).freeCtr = s.freeCtr := rfl
@[simp] theorem State.updPan_pending (p : Nat) (f : Pan → Pan) : (s.updPan p f).pending = s.pending := rfl
@[simp] theorem State.updPan_begun (p : Nat) (f : Pan → Pan) : (s.updPan p f).begun = s.begun := rfl
@[simp] theorem State.updArr_role (p a : Nat) (f : Arr → Arr) : (s.updArr p a f).dev.role = s.dev.role := rfl
@[simp] theorem State.updArr_time (p a : Nat) (f : Arr → Arr) : (s.updArr p a f).dev.time = s.dev.time := rfl
@[simp] theorem State.updArr_fab (p a : Nat) (f : Arr → Arr) : (s.updArr p a f).dev.fab = s.dev.fab := rfl
@[simp] theorem State.updArr_dle (p a : Nat) (f : Arr → Arr) : (s.updArr p a f).dev.dle = s.dev.dle := rfl
@[simp] theorem State.updArr_mem (p a : Nat) (f : Arr → Arr) : (s.updArr p a f).dev.mem = s.dev.mem := rfl
@[simp] theorem State.updArr_arb (p a : Nat) (f : Arr → Arr) : (s.updArr p a f).dev.arb = s.dev.arb := rfl
@[simp] theorem State.updArr_ws (p a : Nat) (f : Arr → Arr) : (s.updArr p a f).dev.ws = s.dev.ws := rfl
@[simp] theorem State.updArr_lnk (p a : Nat) (f : Arr → Arr) : (s.updArr p a f).dev.lnk = s.dev.lnk := rfl
@[simp] theorem State.updArr_pcie (p a : Nat) (f : Arr → Arr) : (s.updArr p a f).dev.pcie = s.dev.pcie := rfl
@[simp] theorem State.updArr_srv (p a : Nat) (f : Arr → Arr) : (s.updArr p a f).dev.srv = s.dev.srv := rfl
@[simp] theorem State.updArr_chk (p a : Nat) (f : Arr → Arr) : (s.updArr p a f).dev.chk = s.dev.chk := rfl
@[simp] theorem State.updArr_sec (p a : Nat) (f : Arr → Arr) : (s.updArr p a f).dev.sec = s.dev.sec := rfl
@[simp] theorem State.updArr_nv (p a : Nat) (f : Arr → Arr) : (s.updArr p a f).dev.nv = s.dev.nv := rfl
@[simp] theorem State.updArr_rst (p a : Nat) (f : Arr → Arr) : (s.updArr p a f).dev.rst = s.dev.rst := rfl
@[simp] theorem State.updArr_hk (p a : Nat) (f : Arr → Arr) : (s.updArr p a f).dev.hk = s.dev.hk := rfl
@[simp] theorem State.updArr_cn (p a : Nat) (f : Arr → Arr) : (s.updArr p a f).dev.cn = s.dev.cn := rfl
@[simp] theorem State.updArr_snap (p a : Nat) (f : Arr → Arr) : (s.updArr p a f).snap = s.snap := rfl
@[simp] theorem State.updArr_snapTick (p a : Nat) (f : Arr → Arr) : (s.updArr p a f).snapTick = s.snapTick := rfl
@[simp] theorem State.updArr_hold (p a : Nat) (f : Arr → Arr) : (s.updArr p a f).hold = s.hold := rfl
@[simp] theorem State.updArr_holdExpired (p a : Nat) (f : Arr → Arr) : (s.updArr p a f).holdExpired = s.holdExpired := rfl
@[simp] theorem State.updArr_latches (p a : Nat) (f : Arr → Arr) : (s.updArr p a f).latches = s.latches := rfl
@[simp] theorem State.updArr_out (p a : Nat) (f : Arr → Arr) : (s.updArr p a f).out = s.out := rfl
@[simp] theorem State.updArr_freeCtr (p a : Nat) (f : Arr → Arr) : (s.updArr p a f).freeCtr = s.freeCtr := rfl
@[simp] theorem State.updArr_pending (p a : Nat) (f : Arr → Arr) : (s.updArr p a f).pending = s.pending := rfl
@[simp] theorem State.updArr_begun (p a : Nat) (f : Arr → Arr) : (s.updArr p a f).begun = s.begun := rfl
@[simp] theorem State.updMem_role (m : Nat) (f : MemPair → MemPair) : (s.updMem m f).dev.role = s.dev.role := rfl
@[simp] theorem State.updMem_time (m : Nat) (f : MemPair → MemPair) : (s.updMem m f).dev.time = s.dev.time := rfl
@[simp] theorem State.updMem_fab (m : Nat) (f : MemPair → MemPair) : (s.updMem m f).dev.fab = s.dev.fab := rfl
@[simp] theorem State.updMem_pans (m : Nat) (f : MemPair → MemPair) : (s.updMem m f).dev.pans = s.dev.pans := rfl
@[simp] theorem State.updMem_dle (m : Nat) (f : MemPair → MemPair) : (s.updMem m f).dev.dle = s.dev.dle := rfl
@[simp] theorem State.updMem_arb (m : Nat) (f : MemPair → MemPair) : (s.updMem m f).dev.arb = s.dev.arb := rfl
@[simp] theorem State.updMem_ws (m : Nat) (f : MemPair → MemPair) : (s.updMem m f).dev.ws = s.dev.ws := rfl
@[simp] theorem State.updMem_lnk (m : Nat) (f : MemPair → MemPair) : (s.updMem m f).dev.lnk = s.dev.lnk := rfl
@[simp] theorem State.updMem_pcie (m : Nat) (f : MemPair → MemPair) : (s.updMem m f).dev.pcie = s.dev.pcie := rfl
@[simp] theorem State.updMem_srv (m : Nat) (f : MemPair → MemPair) : (s.updMem m f).dev.srv = s.dev.srv := rfl
@[simp] theorem State.updMem_chk (m : Nat) (f : MemPair → MemPair) : (s.updMem m f).dev.chk = s.dev.chk := rfl
@[simp] theorem State.updMem_sec (m : Nat) (f : MemPair → MemPair) : (s.updMem m f).dev.sec = s.dev.sec := rfl
@[simp] theorem State.updMem_nv (m : Nat) (f : MemPair → MemPair) : (s.updMem m f).dev.nv = s.dev.nv := rfl
@[simp] theorem State.updMem_rst (m : Nat) (f : MemPair → MemPair) : (s.updMem m f).dev.rst = s.dev.rst := rfl
@[simp] theorem State.updMem_hk (m : Nat) (f : MemPair → MemPair) : (s.updMem m f).dev.hk = s.dev.hk := rfl
@[simp] theorem State.updMem_cn (m : Nat) (f : MemPair → MemPair) : (s.updMem m f).dev.cn = s.dev.cn := rfl
@[simp] theorem State.updMem_snap (m : Nat) (f : MemPair → MemPair) : (s.updMem m f).snap = s.snap := rfl
@[simp] theorem State.updMem_snapTick (m : Nat) (f : MemPair → MemPair) : (s.updMem m f).snapTick = s.snapTick := rfl
@[simp] theorem State.updMem_hold (m : Nat) (f : MemPair → MemPair) : (s.updMem m f).hold = s.hold := rfl
@[simp] theorem State.updMem_holdExpired (m : Nat) (f : MemPair → MemPair) : (s.updMem m f).holdExpired = s.holdExpired := rfl
@[simp] theorem State.updMem_latches (m : Nat) (f : MemPair → MemPair) : (s.updMem m f).latches = s.latches := rfl
@[simp] theorem State.updMem_out (m : Nat) (f : MemPair → MemPair) : (s.updMem m f).out = s.out := rfl
@[simp] theorem State.updMem_freeCtr (m : Nat) (f : MemPair → MemPair) : (s.updMem m f).freeCtr = s.freeCtr := rfl
@[simp] theorem State.updMem_pending (m : Nat) (f : MemPair → MemPair) : (s.updMem m f).pending = s.pending := rfl
@[simp] theorem State.updMem_begun (m : Nat) (f : MemPair → MemPair) : (s.updMem m f).begun = s.begun := rfl
@[simp] theorem State.updArb_role (r : Nat) (f : Arb → Arb) : (s.updArb r f).dev.role = s.dev.role := rfl
@[simp] theorem State.updArb_time (r : Nat) (f : Arb → Arb) : (s.updArb r f).dev.time = s.dev.time := rfl
@[simp] theorem State.updArb_fab (r : Nat) (f : Arb → Arb) : (s.updArb r f).dev.fab = s.dev.fab := rfl
@[simp] theorem State.updArb_pans (r : Nat) (f : Arb → Arb) : (s.updArb r f).dev.pans = s.dev.pans := rfl
@[simp] theorem State.updArb_dle (r : Nat) (f : Arb → Arb) : (s.updArb r f).dev.dle = s.dev.dle := rfl
@[simp] theorem State.updArb_mem (r : Nat) (f : Arb → Arb) : (s.updArb r f).dev.mem = s.dev.mem := rfl
@[simp] theorem State.updArb_ws (r : Nat) (f : Arb → Arb) : (s.updArb r f).dev.ws = s.dev.ws := rfl
@[simp] theorem State.updArb_lnk (r : Nat) (f : Arb → Arb) : (s.updArb r f).dev.lnk = s.dev.lnk := rfl
@[simp] theorem State.updArb_pcie (r : Nat) (f : Arb → Arb) : (s.updArb r f).dev.pcie = s.dev.pcie := rfl
@[simp] theorem State.updArb_srv (r : Nat) (f : Arb → Arb) : (s.updArb r f).dev.srv = s.dev.srv := rfl
@[simp] theorem State.updArb_chk (r : Nat) (f : Arb → Arb) : (s.updArb r f).dev.chk = s.dev.chk := rfl
@[simp] theorem State.updArb_sec (r : Nat) (f : Arb → Arb) : (s.updArb r f).dev.sec = s.dev.sec := rfl
@[simp] theorem State.updArb_nv (r : Nat) (f : Arb → Arb) : (s.updArb r f).dev.nv = s.dev.nv := rfl
@[simp] theorem State.updArb_rst (r : Nat) (f : Arb → Arb) : (s.updArb r f).dev.rst = s.dev.rst := rfl
@[simp] theorem State.updArb_hk (r : Nat) (f : Arb → Arb) : (s.updArb r f).dev.hk = s.dev.hk := rfl
@[simp] theorem State.updArb_cn (r : Nat) (f : Arb → Arb) : (s.updArb r f).dev.cn = s.dev.cn := rfl
@[simp] theorem State.updArb_snap (r : Nat) (f : Arb → Arb) : (s.updArb r f).snap = s.snap := rfl
@[simp] theorem State.updArb_snapTick (r : Nat) (f : Arb → Arb) : (s.updArb r f).snapTick = s.snapTick := rfl
@[simp] theorem State.updArb_hold (r : Nat) (f : Arb → Arb) : (s.updArb r f).hold = s.hold := rfl
@[simp] theorem State.updArb_holdExpired (r : Nat) (f : Arb → Arb) : (s.updArb r f).holdExpired = s.holdExpired := rfl
@[simp] theorem State.updArb_latches (r : Nat) (f : Arb → Arb) : (s.updArb r f).latches = s.latches := rfl
@[simp] theorem State.updArb_out (r : Nat) (f : Arb → Arb) : (s.updArb r f).out = s.out := rfl
@[simp] theorem State.updArb_freeCtr (r : Nat) (f : Arb → Arb) : (s.updArb r f).freeCtr = s.freeCtr := rfl
@[simp] theorem State.updArb_pending (r : Nat) (f : Arb → Arb) : (s.updArb r f).pending = s.pending := rfl
@[simp] theorem State.updArb_begun (r : Nat) (f : Arb → Arb) : (s.updArb r f).begun = s.begun := rfl
@[simp] theorem State.updPort_role (p : Nat) (f : Port → Port) : (s.updPort p f).dev.role = s.dev.role := rfl
@[simp] theorem State.updPort_time (p : Nat) (f : Port → Port) : (s.updPort p f).dev.time = s.dev.time := rfl
@[simp] theorem State.updPort_fab (p : Nat) (f : Port → Port) : (s.updPort p f).dev.fab = s.dev.fab := rfl
@[simp] theorem State.updPort_pans (p : Nat) (f : Port → Port) : (s.updPort p f).dev.pans = s.dev.pans := rfl
@[simp] theorem State.updPort_dle (p : Nat) (f : Port → Port) : (s.updPort p f).dev.dle = s.dev.dle := rfl
@[simp] theorem State.updPort_mem (p : Nat) (f : Port → Port) : (s.updPort p f).dev.mem = s.dev.mem := rfl
@[simp] theorem State.updPort_arb (p : Nat) (f : Port → Port) : (s.updPort p f).dev.arb = s.dev.arb := rfl
@[simp] theorem State.updPort_ws (p : Nat) (f : Port → Port) : (s.updPort p f).dev.ws = s.dev.ws := rfl
@[simp] theorem State.updPort_pcie (p : Nat) (f : Port → Port) : (s.updPort p f).dev.pcie = s.dev.pcie := rfl
@[simp] theorem State.updPort_srv (p : Nat) (f : Port → Port) : (s.updPort p f).dev.srv = s.dev.srv := rfl
@[simp] theorem State.updPort_chk (p : Nat) (f : Port → Port) : (s.updPort p f).dev.chk = s.dev.chk := rfl
@[simp] theorem State.updPort_sec (p : Nat) (f : Port → Port) : (s.updPort p f).dev.sec = s.dev.sec := rfl
@[simp] theorem State.updPort_nv (p : Nat) (f : Port → Port) : (s.updPort p f).dev.nv = s.dev.nv := rfl
@[simp] theorem State.updPort_rst (p : Nat) (f : Port → Port) : (s.updPort p f).dev.rst = s.dev.rst := rfl
@[simp] theorem State.updPort_hk (p : Nat) (f : Port → Port) : (s.updPort p f).dev.hk = s.dev.hk := rfl
@[simp] theorem State.updPort_cn (p : Nat) (f : Port → Port) : (s.updPort p f).dev.cn = s.dev.cn := rfl
@[simp] theorem State.updPort_snap (p : Nat) (f : Port → Port) : (s.updPort p f).snap = s.snap := rfl
@[simp] theorem State.updPort_snapTick (p : Nat) (f : Port → Port) : (s.updPort p f).snapTick = s.snapTick := rfl
@[simp] theorem State.updPort_hold (p : Nat) (f : Port → Port) : (s.updPort p f).hold = s.hold := rfl
@[simp] theorem State.updPort_holdExpired (p : Nat) (f : Port → Port) : (s.updPort p f).holdExpired = s.holdExpired := rfl
@[simp] theorem State.updPort_latches (p : Nat) (f : Port → Port) : (s.updPort p f).latches = s.latches := rfl
@[simp] theorem State.updPort_out (p : Nat) (f : Port → Port) : (s.updPort p f).out = s.out := rfl
@[simp] theorem State.updPort_freeCtr (p : Nat) (f : Port → Port) : (s.updPort p f).freeCtr = s.freeCtr := rfl
@[simp] theorem State.updPort_pending (p : Nat) (f : Port → Port) : (s.updPort p f).pending = s.pending := rfl
@[simp] theorem State.updPort_begun (p : Nat) (f : Port → Port) : (s.updPort p f).begun = s.begun := rfl
@[simp] theorem State.updFn_role (n : Nat) (f : Fn → Fn) : (s.updFn n f).dev.role = s.dev.role := rfl
@[simp] theorem State.updFn_time (n : Nat) (f : Fn → Fn) : (s.updFn n f).dev.time = s.dev.time := rfl
@[simp] theorem State.updFn_fab (n : Nat) (f : Fn → Fn) : (s.updFn n f).dev.fab = s.dev.fab := rfl
@[simp] theorem State.updFn_pans (n : Nat) (f : Fn → Fn) : (s.updFn n f).dev.pans = s.dev.pans := rfl
@[simp] theorem State.updFn_dle (n : Nat) (f : Fn → Fn) : (s.updFn n f).dev.dle = s.dev.dle := rfl
@[simp] theorem State.updFn_mem (n : Nat) (f : Fn → Fn) : (s.updFn n f).dev.mem = s.dev.mem := rfl
@[simp] theorem State.updFn_arb (n : Nat) (f : Fn → Fn) : (s.updFn n f).dev.arb = s.dev.arb := rfl
@[simp] theorem State.updFn_ws (n : Nat) (f : Fn → Fn) : (s.updFn n f).dev.ws = s.dev.ws := rfl
@[simp] theorem State.updFn_lnk (n : Nat) (f : Fn → Fn) : (s.updFn n f).dev.lnk = s.dev.lnk := rfl
@[simp] theorem State.updFn_pcie (n : Nat) (f : Fn → Fn) : (s.updFn n f).dev.pcie = s.dev.pcie := rfl
@[simp] theorem State.updFn_chk (n : Nat) (f : Fn → Fn) : (s.updFn n f).dev.chk = s.dev.chk := rfl
@[simp] theorem State.updFn_sec (n : Nat) (f : Fn → Fn) : (s.updFn n f).dev.sec = s.dev.sec := rfl
@[simp] theorem State.updFn_nv (n : Nat) (f : Fn → Fn) : (s.updFn n f).dev.nv = s.dev.nv := rfl
@[simp] theorem State.updFn_rst (n : Nat) (f : Fn → Fn) : (s.updFn n f).dev.rst = s.dev.rst := rfl
@[simp] theorem State.updFn_hk (n : Nat) (f : Fn → Fn) : (s.updFn n f).dev.hk = s.dev.hk := rfl
@[simp] theorem State.updFn_cn (n : Nat) (f : Fn → Fn) : (s.updFn n f).dev.cn = s.dev.cn := rfl
@[simp] theorem State.updFn_snap (n : Nat) (f : Fn → Fn) : (s.updFn n f).snap = s.snap := rfl
@[simp] theorem State.updFn_snapTick (n : Nat) (f : Fn → Fn) : (s.updFn n f).snapTick = s.snapTick := rfl
@[simp] theorem State.updFn_hold (n : Nat) (f : Fn → Fn) : (s.updFn n f).hold = s.hold := rfl
@[simp] theorem State.updFn_holdExpired (n : Nat) (f : Fn → Fn) : (s.updFn n f).holdExpired = s.holdExpired := rfl
@[simp] theorem State.updFn_latches (n : Nat) (f : Fn → Fn) : (s.updFn n f).latches = s.latches := rfl
@[simp] theorem State.updFn_out (n : Nat) (f : Fn → Fn) : (s.updFn n f).out = s.out := rfl
@[simp] theorem State.updFn_freeCtr (n : Nat) (f : Fn → Fn) : (s.updFn n f).freeCtr = s.freeCtr := rfl
@[simp] theorem State.updFn_pending (n : Nat) (f : Fn → Fn) : (s.updFn n f).pending = s.pending := rfl
@[simp] theorem State.updFn_begun (n : Nat) (f : Fn → Fn) : (s.updFn n f).begun = s.begun := rfl
@[simp] theorem State.updRing_role (n r : Nat) (f : Ring → Ring) : (s.updRing n r f).dev.role = s.dev.role := rfl
@[simp] theorem State.updRing_time (n r : Nat) (f : Ring → Ring) : (s.updRing n r f).dev.time = s.dev.time := rfl
@[simp] theorem State.updRing_fab (n r : Nat) (f : Ring → Ring) : (s.updRing n r f).dev.fab = s.dev.fab := rfl
@[simp] theorem State.updRing_pans (n r : Nat) (f : Ring → Ring) : (s.updRing n r f).dev.pans = s.dev.pans := rfl
@[simp] theorem State.updRing_dle (n r : Nat) (f : Ring → Ring) : (s.updRing n r f).dev.dle = s.dev.dle := rfl
@[simp] theorem State.updRing_mem (n r : Nat) (f : Ring → Ring) : (s.updRing n r f).dev.mem = s.dev.mem := rfl
@[simp] theorem State.updRing_arb (n r : Nat) (f : Ring → Ring) : (s.updRing n r f).dev.arb = s.dev.arb := rfl
@[simp] theorem State.updRing_ws (n r : Nat) (f : Ring → Ring) : (s.updRing n r f).dev.ws = s.dev.ws := rfl
@[simp] theorem State.updRing_lnk (n r : Nat) (f : Ring → Ring) : (s.updRing n r f).dev.lnk = s.dev.lnk := rfl
@[simp] theorem State.updRing_pcie (n r : Nat) (f : Ring → Ring) : (s.updRing n r f).dev.pcie = s.dev.pcie := rfl
@[simp] theorem State.updRing_chk (n r : Nat) (f : Ring → Ring) : (s.updRing n r f).dev.chk = s.dev.chk := rfl
@[simp] theorem State.updRing_sec (n r : Nat) (f : Ring → Ring) : (s.updRing n r f).dev.sec = s.dev.sec := rfl
@[simp] theorem State.updRing_nv (n r : Nat) (f : Ring → Ring) : (s.updRing n r f).dev.nv = s.dev.nv := rfl
@[simp] theorem State.updRing_rst (n r : Nat) (f : Ring → Ring) : (s.updRing n r f).dev.rst = s.dev.rst := rfl
@[simp] theorem State.updRing_hk (n r : Nat) (f : Ring → Ring) : (s.updRing n r f).dev.hk = s.dev.hk := rfl
@[simp] theorem State.updRing_cn (n r : Nat) (f : Ring → Ring) : (s.updRing n r f).dev.cn = s.dev.cn := rfl
@[simp] theorem State.updRing_snap (n r : Nat) (f : Ring → Ring) : (s.updRing n r f).snap = s.snap := rfl
@[simp] theorem State.updRing_snapTick (n r : Nat) (f : Ring → Ring) : (s.updRing n r f).snapTick = s.snapTick := rfl
@[simp] theorem State.updRing_hold (n r : Nat) (f : Ring → Ring) : (s.updRing n r f).hold = s.hold := rfl
@[simp] theorem State.updRing_holdExpired (n r : Nat) (f : Ring → Ring) : (s.updRing n r f).holdExpired = s.holdExpired := rfl
@[simp] theorem State.updRing_latches (n r : Nat) (f : Ring → Ring) : (s.updRing n r f).latches = s.latches := rfl
@[simp] theorem State.updRing_out (n r : Nat) (f : Ring → Ring) : (s.updRing n r f).out = s.out := rfl
@[simp] theorem State.updRing_freeCtr (n r : Nat) (f : Ring → Ring) : (s.updRing n r f).freeCtr = s.freeCtr := rfl
@[simp] theorem State.updRing_pending (n r : Nat) (f : Ring → Ring) : (s.updRing n r f).pending = s.pending := rfl
@[simp] theorem State.updRing_begun (n r : Nat) (f : Ring → Ring) : (s.updRing n r f).begun = s.begun := rfl
@[simp] theorem State.updFnCfg_role (n : Nat) (f : FnCfg → FnCfg) : (s.updFnCfg n f).dev.role = s.dev.role := rfl
@[simp] theorem State.updFnCfg_time (n : Nat) (f : FnCfg → FnCfg) : (s.updFnCfg n f).dev.time = s.dev.time := rfl
@[simp] theorem State.updFnCfg_fab (n : Nat) (f : FnCfg → FnCfg) : (s.updFnCfg n f).dev.fab = s.dev.fab := rfl
@[simp] theorem State.updFnCfg_pans (n : Nat) (f : FnCfg → FnCfg) : (s.updFnCfg n f).dev.pans = s.dev.pans := rfl
@[simp] theorem State.updFnCfg_dle (n : Nat) (f : FnCfg → FnCfg) : (s.updFnCfg n f).dev.dle = s.dev.dle := rfl
@[simp] theorem State.updFnCfg_mem (n : Nat) (f : FnCfg → FnCfg) : (s.updFnCfg n f).dev.mem = s.dev.mem := rfl
@[simp] theorem State.updFnCfg_arb (n : Nat) (f : FnCfg → FnCfg) : (s.updFnCfg n f).dev.arb = s.dev.arb := rfl
@[simp] theorem State.updFnCfg_ws (n : Nat) (f : FnCfg → FnCfg) : (s.updFnCfg n f).dev.ws = s.dev.ws := rfl
@[simp] theorem State.updFnCfg_lnk (n : Nat) (f : FnCfg → FnCfg) : (s.updFnCfg n f).dev.lnk = s.dev.lnk := rfl
@[simp] theorem State.updFnCfg_srv (n : Nat) (f : FnCfg → FnCfg) : (s.updFnCfg n f).dev.srv = s.dev.srv := rfl
@[simp] theorem State.updFnCfg_chk (n : Nat) (f : FnCfg → FnCfg) : (s.updFnCfg n f).dev.chk = s.dev.chk := rfl
@[simp] theorem State.updFnCfg_sec (n : Nat) (f : FnCfg → FnCfg) : (s.updFnCfg n f).dev.sec = s.dev.sec := rfl
@[simp] theorem State.updFnCfg_nv (n : Nat) (f : FnCfg → FnCfg) : (s.updFnCfg n f).dev.nv = s.dev.nv := rfl
@[simp] theorem State.updFnCfg_rst (n : Nat) (f : FnCfg → FnCfg) : (s.updFnCfg n f).dev.rst = s.dev.rst := rfl
@[simp] theorem State.updFnCfg_hk (n : Nat) (f : FnCfg → FnCfg) : (s.updFnCfg n f).dev.hk = s.dev.hk := rfl
@[simp] theorem State.updFnCfg_cn (n : Nat) (f : FnCfg → FnCfg) : (s.updFnCfg n f).dev.cn = s.dev.cn := rfl
@[simp] theorem State.updFnCfg_snap (n : Nat) (f : FnCfg → FnCfg) : (s.updFnCfg n f).snap = s.snap := rfl
@[simp] theorem State.updFnCfg_snapTick (n : Nat) (f : FnCfg → FnCfg) : (s.updFnCfg n f).snapTick = s.snapTick := rfl
@[simp] theorem State.updFnCfg_hold (n : Nat) (f : FnCfg → FnCfg) : (s.updFnCfg n f).hold = s.hold := rfl
@[simp] theorem State.updFnCfg_holdExpired (n : Nat) (f : FnCfg → FnCfg) : (s.updFnCfg n f).holdExpired = s.holdExpired := rfl
@[simp] theorem State.updFnCfg_latches (n : Nat) (f : FnCfg → FnCfg) : (s.updFnCfg n f).latches = s.latches := rfl
@[simp] theorem State.updFnCfg_out (n : Nat) (f : FnCfg → FnCfg) : (s.updFnCfg n f).out = s.out := rfl
@[simp] theorem State.updFnCfg_freeCtr (n : Nat) (f : FnCfg → FnCfg) : (s.updFnCfg n f).freeCtr = s.freeCtr := rfl
@[simp] theorem State.updFnCfg_pending (n : Nat) (f : FnCfg → FnCfg) : (s.updFnCfg n f).pending = s.pending := rfl
@[simp] theorem State.updFnCfg_begun (n : Nat) (f : FnCfg → FnCfg) : (s.updFnCfg n f).begun = s.begun := rfl
@[simp] theorem State.updMsix_role (n e : Nat) (f : MsixEntry → MsixEntry) : (s.updMsix n e f).dev.role = s.dev.role := rfl
@[simp] theorem State.updMsix_time (n e : Nat) (f : MsixEntry → MsixEntry) : (s.updMsix n e f).dev.time = s.dev.time := rfl
@[simp] theorem State.updMsix_fab (n e : Nat) (f : MsixEntry → MsixEntry) : (s.updMsix n e f).dev.fab = s.dev.fab := rfl
@[simp] theorem State.updMsix_pans (n e : Nat) (f : MsixEntry → MsixEntry) : (s.updMsix n e f).dev.pans = s.dev.pans := rfl
@[simp] theorem State.updMsix_dle (n e : Nat) (f : MsixEntry → MsixEntry) : (s.updMsix n e f).dev.dle = s.dev.dle := rfl
@[simp] theorem State.updMsix_mem (n e : Nat) (f : MsixEntry → MsixEntry) : (s.updMsix n e f).dev.mem = s.dev.mem := rfl
@[simp] theorem State.updMsix_arb (n e : Nat) (f : MsixEntry → MsixEntry) : (s.updMsix n e f).dev.arb = s.dev.arb := rfl
@[simp] theorem State.updMsix_ws (n e : Nat) (f : MsixEntry → MsixEntry) : (s.updMsix n e f).dev.ws = s.dev.ws := rfl
@[simp] theorem State.updMsix_lnk (n e : Nat) (f : MsixEntry → MsixEntry) : (s.updMsix n e f).dev.lnk = s.dev.lnk := rfl
@[simp] theorem State.updMsix_srv (n e : Nat) (f : MsixEntry → MsixEntry) : (s.updMsix n e f).dev.srv = s.dev.srv := rfl
@[simp] theorem State.updMsix_chk (n e : Nat) (f : MsixEntry → MsixEntry) : (s.updMsix n e f).dev.chk = s.dev.chk := rfl
@[simp] theorem State.updMsix_sec (n e : Nat) (f : MsixEntry → MsixEntry) : (s.updMsix n e f).dev.sec = s.dev.sec := rfl
@[simp] theorem State.updMsix_nv (n e : Nat) (f : MsixEntry → MsixEntry) : (s.updMsix n e f).dev.nv = s.dev.nv := rfl
@[simp] theorem State.updMsix_rst (n e : Nat) (f : MsixEntry → MsixEntry) : (s.updMsix n e f).dev.rst = s.dev.rst := rfl
@[simp] theorem State.updMsix_hk (n e : Nat) (f : MsixEntry → MsixEntry) : (s.updMsix n e f).dev.hk = s.dev.hk := rfl
@[simp] theorem State.updMsix_cn (n e : Nat) (f : MsixEntry → MsixEntry) : (s.updMsix n e f).dev.cn = s.dev.cn := rfl
@[simp] theorem State.updMsix_snap (n e : Nat) (f : MsixEntry → MsixEntry) : (s.updMsix n e f).snap = s.snap := rfl
@[simp] theorem State.updMsix_snapTick (n e : Nat) (f : MsixEntry → MsixEntry) : (s.updMsix n e f).snapTick = s.snapTick := rfl
@[simp] theorem State.updMsix_hold (n e : Nat) (f : MsixEntry → MsixEntry) : (s.updMsix n e f).hold = s.hold := rfl
@[simp] theorem State.updMsix_holdExpired (n e : Nat) (f : MsixEntry → MsixEntry) : (s.updMsix n e f).holdExpired = s.holdExpired := rfl
@[simp] theorem State.updMsix_latches (n e : Nat) (f : MsixEntry → MsixEntry) : (s.updMsix n e f).latches = s.latches := rfl
@[simp] theorem State.updMsix_out (n e : Nat) (f : MsixEntry → MsixEntry) : (s.updMsix n e f).out = s.out := rfl
@[simp] theorem State.updMsix_freeCtr (n e : Nat) (f : MsixEntry → MsixEntry) : (s.updMsix n e f).freeCtr = s.freeCtr := rfl
@[simp] theorem State.updMsix_pending (n e : Nat) (f : MsixEntry → MsixEntry) : (s.updMsix n e f).pending = s.pending := rfl
@[simp] theorem State.updMsix_begun (n e : Nat) (f : MsixEntry → MsixEntry) : (s.updMsix n e f).begun = s.begun := rfl
@[simp] theorem State.updIsl_role (i : Nat) (f : Isl → Isl) : (s.updIsl i f).dev.role = s.dev.role := rfl
@[simp] theorem State.updIsl_time (i : Nat) (f : Isl → Isl) : (s.updIsl i f).dev.time = s.dev.time := rfl
@[simp] theorem State.updIsl_fab (i : Nat) (f : Isl → Isl) : (s.updIsl i f).dev.fab = s.dev.fab := rfl
@[simp] theorem State.updIsl_pans (i : Nat) (f : Isl → Isl) : (s.updIsl i f).dev.pans = s.dev.pans := rfl
@[simp] theorem State.updIsl_dle (i : Nat) (f : Isl → Isl) : (s.updIsl i f).dev.dle = s.dev.dle := rfl
@[simp] theorem State.updIsl_mem (i : Nat) (f : Isl → Isl) : (s.updIsl i f).dev.mem = s.dev.mem := rfl
@[simp] theorem State.updIsl_arb (i : Nat) (f : Isl → Isl) : (s.updIsl i f).dev.arb = s.dev.arb := rfl
@[simp] theorem State.updIsl_ws (i : Nat) (f : Isl → Isl) : (s.updIsl i f).dev.ws = s.dev.ws := rfl
@[simp] theorem State.updIsl_lnk (i : Nat) (f : Isl → Isl) : (s.updIsl i f).dev.lnk = s.dev.lnk := rfl
@[simp] theorem State.updIsl_pcie (i : Nat) (f : Isl → Isl) : (s.updIsl i f).dev.pcie = s.dev.pcie := rfl
@[simp] theorem State.updIsl_srv (i : Nat) (f : Isl → Isl) : (s.updIsl i f).dev.srv = s.dev.srv := rfl
@[simp] theorem State.updIsl_chk (i : Nat) (f : Isl → Isl) : (s.updIsl i f).dev.chk = s.dev.chk := rfl
@[simp] theorem State.updIsl_sec (i : Nat) (f : Isl → Isl) : (s.updIsl i f).dev.sec = s.dev.sec := rfl
@[simp] theorem State.updIsl_nv (i : Nat) (f : Isl → Isl) : (s.updIsl i f).dev.nv = s.dev.nv := rfl
@[simp] theorem State.updIsl_rst (i : Nat) (f : Isl → Isl) : (s.updIsl i f).dev.rst = s.dev.rst := rfl
@[simp] theorem State.updIsl_cn (i : Nat) (f : Isl → Isl) : (s.updIsl i f).dev.cn = s.dev.cn := rfl
@[simp] theorem State.updIsl_snap (i : Nat) (f : Isl → Isl) : (s.updIsl i f).snap = s.snap := rfl
@[simp] theorem State.updIsl_snapTick (i : Nat) (f : Isl → Isl) : (s.updIsl i f).snapTick = s.snapTick := rfl
@[simp] theorem State.updIsl_hold (i : Nat) (f : Isl → Isl) : (s.updIsl i f).hold = s.hold := rfl
@[simp] theorem State.updIsl_holdExpired (i : Nat) (f : Isl → Isl) : (s.updIsl i f).holdExpired = s.holdExpired := rfl
@[simp] theorem State.updIsl_latches (i : Nat) (f : Isl → Isl) : (s.updIsl i f).latches = s.latches := rfl
@[simp] theorem State.updIsl_out (i : Nat) (f : Isl → Isl) : (s.updIsl i f).out = s.out := rfl
@[simp] theorem State.updIsl_freeCtr (i : Nat) (f : Isl → Isl) : (s.updIsl i f).freeCtr = s.freeCtr := rfl
@[simp] theorem State.updIsl_pending (i : Nat) (f : Isl → Isl) : (s.updIsl i f).pending = s.pending := rfl
@[simp] theorem State.updIsl_begun (i : Nat) (f : Isl → Isl) : (s.updIsl i f).begun = s.begun := rfl
@[simp] theorem State.updClamp_role (k : Nat) (f : ClampSlot → ClampSlot) : (s.updClamp k f).dev.role = s.dev.role := rfl
@[simp] theorem State.updClamp_time (k : Nat) (f : ClampSlot → ClampSlot) : (s.updClamp k f).dev.time = s.dev.time := rfl
@[simp] theorem State.updClamp_pans (k : Nat) (f : ClampSlot → ClampSlot) : (s.updClamp k f).dev.pans = s.dev.pans := rfl
@[simp] theorem State.updClamp_dle (k : Nat) (f : ClampSlot → ClampSlot) : (s.updClamp k f).dev.dle = s.dev.dle := rfl
@[simp] theorem State.updClamp_mem (k : Nat) (f : ClampSlot → ClampSlot) : (s.updClamp k f).dev.mem = s.dev.mem := rfl
@[simp] theorem State.updClamp_arb (k : Nat) (f : ClampSlot → ClampSlot) : (s.updClamp k f).dev.arb = s.dev.arb := rfl
@[simp] theorem State.updClamp_ws (k : Nat) (f : ClampSlot → ClampSlot) : (s.updClamp k f).dev.ws = s.dev.ws := rfl
@[simp] theorem State.updClamp_lnk (k : Nat) (f : ClampSlot → ClampSlot) : (s.updClamp k f).dev.lnk = s.dev.lnk := rfl
@[simp] theorem State.updClamp_pcie (k : Nat) (f : ClampSlot → ClampSlot) : (s.updClamp k f).dev.pcie = s.dev.pcie := rfl
@[simp] theorem State.updClamp_srv (k : Nat) (f : ClampSlot → ClampSlot) : (s.updClamp k f).dev.srv = s.dev.srv := rfl
@[simp] theorem State.updClamp_chk (k : Nat) (f : ClampSlot → ClampSlot) : (s.updClamp k f).dev.chk = s.dev.chk := rfl
@[simp] theorem State.updClamp_sec (k : Nat) (f : ClampSlot → ClampSlot) : (s.updClamp k f).dev.sec = s.dev.sec := rfl
@[simp] theorem State.updClamp_nv (k : Nat) (f : ClampSlot → ClampSlot) : (s.updClamp k f).dev.nv = s.dev.nv := rfl
@[simp] theorem State.updClamp_rst (k : Nat) (f : ClampSlot → ClampSlot) : (s.updClamp k f).dev.rst = s.dev.rst := rfl
@[simp] theorem State.updClamp_hk (k : Nat) (f : ClampSlot → ClampSlot) : (s.updClamp k f).dev.hk = s.dev.hk := rfl
@[simp] theorem State.updClamp_cn (k : Nat) (f : ClampSlot → ClampSlot) : (s.updClamp k f).dev.cn = s.dev.cn := rfl
@[simp] theorem State.updClamp_snap (k : Nat) (f : ClampSlot → ClampSlot) : (s.updClamp k f).snap = s.snap := rfl
@[simp] theorem State.updClamp_snapTick (k : Nat) (f : ClampSlot → ClampSlot) : (s.updClamp k f).snapTick = s.snapTick := rfl
@[simp] theorem State.updClamp_hold (k : Nat) (f : ClampSlot → ClampSlot) : (s.updClamp k f).hold = s.hold := rfl
@[simp] theorem State.updClamp_holdExpired (k : Nat) (f : ClampSlot → ClampSlot) : (s.updClamp k f).holdExpired = s.holdExpired := rfl
@[simp] theorem State.updClamp_latches (k : Nat) (f : ClampSlot → ClampSlot) : (s.updClamp k f).latches = s.latches := rfl
@[simp] theorem State.updClamp_out (k : Nat) (f : ClampSlot → ClampSlot) : (s.updClamp k f).out = s.out := rfl
@[simp] theorem State.updClamp_freeCtr (k : Nat) (f : ClampSlot → ClampSlot) : (s.updClamp k f).freeCtr = s.freeCtr := rfl
@[simp] theorem State.updClamp_pending (k : Nat) (f : ClampSlot → ClampSlot) : (s.updClamp k f).pending = s.pending := rfl
@[simp] theorem State.updClamp_begun (k : Nat) (f : ClampSlot → ClampSlot) : (s.updClamp k f).begun = s.begun := rfl
@[simp] theorem State.updTenant_role (t : Nat) (f : Tenant → Tenant) : (s.updTenant t f).dev.role = s.dev.role := rfl
@[simp] theorem State.updTenant_time (t : Nat) (f : Tenant → Tenant) : (s.updTenant t f).dev.time = s.dev.time := rfl
@[simp] theorem State.updTenant_fab (t : Nat) (f : Tenant → Tenant) : (s.updTenant t f).dev.fab = s.dev.fab := rfl
@[simp] theorem State.updTenant_pans (t : Nat) (f : Tenant → Tenant) : (s.updTenant t f).dev.pans = s.dev.pans := rfl
@[simp] theorem State.updTenant_dle (t : Nat) (f : Tenant → Tenant) : (s.updTenant t f).dev.dle = s.dev.dle := rfl
@[simp] theorem State.updTenant_mem (t : Nat) (f : Tenant → Tenant) : (s.updTenant t f).dev.mem = s.dev.mem := rfl
@[simp] theorem State.updTenant_arb (t : Nat) (f : Tenant → Tenant) : (s.updTenant t f).dev.arb = s.dev.arb := rfl
@[simp] theorem State.updTenant_ws (t : Nat) (f : Tenant → Tenant) : (s.updTenant t f).dev.ws = s.dev.ws := rfl
@[simp] theorem State.updTenant_lnk (t : Nat) (f : Tenant → Tenant) : (s.updTenant t f).dev.lnk = s.dev.lnk := rfl
@[simp] theorem State.updTenant_pcie (t : Nat) (f : Tenant → Tenant) : (s.updTenant t f).dev.pcie = s.dev.pcie := rfl
@[simp] theorem State.updTenant_chk (t : Nat) (f : Tenant → Tenant) : (s.updTenant t f).dev.chk = s.dev.chk := rfl
@[simp] theorem State.updTenant_sec (t : Nat) (f : Tenant → Tenant) : (s.updTenant t f).dev.sec = s.dev.sec := rfl
@[simp] theorem State.updTenant_nv (t : Nat) (f : Tenant → Tenant) : (s.updTenant t f).dev.nv = s.dev.nv := rfl
@[simp] theorem State.updTenant_rst (t : Nat) (f : Tenant → Tenant) : (s.updTenant t f).dev.rst = s.dev.rst := rfl
@[simp] theorem State.updTenant_hk (t : Nat) (f : Tenant → Tenant) : (s.updTenant t f).dev.hk = s.dev.hk := rfl
@[simp] theorem State.updTenant_cn (t : Nat) (f : Tenant → Tenant) : (s.updTenant t f).dev.cn = s.dev.cn := rfl
@[simp] theorem State.updTenant_snap (t : Nat) (f : Tenant → Tenant) : (s.updTenant t f).snap = s.snap := rfl
@[simp] theorem State.updTenant_snapTick (t : Nat) (f : Tenant → Tenant) : (s.updTenant t f).snapTick = s.snapTick := rfl
@[simp] theorem State.updTenant_hold (t : Nat) (f : Tenant → Tenant) : (s.updTenant t f).hold = s.hold := rfl
@[simp] theorem State.updTenant_holdExpired (t : Nat) (f : Tenant → Tenant) : (s.updTenant t f).holdExpired = s.holdExpired := rfl
@[simp] theorem State.updTenant_latches (t : Nat) (f : Tenant → Tenant) : (s.updTenant t f).latches = s.latches := rfl
@[simp] theorem State.updTenant_out (t : Nat) (f : Tenant → Tenant) : (s.updTenant t f).out = s.out := rfl
@[simp] theorem State.updTenant_freeCtr (t : Nat) (f : Tenant → Tenant) : (s.updTenant t f).freeCtr = s.freeCtr := rfl
@[simp] theorem State.updTenant_pending (t : Nat) (f : Tenant → Tenant) : (s.updTenant t f).pending = s.pending := rfl
@[simp] theorem State.updTenant_begun (t : Nat) (f : Tenant → Tenant) : (s.updTenant t f).begun = s.begun := rfl
@[simp] theorem State.updStream_role (ch : Nat) (f : Stream → Stream) : (s.updStream ch f).dev.role = s.dev.role := rfl
@[simp] theorem State.updStream_time (ch : Nat) (f : Stream → Stream) : (s.updStream ch f).dev.time = s.dev.time := rfl
@[simp] theorem State.updStream_fab (ch : Nat) (f : Stream → Stream) : (s.updStream ch f).dev.fab = s.dev.fab := rfl
@[simp] theorem State.updStream_pans (ch : Nat) (f : Stream → Stream) : (s.updStream ch f).dev.pans = s.dev.pans := rfl
@[simp] theorem State.updStream_dle (ch : Nat) (f : Stream → Stream) : (s.updStream ch f).dev.dle = s.dev.dle := rfl
@[simp] theorem State.updStream_mem (ch : Nat) (f : Stream → Stream) : (s.updStream ch f).dev.mem = s.dev.mem := rfl
@[simp] theorem State.updStream_arb (ch : Nat) (f : Stream → Stream) : (s.updStream ch f).dev.arb = s.dev.arb := rfl
@[simp] theorem State.updStream_ws (ch : Nat) (f : Stream → Stream) : (s.updStream ch f).dev.ws = s.dev.ws := rfl
@[simp] theorem State.updStream_lnk (ch : Nat) (f : Stream → Stream) : (s.updStream ch f).dev.lnk = s.dev.lnk := rfl
@[simp] theorem State.updStream_pcie (ch : Nat) (f : Stream → Stream) : (s.updStream ch f).dev.pcie = s.dev.pcie := rfl
@[simp] theorem State.updStream_chk (ch : Nat) (f : Stream → Stream) : (s.updStream ch f).dev.chk = s.dev.chk := rfl
@[simp] theorem State.updStream_sec (ch : Nat) (f : Stream → Stream) : (s.updStream ch f).dev.sec = s.dev.sec := rfl
@[simp] theorem State.updStream_nv (ch : Nat) (f : Stream → Stream) : (s.updStream ch f).dev.nv = s.dev.nv := rfl
@[simp] theorem State.updStream_rst (ch : Nat) (f : Stream → Stream) : (s.updStream ch f).dev.rst = s.dev.rst := rfl
@[simp] theorem State.updStream_hk (ch : Nat) (f : Stream → Stream) : (s.updStream ch f).dev.hk = s.dev.hk := rfl
@[simp] theorem State.updStream_cn (ch : Nat) (f : Stream → Stream) : (s.updStream ch f).dev.cn = s.dev.cn := rfl
@[simp] theorem State.updStream_snap (ch : Nat) (f : Stream → Stream) : (s.updStream ch f).snap = s.snap := rfl
@[simp] theorem State.updStream_snapTick (ch : Nat) (f : Stream → Stream) : (s.updStream ch f).snapTick = s.snapTick := rfl
@[simp] theorem State.updStream_hold (ch : Nat) (f : Stream → Stream) : (s.updStream ch f).hold = s.hold := rfl
@[simp] theorem State.updStream_holdExpired (ch : Nat) (f : Stream → Stream) : (s.updStream ch f).holdExpired = s.holdExpired := rfl
@[simp] theorem State.updStream_latches (ch : Nat) (f : Stream → Stream) : (s.updStream ch f).latches = s.latches := rfl
@[simp] theorem State.updStream_out (ch : Nat) (f : Stream → Stream) : (s.updStream ch f).out = s.out := rfl
@[simp] theorem State.updStream_freeCtr (ch : Nat) (f : Stream → Stream) : (s.updStream ch f).freeCtr = s.freeCtr := rfl
@[simp] theorem State.updStream_pending (ch : Nat) (f : Stream → Stream) : (s.updStream ch f).pending = s.pending := rfl
@[simp] theorem State.updStream_begun (ch : Nat) (f : Stream → Stream) : (s.updStream ch f).begun = s.begun := rfl
@[simp] theorem State.updGen_role (ch : Nat) (f : Gen → Gen) : (s.updGen ch f).dev.role = s.dev.role := rfl
@[simp] theorem State.updGen_time (ch : Nat) (f : Gen → Gen) : (s.updGen ch f).dev.time = s.dev.time := rfl
@[simp] theorem State.updGen_fab (ch : Nat) (f : Gen → Gen) : (s.updGen ch f).dev.fab = s.dev.fab := rfl
@[simp] theorem State.updGen_pans (ch : Nat) (f : Gen → Gen) : (s.updGen ch f).dev.pans = s.dev.pans := rfl
@[simp] theorem State.updGen_dle (ch : Nat) (f : Gen → Gen) : (s.updGen ch f).dev.dle = s.dev.dle := rfl
@[simp] theorem State.updGen_mem (ch : Nat) (f : Gen → Gen) : (s.updGen ch f).dev.mem = s.dev.mem := rfl
@[simp] theorem State.updGen_arb (ch : Nat) (f : Gen → Gen) : (s.updGen ch f).dev.arb = s.dev.arb := rfl
@[simp] theorem State.updGen_ws (ch : Nat) (f : Gen → Gen) : (s.updGen ch f).dev.ws = s.dev.ws := rfl
@[simp] theorem State.updGen_lnk (ch : Nat) (f : Gen → Gen) : (s.updGen ch f).dev.lnk = s.dev.lnk := rfl
@[simp] theorem State.updGen_pcie (ch : Nat) (f : Gen → Gen) : (s.updGen ch f).dev.pcie = s.dev.pcie := rfl
@[simp] theorem State.updGen_chk (ch : Nat) (f : Gen → Gen) : (s.updGen ch f).dev.chk = s.dev.chk := rfl
@[simp] theorem State.updGen_sec (ch : Nat) (f : Gen → Gen) : (s.updGen ch f).dev.sec = s.dev.sec := rfl
@[simp] theorem State.updGen_nv (ch : Nat) (f : Gen → Gen) : (s.updGen ch f).dev.nv = s.dev.nv := rfl
@[simp] theorem State.updGen_rst (ch : Nat) (f : Gen → Gen) : (s.updGen ch f).dev.rst = s.dev.rst := rfl
@[simp] theorem State.updGen_hk (ch : Nat) (f : Gen → Gen) : (s.updGen ch f).dev.hk = s.dev.hk := rfl
@[simp] theorem State.updGen_cn (ch : Nat) (f : Gen → Gen) : (s.updGen ch f).dev.cn = s.dev.cn := rfl
@[simp] theorem State.updGen_snap (ch : Nat) (f : Gen → Gen) : (s.updGen ch f).snap = s.snap := rfl
@[simp] theorem State.updGen_snapTick (ch : Nat) (f : Gen → Gen) : (s.updGen ch f).snapTick = s.snapTick := rfl
@[simp] theorem State.updGen_hold (ch : Nat) (f : Gen → Gen) : (s.updGen ch f).hold = s.hold := rfl
@[simp] theorem State.updGen_holdExpired (ch : Nat) (f : Gen → Gen) : (s.updGen ch f).holdExpired = s.holdExpired := rfl
@[simp] theorem State.updGen_latches (ch : Nat) (f : Gen → Gen) : (s.updGen ch f).latches = s.latches := rfl
@[simp] theorem State.updGen_out (ch : Nat) (f : Gen → Gen) : (s.updGen ch f).out = s.out := rfl
@[simp] theorem State.updGen_freeCtr (ch : Nat) (f : Gen → Gen) : (s.updGen ch f).freeCtr = s.freeCtr := rfl
@[simp] theorem State.updGen_pending (ch : Nat) (f : Gen → Gen) : (s.updGen ch f).pending = s.pending := rfl
@[simp] theorem State.updGen_begun (ch : Nat) (f : Gen → Gen) : (s.updGen ch f).begun = s.begun := rfl
@[simp] theorem State.setStream_role (t : Stream) : (s.setStream t).dev.role = s.dev.role := rfl
@[simp] theorem State.setStream_time (t : Stream) : (s.setStream t).dev.time = s.dev.time := rfl
@[simp] theorem State.setStream_fab (t : Stream) : (s.setStream t).dev.fab = s.dev.fab := rfl
@[simp] theorem State.setStream_pans (t : Stream) : (s.setStream t).dev.pans = s.dev.pans := rfl
@[simp] theorem State.setStream_dle (t : Stream) : (s.setStream t).dev.dle = s.dev.dle := rfl
@[simp] theorem State.setStream_mem (t : Stream) : (s.setStream t).dev.mem = s.dev.mem := rfl
@[simp] theorem State.setStream_arb (t : Stream) : (s.setStream t).dev.arb = s.dev.arb := rfl
@[simp] theorem State.setStream_ws (t : Stream) : (s.setStream t).dev.ws = s.dev.ws := rfl
@[simp] theorem State.setStream_lnk (t : Stream) : (s.setStream t).dev.lnk = s.dev.lnk := rfl
@[simp] theorem State.setStream_pcie (t : Stream) : (s.setStream t).dev.pcie = s.dev.pcie := rfl
@[simp] theorem State.setStream_chk (t : Stream) : (s.setStream t).dev.chk = s.dev.chk := rfl
@[simp] theorem State.setStream_sec (t : Stream) : (s.setStream t).dev.sec = s.dev.sec := rfl
@[simp] theorem State.setStream_nv (t : Stream) : (s.setStream t).dev.nv = s.dev.nv := rfl
@[simp] theorem State.setStream_rst (t : Stream) : (s.setStream t).dev.rst = s.dev.rst := rfl
@[simp] theorem State.setStream_hk (t : Stream) : (s.setStream t).dev.hk = s.dev.hk := rfl
@[simp] theorem State.setStream_cn (t : Stream) : (s.setStream t).dev.cn = s.dev.cn := rfl
@[simp] theorem State.setStream_snap (t : Stream) : (s.setStream t).snap = s.snap := rfl
@[simp] theorem State.setStream_snapTick (t : Stream) : (s.setStream t).snapTick = s.snapTick := rfl
@[simp] theorem State.setStream_hold (t : Stream) : (s.setStream t).hold = s.hold := rfl
@[simp] theorem State.setStream_holdExpired (t : Stream) : (s.setStream t).holdExpired = s.holdExpired := rfl
@[simp] theorem State.setStream_latches (t : Stream) : (s.setStream t).latches = s.latches := rfl
@[simp] theorem State.setStream_out (t : Stream) : (s.setStream t).out = s.out := rfl
@[simp] theorem State.setStream_freeCtr (t : Stream) : (s.setStream t).freeCtr = s.freeCtr := rfl
@[simp] theorem State.setStream_pending (t : Stream) : (s.setStream t).pending = s.pending := rfl
@[simp] theorem State.setStream_begun (t : Stream) : (s.setStream t).begun = s.begun := rfl
@[simp] theorem State.delStream_role (ch : Nat) : (s.delStream ch).dev.role = s.dev.role := rfl
@[simp] theorem State.delStream_time (ch : Nat) : (s.delStream ch).dev.time = s.dev.time := rfl
@[simp] theorem State.delStream_fab (ch : Nat) : (s.delStream ch).dev.fab = s.dev.fab := rfl
@[simp] theorem State.delStream_pans (ch : Nat) : (s.delStream ch).dev.pans = s.dev.pans := rfl
@[simp] theorem State.delStream_dle (ch : Nat) : (s.delStream ch).dev.dle = s.dev.dle := rfl
@[simp] theorem State.delStream_mem (ch : Nat) : (s.delStream ch).dev.mem = s.dev.mem := rfl
@[simp] theorem State.delStream_arb (ch : Nat) : (s.delStream ch).dev.arb = s.dev.arb := rfl
@[simp] theorem State.delStream_ws (ch : Nat) : (s.delStream ch).dev.ws = s.dev.ws := rfl
@[simp] theorem State.delStream_lnk (ch : Nat) : (s.delStream ch).dev.lnk = s.dev.lnk := rfl
@[simp] theorem State.delStream_pcie (ch : Nat) : (s.delStream ch).dev.pcie = s.dev.pcie := rfl
@[simp] theorem State.delStream_chk (ch : Nat) : (s.delStream ch).dev.chk = s.dev.chk := rfl
@[simp] theorem State.delStream_sec (ch : Nat) : (s.delStream ch).dev.sec = s.dev.sec := rfl
@[simp] theorem State.delStream_nv (ch : Nat) : (s.delStream ch).dev.nv = s.dev.nv := rfl
@[simp] theorem State.delStream_rst (ch : Nat) : (s.delStream ch).dev.rst = s.dev.rst := rfl
@[simp] theorem State.delStream_hk (ch : Nat) : (s.delStream ch).dev.hk = s.dev.hk := rfl
@[simp] theorem State.delStream_cn (ch : Nat) : (s.delStream ch).dev.cn = s.dev.cn := rfl
@[simp] theorem State.delStream_snap (ch : Nat) : (s.delStream ch).snap = s.snap := rfl
@[simp] theorem State.delStream_snapTick (ch : Nat) : (s.delStream ch).snapTick = s.snapTick := rfl
@[simp] theorem State.delStream_hold (ch : Nat) : (s.delStream ch).hold = s.hold := rfl
@[simp] theorem State.delStream_holdExpired (ch : Nat) : (s.delStream ch).holdExpired = s.holdExpired := rfl
@[simp] theorem State.delStream_latches (ch : Nat) : (s.delStream ch).latches = s.latches := rfl
@[simp] theorem State.delStream_out (ch : Nat) : (s.delStream ch).out = s.out := rfl
@[simp] theorem State.delStream_freeCtr (ch : Nat) : (s.delStream ch).freeCtr = s.freeCtr := rfl
@[simp] theorem State.delStream_pending (ch : Nat) : (s.delStream ch).pending = s.pending := rfl
@[simp] theorem State.delStream_begun (ch : Nat) : (s.delStream ch).begun = s.begun := rfl
@[simp] theorem State.emit_dev (o : Out) : (s.emit o).dev = s.dev := rfl
@[simp] theorem State.emit_snap (o : Out) : (s.emit o).snap = s.snap := rfl
@[simp] theorem State.emit_snapTick (o : Out) : (s.emit o).snapTick = s.snapTick := rfl
@[simp] theorem State.emit_hold (o : Out) : (s.emit o).hold = s.hold := rfl
@[simp] theorem State.emit_holdExpired (o : Out) : (s.emit o).holdExpired = s.holdExpired := rfl
@[simp] theorem State.emit_latches (o : Out) : (s.emit o).latches = s.latches := rfl
@[simp] theorem State.emit_out (o : Out) : (s.emit o).out = s.out ++ [o] := rfl
@[simp] theorem State.emit_freeCtr (o : Out) : (s.emit o).freeCtr = s.freeCtr := rfl
@[simp] theorem State.emit_pending (o : Out) : (s.emit o).pending = s.pending := rfl
@[simp] theorem State.emit_begun (o : Out) : (s.emit o).begun = s.begun := rfl
@[simp] theorem State.take32_dev : s.take32.2.dev = s.dev := rfl
@[simp] theorem State.take32_snap : s.take32.2.snap = s.snap := rfl
@[simp] theorem State.take32_snapTick : s.take32.2.snapTick = s.snapTick := rfl
@[simp] theorem State.take32_hold : s.take32.2.hold = s.hold := rfl
@[simp] theorem State.take32_holdExpired : s.take32.2.holdExpired = s.holdExpired := rfl
@[simp] theorem State.take32_latches : s.take32.2.latches = s.latches := rfl
@[simp] theorem State.take32_out : s.take32.2.out = s.out := rfl
@[simp] theorem State.take32_freeCtr : s.take32.2.freeCtr = s.freeCtr + 1 := rfl
@[simp] theorem State.take32_pending : s.take32.2.pending = s.pending := rfl
@[simp] theorem State.take32_begun : s.take32.2.begun = s.begun := rfl

end Sys2Proof.Machine
end

