-- ==== Sys2Proof/Laws/Store.lean ====
section
/-! SUPPORT. Laws of the sparse tables and the byte memories: reading after writing, and the canonical form that every operation
keeps. -/

namespace Sys2Proof.Machine

variable {α : Type} [DecidableEq α] (d : Nat → α)

omit [DecidableEq α] in
theorem Sparse.above_mono {b b' : Nat} {m : List (Nat × α)} (h : b' ≤ b) (hm : Sparse.above b m = true) : Sparse.above b' m = true := by
  simp only [Sparse.above, List.all_eq_true, decide_eq_true_eq] at *
  intro e he
  have := hm e he
  omega

theorem Sparse.above_set {b k : Nat} {v : α} {m : List (Nat × α)} (hk : b < k) (hm : Sparse.above b m = true) :
    Sparse.above b (Sparse.set d m k v) = true := by
  induction m with
  | nil => simp only [Sparse.set]; split <;> simp [Sparse.above, hk]
  | cons e r ih =>
    obtain ⟨j, w⟩ := e
    simp only [Sparse.above, List.all_cons, Bool.and_eq_true, decide_eq_true_eq] at hm
    simp only [Sparse.set]
    have cons : ∀ (x : Nat × α) (l : List (Nat × α)), b < x.1 → Sparse.above b l = true → Sparse.above b (x :: l) = true := by
      intro x l hx hl
      simp only [Sparse.above, List.all_cons, Bool.and_eq_true, decide_eq_true_eq] at *
      exact ⟨hx, hl⟩
    split
    · split
      · exact cons _ _ hm.1 hm.2
      · exact cons _ _ hk (cons _ _ hm.1 hm.2)
    · split
      · split
        · exact hm.2
        · exact cons _ _ hk hm.2
      · exact cons _ _ hm.1 (ih hm.2)

/-- Writing keeps the canonical form. -/
theorem Sparse.wf_set {k : Nat} {v : α} {m : List (Nat × α)} (hm : Sparse.wf d m = true) : Sparse.wf d (Sparse.set d m k v) = true := by
  induction m with
  | nil => simp only [Sparse.set]; split <;> simp_all [Sparse.wf, Sparse.above]
  | cons e r ih =>
    obtain ⟨j, w⟩ := e
    simp only [Sparse.wf, Bool.and_eq_true, decide_eq_true_eq] at hm
    obtain ⟨⟨hw, ha⟩, hr⟩ := hm
    simp only [Sparse.set]
    split
    next hlt =>
      split
      · simp [Sparse.wf, hw, ha, hr]
      next hv =>
        have hk : Sparse.above k r = true := Sparse.above_mono (Nat.le_of_lt hlt) ha
        have h2 : Sparse.above k ((j, w) :: r) = true := by
          simp only [Sparse.above, List.all_cons, Bool.and_eq_true, decide_eq_true_eq] at *
          exact ⟨hlt, hk⟩
        simp only [Sparse.wf, Bool.and_eq_true, decide_eq_true_eq]
        exact ⟨⟨hv, h2⟩, ⟨hw, ha⟩, hr⟩
    next hlt =>
      split
      next he =>
        subst he
        split
        · exact hr
        next hv => simp [Sparse.wf, hv, ha, hr]
      next hne =>
        simp only [Sparse.wf, Bool.and_eq_true, decide_eq_true_eq]
        exact ⟨⟨hw, Sparse.above_set d (by omega) ha⟩, ih hr⟩

theorem Sparse.wf_upd {k : Nat} {f : α → α} {m : List (Nat × α)} (hm : Sparse.wf d m = true) : Sparse.wf d (Sparse.upd d m k f) = true :=
  Sparse.wf_set d hm

theorem Sparse.wf_updAll {f : Nat → α → α} (ks : List Nat) {m : List (Nat × α)} (hm : Sparse.wf d m = true) :
    Sparse.wf d (Sparse.updAll d f ks m) = true := by
  induction ks generalizing m with
  | nil => exact hm
  | cons k ks ih => exact ih (Sparse.wf_upd d hm)

/-- Removing entries keeps the canonical form. -/
theorem Sparse.wf_filter (p : Nat × α → Bool) {m : List (Nat × α)} (hm : Sparse.wf d m = true) : Sparse.wf d (m.filter p) = true := by
  induction m with
  | nil => rfl
  | cons e r ih =>
    obtain ⟨j, w⟩ := e
    simp only [Sparse.wf, Bool.and_eq_true, decide_eq_true_eq] at hm
    obtain ⟨⟨hw, ha⟩, hr⟩ := hm
    simp only [List.filter_cons]
    split
    · simp only [Sparse.wf, Bool.and_eq_true, decide_eq_true_eq]
      refine ⟨⟨hw, ?_⟩, ih hr⟩
      simp only [Sparse.above, List.all_eq_true, decide_eq_true_eq] at *
      intro x hx
      exact ha x (List.mem_filter.mp hx).1
    · exact ih hr

omit [DecidableEq α] in
/-- A key below every listed one reads as the default. -/
theorem Sparse.get_above {b k : Nat} {m : List (Nat × α)} (hm : Sparse.above b m = true) (hk : k ≤ b) : Sparse.get d m k = d k := by
  induction m with
  | nil => rfl
  | cons e r ih =>
    obtain ⟨j, w⟩ := e
    simp only [Sparse.above, List.all_cons, Bool.and_eq_true, decide_eq_true_eq] at hm
    have : j ≠ k := by omega
    simp only [Sparse.get, this, if_false]
    exact ih hm.2

/-- Reading what was just written. -/
theorem Sparse.get_set_self {k : Nat} {v : α} {m : List (Nat × α)} (hm : Sparse.wf d m = true) : Sparse.get d (Sparse.set d m k v) k = v := by
  induction m with
  | nil => simp only [Sparse.set]; split <;> simp_all [Sparse.get]
  | cons e r ih =>
    obtain ⟨j, w⟩ := e
    simp only [Sparse.wf, Bool.and_eq_true, decide_eq_true_eq] at hm
    obtain ⟨⟨hw, ha⟩, hr⟩ := hm
    simp only [Sparse.set]
    split
    next hlt =>
      split
      next hv =>
        have hne : j ≠ k := by omega
        simp only [Sparse.get, hne, if_false, hv]
        exact Sparse.get_above d ha (by omega)
      · simp [Sparse.get]
    next hlt =>
      split
      next he =>
        subst he
        split
        next hv => rw [hv]; exact Sparse.get_above d ha (Nat.le_refl k)
        · simp [Sparse.get]
      next hne =>
        have : j ≠ k := fun h => hne h.symm
        simp only [Sparse.get, this, if_false]
        exact ih hr

/-- A write leaves every other key alone. -/
theorem Sparse.get_set_ne {k k' : Nat} {v : α} {m : List (Nat × α)} (h : k' ≠ k) : Sparse.get d (Sparse.set d m k v) k' = Sparse.get d m k' := by
  induction m with
  | nil => simp only [Sparse.set]; split <;> simp [Sparse.get, h.symm]
  | cons e r ih =>
    obtain ⟨j, w⟩ := e
    simp only [Sparse.set]
    split
    · split <;> simp [Sparse.get, h.symm]
    · split
      next he => subst he; split <;> simp [Sparse.get, h.symm]
      · simp only [Sparse.get, ih]

theorem Sparse.get_upd_self {k : Nat} {f : α → α} {m : List (Nat × α)} (hm : Sparse.wf d m = true) :
    Sparse.get d (Sparse.upd d m k f) k = f (Sparse.get d m k) := Sparse.get_set_self d hm

theorem Sparse.get_upd_ne {k k' : Nat} {f : α → α} {m : List (Nat × α)} (h : k' ≠ k) :
    Sparse.get d (Sparse.upd d m k f) k' = Sparse.get d m k' := Sparse.get_set_ne d h

/-! Byte memories. -/

theorem Memory.wf_write {m : Mem} {a : Nat} {b : Byte} (hm : Memory.wf m = true) : Memory.wf (Memory.write m a b) = true :=
  Sparse.wf_set _ hm

theorem Memory.wf_writeBytes {m : Mem} {a : Nat} (bs : List Byte) (hm : Memory.wf m = true) : Memory.wf (Memory.writeBytes m a bs) = true := by
  induction bs generalizing m a with
  | nil => exact hm
  | cons b bs ih => exact ih (Memory.wf_write hm)

theorem Memory.wf_erase {m : Mem} {a n : Nat} (hm : Memory.wf m = true) : Memory.wf (Memory.erase m a n) = true :=
  Sparse.wf_filter _ _ hm

theorem Memory.read_write_self {m : Mem} {a : Nat} {b : Byte} (hm : Memory.wf m = true) : Memory.read (Memory.write m a b) a = b :=
  Sparse.get_set_self _ hm

theorem Memory.read_write_ne {m : Mem} {a x : Nat} {b : Byte} (h : x ≠ a) : Memory.read (Memory.write m a b) x = Memory.read m x :=
  Sparse.get_set_ne _ h

/-- Consecutive bytes leave every address outside them alone. -/
theorem Memory.read_writeBytes_out {m : Mem} {a x : Nat} (bs : List Byte) (h : x < a ∨ a + bs.length ≤ x) :
    Memory.read (Memory.writeBytes m a bs) x = Memory.read m x := by
  induction bs generalizing m a with
  | nil => rfl
  | cons b bs ih =>
    simp only [List.length_cons] at h
    simp only [Memory.writeBytes]
    rw [ih (by omega), Memory.read_write_ne (by omega)]

/-- Consecutive bytes read back. -/
theorem Memory.read_writeBytes_in {m : Mem} {a i : Nat} (bs : List Byte) (hm : Memory.wf m = true) (h : i < bs.length) :
    Memory.read (Memory.writeBytes m a bs) (a + i) = bs[i] := by
  induction bs generalizing m a i with
  | nil => simp at h
  | cons b bs ih =>
    simp only [Memory.writeBytes]
    cases i with
    | zero =>
      rw [Memory.read_writeBytes_out _ (by omega), Nat.add_zero, Memory.read_write_self hm]; rfl
    | succ j =>
      have hj : j < bs.length := by simpa using h
      have : a + (j + 1) = (a + 1) + j := by omega
      rw [this, ih (Memory.wf_write hm) hj]; rfl

end Sys2Proof.Machine
end

