-- ==== Sys2Proof/Laws/Keeps.lean ====
section
/-! SUPPORT. What every operation and meaning keeps: the queue as it stands, and the canonical form of the command window and
the clamp slots. One lemma per operation, to be chained from the last call to the first. -/

namespace Sys2Proof.Machine

/-- t has the queue of s, and its stores are canonical if those of s are. -/
def State.Keeps (s t : State) : Prop := t.pending = s.pending ∧ (s.storesWf → t.storesWf)

theorem State.Keeps.refl (s : State) : s.Keeps s := ⟨rfl, id⟩
theorem State.Keeps.trans {r s t : State} (h : r.Keeps s) (k : s.Keeps t) : r.Keeps t := ⟨k.1.trans h.1, fun w => k.2 (h.2 w)⟩

/-- A state with the same queue, window and clamp slots. -/
theorem State.Keeps.same {r s t : State} (h : r.Keeps s) (hp : t.pending = s.pending) (hw : t.dev.srv.window = s.dev.srv.window)
    (hc : t.dev.fab.clamps = s.dev.fab.clamps) : r.Keeps t :=
  h.trans ⟨hp, fun w => ⟨by rw [State.windowWf, hw]; exact w.1, by rw [hc]; exact w.2⟩⟩

theorem State.Keeps.ite {c : Prop} [Decidable c] {r s t : State} (hs : r.Keeps s) (ht : r.Keeps t) : r.Keeps (if c then s else t) := by
  split <;> assumption

theorem State.Keeps.each {α : Type} {r s : State} {f : State → α → State} {l : List α}
    (hf : ∀ t a, r.Keeps t → r.Keeps (f t a)) (hs : r.Keeps s) : r.Keeps (s.each l f) := by
  unfold State.each
  induction l generalizing s with
  | nil => exact hs
  | cons a l ih => exact ih (hf _ _ hs)

theorem State.Keeps.foldl {α : Type} {r s : State} {f : State → α → State} {l : List α}
    (hf : ∀ t a, r.Keeps t → r.Keeps (f t a)) (hs : r.Keeps s) : r.Keeps (l.foldl f s) := State.Keeps.each hf hs

/-- The state in a pair that an operation answers. -/
theorem State.Keeps.snd {α : Type} {r t : State} {a : α} {p : α × State} (e : p = (a, t)) (h : r.Keeps p.2) : r.Keeps t := by
  rw [e] at h; exact h

theorem State.Keeps.upd {r s : State} {f : Dev → Dev} (hw : (f s.dev).srv.window = s.dev.srv.window)
    (hc : (f s.dev).fab.clamps = s.dev.fab.clamps) (h : r.Keeps s) : r.Keeps (s.upd f) := h.same rfl hw hc
/-- A state with the same queue, an empty window and no clamp slot written. -/
theorem State.Keeps.empty {r s t : State} (h : r.Keeps s) (hp : t.pending = s.pending) (hw : t.dev.srv.window = [])
    (hc : t.dev.fab.clamps = []) : r.Keeps t :=
  h.trans ⟨hp, fun _ => ⟨by rw [State.windowWf, hw]; rfl, by rw [hc]; rfl⟩⟩

theorem State.Keeps.iteSnd {α : Type} {c : Prop} [Decidable c] {r : State} {p q : α × State} (hp : r.Keeps p.2) (hq : r.Keeps q.2) :
    r.Keeps (if c then p else q).2 := by
  split <;> assumption

/-- A meaning that answers a next state. -/
theorem State.Keeps.next {s t u : State} (h : (.next u : Host.Outcome State Fault Refusal) = .next t) (k : s.Keeps u) : s.Keeps t := by
  injection h with h; exact h ▸ k

theorem State.updRole_keeps {r s : State} {f : Role → Role} (h : r.Keeps s) : r.Keeps (s.updRole f) := h.same rfl rfl rfl

theorem State.updTime_keeps {r s : State} {f : Time → Time} (h : r.Keeps s) : r.Keeps (s.updTime f) := h.same rfl rfl rfl

theorem State.updFab_keeps {r s : State} {f : Fab → Fab} (hf : ∀ b, (f b).clamps = b.clamps) (h : r.Keeps s) : r.Keeps (s.updFab f) :=
  h.same rfl rfl (hf _)

theorem State.updDle_keeps {r s : State} {f : Dle → Dle} (h : r.Keeps s) : r.Keeps (s.updDle f) := h.same rfl rfl rfl

theorem State.updWs_keeps {r s : State} {f : Ws → Ws} (h : r.Keeps s) : r.Keeps (s.updWs f) := h.same rfl rfl rfl

theorem State.updLnk_keeps {r s : State} {f : Lnk → Lnk} (h : r.Keeps s) : r.Keeps (s.updLnk f) := h.same rfl rfl rfl

theorem State.updPcie_keeps {r s : State} {f : Pcie → Pcie} (h : r.Keeps s) : r.Keeps (s.updPcie f) := h.same rfl rfl rfl

theorem State.updSrv_keeps {r s : State} {f : Srv → Srv} (hf : ∀ v, (f v).window = v.window) (h : r.Keeps s) : r.Keeps (s.updSrv f) :=
  h.same rfl (hf _) rfl

theorem State.updChk_keeps {r s : State} {f : Chk → Chk} (h : r.Keeps s) : r.Keeps (s.updChk f) := h.same rfl rfl rfl

theorem State.updSec_keeps {r s : State} {f : Sec → Sec} (h : r.Keeps s) : r.Keeps (s.updSec f) := h.same rfl rfl rfl

theorem State.updNv_keeps {r s : State} {f : Nv → Nv} (h : r.Keeps s) : r.Keeps (s.updNv f) := h.same rfl rfl rfl

theorem State.updRst_keeps {r s : State} {f : Rst → Rst} (h : r.Keeps s) : r.Keeps (s.updRst f) := h.same rfl rfl rfl

theorem State.updHk_keeps {r s : State} {f : Hk → Hk} (h : r.Keeps s) : r.Keeps (s.updHk f) := h.same rfl rfl rfl

theorem State.updCn_keeps {r s : State} {f : Cn → Cn} (h : r.Keeps s) : r.Keeps (s.updCn f) := h.same rfl rfl rfl

theorem State.updPan_keeps {p : Nat} {r s : State} {f : Pan → Pan} (h : r.Keeps s) : r.Keeps (s.updPan p f) := h.same rfl rfl rfl

theorem State.updArr_keeps {p a : Nat} {f : Arr → Arr} {r₀ s : State} (hr : r₀.Keeps s) : r₀.Keeps (State.updArr s p a f) := by
  unfold State.updArr
  repeat' (first
    | with_reducible (first | assumption | exact fun _ => rfl | intro _)
    | dsimp only
    | with_reducible (first | apply State.Keeps.ite | apply State.updPan_keeps | apply State.Keeps.each |
      apply State.Keeps.foldl | refine State.Keeps.snd (by assumption) ?_)
    | split | (with_reducible refine State.Keeps.upd rfl rfl ?_) | rfl | exact hr.same rfl rfl rfl)

theorem State.updMem_keeps {p : Nat} {r s : State} {f : MemPair → MemPair} (h : r.Keeps s) : r.Keeps (s.updMem p f) := h.same rfl rfl rfl

theorem State.updArb_keeps {p : Nat} {r s : State} {f : Arb → Arb} (h : r.Keeps s) : r.Keeps (s.updArb p f) := h.same rfl rfl rfl

theorem State.updPort_keeps {p : Nat} {f : Port → Port} {r₀ s : State} (hr : r₀.Keeps s) : r₀.Keeps (State.updPort s p f) := by
  unfold State.updPort
  repeat' (first
    | with_reducible (first | assumption | exact fun _ => rfl | intro _)
    | dsimp only
    | with_reducible (first | apply State.Keeps.ite | apply State.updLnk_keeps | apply State.Keeps.each |
      apply State.Keeps.foldl | refine State.Keeps.snd (by assumption) ?_)
    | split | (with_reducible refine State.Keeps.upd rfl rfl ?_) | rfl | exact hr.same rfl rfl rfl)

theorem State.updFn_keeps {f : Nat} {g : Fn → Fn} {r₀ s : State} (hr : r₀.Keeps s) : r₀.Keeps (State.updFn s f g) := by
  unfold State.updFn
  repeat' (first
    | with_reducible (first | assumption | exact fun _ => rfl | intro _)
    | dsimp only
    | with_reducible (first | apply State.Keeps.ite | apply State.updSrv_keeps | apply State.Keeps.each |
      apply State.Keeps.foldl | refine State.Keeps.snd (by assumption) ?_)
    | split | (with_reducible refine State.Keeps.upd rfl rfl ?_) | rfl | exact hr.same rfl rfl rfl)

theorem State.updRing_keeps {f r : Nat} {g : Ring → Ring} {r₀ s : State} (hr : r₀.Keeps s) : r₀.Keeps (State.updRing s f r g) := by
  unfold State.updRing
  repeat' (first
    | with_reducible (first | assumption | exact fun _ => rfl | intro _)
    | dsimp only
    | with_reducible (first | apply State.Keeps.ite | apply State.updFn_keeps | apply State.Keeps.each |
      apply State.Keeps.foldl | refine State.Keeps.snd (by assumption) ?_)
    | split | (with_reducible refine State.Keeps.upd rfl rfl ?_) | rfl | exact hr.same rfl rfl rfl)

theorem State.updFnCfg_keeps {f : Nat} {g : FnCfg → FnCfg} {r₀ s : State} (hr : r₀.Keeps s) : r₀.Keeps (State.updFnCfg s f g) := by
  unfold State.updFnCfg
  repeat' (first
    | with_reducible (first | assumption | exact fun _ => rfl | intro _)
    | dsimp only
    | with_reducible (first | apply State.Keeps.ite | apply State.updPcie_keeps | apply State.Keeps.each |
      apply State.Keeps.foldl | refine State.Keeps.snd (by assumption) ?_)
    | split | (with_reducible refine State.Keeps.upd rfl rfl ?_) | rfl | exact hr.same rfl rfl rfl)

theorem State.updMsix_keeps {f e : Nat} {g : MsixEntry → MsixEntry} {r₀ s : State} (hr : r₀.Keeps s) : r₀.Keeps (State.updMsix s f e g) := by
  unfold State.updMsix
  repeat' (first
    | with_reducible (first | assumption | exact fun _ => rfl | intro _)
    | dsimp only
    | with_reducible (first | apply State.Keeps.ite | apply State.updFnCfg_keeps | apply State.Keeps.each |
      apply State.Keeps.foldl | refine State.Keeps.snd (by assumption) ?_)
    | split | (with_reducible refine State.Keeps.upd rfl rfl ?_) | rfl | exact hr.same rfl rfl rfl)

theorem State.updIsl_keeps {i : Nat} {f : Isl → Isl} {r₀ s : State} (hr : r₀.Keeps s) : r₀.Keeps (State.updIsl s i f) := by
  unfold State.updIsl
  repeat' (first
    | with_reducible (first | assumption | exact fun _ => rfl | intro _)
    | dsimp only
    | with_reducible (first | apply State.Keeps.ite | apply State.updHk_keeps | apply State.Keeps.each |
      apply State.Keeps.foldl | refine State.Keeps.snd (by assumption) ?_)
    | split | (with_reducible refine State.Keeps.upd rfl rfl ?_) | rfl | exact hr.same rfl rfl rfl)

theorem State.updClamp_keeps {k : Nat} {f : ClampSlot → ClampSlot} {z s : State} (h : z.Keeps s) : z.Keeps (s.updClamp k f) :=
  h.trans ⟨rfl, fun w => ⟨w.1, Sparse.wf_upd ClampSlot.reset w.2⟩⟩

theorem State.updTenant_keeps {t : Nat} {f : Tenant → Tenant} {r₀ s : State} (hr : r₀.Keeps s) : r₀.Keeps (State.updTenant s t f) := by
  unfold State.updTenant
  repeat' (first
    | with_reducible (first | assumption | exact fun _ => rfl | intro _)
    | dsimp only
    | with_reducible (first | apply State.Keeps.ite | apply State.updSrv_keeps | apply State.Keeps.each |
      apply State.Keeps.foldl | refine State.Keeps.snd (by assumption) ?_)
    | split | (with_reducible refine State.Keeps.upd rfl rfl ?_) | rfl | exact hr.same rfl rfl rfl)

theorem State.updStream_keeps {ch : Nat} {f : Stream → Stream} {r₀ s : State} (hr : r₀.Keeps s) : r₀.Keeps (State.updStream s ch f) := by
  unfold State.updStream
  repeat' (first
    | with_reducible (first | assumption | exact fun _ => rfl | intro _)
    | dsimp only
    | with_reducible (first | apply State.Keeps.ite | apply State.updSrv_keeps | apply State.Keeps.each |
      apply State.Keeps.foldl | refine State.Keeps.snd (by assumption) ?_)
    | split | (with_reducible refine State.Keeps.upd rfl rfl ?_) | rfl | exact hr.same rfl rfl rfl)

theorem State.updGen_keeps {ch : Nat} {f : Gen → Gen} {r₀ s : State} (hr : r₀.Keeps s) : r₀.Keeps (State.updGen s ch f) := by
  unfold State.updGen
  repeat' (first
    | with_reducible (first | assumption | exact fun _ => rfl | intro _)
    | dsimp only
    | with_reducible (first | apply State.Keeps.ite | apply State.updStream_keeps | apply State.Keeps.each |
      apply State.Keeps.foldl | refine State.Keeps.snd (by assumption) ?_)
    | split | (with_reducible refine State.Keeps.upd rfl rfl ?_) | rfl | exact hr.same rfl rfl rfl)

theorem State.setStream_keeps {t : Stream} {r₀ s : State} (hr : r₀.Keeps s) : r₀.Keeps (State.setStream s t) := by
  unfold State.setStream
  repeat' (first
    | with_reducible (first | assumption | exact fun _ => rfl | intro _)
    | dsimp only
    | with_reducible (first | apply State.Keeps.ite | apply State.updSrv_keeps | apply State.Keeps.each |
      apply State.Keeps.foldl | refine State.Keeps.snd (by assumption) ?_)
    | split | (with_reducible refine State.Keeps.upd rfl rfl ?_) | rfl | exact hr.same rfl rfl rfl)

theorem State.delStream_keeps {ch : Nat} {r₀ s : State} (hr : r₀.Keeps s) : r₀.Keeps (State.delStream s ch) := by
  unfold State.delStream
  repeat' (first
    | with_reducible (first | assumption | exact fun _ => rfl | intro _)
    | dsimp only
    | with_reducible (first | apply State.Keeps.ite | apply State.updSrv_keeps | apply State.Keeps.each |
      apply State.Keeps.foldl | refine State.Keeps.snd (by assumption) ?_)
    | split | (with_reducible refine State.Keeps.upd rfl rfl ?_) | rfl | exact hr.same rfl rfl rfl)

theorem State.emit_keeps {o : Out} {r s : State} (h : r.Keeps s) : r.Keeps (s.emit o) := h.same rfl rfl rfl

theorem State.take32_keeps {r₀ s : State} (hr : r₀.Keeps s) : r₀.Keeps (State.take32 s).2 := by
  unfold State.take32
  repeat' (first
    | with_reducible (first | assumption | exact fun _ => rfl | intro _)
    | dsimp only
    | with_reducible (first | apply State.Keeps.ite  | apply State.Keeps.each | apply State.Keeps.foldl |
      refine State.Keeps.snd (by assumption) ?_)
    | split | (with_reducible refine State.Keeps.upd rfl rfl ?_) | rfl | exact hr.same rfl rfl rfl)

theorem State.beginReverify_keeps {r₀ s : State} (hr : r₀.Keeps s) : r₀.Keeps (State.beginReverify s) := by
  unfold State.beginReverify
  repeat' (first
    | with_reducible (first | assumption | exact fun _ => rfl | intro _)
    | dsimp only
    | with_reducible (first | apply State.Keeps.ite | apply State.updHk_keeps | apply State.Keeps.each |
      apply State.Keeps.foldl | refine State.Keeps.snd (by assumption) ?_)
    | split | (with_reducible refine State.Keeps.upd rfl rfl ?_) | rfl | exact hr.same rfl rfl rfl)

theorem State.beginCycle_keeps {r₀ s : State} (hr : r₀.Keeps s) : r₀.Keeps (State.beginCycle s) := by
  unfold State.beginCycle
  repeat' (first
    | with_reducible (first | assumption | exact fun _ => rfl | intro _)
    | dsimp only
    | with_reducible (first | apply State.Keeps.ite  | apply State.Keeps.each | apply State.Keeps.foldl |
      refine State.Keeps.snd (by assumption) ?_)
    | split | (with_reducible refine State.Keeps.upd rfl rfl ?_) | rfl | exact hr.same rfl rfl rfl)

theorem State.passCycles_keeps {n : Nat} {r₀ s : State} (hr : r₀.Keeps s) : r₀.Keeps (State.passCycles s n) := by
  unfold State.passCycles
  repeat' (first
    | with_reducible (first | assumption | exact fun _ => rfl | intro _)
    | dsimp only
    | with_reducible (first | apply State.Keeps.ite | apply State.updTime_keeps | apply State.updCn_keeps |
      apply State.beginReverify_keeps | apply State.beginCycle_keeps | apply State.Keeps.each | apply State.Keeps.foldl |
      refine State.Keeps.snd (by assumption) ?_)
    | split | (with_reducible refine State.Keeps.upd rfl rfl ?_) | rfl | exact hr.same rfl rfl rfl)

theorem State.sendMsix_keeps {f e : Nat} {r₀ s : State} (hr : r₀.Keeps s) : r₀.Keeps (State.sendMsix s f e) := by
  unfold State.sendMsix
  repeat' (first
    | with_reducible (first | assumption | exact fun _ => rfl | intro _)
    | dsimp only
    | with_reducible (first | apply State.Keeps.ite | apply State.updMsix_keeps | apply State.emit_keeps |
      apply State.Keeps.each | apply State.Keeps.foldl | refine State.Keeps.snd (by assumption) ?_)
    | split | (with_reducible refine State.Keeps.upd rfl rfl ?_) | rfl | exact hr.same rfl rfl rfl)

theorem State.flushMsix_keeps {f : Nat} {r₀ s : State} (hr : r₀.Keeps s) : r₀.Keeps (State.flushMsix s f) := by
  unfold State.flushMsix
  repeat' (first
    | with_reducible (first | assumption | exact fun _ => rfl | intro _)
    | dsimp only
    | with_reducible (first | apply State.Keeps.ite | apply State.updMsix_keeps | apply State.emit_keeps |
      apply State.Keeps.each | apply State.Keeps.foldl | refine State.Keeps.snd (by assumption) ?_)
    | split | (with_reducible refine State.Keeps.upd rfl rfl ?_) | rfl | exact hr.same rfl rfl rfl)

theorem State.mirrorEvent_keeps {e : LogEntry} {r₀ s : State} (hr : r₀.Keeps s) : r₀.Keeps (State.mirrorEvent s e) := by
  unfold State.mirrorEvent
  repeat' (first
    | with_reducible (first | assumption | exact fun _ => rfl | intro _)
    | dsimp only
    | with_reducible (first | apply State.Keeps.ite | apply State.updPcie_keeps | apply State.emit_keeps |
      apply State.Keeps.each | apply State.Keeps.foldl | refine State.Keeps.snd (by assumption) ?_)
    | split | (with_reducible refine State.Keeps.upd rfl rfl ?_) | rfl | exact hr.same rfl rfl rfl)

theorem State.logEvent_keeps {code kind unit arg0 arg1 : Nat} {r₀ s : State} (hr : r₀.Keeps s) : r₀.Keeps (State.logEvent s code kind unit arg0 arg1) := by
  unfold State.logEvent
  repeat' (first
    | with_reducible (first | assumption | exact fun _ => rfl | intro _)
    | dsimp only
    | with_reducible (first | apply State.Keeps.ite | apply State.updChk_keeps | apply State.updNv_keeps |
      apply State.mirrorEvent_keeps | apply State.Keeps.each | apply State.Keeps.foldl |
      refine State.Keeps.snd (by assumption) ?_)
    | split | (with_reducible refine State.Keeps.upd rfl rfl ?_) | rfl | exact hr.same rfl rfl rfl)

theorem State.produce_keeps {f ring : Nat} {r : Record} {r₀ s : State} (hr : r₀.Keeps s) : r₀.Keeps (State.produce s f ring r) := by
  unfold State.produce
  repeat' (first
    | with_reducible (first | assumption | exact fun _ => rfl | intro _)
    | dsimp only
    | with_reducible (first | apply State.Keeps.ite | apply State.updRing_keeps | apply State.Keeps.each |
      apply State.Keeps.foldl | refine State.Keeps.snd (by assumption) ?_)
    | split | (with_reducible refine State.Keeps.upd rfl rfl ?_) | rfl | exact hr.same rfl rfl rfl)

theorem State.hostOut_keeps {f : Nat} {addr : W64} {bytes : List Byte} {r₀ s : State} (hr : r₀.Keeps s) : r₀.Keeps (State.hostOut s f addr bytes) := by
  unfold State.hostOut
  repeat' (first
    | with_reducible (first | assumption | exact fun _ => rfl | intro _)
    | dsimp only
    | with_reducible (first | apply State.Keeps.ite | apply State.updPcie_keeps | apply State.updSrv_keeps |
      apply State.emit_keeps | apply State.Keeps.each | apply State.Keeps.foldl | refine State.Keeps.snd (by assumption) ?_)
    | split | (with_reducible refine State.Keeps.upd rfl rfl ?_) | rfl | exact hr.same rfl rfl rfl)

theorem State.flushOuts_keeps {f : Nat} {r₀ s : State} (hr : r₀.Keeps s) : r₀.Keeps (State.flushOuts s f) := by
  unfold State.flushOuts
  repeat' (first
    | with_reducible (first | assumption | exact fun _ => rfl | intro _)
    | dsimp only
    | with_reducible (first | apply State.Keeps.ite | apply State.updSrv_keeps | apply State.hostOut_keeps |
      apply State.Keeps.each | apply State.Keeps.foldl | refine State.Keeps.snd (by assumption) ?_)
    | split | (with_reducible refine State.Keeps.upd rfl rfl ?_) | rfl | exact hr.same rfl rfl rfl)

theorem State.unlock_keeps {ch : Nat} {r₀ s : State} (hr : r₀.Keeps s) : r₀.Keeps (State.unlock s ch) := by
  unfold State.unlock
  repeat' (first
    | with_reducible (first | assumption | exact fun _ => rfl | intro _)
    | dsimp only
    | with_reducible (first | apply State.Keeps.ite | apply State.updSrv_keeps | apply State.Keeps.each |
      apply State.Keeps.foldl | refine State.Keeps.snd (by assumption) ?_)
    | split | (with_reducible refine State.Keeps.upd rfl rfl ?_) | rfl | exact hr.same rfl rfl rfl)

theorem State.reply_keeps {p : Rep} {status detail : Nat} {released final : Bool} {w0 w1 : Nat} {payload : List Byte} {text tokens : Bool} {r₀ s : State} (hr : r₀.Keeps s) : r₀.Keeps (State.reply s p status detail released final w0 w1 payload text tokens) := by
  unfold State.reply
  repeat' (first
    | with_reducible (first | assumption | exact fun _ => rfl | intro _)
    | dsimp only
    | with_reducible (first | apply State.Keeps.ite | apply State.produce_keeps | apply State.unlock_keeps |
      apply State.Keeps.each | apply State.Keeps.foldl | refine State.Keeps.snd (by assumption) ?_)
    | split | (with_reducible refine State.Keeps.upd rfl rfl ?_) | rfl | exact hr.same rfl rfl rfl)

theorem State.failFetch_keeps {test : Cmd → Bool} {r₀ s : State} (hr : r₀.Keeps s) : r₀.Keeps (State.failFetch s test) := by
  unfold State.failFetch
  repeat' (first
    | with_reducible (first | assumption | exact fun _ => rfl | intro _)
    | dsimp only
    | with_reducible (first | apply State.Keeps.ite | apply State.updSrv_keeps | apply State.updFn_keeps |
      apply State.Keeps.each | apply State.Keeps.foldl | refine State.Keeps.snd (by assumption) ?_)
    | split | (with_reducible refine State.Keeps.upd rfl rfl ?_) | rfl | exact hr.same rfl rfl rfl)

theorem stepArbRequest_keeps {res unit : Nat} {who : Requester} {waited : Nat} {ch : Option Nat} {r₀ s : State} (hr : r₀.Keeps s) : r₀.Keeps (stepArbRequest res unit who waited ch s) := by
  unfold stepArbRequest
  repeat' (first
    | with_reducible (first | assumption | exact fun _ => rfl | intro _)
    | dsimp only
    | with_reducible (first | apply State.Keeps.ite | apply State.updArb_keeps | apply State.Keeps.each |
      apply State.Keeps.foldl | refine State.Keeps.snd (by assumption) ?_)
    | split | (with_reducible refine State.Keeps.upd rfl rfl ?_) | rfl | exact hr.same rfl rfl rfl)

theorem stepBackoffExpiry_keeps {res unit : Nat} {who : Requester} {r₀ s : State} (hr : r₀.Keeps s) : r₀.Keeps (stepBackoffExpiry res unit who s) := by
  unfold stepBackoffExpiry
  repeat' (first
    | with_reducible (first | assumption | exact fun _ => rfl | intro _)
    | dsimp only
    | with_reducible (first | apply State.Keeps.ite | apply State.updArb_keeps | apply State.Keeps.each |
      apply State.Keeps.foldl | refine State.Keeps.snd (by assumption) ?_)
    | split | (with_reducible refine State.Keeps.upd rfl rfl ?_) | rfl | exact hr.same rfl rfl rfl)

theorem State.countBytes_keeps {res bytes : Nat} {write : Bool} {r₀ s : State} (hr : r₀.Keeps s) : r₀.Keeps (State.countBytes s res bytes write) := by
  unfold State.countBytes
  repeat' (first
    | with_reducible (first | assumption | exact fun _ => rfl | intro _)
    | dsimp only
    | with_reducible (first | apply State.Keeps.ite | apply State.updPcie_keeps | apply State.updMem_keeps |
      apply State.Keeps.each | apply State.Keeps.foldl | refine State.Keeps.snd (by assumption) ?_)
    | split | (with_reducible refine State.Keeps.upd rfl rfl ?_) | rfl | exact hr.same rfl rfl rfl)

theorem State.eccMem_keeps {res ecc : Nat} {r₀ s : State} (hr : r₀.Keeps s) : r₀.Keeps (State.eccMem s res ecc) := by
  unfold State.eccMem
  repeat' (first
    | with_reducible (first | assumption | exact fun _ => rfl | intro _)
    | dsimp only
    | with_reducible (first | apply State.Keeps.ite | apply State.updMem_keeps | apply State.logEvent_keeps |
      apply State.Keeps.each | apply State.Keeps.foldl | refine State.Keeps.snd (by assumption) ?_)
    | split | (with_reducible refine State.Keeps.upd rfl rfl ?_) | rfl | exact hr.same rfl rfl rfl)

theorem State.landPrefetch_keeps {f : Prefetch} {data : List Byte} {poison : Bool} {r₀ s : State} (hr : r₀.Keeps s) : r₀.Keeps (State.landPrefetch s f data poison) := by
  unfold State.landPrefetch
  repeat' (first
    | with_reducible (first | assumption | exact fun _ => rfl | intro _)
    | dsimp only
    | with_reducible (first | apply State.Keeps.ite | apply State.updFab_keeps | apply State.updPan_keeps |
      apply State.Keeps.each | apply State.Keeps.foldl | refine State.Keeps.snd (by assumption) ?_)
    | split | (with_reducible refine State.Keeps.upd rfl rfl ?_) | rfl | exact hr.same rfl rfl rfl)

theorem stepArbTransferComplete_keeps {res unit bytes : Nat} {write : Bool} {data : List Byte} {ecc : Nat} {r₀ s : State} (hr : r₀.Keeps s) : r₀.Keeps (stepArbTransferComplete res unit bytes write data ecc s) := by
  unfold stepArbTransferComplete
  repeat' (first
    | with_reducible (first | assumption | exact fun _ => rfl | intro _)
    | dsimp only
    | with_reducible (first | apply State.Keeps.ite | apply State.updArb_keeps | apply State.countBytes_keeps |
      apply State.eccMem_keeps | apply State.landPrefetch_keeps | apply State.Keeps.each | apply State.Keeps.foldl |
      refine State.Keeps.snd (by assumption) ?_)
    | split | (with_reducible refine State.Keeps.upd rfl rfl ?_) | rfl | exact hr.same rfl rfl rfl)

theorem State.errorCompletion_keeps {res unit : Nat} {g : Grant} {r₀ s : State} (hr : r₀.Keeps s) : r₀.Keeps (State.errorCompletion s res unit g) := by
  unfold State.errorCompletion
  repeat' (first
    | with_reducible (first | assumption | exact fun _ => rfl | intro _)
    | dsimp only
    | with_reducible (first | apply State.Keeps.ite | apply State.emit_keeps | apply State.failFetch_keeps |
      apply State.Keeps.each | apply State.Keeps.foldl | refine State.Keeps.snd (by assumption) ?_)
    | split | (with_reducible refine State.Keeps.upd rfl rfl ?_) | rfl | exact hr.same rfl rfl rfl)

theorem stepArbWatchdogBite_keeps {res unit : Nat} {r₀ s : State} (hr : r₀.Keeps s) : r₀.Keeps (stepArbWatchdogBite res unit s) := by
  unfold stepArbWatchdogBite
  repeat' (first
    | with_reducible (first | assumption | exact fun _ => rfl | intro _)
    | dsimp only
    | with_reducible (first | apply State.Keeps.ite | apply State.updArb_keeps | apply State.logEvent_keeps |
      apply State.errorCompletion_keeps | apply State.Keeps.each | apply State.Keeps.foldl |
      refine State.Keeps.snd (by assumption) ?_)
    | split | (with_reducible refine State.Keeps.upd rfl rfl ?_) | rfl | exact hr.same rfl rfl rfl)

theorem stepBiteResetEnd_keeps {res : Nat} {r₀ s : State} (hr : r₀.Keeps s) : r₀.Keeps (stepBiteResetEnd res s) := by
  unfold stepBiteResetEnd
  repeat' (first
    | with_reducible (first | assumption | exact fun _ => rfl | intro _)
    | dsimp only
    | with_reducible (first | apply State.Keeps.ite | apply State.updArb_keeps | apply State.Keeps.each |
      apply State.Keeps.foldl | refine State.Keeps.snd (by assumption) ?_)
    | split | (with_reducible refine State.Keeps.upd rfl rfl ?_) | rfl | exact hr.same rfl rfl rfl)

theorem stepCompletionTimeout_keeps {res unit : Nat} {r₀ s : State} (hr : r₀.Keeps s) : r₀.Keeps (stepCompletionTimeout res unit s) := by
  unfold stepCompletionTimeout
  repeat' (first
    | with_reducible (first | assumption | exact fun _ => rfl | intro _)
    | dsimp only
    | with_reducible (first | apply State.Keeps.ite | apply State.updPcie_keeps | apply State.updArb_keeps |
      apply State.errorCompletion_keeps | apply State.Keeps.each | apply State.Keeps.foldl |
      refine State.Keeps.snd (by assumption) ?_)
    | split | (with_reducible refine State.Keeps.upd rfl rfl ?_) | rfl | exact hr.same rfl rfl rfl)

theorem State.takeDue_keeps {op ch : Nat} {c : Cmd} {r s t : State} (e : s.takeDue op ch = some (c, t)) (hr : r.Keeps s) : r.Keeps t := by
  unfold State.takeDue at e
  split at e
  · split at e
    · cases e; exact State.updSrv_keeps (fun _ => rfl) hr
    · cases e
  · cases e

theorem State.updWork_keeps {stream index : Nat} {f : Work → Work} {r₀ s : State} (hr : r₀.Keeps s) : r₀.Keeps (State.updWork s stream index f) := by
  unfold State.updWork
  repeat' (first
    | with_reducible (first | assumption | exact fun _ => rfl | intro _)
    | dsimp only
    | with_reducible (first | apply State.Keeps.ite | apply State.updFab_keeps | apply State.Keeps.each |
      apply State.Keeps.foldl | refine State.Keeps.snd (by assumption) ?_)
    | split | (with_reducible refine State.Keeps.upd rfl rfl ?_) | rfl | exact hr.same rfl rfl rfl)

theorem State.failWork_keeps {stream index result cause kind unit : Nat} {r₀ s : State} (hr : r₀.Keeps s) : r₀.Keeps (State.failWork s stream index result cause kind unit) := by
  unfold State.failWork
  repeat' (first
    | with_reducible (first | assumption | exact fun _ => rfl | intro _)
    | dsimp only
    | with_reducible (first | apply State.Keeps.ite | apply State.updWork_keeps | apply State.Keeps.each |
      apply State.Keeps.foldl | refine State.Keeps.snd (by assumption) ?_)
    | split | (with_reducible refine State.Keeps.upd rfl rfl ?_) | rfl | exact hr.same rfl rfl rfl)

theorem State.failEvent_keeps {kind unit cause : Nat} {r₀ s : State} (hr : r₀.Keeps s) : r₀.Keeps (State.failEvent s kind unit cause) := by
  unfold State.failEvent
  repeat' (first
    | with_reducible (first | assumption | exact fun _ => rfl | intro _)
    | dsimp only
    | with_reducible (first | apply State.Keeps.ite | apply State.updChk_keeps | apply State.Keeps.each |
      apply State.Keeps.foldl | refine State.Keeps.snd (by assumption) ?_)
    | split | (with_reducible refine State.Keeps.upd rfl rfl ?_) | rfl | exact hr.same rfl rfl rfl)

theorem State.arrayFailure_keeps {p a code lastCause arg0 arg1 : Nat} {r₀ s : State} (hr : r₀.Keeps s) : r₀.Keeps (State.arrayFailure s p a code lastCause arg0 arg1) := by
  unfold State.arrayFailure
  repeat' (first
    | with_reducible (first | assumption | exact fun _ => rfl | intro _)
    | dsimp only
    | with_reducible (first | apply State.Keeps.ite | apply State.updPan_keeps | apply State.logEvent_keeps |
      apply State.failEvent_keeps | apply State.Keeps.each | apply State.Keeps.foldl |
      refine State.Keeps.snd (by assumption) ?_)
    | split | (with_reducible refine State.Keeps.upd rfl rfl ?_) | rfl | exact hr.same rfl rfl rfl)

theorem State.numericFault_keeps {stream index : Nat} {r₀ s : State} (hr : r₀.Keeps s) : r₀.Keeps (State.numericFault s stream index) := by
  unfold State.numericFault
  repeat' (first
    | with_reducible (first | assumption | exact fun _ => rfl | intro _)
    | dsimp only
    | with_reducible (first | apply State.Keeps.ite | apply State.updChk_keeps | apply State.logEvent_keeps |
      apply State.failWork_keeps | apply State.Keeps.each | apply State.Keeps.foldl | refine State.Keeps.snd (by assumption) ?_)
    | split | (with_reducible refine State.Keeps.upd rfl rfl ?_) | rfl | exact hr.same rfl rfl rfl)

theorem State.poisonWork_keeps {stream index result : Nat} {r₀ s : State} (hr : r₀.Keeps s) : r₀.Keeps (State.poisonWork s stream index result) := by
  unfold State.poisonWork
  repeat' (first
    | with_reducible (first | assumption | exact fun _ => rfl | intro _)
    | dsimp only
    | with_reducible (first | apply State.Keeps.ite | apply State.logEvent_keeps | apply State.updWork_keeps |
      apply State.failWork_keeps | apply State.Keeps.each | apply State.Keeps.foldl | refine State.Keeps.snd (by assumption) ?_)
    | split | (with_reducible refine State.Keeps.upd rfl rfl ?_) | rfl | exact hr.same rfl rfl rfl)

theorem State.leavePosition_keeps {isl : Nat} {r₀ s : State} (hr : r₀.Keeps s) : r₀.Keeps (State.leavePosition s isl) := by
  unfold State.leavePosition
  repeat' (first
    | with_reducible (first | assumption | exact fun _ => rfl | intro _)
    | dsimp only
    | with_reducible (first | apply State.Keeps.ite | apply State.updFab_keeps | apply State.updChk_keeps |
      apply State.emit_keeps | apply State.logEvent_keeps | apply State.Keeps.each | apply State.Keeps.foldl |
      refine State.Keeps.snd (by assumption) ?_)
    | split | (with_reducible refine State.Keeps.upd rfl rfl ?_) | rfl | exact hr.same rfl rfl rfl)

theorem State.decideVacate_keeps {p : Nat} {retires : Bool} {r₀ s : State} (hr : r₀.Keeps s) : r₀.Keeps (State.decideVacate s p retires).2 := by
  unfold State.decideVacate
  repeat' (first
    | with_reducible (first | assumption | exact fun _ => rfl | intro _)
    | dsimp only
    | with_reducible (first | apply State.Keeps.ite | apply State.updPan_keeps | apply State.leavePosition_keeps |
      apply State.Keeps.each | apply State.Keeps.foldl | refine State.Keeps.snd (by assumption) ?_)
    | split | (with_reducible refine State.Keeps.upd rfl rfl ?_) | rfl | exact hr.same rfl rfl rfl)

theorem State.retireUnit_keeps {kind unit cause : Nat} {r₀ s : State} (hr : r₀.Keeps s) : r₀.Keeps (State.retireUnit s kind unit cause) := by
  unfold State.retireUnit
  repeat' (first
    | with_reducible (first | assumption | exact fun _ => rfl | intro _)
    | dsimp only
    | with_reducible (first | apply State.Keeps.ite | apply State.updDle_keeps | apply State.updChk_keeps |
      apply State.updArr_keeps | apply State.updPort_keeps | apply State.logEvent_keeps | apply State.leavePosition_keeps |
      apply State.decideVacate_keeps | apply State.Keeps.each | apply State.Keeps.foldl |
      refine State.Keeps.snd (by assumption) ?_)
    | split | (with_reducible refine State.Keeps.upd rfl rfl ?_) | rfl | exact hr.same rfl rfl rfl)

theorem stepUnitRetireDecision_keeps {kind unit : Nat} {r₀ s : State} (hr : r₀.Keeps s) : r₀.Keeps (stepUnitRetireDecision kind unit s) := by
  unfold stepUnitRetireDecision
  repeat' (first
    | with_reducible (first | assumption | exact fun _ => rfl | intro _)
    | dsimp only
    | with_reducible (first | apply State.Keeps.ite | apply State.retireUnit_keeps | apply State.Keeps.each |
      apply State.Keeps.foldl | refine State.Keeps.snd (by assumption) ?_)
    | split | (with_reducible refine State.Keeps.upd rfl rfl ?_) | rfl | exact hr.same rfl rfl rfl)

theorem State.endRetires_keeps {kind : Nat} {units : List Nat} {r₀ s : State} (hr : r₀.Keeps s) : r₀.Keeps (State.endRetires s kind units) := by
  unfold State.endRetires
  repeat' (first
    | with_reducible (first | assumption | exact fun _ => rfl | intro _)
    | dsimp only
    | with_reducible (first | apply State.Keeps.ite | apply State.updChk_keeps | apply State.reply_keeps |
      apply State.Keeps.each | apply State.Keeps.foldl | refine State.Keeps.snd (by assumption) ?_)
    | split | (with_reducible refine State.Keeps.upd rfl rfl ?_) | rfl | exact hr.same rfl rfl rfl)

theorem State.movePayload_keeps {p q : Nat} {retires : Bool} {r₀ s : State} (hr : r₀.Keeps s) : r₀.Keeps (State.movePayload s p q retires) := by
  unfold State.movePayload
  repeat' (first
    | with_reducible (first | assumption | exact fun _ => rfl | intro _)
    | dsimp only
    | with_reducible (first | apply State.Keeps.ite | apply State.updPan_keeps | apply State.Keeps.each |
      apply State.Keeps.foldl | refine State.Keeps.snd (by assumption) ?_)
    | split | (with_reducible refine State.Keeps.upd rfl rfl ?_) | rfl | exact hr.same rfl rfl rfl)

theorem State.endVerify_keeps {p q : Nat} {r₀ s : State} (hr : r₀.Keeps s) : r₀.Keeps (State.endVerify s p q) := by
  unfold State.endVerify
  repeat' (first
    | with_reducible (first | assumption | exact fun _ => rfl | intro _)
    | dsimp only
    | with_reducible (first | apply State.Keeps.ite | apply State.updFab_keeps | apply State.updPan_keeps |
      apply State.Keeps.each | apply State.Keeps.foldl | refine State.Keeps.snd (by assumption) ?_)
    | split | (with_reducible refine State.Keeps.upd rfl rfl ?_) | rfl | exact hr.same rfl rfl rfl)

theorem stepPanSubstitution_keeps {p : Nat} {r₀ s : State} (hr : r₀.Keeps s) : r₀.Keeps (stepPanSubstitution p s) := by
  unfold stepPanSubstitution
  repeat' (first
    | with_reducible (first | assumption | exact fun _ => rfl | intro _)
    | dsimp only
    | with_reducible (first | apply State.Keeps.ite | apply State.endRetires_keeps | apply State.movePayload_keeps |
      apply State.endVerify_keeps | apply State.Keeps.each | apply State.Keeps.foldl |
      refine State.Keeps.snd (by assumption) ?_)
    | split | (with_reducible refine State.Keeps.upd rfl rfl ?_) | rfl | exact hr.same rfl rfl rfl)

theorem State.decideVacateQuiet_keeps {p : Nat} {r₀ s : State} (hr : r₀.Keeps s) : r₀.Keeps (State.decideVacateQuiet s p) := by
  unfold State.decideVacateQuiet
  repeat' (first
    | with_reducible (first | assumption | exact fun _ => rfl | intro _)
    | dsimp only
    | with_reducible (first | apply State.Keeps.ite | apply State.decideVacate_keeps | apply State.Keeps.each |
      apply State.Keeps.foldl | refine State.Keeps.snd (by assumption) ?_)
    | split | (with_reducible refine State.Keeps.upd rfl rfl ?_) | rfl | exact hr.same rfl rfl rfl)

theorem State.vacateUnit_keeps {kind unit : Nat} {r₀ s : State} (hr : r₀.Keeps s) : r₀.Keeps (State.vacateUnit s kind unit) := by
  unfold State.vacateUnit
  repeat' (first
    | with_reducible (first | assumption | exact fun _ => rfl | intro _)
    | dsimp only
    | with_reducible (first | apply State.Keeps.ite | apply State.updDle_keeps | apply State.updPort_keeps |
      apply State.decideVacateQuiet_keeps | apply State.Keeps.each | apply State.Keeps.foldl |
      refine State.Keeps.snd (by assumption) ?_)
    | split | (with_reducible refine State.Keeps.upd rfl rfl ?_) | rfl | exact hr.same rfl rfl rfl)

theorem State.allowUnit_keeps {kind unit : Nat} {r₀ s : State} (hr : r₀.Keeps s) : r₀.Keeps (State.allowUnit s kind unit) := by
  unfold State.allowUnit
  repeat' (first
    | with_reducible (first | assumption | exact fun _ => rfl | intro _)
    | dsimp only
    | with_reducible (first | apply State.Keeps.ite | apply State.updDle_keeps | apply State.updPort_keeps |
      apply State.Keeps.each | apply State.Keeps.foldl | refine State.Keeps.snd (by assumption) ?_)
    | split | (with_reducible refine State.Keeps.upd rfl rfl ?_) | rfl | exact hr.same rfl rfl rfl)

theorem State.applyDeny_keeps {r₀ s : State} (hr : r₀.Keeps s) : r₀.Keeps (State.applyDeny s) := by
  unfold State.applyDeny
  repeat' (first
    | with_reducible (first | assumption | exact fun _ => rfl | intro _)
    | dsimp only
    | with_reducible (first | apply State.Keeps.ite | apply State.updChk_keeps | apply State.vacateUnit_keeps |
      apply State.allowUnit_keeps | apply State.Keeps.each | apply State.Keeps.foldl |
      refine State.Keeps.snd (by assumption) ?_)
    | split | (with_reducible refine State.Keeps.upd rfl rfl ?_) | rfl | exact hr.same rfl rfl rfl)

theorem State.writeDeny_keeps {kind unit : Nat} {r₀ s : State} (hr : r₀.Keeps s) : r₀.Keeps (State.writeDeny s kind unit) := by
  unfold State.writeDeny
  repeat' (first
    | with_reducible (first | assumption | exact fun _ => rfl | intro _)
    | dsimp only
    | with_reducible (first | apply State.Keeps.ite | apply State.updChk_keeps | apply State.Keeps.each |
      apply State.Keeps.foldl | refine State.Keeps.snd (by assumption) ?_)
    | split | (with_reducible refine State.Keeps.upd rfl rfl ?_) | rfl | exact hr.same rfl rfl rfl)

theorem State.dueDeny_keeps {kind unit : Nat} {r₀ s : State} (hr : r₀.Keeps s) : r₀.Keeps (State.dueDeny s kind unit) := by
  unfold State.dueDeny
  repeat' (first
    | with_reducible (first | assumption | exact fun _ => rfl | intro _)
    | dsimp only
    | with_reducible (first | apply State.Keeps.ite | apply State.updChk_keeps | apply State.Keeps.each |
      apply State.Keeps.foldl | refine State.Keeps.snd (by assumption) ?_)
    | split | (with_reducible refine State.Keeps.upd rfl rfl ?_) | rfl | exact hr.same rfl rfl rfl)

theorem State.compareViews_keeps {r₀ s : State} (hr : r₀.Keeps s) : r₀.Keeps (State.compareViews s) := by
  unfold State.compareViews
  repeat' (first
    | with_reducible (first | assumption | exact fun _ => rfl | intro _)
    | dsimp only
    | with_reducible (first | apply State.Keeps.ite | apply State.updChk_keeps | apply State.logEvent_keeps |
      apply State.retireUnit_keeps | apply State.writeDeny_keeps | apply State.Keeps.each | apply State.Keeps.foldl |
      refine State.Keeps.snd (by assumption) ?_)
    | split | (with_reducible refine State.Keeps.upd rfl rfl ?_) | rfl | exact hr.same rfl rfl rfl)

theorem stepDenyWrite_keeps {entry : Nat} {v : W32} {r₀ s : State} (hr : r₀.Keeps s) : r₀.Keeps (stepDenyWrite entry v s) := by
  unfold stepDenyWrite
  repeat' (first
    | with_reducible (first | assumption | exact fun _ => rfl | intro _)
    | dsimp only
    | with_reducible (first | apply State.Keeps.ite | apply State.updChk_keeps | apply State.Keeps.each |
      apply State.Keeps.foldl | refine State.Keeps.snd (by assumption) ?_)
    | split | (with_reducible refine State.Keeps.upd rfl rfl ?_) | rfl | exact hr.same rfl rfl rfl)

theorem State.overflow_keeps {p : Nat} {e : BtnEvent} {full : Bool} {r₀ s : State} (hr : r₀.Keeps s) : r₀.Keeps (State.overflow s p e full) := by
  unfold State.overflow
  repeat' (first
    | with_reducible (first | assumption | exact fun _ => rfl | intro _)
    | dsimp only
    | with_reducible (first | apply State.Keeps.ite | apply State.updPan_keeps | apply State.updArr_keeps |
      apply State.Keeps.each | apply State.Keeps.foldl | refine State.Keeps.snd (by assumption) ?_)
    | split | (with_reducible refine State.Keeps.upd rfl rfl ?_) | rfl | exact hr.same rfl rfl rfl)

theorem State.enqueue_keeps {p : Nat} {e : BtnEvent} {r₀ s : State} (hr : r₀.Keeps s) : r₀.Keeps (State.enqueue s p e) := by
  unfold State.enqueue
  repeat' (first
    | with_reducible (first | assumption | exact fun _ => rfl | intro _)
    | dsimp only
    | with_reducible (first | apply State.Keeps.ite | apply State.updPan_keeps | apply State.overflow_keeps |
      apply State.Keeps.each | apply State.Keeps.foldl | refine State.Keeps.snd (by assumption) ?_)
    | split | (with_reducible refine State.Keeps.upd rfl rfl ?_) | rfl | exact hr.same rfl rfl rfl)

theorem State.arrive_keeps {p limit : Nat} {r₀ s : State} (hr : r₀.Keeps s) : r₀.Keeps (State.arrive s p limit) := by
  unfold State.arrive
  repeat' (first
    | with_reducible (first | assumption | exact fun _ => rfl | intro _)
    | dsimp only
    | with_reducible (first | apply State.Keeps.ite | apply State.updPan_keeps | apply State.enqueue_keeps |
      apply State.Keeps.each | apply State.Keeps.foldl | refine State.Keeps.snd (by assumption) ?_)
    | split | (with_reducible refine State.Keeps.upd rfl rfl ?_) | rfl | exact hr.same rfl rfl rfl)

theorem State.arriveNext_keeps {p : Nat} {r₀ s : State} (hr : r₀.Keeps s) : r₀.Keeps (State.arriveNext s p) := by
  unfold State.arriveNext
  repeat' (first
    | with_reducible (first | assumption | exact fun _ => rfl | intro _)
    | dsimp only
    | with_reducible (first | apply State.Keeps.ite | apply State.arrive_keeps | apply State.Keeps.each |
      apply State.Keeps.foldl | refine State.Keeps.snd (by assumption) ?_)
    | split | (with_reducible refine State.Keeps.upd rfl rfl ?_) | rfl | exact hr.same rfl rfl rfl)

theorem State.arriveAll_keeps {r₀ s : State} (hr : r₀.Keeps s) : r₀.Keeps (State.arriveAll s) := by
  unfold State.arriveAll
  repeat' (first
    | with_reducible (first | assumption | exact fun _ => rfl | intro _)
    | dsimp only
    | with_reducible (first | apply State.Keeps.ite | apply State.arrive_keeps | apply State.Keeps.each |
      apply State.Keeps.foldl | refine State.Keeps.snd (by assumption) ?_)
    | split | (with_reducible refine State.Keeps.upd rfl rfl ?_) | rfl | exact hr.same rfl rfl rfl)

theorem State.eccPan_keeps {p stream index ecc : Nat} {r₀ s : State} (hr : r₀.Keeps s) : r₀.Keeps (State.eccPan s p stream index ecc) := by
  unfold State.eccPan
  repeat' (first
    | with_reducible (first | assumption | exact fun _ => rfl | intro _)
    | dsimp only
    | with_reducible (first | apply State.Keeps.ite | apply State.updPan_keeps | apply State.logEvent_keeps |
      apply State.failEvent_keeps | apply State.poisonWork_keeps | apply State.Keeps.each | apply State.Keeps.foldl |
      refine State.Keeps.snd (by assumption) ?_)
    | split | (with_reducible refine State.Keeps.upd rfl rfl ?_) | rfl | exact hr.same rfl rfl rfl)

theorem State.runCanary_keeps {p a : Nat} {v : RunVec} {r₀ s : State} (hr : r₀.Keeps s) : r₀.Keeps (State.runCanary s p a v) := by
  unfold State.runCanary
  repeat' (first
    | with_reducible (first | assumption | exact fun _ => rfl | intro _)
    | dsimp only
    | with_reducible (first | apply State.Keeps.ite | apply State.updChk_keeps | apply State.updPan_keeps |
      apply State.logEvent_keeps | apply State.Keeps.each | apply State.Keeps.foldl | refine State.Keeps.snd (by assumption) ?_)
    | split | (with_reducible refine State.Keeps.upd rfl rfl ?_) | rfl | exact hr.same rfl rfl rfl)

theorem State.spotCompare_keeps {p a j : Nat} {v : RunVec} {r₀ s : State} (hr : r₀.Keeps s) : r₀.Keeps (State.spotCompare s p a j v) := by
  unfold State.spotCompare
  repeat' (first
    | with_reducible (first | assumption | exact fun _ => rfl | intro _)
    | dsimp only
    | with_reducible (first | apply State.Keeps.ite | apply State.updPan_keeps | apply State.failWork_keeps |
      apply State.arrayFailure_keeps | apply State.Keeps.each | apply State.Keeps.foldl |
      refine State.Keeps.snd (by assumption) ?_)
    | split | (with_reducible refine State.Keeps.upd rfl rfl ?_) | rfl | exact hr.same rfl rfl rfl)

theorem State.settleSpots_keeps {p a slot stream index vec : Nat} {r₀ s : State} (hr : r₀.Keeps s) : r₀.Keeps (State.settleSpots s p a slot stream index vec) := by
  unfold State.settleSpots
  repeat' (first
    | with_reducible (first | assumption | exact fun _ => rfl | intro _)
    | dsimp only
    | with_reducible (first | apply State.Keeps.ite | apply State.updPan_keeps | apply State.spotCompare_keeps |
      apply State.Keeps.each | apply State.Keeps.foldl | refine State.Keeps.snd (by assumption) ?_)
    | split | (with_reducible refine State.Keeps.upd rfl rfl ?_) | rfl | exact hr.same rfl rfl rfl)

theorem State.judge_keeps {p a slot stream index vec : Nat} {r₀ s : State} (hr : r₀.Keeps s) : r₀.Keeps (State.judge s p a slot stream index vec) := by
  unfold State.judge
  repeat' (first
    | with_reducible (first | assumption | exact fun _ => rfl | intro _)
    | dsimp only
    | with_reducible (first | apply State.Keeps.ite | apply State.updChk_keeps | apply State.updPan_keeps |
      apply State.updArr_keeps | apply State.failWork_keeps | apply State.arrayFailure_keeps | apply State.runCanary_keeps |
      apply State.settleSpots_keeps | apply State.Keeps.each | apply State.Keeps.foldl |
      refine State.Keeps.snd (by assumption) ?_)
    | split | (with_reducible refine State.Keeps.upd rfl rfl ?_) | rfl | exact hr.same rfl rfl rfl)

theorem stepArrayVectorComplete_keeps {p a : Nat} {r₀ s : State} (hr : r₀.Keeps s) : r₀.Keeps (stepArrayVectorComplete p a s) := by
  unfold stepArrayVectorComplete
  repeat' (first
    | with_reducible (first | assumption | exact fun _ => rfl | intro _)
    | dsimp only
    | with_reducible (first | apply State.Keeps.ite | apply State.updArr_keeps | apply State.emit_keeps |
      apply State.arrive_keeps | apply State.judge_keeps | apply State.Keeps.each | apply State.Keeps.foldl |
      refine State.Keeps.snd (by assumption) ?_)
    | split | (with_reducible refine State.Keeps.upd rfl rfl ?_) | rfl | exact hr.same rfl rfl rfl)

theorem stepVector_keeps {p a ring slot stream index vec ecc : Nat} {r₀ s : State} (hr : r₀.Keeps s) :
    r₀.Keeps (stepVector p a ring slot stream index vec ecc s) := by
  unfold stepVector
  split
  · exact hr
  · extract_lets s1 replay x src cfg q acts n0 start limit planes planes' sums v flagged s2 s3 s4 events
    have h1 : r₀.Keeps s1 := State.eccPan_keeps (stepArrayVectorComplete_keeps hr)
    have h3 : r₀.Keeps s3 := State.updArr_keeps (h1.same rfl rfl rfl)
    exact State.updPan_keeps (State.Keeps.ite h3 (State.failWork_keeps h3))

theorem stepBitternEventServe_keeps {p : Nat} {r₀ s : State} (hr : r₀.Keeps s) : r₀.Keeps (stepBitternEventServe p s) := by
  unfold stepBitternEventServe
  repeat' (first
    | with_reducible (first | assumption | exact fun _ => rfl | intro _)
    | dsimp only
    | with_reducible (first | apply State.Keeps.ite | apply State.updPan_keeps | apply State.updArr_keeps |
      apply State.emit_keeps | apply State.arriveNext_keeps | apply State.judge_keeps | apply State.Keeps.each |
      apply State.Keeps.foldl | refine State.Keeps.snd (by assumption) ?_)
    | split | (with_reducible refine State.Keeps.upd rfl rfl ?_) | rfl | exact hr.same rfl rfl rfl)

theorem stepRingLoad_keeps {p ring : Nat} {acts : List Byte} {scale : W16} {r₀ s : State} (hr : r₀.Keeps s) : r₀.Keeps (stepRingLoad p ring acts scale s) := by
  unfold stepRingLoad
  repeat' (first
    | with_reducible (first | assumption | exact fun _ => rfl | intro _)
    | dsimp only
    | with_reducible (first | apply State.Keeps.ite | apply State.updPan_keeps | apply State.Keeps.each |
      apply State.Keeps.foldl | refine State.Keeps.snd (by assumption) ?_)
    | split | (with_reducible refine State.Keeps.upd rfl rfl ?_) | rfl | exact hr.same rfl rfl rfl)

theorem State.closeVector_keeps {p slot stream index vec : Nat} {r₀ s : State} (hr : r₀.Keeps s) : r₀.Keeps (State.closeVector s p slot stream index vec) := by
  unfold State.closeVector
  repeat' (first
    | with_reducible (first | assumption | exact fun _ => rfl | intro _)
    | dsimp only
    | with_reducible (first | apply State.Keeps.ite | apply State.updPan_keeps | apply State.overflow_keeps |
      apply State.judge_keeps | apply State.Keeps.each | apply State.Keeps.foldl | refine State.Keeps.snd (by assumption) ?_)
    | split | (with_reducible refine State.Keeps.upd rfl rfl ?_) | rfl | exact hr.same rfl rfl rfl)

theorem stepCorrectLast_keeps {p scaleArr slot stream index vec ecc : Nat} {r₀ s : State} (hr : r₀.Keeps s) : r₀.Keeps (stepCorrectLast p scaleArr slot stream index vec ecc s) := by
  unfold stepCorrectLast
  repeat' (first
    | with_reducible (first | assumption | exact fun _ => rfl | intro _)
    | dsimp only
    | with_reducible (first | apply State.Keeps.ite | apply State.updPan_keeps | apply State.updClamp_keeps |
      apply State.emit_keeps | apply State.updWork_keeps | apply State.poisonWork_keeps | apply State.eccPan_keeps |
      apply State.closeVector_keeps | apply State.Keeps.each | apply State.Keeps.foldl |
      refine State.Keeps.snd (by assumption) ?_)
    | split | (with_reducible refine State.Keeps.upd rfl rfl ?_) | rfl | exact hr.same rfl rfl rfl)

theorem State.contentFailure_keeps {p a row : Nat} {r₀ s : State} (hr : r₀.Keeps s) : r₀.Keeps (State.contentFailure s p a row) := by
  unfold State.contentFailure
  repeat' (first
    | with_reducible (first | assumption | exact fun _ => rfl | intro _)
    | dsimp only
    | with_reducible (first | apply State.Keeps.ite | apply State.updFab_keeps | apply State.updChk_keeps |
      apply State.updPan_keeps | apply State.updArr_keeps | apply State.failWork_keeps | apply State.arrayFailure_keeps |
      apply State.decideVacate_keeps | apply State.Keeps.each | apply State.Keeps.foldl |
      refine State.Keeps.snd (by assumption) ?_)
    | split | (with_reducible refine State.Keeps.upd rfl rfl ?_) | rfl | exact hr.same rfl rfl rfl)

theorem stepSpot_keeps {p a eligible : Nat} {r₀ s : State} (hr : r₀.Keeps s) : r₀.Keeps (stepSpot p a eligible s) := by
  unfold stepSpot
  repeat' (first
    | with_reducible (first | assumption | exact fun _ => rfl | intro _)
    | dsimp only
    | with_reducible (first | apply State.Keeps.ite | apply State.updPan_keeps | apply State.updArr_keeps |
      apply State.spotCompare_keeps | apply State.contentFailure_keeps | apply State.Keeps.each | apply State.Keeps.foldl |
      refine State.Keeps.snd (by assumption) ?_)
    | split | (with_reducible refine State.Keeps.upd rfl rfl ?_) | rfl | exact hr.same rfl rfl rfl)

theorem stepCanary_keeps {p : Nat} {r₀ s : State} (hr : r₀.Keeps s) : r₀.Keeps (stepCanary p s) := by
  unfold stepCanary
  repeat' (first
    | with_reducible (first | assumption | exact fun _ => rfl | intro _)
    | dsimp only
    | with_reducible (first | apply State.Keeps.ite | apply State.updPan_keeps | apply State.runCanary_keeps |
      apply State.Keeps.each | apply State.Keeps.foldl | refine State.Keeps.snd (by assumption) ?_)
    | split | (with_reducible refine State.Keeps.upd rfl rfl ?_) | rfl | exact hr.same rfl rfl rfl)

theorem State.slipOne_keeps {cause : SlipCause} {w : Work} {r₀ s : State} (hr : r₀.Keeps s) : r₀.Keeps (State.slipOne cause s w) := by
  unfold State.slipOne
  repeat' (first
    | with_reducible (first | assumption | exact fun _ => rfl | intro _)
    | dsimp only
    | with_reducible (first | apply State.Keeps.ite | apply State.updFab_keeps | apply State.updWork_keeps |
      apply State.Keeps.each | apply State.Keeps.foldl | refine State.Keeps.snd (by assumption) ?_)
    | split | (with_reducible refine State.Keeps.upd rfl rfl ?_) | rfl | exact hr.same rfl rfl rfl)

theorem State.slipWorks_keeps {stream index : Nat} {cause : SlipCause} {r₀ s : State} (hr : r₀.Keeps s) : r₀.Keeps (State.slipWorks s stream index cause) := by
  unfold State.slipWorks
  repeat' (first
    | with_reducible (first | assumption | exact fun _ => rfl | intro _)
    | dsimp only
    | with_reducible (first | apply State.Keeps.ite | apply State.slipOne_keeps | apply State.Keeps.each |
      apply State.Keeps.foldl | refine State.Keeps.snd (by assumption) ?_)
    | split | (with_reducible refine State.Keeps.upd rfl rfl ?_) | rfl | exact hr.same rfl rfl rfl)

theorem State.slip_keeps {p stream index : Nat} {cause : SlipCause} {r₀ s : State} (hr : r₀.Keeps s) : r₀.Keeps (State.slip s p stream index cause) := by
  unfold State.slip
  repeat' (first
    | with_reducible (first | assumption | exact fun _ => rfl | intro _)
    | dsimp only
    | with_reducible (first | apply State.Keeps.ite | apply State.emit_keeps | apply State.slipWorks_keeps |
      apply State.Keeps.each | apply State.Keeps.foldl | refine State.Keeps.snd (by assumption) ?_)
    | split | (with_reducible refine State.Keeps.upd rfl rfl ?_) | rfl | exact hr.same rfl rfl rfl)

theorem stepPrefetch_keeps {p stream index res addr len dst : Nat} {r₀ s : State} (hr : r₀.Keeps s) : r₀.Keeps (stepPrefetch p stream index res addr len dst s) := by
  unfold stepPrefetch
  repeat' (first
    | with_reducible (first | assumption | exact fun _ => rfl | intro _)
    | dsimp only
    | with_reducible (first | apply State.Keeps.ite | apply State.updFab_keeps | apply stepArbRequest_keeps |
      apply State.Keeps.each | apply State.Keeps.foldl | refine State.Keeps.snd (by assumption) ?_)
    | split | (with_reducible refine State.Keeps.upd rfl rfl ?_) | rfl | exact hr.same rfl rfl rfl)

theorem stepDeadline_keeps {p stream index : Nat} {r₀ s : State} (hr : r₀.Keeps s) : r₀.Keeps (stepDeadline p stream index s) := by
  unfold stepDeadline
  repeat' (first
    | with_reducible (first | assumption | exact fun _ => rfl | intro _)
    | dsimp only
    | with_reducible (first | apply State.Keeps.ite | apply State.updFab_keeps | apply State.poisonWork_keeps |
      apply State.slip_keeps | apply State.Keeps.each | apply State.Keeps.foldl | refine State.Keeps.snd (by assumption) ?_)
    | split | (with_reducible refine State.Keeps.upd rfl rfl ?_) | rfl | exact hr.same rfl rfl rfl)

theorem State.attnLate_keeps {p stream index : Nat} {r₀ s : State} (hr : r₀.Keeps s) : r₀.Keeps (State.attnLate s p stream index) := by
  unfold State.attnLate
  repeat' (first
    | with_reducible (first | assumption | exact fun _ => rfl | intro _)
    | dsimp only
    | with_reducible (first | apply State.Keeps.ite | apply State.updDle_keeps | apply State.slip_keeps |
      apply State.Keeps.each | apply State.Keeps.foldl | refine State.Keeps.snd (by assumption) ?_)
    | split | (with_reducible refine State.Keeps.upd rfl rfl ?_) | rfl | exact hr.same rfl rfl rfl)

theorem stepAttnReturn_keeps {p stream index : Nat} {complete : Bool} {r₀ s : State} (hr : r₀.Keeps s) : r₀.Keeps (stepAttnReturn p stream index complete s) := by
  unfold stepAttnReturn
  repeat' (first
    | with_reducible (first | assumption | exact fun _ => rfl | intro _)
    | dsimp only
    | with_reducible (first | apply State.Keeps.ite | apply State.updDle_keeps | apply State.emit_keeps |
      apply State.updWork_keeps | apply State.attnLate_keeps | apply State.Keeps.each | apply State.Keeps.foldl |
      refine State.Keeps.snd (by assumption) ?_)
    | split | (with_reducible refine State.Keeps.upd rfl rfl ?_) | rfl | exact hr.same rfl rfl rfl)

theorem State.fillSlips_keeps {slot slots pairs : Nat} {l : List Work} {b : List Nat} {r s : State} (hr : r.Keeps s) :
    r.Keeps (State.fillSlips slot slots pairs l b s) := by
  induction l generalizing s b with
  | nil => exact hr
  | cons w ws ih =>
    unfold State.fillSlips
    dsimp only
    split
    · exact hr
    · split
      · exact ih hr
      · exact ih (State.updWork_keeps (State.updFab_keeps (fun _ => rfl) hr))

theorem stepSlipSlot_keeps {slot : Nat} {r₀ s : State} (hr : r₀.Keeps s) : r₀.Keeps (stepSlipSlot slot s) := by
  unfold stepSlipSlot
  repeat' (first
    | with_reducible (first | assumption | exact fun _ => rfl | intro _)
    | dsimp only
    | with_reducible (first | apply State.Keeps.ite | apply State.fillSlips_keeps | apply State.Keeps.each |
      apply State.Keeps.foldl | refine State.Keeps.snd (by assumption) ?_)
    | split | (with_reducible refine State.Keeps.upd rfl rfl ?_) | rfl | exact hr.same rfl rfl rfl)

theorem stepStrictReplay_keeps {p stream index : Nat} {r₀ s : State} (hr : r₀.Keeps s) : r₀.Keeps (stepStrictReplay p stream index s) := by
  unfold stepStrictReplay
  repeat' (first
    | with_reducible (first | assumption | exact fun _ => rfl | intro _)
    | dsimp only
    | with_reducible (first | apply State.Keeps.ite | apply State.updWork_keeps | apply State.failWork_keeps |
      apply State.slip_keeps | apply State.Keeps.each | apply State.Keeps.foldl | refine State.Keeps.snd (by assumption) ?_)
    | split | (with_reducible refine State.Keeps.upd rfl rfl ?_) | rfl | exact hr.same rfl rfl rfl)

theorem State.accumulate_keeps {p : Nat} {x : Flit} {r₀ s : State} (hr : r₀.Keeps s) : r₀.Keeps (State.accumulate p s x) := by
  unfold State.accumulate
  repeat' (first
    | with_reducible (first | assumption | exact fun _ => rfl | intro _)
    | dsimp only
    | with_reducible (first | apply State.Keeps.ite | apply State.updPan_keeps | apply State.Keeps.each |
      apply State.Keeps.foldl | refine State.Keeps.snd (by assumption) ?_)
    | split | (with_reducible refine State.Keeps.upd rfl rfl ?_) | rfl | exact hr.same rfl rfl rfl)

theorem State.eccFlits_keeps {p : Nat} {l : List Flit} {r₀ s : State} (hr : r₀.Keeps s) : r₀.Keeps (State.eccFlits s p l).2 := by
  unfold State.eccFlits
  repeat' (first
    | with_reducible (first | assumption | exact fun _ => rfl | intro _)
    | dsimp only
    | with_reducible (first | apply State.Keeps.ite | apply State.updPan_keeps | apply State.logEvent_keeps |
      apply State.failEvent_keeps | apply State.Keeps.each | apply State.Keeps.foldl |
      refine State.Keeps.snd (by assumption) ?_)
    | split | (with_reducible refine State.Keeps.upd rfl rfl ?_) | rfl | exact hr.same rfl rfl rfl)

theorem stepFlitForward_keeps {p : Nat} {plane : Plane} {slot : Nat} {flits : List Flit} {r₀ s : State} (hr : r₀.Keeps s) : r₀.Keeps (stepFlitForward p plane slot flits s) := by
  unfold stepFlitForward
  repeat' (first
    | with_reducible (first | assumption | exact fun _ => rfl | intro _)
    | dsimp only
    | with_reducible (first | apply State.Keeps.ite | apply State.updPan_keeps | apply State.emit_keeps |
      apply State.accumulate_keeps | apply State.eccFlits_keeps | apply State.Keeps.each | apply State.Keeps.foldl |
      refine State.Keeps.snd (by assumption) ?_)
    | split | (with_reducible refine State.Keeps.upd rfl rfl ?_) | rfl | exact hr.same rfl rfl rfl)

theorem State.takeAmax_keeps {p : Nat} {t : VecTag} {amax : W32} {fault : Bool} {r₀ s : State} (hr : r₀.Keeps s) : r₀.Keeps (State.takeAmax s p t amax fault) := by
  unfold State.takeAmax
  repeat' (first
    | with_reducible (first | assumption | exact fun _ => rfl | intro _)
    | dsimp only
    | with_reducible (first | apply State.Keeps.ite | apply State.updPan_keeps | apply State.numericFault_keeps |
      apply State.Keeps.each | apply State.Keeps.foldl | refine State.Keeps.snd (by assumption) ?_)
    | split | (with_reducible refine State.Keeps.upd rfl rfl ?_) | rfl | exact hr.same rfl rfl rfl)

theorem stepControlFrameReceive_keeps {p inp : Nat} {bytes : List Byte} {r₀ s : State} (hr : r₀.Keeps s) : r₀.Keeps (stepControlFrameReceive p inp bytes s) := by
  unfold stepControlFrameReceive
  repeat' (first
    | with_reducible (first | assumption | exact fun _ => rfl | intro _)
    | dsimp only
    | with_reducible (first | apply State.Keeps.ite | apply State.updPan_keeps | apply State.emit_keeps |
      apply State.logEvent_keeps | apply State.updWork_keeps | apply State.failWork_keeps | apply State.failEvent_keeps |
      apply State.poisonWork_keeps | apply State.takeAmax_keeps | apply State.Keeps.each | apply State.Keeps.foldl |
      refine State.Keeps.snd (by assumption) ?_)
    | split | (with_reducible refine State.Keeps.upd rfl rfl ?_) | rfl | exact hr.same rfl rfl rfl)

theorem State.storeKv_keeps {slot use run : Nat} {w : Work} {l : LayerRec} {xs : List W32} {r₀ s : State} (hr : r₀.Keeps s) : r₀.Keeps (State.storeKv s slot use run w l xs) := by
  unfold State.storeKv
  repeat' (first
    | with_reducible (first | assumption | exact fun _ => rfl | intro _)
    | dsimp only
    | with_reducible (first | apply State.Keeps.ite | apply State.updFab_keeps | apply State.Keeps.each |
      apply State.Keeps.foldl | refine State.Keeps.snd (by assumption) ?_)
    | split | (with_reducible refine State.Keeps.upd rfl rfl ?_) | rfl | exact hr.same rfl rfl rfl)

theorem State.panOut_keeps {p : Nat} {xs : List W32} {r₀ s : State} (hr : r₀.Keeps s) : r₀.Keeps (State.panOut s p xs) := by
  unfold State.panOut
  repeat' (first
    | with_reducible (first | assumption | exact fun _ => rfl | intro _)
    | dsimp only
    | with_reducible (first | apply State.Keeps.ite | apply State.updPan_keeps | apply State.emit_keeps |
      apply State.Keeps.each | apply State.Keeps.foldl | refine State.Keeps.snd (by assumption) ?_)
    | split | (with_reducible refine State.Keeps.upd rfl rfl ?_) | rfl | exact hr.same rfl rfl rfl)

theorem State.addResidual_keeps {p stream index base : Nat} {ys : List W32} {r₀ s : State} (hr : r₀.Keeps s) : r₀.Keeps (State.addResidual s p stream index base ys) := by
  unfold State.addResidual
  repeat' (first
    | with_reducible (first | assumption | exact fun _ => rfl | intro _)
    | dsimp only
    | with_reducible (first | apply State.Keeps.ite | apply State.updPan_keeps | apply State.panOut_keeps |
      apply State.Keeps.each | apply State.Keeps.foldl | refine State.Keeps.snd (by assumption) ?_)
    | split | (with_reducible refine State.Keeps.upd rfl rfl ?_) | rfl | exact hr.same rfl rfl rfl)

theorem State.runPanOp_keeps {p slot stream index : Nat} {op : PanOp} {r₀ s : State} (hr : r₀.Keeps s) : r₀.Keeps (State.runPanOp s p slot stream index op) := by
  unfold State.runPanOp
  repeat' (first
    | with_reducible (first | assumption | exact fun _ => rfl | intro _)
    | dsimp only
    | with_reducible (first | apply State.Keeps.ite | apply State.updPan_keeps | apply State.emit_keeps |
      apply State.updWork_keeps | apply State.numericFault_keeps | apply State.judge_keeps | apply State.takeAmax_keeps |
      apply State.storeKv_keeps | apply State.panOut_keeps | apply State.addResidual_keeps | apply State.Keeps.each |
      apply State.Keeps.foldl | refine State.Keeps.snd (by assumption) ?_)
    | split | (with_reducible refine State.Keeps.upd rfl rfl ?_) | rfl | exact hr.same rfl rfl rfl)

theorem stepCall_keeps {p slot stream index : Nat} {op : PanOp} {ecc : Nat} {r₀ s : State} (hr : r₀.Keeps s) : r₀.Keeps (stepCall p slot stream index op ecc s) := by
  unfold stepCall
  repeat' (first
    | with_reducible (first | assumption | exact fun _ => rfl | intro _)
    | dsimp only
    | with_reducible (first | apply State.Keeps.ite | apply State.updPan_keeps | apply State.eccPan_keeps |
      apply State.runPanOp_keeps | apply State.Keeps.each | apply State.Keeps.foldl | refine State.Keeps.snd (by assumption) ?_)
    | split | (with_reducible refine State.Keeps.upd rfl rfl ?_) | rfl | exact hr.same rfl rfl rfl)

theorem stepKvWriteComplete_keeps {stream index : Nat} {r₀ s : State} (hr : r₀.Keeps s) : r₀.Keeps (stepKvWriteComplete stream index s) := by
  have hd : ∀ (l : List HotEntry) (b : Fab), (l.foldl Fab.drain b).clamps = b.clamps := by
    intro l
    induction l with
    | nil => exact fun _ => rfl
    | cons h l ih => exact fun b => (ih _).trans rfl
  unfold stepKvWriteComplete
  exact State.updFab_keeps (fun b => hd _ b) hr

theorem State.loadSchedule_keeps {p : Payload} {narrow : Option Nat} {tts : Bool} {banks : List Bool} {r₀ s : State} (hr : r₀.Keeps s) : r₀.Keeps (State.loadSchedule s p narrow tts banks) := by
  unfold State.loadSchedule
  repeat' (first
    | with_reducible (first | assumption | exact fun _ => rfl | intro _)
    | dsimp only
    | with_reducible (first | apply State.Keeps.ite | apply State.updFab_keeps | apply State.Keeps.each |
      apply State.Keeps.foldl | refine State.Keeps.snd (by assumption) ?_)
    | split | (with_reducible refine State.Keeps.upd rfl rfl ?_) | rfl | exact hr.same rfl rfl rfl)

theorem State.turnBank_keeps {narrow : Option Nat} {r₀ s : State} (hr : r₀.Keeps s) : r₀.Keeps (State.turnBank s narrow) := by
  unfold State.turnBank
  repeat' (first
    | with_reducible (first | assumption | exact fun _ => rfl | intro _)
    | dsimp only
    | with_reducible (first | apply State.Keeps.ite | apply State.updFab_keeps | apply State.loadSchedule_keeps |
      apply State.Keeps.each | apply State.Keeps.foldl | refine State.Keeps.snd (by assumption) ?_)
    | split | (with_reducible refine State.Keeps.upd rfl rfl ?_) | rfl | exact hr.same rfl rfl rfl)

theorem State.switchBank_keeps {r₀ s : State} (hr : r₀.Keeps s) : r₀.Keeps (State.switchBank s) := by
  unfold State.switchBank
  repeat' (first
    | with_reducible (first | assumption | exact fun _ => rfl | intro _)
    | dsimp only
    | with_reducible (first | apply State.Keeps.ite | apply State.updFab_keeps | apply State.Keeps.each |
      apply State.Keeps.foldl | refine State.Keeps.snd (by assumption) ?_)
    | split | (with_reducible refine State.Keeps.upd rfl rfl ?_) | rfl | exact hr.same rfl rfl rfl)

theorem State.sendRaw_keeps {p : Nat} {bytes : List Byte} {r₀ s : State} (hr : r₀.Keeps s) : r₀.Keeps (State.sendRaw s p bytes) := by
  unfold State.sendRaw
  repeat' (first
    | with_reducible (first | assumption | exact fun _ => rfl | intro _)
    | dsimp only
    | with_reducible (first | apply State.Keeps.ite | apply State.emit_keeps | apply State.Keeps.each |
      apply State.Keeps.foldl | refine State.Keeps.snd (by assumption) ?_)
    | split | (with_reducible refine State.Keeps.upd rfl rfl ?_) | rfl | exact hr.same rfl rfl rfl)

theorem State.startTraining_keeps {p : Nat} {r₀ s : State} (hr : r₀.Keeps s) : r₀.Keeps (State.startTraining s p) := by
  unfold State.startTraining
  repeat' (first
    | with_reducible (first | assumption | exact fun _ => rfl | intro _)
    | dsimp only
    | with_reducible (first | apply State.Keeps.ite | apply State.updPort_keeps | apply State.Keeps.each |
      apply State.Keeps.foldl | refine State.Keeps.snd (by assumption) ?_)
    | split | (with_reducible refine State.Keeps.upd rfl rfl ?_) | rfl | exact hr.same rfl rfl rfl)

theorem State.retireLane_keeps {p n : Nat} {r₀ s : State} (hr : r₀.Keeps s) : r₀.Keeps (State.retireLane s p n) := by
  unfold State.retireLane
  repeat' (first
    | with_reducible (first | assumption | exact fun _ => rfl | intro _)
    | dsimp only
    | with_reducible (first | apply State.Keeps.ite | apply State.updPort_keeps | apply State.retireUnit_keeps |
      apply State.Keeps.each | apply State.Keeps.foldl | refine State.Keeps.snd (by assumption) ?_)
    | split | (with_reducible refine State.Keeps.upd rfl rfl ?_) | rfl | exact hr.same rfl rfl rfl)

theorem State.laneFault_keeps {p n width height : Nat} {r₀ s : State} (hr : r₀.Keeps s) : r₀.Keeps (State.laneFault s p n width height) := by
  unfold State.laneFault
  repeat' (first
    | with_reducible (first | assumption | exact fun _ => rfl | intro _)
    | dsimp only
    | with_reducible (first | apply State.Keeps.ite | apply State.updPort_keeps | apply State.logEvent_keeps |
      apply State.retireLane_keeps | apply State.Keeps.each | apply State.Keeps.foldl |
      refine State.Keeps.snd (by assumption) ?_)
    | split | (with_reducible refine State.Keeps.upd rfl rfl ?_) | rfl | exact hr.same rfl rfl rfl)

theorem State.measureLane_keeps {p n width height : Nat} {r₀ s : State} (hr : r₀.Keeps s) : r₀.Keeps (State.measureLane s p n width height) := by
  unfold State.measureLane
  repeat' (first
    | with_reducible (first | assumption | exact fun _ => rfl | intro _)
    | dsimp only
    | with_reducible (first | apply State.Keeps.ite | apply State.updPort_keeps | apply State.laneFault_keeps |
      apply State.Keeps.each | apply State.Keeps.foldl | refine State.Keeps.snd (by assumption) ?_)
    | split | (with_reducible refine State.Keeps.upd rfl rfl ?_) | rfl | exact hr.same rfl rfl rfl)

theorem State.beginMargining_keeps {r₀ s : State} (hr : r₀.Keeps s) : r₀.Keeps (State.beginMargining s) := by
  unfold State.beginMargining
  repeat' (first
    | with_reducible (first | assumption | exact fun _ => rfl | intro _)
    | dsimp only
    | with_reducible (first | apply State.Keeps.ite | apply State.updPort_keeps | apply State.Keeps.each |
      apply State.Keeps.foldl | refine State.Keeps.snd (by assumption) ?_)
    | split | (with_reducible refine State.Keeps.upd rfl rfl ?_) | rfl | exact hr.same rfl rfl rfl)

theorem stepLaneMargining_keeps {p n width height : Nat} {r₀ s : State} (hr : r₀.Keeps s) : r₀.Keeps (stepLaneMargining p n width height s) := by
  unfold stepLaneMargining
  repeat' (first
    | with_reducible (first | assumption | exact fun _ => rfl | intro _)
    | dsimp only
    | with_reducible (first | apply State.Keeps.ite | apply State.updPort_keeps | apply State.measureLane_keeps |
      apply State.Keeps.each | apply State.Keeps.foldl | refine State.Keeps.snd (by assumption) ?_)
    | split | (with_reducible refine State.Keeps.upd rfl rfl ?_) | rfl | exact hr.same rfl rfl rfl)

theorem State.laneShares_keeps {r₀ s : State} (hr : r₀.Keeps s) : r₀.Keeps (State.laneShares s) := by
  unfold State.laneShares
  repeat' (first
    | with_reducible (first | assumption | exact fun _ => rfl | intro _)
    | dsimp only
    | with_reducible (first | apply State.Keeps.ite | apply State.updHk_keeps | apply State.laneFault_keeps |
      apply State.Keeps.each | apply State.Keeps.foldl | refine State.Keeps.snd (by assumption) ?_)
    | split | (with_reducible refine State.Keeps.upd rfl rfl ?_) | rfl | exact hr.same rfl rfl rfl)

theorem stepLinkRetrain_keeps {p : Nat} {cause : RetrainCause} {r₀ s : State} (hr : r₀.Keeps s) : r₀.Keeps (stepLinkRetrain p cause s) := by
  unfold stepLinkRetrain
  repeat' (first
    | with_reducible (first | assumption | exact fun _ => rfl | intro _)
    | dsimp only
    | with_reducible (first | apply State.Keeps.ite | apply State.updPort_keeps | apply State.startTraining_keeps |
      apply State.Keeps.each | apply State.Keeps.foldl | refine State.Keeps.snd (by assumption) ?_)
    | split | (with_reducible refine State.Keeps.upd rfl rfl ?_) | rfl | exact hr.same rfl rfl rfl)

theorem State.putOut_keeps {p vl : Nat} {hdr payload : List Byte} {r₀ s : State} (hr : r₀.Keeps s) : r₀.Keeps (State.putOut s p vl hdr payload) := by
  unfold State.putOut
  repeat' (first
    | with_reducible (first | assumption | exact fun _ => rfl | intro _)
    | dsimp only
    | with_reducible (first | apply State.Keeps.ite | apply State.updPort_keeps | apply State.sendRaw_keeps |
      apply State.Keeps.each | apply State.Keeps.foldl | refine State.Keeps.snd (by assumption) ?_)
    | split | (with_reducible refine State.Keeps.upd rfl rfl ?_) | rfl | exact hr.same rfl rfl rfl)

theorem State.drainPort_keeps {p n : Nat} {r s : State} (hr : r.Keeps s) : r.Keeps (State.drainPort p n s) := by
  induction n generalizing s with
  | zero => exact hr
  | succ n ih =>
    unfold State.drainPort
    split
    · exact hr
    · split
      · exact hr
      · exact State.Keeps.ite (ih (State.putOut_keeps (State.updPort_keeps hr))) hr

theorem State.drain_keeps {p : Nat} {r₀ s : State} (hr : r₀.Keeps s) : r₀.Keeps (State.drain s p) := by
  unfold State.drain
  repeat' (first
    | with_reducible (first | assumption | exact fun _ => rfl | intro _)
    | dsimp only
    | with_reducible (first | apply State.Keeps.ite | apply State.drainPort_keeps | apply State.Keeps.each |
      apply State.Keeps.foldl | refine State.Keeps.snd (by assumption) ?_)
    | split | (with_reducible refine State.Keeps.upd rfl rfl ?_) | rfl | exact hr.same rfl rfl rfl)

theorem State.transmit_keeps {p vl : Nat} {hdr payload : List Byte} {r₀ s : State} (hr : r₀.Keeps s) : r₀.Keeps (State.transmit s p vl hdr payload) := by
  unfold State.transmit
  repeat' (first
    | with_reducible (first | assumption | exact fun _ => rfl | intro _)
    | dsimp only
    | with_reducible (first | apply State.Keeps.ite | apply State.updPort_keeps | apply State.drain_keeps |
      apply State.Keeps.each | apply State.Keeps.foldl | refine State.Keeps.snd (by assumption) ?_)
    | split | (with_reducible refine State.Keeps.upd rfl rfl ?_) | rfl | exact hr.same rfl rfl rfl)

theorem stepLinkTrainingDone_keeps {p : Nat} {r : TrainResult} {r₀ s : State} (hr : r₀.Keeps s) : r₀.Keeps (stepLinkTrainingDone p r s) := by
  unfold stepLinkTrainingDone
  repeat' (first
    | with_reducible (first | assumption | exact fun _ => rfl | intro _)
    | dsimp only
    | with_reducible (first | apply State.Keeps.ite | apply State.updPort_keeps | apply State.emit_keeps |
      apply State.sendRaw_keeps | apply State.measureLane_keeps | apply State.drain_keeps | apply State.Keeps.each |
      apply State.Keeps.foldl | refine State.Keeps.snd (by assumption) ?_)
    | split | (with_reducible refine State.Keeps.upd rfl rfl ?_) | rfl | exact hr.same rfl rfl rfl)

theorem State.dropRoute_keeps {r₀ s : State} (hr : r₀.Keeps s) : r₀.Keeps (State.dropRoute s) := by
  unfold State.dropRoute
  repeat' (first
    | with_reducible (first | assumption | exact fun _ => rfl | intro _)
    | dsimp only
    | with_reducible (first | apply State.Keeps.ite | apply State.updLnk_keeps | apply State.Keeps.each |
      apply State.Keeps.foldl | refine State.Keeps.snd (by assumption) ?_)
    | split | (with_reducible refine State.Keeps.upd rfl rfl ?_) | rfl | exact hr.same rfl rfl rfl)

theorem State.sendMsg_keeps {type dst : Nat} {poison : Bool} {tag : Nat} {payload : List Byte} {r₀ s : State} (hr : r₀.Keeps s) : r₀.Keeps (State.sendMsg s type dst poison tag payload) := by
  unfold State.sendMsg
  repeat' (first
    | with_reducible (first | assumption | exact fun _ => rfl | intro _)
    | dsimp only
    | with_reducible (first | apply State.Keeps.ite | apply State.transmit_keeps | apply State.dropRoute_keeps |
      apply State.Keeps.each | apply State.Keeps.foldl | refine State.Keeps.snd (by assumption) ?_)
    | split | (with_reducible refine State.Keeps.upd rfl rfl ?_) | rfl | exact hr.same rfl rfl rfl)

theorem State.sendBundle_keeps {b : Bundle} {r₀ s : State} (hr : r₀.Keeps s) : r₀.Keeps (State.sendBundle s b) := by
  unfold State.sendBundle
  repeat' (first
    | with_reducible (first | assumption | exact fun _ => rfl | intro _)
    | dsimp only
    | with_reducible (first | apply State.Keeps.ite | apply State.emit_keeps | apply State.sendMsg_keeps |
      apply State.Keeps.each | apply State.Keeps.foldl | refine State.Keeps.snd (by assumption) ?_)
    | split | (with_reducible refine State.Keeps.upd rfl rfl ?_) | rfl | exact hr.same rfl rfl rfl)

theorem State.sendVerdict_keeps {stamps : List Stamp} {r₀ s : State} (hr : r₀.Keeps s) : r₀.Keeps (State.sendVerdict s stamps) := by
  unfold State.sendVerdict
  repeat' (first
    | with_reducible (first | assumption | exact fun _ => rfl | intro _)
    | dsimp only
    | with_reducible (first | apply State.Keeps.ite | apply State.emit_keeps | apply State.sendMsg_keeps |
      apply State.Keeps.each | apply State.Keeps.foldl | refine State.Keeps.snd (by assumption) ?_)
    | split | (with_reducible refine State.Keeps.upd rfl rfl ?_) | rfl | exact hr.same rfl rfl rfl)

theorem State.sendPage_keeps {n : Nat} {page : List Byte} {r₀ s : State} (hr : r₀.Keeps s) : r₀.Keeps (State.sendPage s n page) := by
  unfold State.sendPage
  repeat' (first
    | with_reducible (first | assumption | exact fun _ => rfl | intro _)
    | dsimp only
    | with_reducible (first | apply State.Keeps.ite | apply State.emit_keeps | apply State.sendMsg_keeps |
      apply State.Keeps.each | apply State.Keeps.foldl | refine State.Keeps.snd (by assumption) ?_)
    | split | (with_reducible refine State.Keeps.upd rfl rfl ?_) | rfl | exact hr.same rfl rfl rfl)

theorem State.forward_keeps {hdr payload : List Byte} {r₀ s : State} (hr : r₀.Keeps s) : r₀.Keeps (State.forward s hdr payload) := by
  unfold State.forward
  repeat' (first
    | with_reducible (first | assumption | exact fun _ => rfl | intro _)
    | dsimp only
    | with_reducible (first | apply State.Keeps.ite | apply State.transmit_keeps | apply State.dropRoute_keeps |
      apply State.Keeps.each | apply State.Keeps.foldl | refine State.Keeps.snd (by assumption) ?_)
    | split | (with_reducible refine State.Keeps.upd rfl rfl ?_) | rfl | exact hr.same rfl rfl rfl)

theorem State.acceptFrame_keeps {hdr payload : List Byte} {r₀ s : State} (hr : r₀.Keeps s) : r₀.Keeps (State.acceptFrame s hdr payload) := by
  unfold State.acceptFrame
  repeat' (first
    | with_reducible (first | assumption | exact fun _ => rfl | intro _)
    | dsimp only
    | with_reducible (first | apply State.Keeps.ite | apply State.updLnk_keeps | apply State.Keeps.each |
      apply State.Keeps.foldl | refine State.Keeps.snd (by assumption) ?_)
    | split | (with_reducible refine State.Keeps.upd rfl rfl ?_) | rfl | exact hr.same rfl rfl rfl)

theorem State.directed_keeps {hdr payload : List Byte} {r₀ s : State} (hr : r₀.Keeps s) : r₀.Keeps (State.directed s hdr payload) := by
  unfold State.directed
  repeat' (first
    | with_reducible (first | assumption | exact fun _ => rfl | intro _)
    | dsimp only
    | with_reducible (first | apply State.Keeps.ite | apply State.transmit_keeps | apply State.dropRoute_keeps |
      apply State.acceptFrame_keeps | apply State.Keeps.each | apply State.Keeps.foldl |
      refine State.Keeps.snd (by assumption) ?_)
    | split | (with_reducible refine State.Keeps.upd rfl rfl ?_) | rfl | exact hr.same rfl rfl rfl)

theorem State.takeFrame_keeps {hdr payload : List Byte} {r₀ s : State} (hr : r₀.Keeps s) : r₀.Keeps (State.takeFrame s hdr payload) := by
  unfold State.takeFrame
  repeat' (first
    | with_reducible (first | assumption | exact fun _ => rfl | intro _)
    | dsimp only
    | with_reducible (first | apply State.Keeps.ite | apply State.updLnk_keeps | apply State.dropRoute_keeps |
      apply State.forward_keeps | apply State.acceptFrame_keeps | apply State.directed_keeps | apply State.Keeps.each |
      apply State.Keeps.foldl | refine State.Keeps.snd (by assumption) ?_)
    | split | (with_reducible refine State.Keeps.upd rfl rfl ?_) | rfl | exact hr.same rfl rfl rfl)

theorem State.sendNak_keeps {p : Nat} {r₀ s : State} (hr : r₀.Keeps s) : r₀.Keeps (State.sendNak s p) := by
  unfold State.sendNak
  repeat' (first
    | with_reducible (first | assumption | exact fun _ => rfl | intro _)
    | dsimp only
    | with_reducible (first | apply State.Keeps.ite | apply State.updPort_keeps | apply State.emit_keeps |
      apply State.Keeps.each | apply State.Keeps.foldl | refine State.Keeps.snd (by assumption) ?_)
    | split | (with_reducible refine State.Keeps.upd rfl rfl ?_) | rfl | exact hr.same rfl rfl rfl)

theorem State.countFec_keeps {p : Nat} {lanes : List (Nat × Nat)} {bad : Bool} {r₀ s : State} (hr : r₀.Keeps s) : r₀.Keeps (State.countFec s p lanes bad) := by
  unfold State.countFec
  repeat' (first
    | with_reducible (first | assumption | exact fun _ => rfl | intro _)
    | dsimp only
    | with_reducible (first | apply State.Keeps.ite | apply State.updHk_keeps | apply State.updPort_keeps |
      apply State.Keeps.each | apply State.Keeps.foldl | refine State.Keeps.snd (by assumption) ?_)
    | split | (with_reducible refine State.Keeps.upd rfl rfl ?_) | rfl | exact hr.same rfl rfl rfl)

theorem stepFrameReceive_keeps {p : Nat} {bytes : List Byte} {lanes : List (Nat × Nat)} {bad : Bool} {r₀ s : State} (hr : r₀.Keeps s) : r₀.Keeps (stepFrameReceive p bytes lanes bad s) := by
  unfold stepFrameReceive
  repeat' (first
    | with_reducible (first | assumption | exact fun _ => rfl | intro _)
    | dsimp only
    | with_reducible (first | apply State.Keeps.ite | apply State.updPort_keeps | apply State.emit_keeps |
      apply State.takeFrame_keeps | apply State.sendNak_keeps | apply State.countFec_keeps | apply State.Keeps.each |
      apply State.Keeps.foldl | refine State.Keeps.snd (by assumption) ?_)
    | split | (with_reducible refine State.Keeps.upd rfl rfl ?_) | rfl | exact hr.same rfl rfl rfl)

theorem stepLinkAck_keeps {p seq : Nat} {r₀ s : State} (hr : r₀.Keeps s) : r₀.Keeps (stepLinkAck p seq s) := by
  unfold stepLinkAck
  repeat' (first
    | with_reducible (first | assumption | exact fun _ => rfl | intro _)
    | dsimp only
    | with_reducible (first | apply State.Keeps.ite | apply State.updPort_keeps | apply State.drain_keeps |
      apply State.Keeps.each | apply State.Keeps.foldl | refine State.Keeps.snd (by assumption) ?_)
    | split | (with_reducible refine State.Keeps.upd rfl rfl ?_) | rfl | exact hr.same rfl rfl rfl)

theorem stepLinkNak_keeps {p seq : Nat} {r₀ s : State} (hr : r₀.Keeps s) : r₀.Keeps (stepLinkNak p seq s) := by
  unfold stepLinkNak
  repeat' (first
    | with_reducible (first | assumption | exact fun _ => rfl | intro _)
    | dsimp only
    | with_reducible (first | apply State.Keeps.ite | apply State.updPort_keeps | apply State.sendRaw_keeps |
      apply State.startTraining_keeps | apply State.drain_keeps | apply State.Keeps.each | apply State.Keeps.foldl |
      refine State.Keeps.snd (by assumption) ?_)
    | split | (with_reducible refine State.Keeps.upd rfl rfl ?_) | rfl | exact hr.same rfl rfl rfl)

theorem stepVlShareWrite_keeps {p : Nat} {v : W32} {r₀ s : State} (hr : r₀.Keeps s) : r₀.Keeps (stepVlShareWrite p v s) := by
  unfold stepVlShareWrite
  repeat' (first
    | with_reducible (first | assumption | exact fun _ => rfl | intro _)
    | dsimp only
    | with_reducible (first | apply State.Keeps.ite | apply State.updLnk_keeps | apply State.updPort_keeps |
      apply State.Keeps.each | apply State.Keeps.foldl | refine State.Keeps.snd (by assumption) ?_)
    | split | (with_reducible refine State.Keeps.upd rfl rfl ?_) | rfl | exact hr.same rfl rfl rfl)

theorem State.applyShares_keeps {r₀ s : State} (hr : r₀.Keeps s) : r₀.Keeps (State.applyShares s) := by
  unfold State.applyShares
  repeat' (first
    | with_reducible (first | assumption | exact fun _ => rfl | intro _)
    | dsimp only
    | with_reducible (first | apply State.Keeps.ite | apply State.updPort_keeps | apply State.Keeps.each |
      apply State.Keeps.foldl | refine State.Keeps.snd (by assumption) ?_)
    | split | (with_reducible refine State.Keeps.upd rfl rfl ?_) | rfl | exact hr.same rfl rfl rfl)

theorem stepRouteWrite_keeps {v : W32} {r₀ s : State} (hr : r₀.Keeps s) : r₀.Keeps (stepRouteWrite v s) := by
  unfold stepRouteWrite
  repeat' (first
    | with_reducible (first | assumption | exact fun _ => rfl | intro _)
    | dsimp only
    | with_reducible (first | apply State.Keeps.ite | apply State.updLnk_keeps | apply State.Keeps.each |
      apply State.Keeps.foldl | refine State.Keeps.snd (by assumption) ?_)
    | split | (with_reducible refine State.Keeps.upd rfl rfl ?_) | rfl | exact hr.same rfl rfl rfl)

theorem State.writeIdle_keeps {entries : List (Nat × W32)} {r₀ s : State} (hr : r₀.Keeps s) : r₀.Keeps (State.writeIdle s entries) := by
  unfold State.writeIdle
  repeat' (first
    | with_reducible (first | assumption | exact fun _ => rfl | intro _)
    | dsimp only
    | with_reducible (first | apply State.Keeps.ite | apply State.updLnk_keeps | apply State.Keeps.each |
      apply State.Keeps.foldl | refine State.Keeps.snd (by assumption) ?_)
    | split | (with_reducible refine State.Keeps.upd rfl rfl ?_) | rfl | exact hr.same rfl rfl rfl)

theorem stepRouteFrame_keeps {src : Nat} {entries : List (Nat × W32)} {accept : Option Nat} {role : Option RoleWrite} {parent switchTick : Option Nat} {r₀ s : State} (hr : r₀.Keeps s) : r₀.Keeps (stepRouteFrame src entries accept role parent switchTick s) := by
  unfold stepRouteFrame
  repeat' (first
    | with_reducible (first | assumption | exact fun _ => rfl | intro _)
    | dsimp only
    | with_reducible (first | apply State.Keeps.ite | apply State.updRole_keeps | apply State.updLnk_keeps |
      apply State.writeIdle_keeps | apply State.Keeps.each | apply State.Keeps.foldl |
      refine State.Keeps.snd (by assumption) ?_)
    | split | (with_reducible refine State.Keeps.upd rfl rfl ?_) | rfl | exact hr.same rfl rfl rfl)

theorem State.switchRole_keeps {r₀ s : State} (hr : r₀.Keeps s) : r₀.Keeps (State.switchRole s) := by
  unfold State.switchRole
  repeat' (first
    | with_reducible (first | assumption | exact fun _ => rfl | intro _)
    | dsimp only
    | with_reducible (first | apply State.Keeps.ite | apply State.updRole_keeps | apply State.updTime_keeps |
      apply State.updLnk_keeps | apply State.Keeps.each | apply State.Keeps.foldl | refine State.Keeps.snd (by assumption) ?_)
    | split | (with_reducible refine State.Keeps.upd rfl rfl ?_) | rfl | exact hr.same rfl rfl rfl)

theorem stepRouteBankSwitch_keeps {r₀ s : State} (hr : r₀.Keeps s) : r₀.Keeps (stepRouteBankSwitch s) := by
  unfold stepRouteBankSwitch
  repeat' (first
    | with_reducible (first | assumption | exact fun _ => rfl | intro _)
    | dsimp only
    | with_reducible (first | apply State.Keeps.ite | apply State.updLnk_keeps | apply State.switchRole_keeps |
      apply State.Keeps.each | apply State.Keeps.foldl | refine State.Keeps.snd (by assumption) ?_)
    | split | (with_reducible refine State.Keeps.upd rfl rfl ?_) | rfl | exact hr.same rfl rfl rfl)

theorem State.freeStream_keeps {ch : Nat} {r₀ s : State} (hr : r₀.Keeps s) : r₀.Keeps (State.freeStream s ch) := by
  unfold State.freeStream
  repeat' (first
    | with_reducible (first | assumption | exact fun _ => rfl | intro _)
    | dsimp only
    | with_reducible (first | apply State.Keeps.ite | apply State.updSrv_keeps | apply State.updStream_keeps |
      apply State.Keeps.each | apply State.Keeps.foldl | refine State.Keeps.snd (by assumption) ?_)
    | split | (with_reducible refine State.Keeps.upd rfl rfl ?_) | rfl | exact hr.same rfl rfl rfl)

theorem State.rehash_keeps {ch : Nat} {r₀ s : State} (hr : r₀.Keeps s) : r₀.Keeps (State.rehash s ch) := by
  unfold State.rehash
  repeat' (first
    | with_reducible (first | assumption | exact fun _ => rfl | intro _)
    | dsimp only
    | with_reducible (first | apply State.Keeps.ite | apply State.updStream_keeps | apply State.Keeps.each |
      apply State.Keeps.foldl | refine State.Keeps.snd (by assumption) ?_)
    | split | (with_reducible refine State.Keeps.upd rfl rfl ?_) | rfl | exact hr.same rfl rfl rfl)

theorem State.insertPrefix_keeps {h : W256} {block : Nat} {r₀ s : State} (hr : r₀.Keeps s) : r₀.Keeps (State.insertPrefix s h block) := by
  unfold State.insertPrefix
  repeat' (first
    | with_reducible (first | assumption | exact fun _ => rfl | intro _)
    | dsimp only
    | with_reducible (first | apply State.Keeps.ite | apply State.updSrv_keeps | apply State.Keeps.each |
      apply State.Keeps.foldl | refine State.Keeps.snd (by assumption) ?_)
    | split | (with_reducible refine State.Keeps.upd rfl rfl ?_) | rfl | exact hr.same rfl rfl rfl)

theorem State.freeOneCached_keeps {r₀ s : State} (hr : r₀.Keeps s) : r₀.Keeps (State.freeOneCached s) := by
  unfold State.freeOneCached
  repeat' (first
    | with_reducible (first | assumption | exact fun _ => rfl | intro _)
    | dsimp only
    | with_reducible (first | apply State.Keeps.ite | apply State.updSrv_keeps | apply State.Keeps.each |
      apply State.Keeps.foldl | refine State.Keeps.snd (by assumption) ?_)
    | split | (with_reducible refine State.Keeps.upd rfl rfl ?_) | rfl | exact hr.same rfl rfl rfl)

theorem State.expirePark_keeps {ch : Nat} {r₀ s : State} (hr : r₀.Keeps s) : r₀.Keeps (State.expirePark s ch) := by
  unfold State.expirePark
  repeat' (first
    | with_reducible (first | assumption | exact fun _ => rfl | intro _)
    | dsimp only
    | with_reducible (first | apply State.Keeps.ite | apply State.updStream_keeps | apply State.freeStream_keeps |
      apply State.Keeps.each | apply State.Keeps.foldl | refine State.Keeps.snd (by assumption) ?_)
    | split | (with_reducible refine State.Keeps.upd rfl rfl ?_) | rfl | exact hr.same rfl rfl rfl)

theorem State.reclaim_keeps {n k : Nat} {r s : State} (hr : r.Keeps s) : r.Keeps (State.reclaim n k s) := by
  induction k generalizing s with
  | zero => exact hr
  | succ k ih =>
    unfold State.reclaim
    split
    · exact hr
    · split
      · exact ih (State.freeOneCached_keeps hr)
      · split
        · exact ih (State.expirePark_keeps hr)
        · exact hr

theorem State.reclaimFor_keeps {n : Nat} {r₀ s : State} (hr : r₀.Keeps s) : r₀.Keeps (State.reclaimFor s n) := by
  unfold State.reclaimFor
  repeat' (first
    | with_reducible (first | assumption | exact fun _ => rfl | intro _)
    | dsimp only
    | with_reducible (first | apply State.Keeps.ite | apply State.reclaim_keeps | apply State.Keeps.each |
      apply State.Keeps.foldl | refine State.Keeps.snd (by assumption) ?_)
    | split | (with_reducible refine State.Keeps.upd rfl rfl ?_) | rfl | exact hr.same rfl rfl rfl)

theorem State.shrinkPool_keeps {r₀ s : State} (hr : r₀.Keeps s) : r₀.Keeps (State.shrinkPool s) := by
  unfold State.shrinkPool
  repeat' (first
    | with_reducible (first | assumption | exact fun _ => rfl | intro _)
    | dsimp only
    | with_reducible (first | apply State.Keeps.ite | apply State.updWs_keeps | apply State.Keeps.each |
      apply State.Keeps.foldl | refine State.Keeps.snd (by assumption) ?_)
    | split | (with_reducible refine State.Keeps.upd rfl rfl ?_) | rfl | exact hr.same rfl rfl rfl)

theorem State.poisonBlock_keeps {b : Nat} {r₀ s : State} (hr : r₀.Keeps s) : r₀.Keeps (State.poisonBlock s b) := by
  unfold State.poisonBlock
  repeat' (first
    | with_reducible (first | assumption | exact fun _ => rfl | intro _)
    | dsimp only
    | with_reducible (first | apply State.Keeps.ite | apply State.updFab_keeps | apply State.updSrv_keeps |
      apply State.Keeps.each | apply State.Keeps.foldl | refine State.Keeps.snd (by assumption) ?_)
    | split | (with_reducible refine State.Keeps.upd rfl rfl ?_) | rfl | exact hr.same rfl rfl rfl)

theorem State.dropWork_keeps {ch : Nat} {r₀ s : State} (hr : r₀.Keeps s) : r₀.Keeps (State.dropWork s ch) := by
  unfold State.dropWork
  repeat' (first
    | with_reducible (first | assumption | exact fun _ => rfl | intro _)
    | dsimp only
    | with_reducible (first | apply State.Keeps.ite | apply State.updSrv_keeps | apply State.Keeps.each |
      apply State.Keeps.foldl | refine State.Keeps.snd (by assumption) ?_)
    | split | (with_reducible refine State.Keeps.upd rfl rfl ?_) | rfl | exact hr.same rfl rfl rfl)

theorem State.addMark_keeps {stream n : Nat} {r₀ s : State} (hr : r₀.Keeps s) : r₀.Keeps (State.addMark s stream n) := by
  unfold State.addMark
  repeat' (first
    | with_reducible (first | assumption | exact fun _ => rfl | intro _)
    | dsimp only
    | with_reducible (first | apply State.Keeps.ite | apply State.updFab_keeps | apply State.updSrv_keeps |
      apply State.Keeps.each | apply State.Keeps.foldl | refine State.Keeps.snd (by assumption) ?_)
    | split | (with_reducible refine State.Keeps.upd rfl rfl ?_) | rfl | exact hr.same rfl rfl rfl)

theorem State.endGen_keeps {ch status detail : Nat} {r₀ s : State} (hr : r₀.Keeps s) : r₀.Keeps (State.endGen s ch status detail) := by
  unfold State.endGen
  repeat' (first
    | with_reducible (first | assumption | exact fun _ => rfl | intro _)
    | dsimp only
    | with_reducible (first | apply State.Keeps.ite | apply State.updSrv_keeps | apply State.updStream_keeps |
      apply State.delStream_keeps | apply State.reply_keeps | apply State.freeStream_keeps | apply State.dropWork_keeps |
      apply State.addMark_keeps | apply State.Keeps.each | apply State.Keeps.foldl | refine State.Keeps.snd (by assumption) ?_)
    | split | (with_reducible refine State.Keeps.upd rfl rfl ?_) | rfl | exact hr.same rfl rfl rfl)

theorem State.countRefusal_keeps {tn : Nat} {r₀ s : State} (hr : r₀.Keeps s) : r₀.Keeps (State.countRefusal s tn) := by
  unfold State.countRefusal
  repeat' (first
    | with_reducible (first | assumption | exact fun _ => rfl | intro _)
    | dsimp only
    | with_reducible (first | apply State.Keeps.ite | apply State.updSrv_keeps | apply State.updTenant_keeps |
      apply State.Keeps.each | apply State.Keeps.foldl | refine State.Keeps.snd (by assumption) ?_)
    | split | (with_reducible refine State.Keeps.upd rfl rfl ?_) | rfl | exact hr.same rfl rfl rfl)

theorem State.admitGen_keeps {ch : Nat} {r₀ s : State} (hr : r₀.Keeps s) : r₀.Keeps (State.admitGen s ch) := by
  unfold State.admitGen
  repeat' (first
    | with_reducible (first | assumption | exact fun _ => rfl | intro _)
    | dsimp only
    | with_reducible (first | apply State.Keeps.ite | apply State.updSrv_keeps | apply State.updStream_keeps |
      apply State.rehash_keeps | apply State.reclaimFor_keeps | apply State.Keeps.each | apply State.Keeps.foldl |
      refine State.Keeps.snd (by assumption) ?_)
    | split | (with_reducible refine State.Keeps.upd rfl rfl ?_) | rfl | exact hr.same rfl rfl rfl)

theorem State.testGen_keeps {ch : Nat} {queued : Bool} {r₀ s : State} (hr : r₀.Keeps s) : r₀.Keeps (State.testGen s ch queued).2 := by
  unfold State.testGen
  repeat' (first
    | with_reducible (first | assumption | exact fun _ => rfl | intro _)
    | dsimp only
    | with_reducible (first | apply State.Keeps.ite | apply State.admitGen_keeps | apply State.Keeps.each |
      apply State.Keeps.foldl | refine State.Keeps.snd (by assumption) ?_)
    | split | (with_reducible refine State.Keeps.upd rfl rfl ?_) | rfl | exact hr.same rfl rfl rfl)

theorem State.retest_keeps {ch : Nat} {r₀ s : State} (hr : r₀.Keeps s) : r₀.Keeps (State.retest s ch) := by
  unfold State.retest
  repeat' (first
    | with_reducible (first | assumption | exact fun _ => rfl | intro _)
    | dsimp only
    | with_reducible (first | apply State.Keeps.ite | apply State.updSrv_keeps | apply State.endGen_keeps |
      apply State.countRefusal_keeps | apply State.testGen_keeps | apply State.Keeps.each | apply State.Keeps.foldl |
      refine State.Keeps.snd (by assumption) ?_)
    | split | (with_reducible refine State.Keeps.upd rfl rfl ?_) | rfl | exact hr.same rfl rfl rfl)

theorem State.startGen_keeps {rep : Rep} {maxNew : Nat} {descNew parkAfter : Bool} {ack : Option (Nat × Nat × Bool)} {r₀ s : State} (hr : r₀.Keeps s) : r₀.Keeps (State.startGen s rep maxNew descNew parkAfter ack) := by
  unfold State.startGen
  repeat' (first
    | with_reducible (first | assumption | exact fun _ => rfl | intro _)
    | dsimp only
    | with_reducible (first | apply State.Keeps.ite | apply State.updSrv_keeps | apply State.updStream_keeps |
      apply State.reply_keeps | apply State.countRefusal_keeps | apply State.testGen_keeps | apply State.Keeps.each |
      apply State.Keeps.foldl | refine State.Keeps.snd (by assumption) ?_)
    | split | (with_reducible refine State.Keeps.upd rfl rfl ?_) | rfl | exact hr.same rfl rfl rfl)

theorem State.countBudget_keeps {tn n : Nat} {r₀ s : State} (hr : r₀.Keeps s) : r₀.Keeps (State.countBudget s tn n) := by
  unfold State.countBudget
  repeat' (first
    | with_reducible (first | assumption | exact fun _ => rfl | intro _)
    | dsimp only
    | with_reducible (first | apply State.Keeps.ite | apply State.updTenant_keeps | apply State.Keeps.each |
      apply State.Keeps.foldl | refine State.Keeps.snd (by assumption) ?_)
    | split | (with_reducible refine State.Keeps.upd rfl rfl ?_) | rfl | exact hr.same rfl rfl rfl)

theorem State.Keeps.foldlFst {α β : Type} {r : State} {f : State × β → α → State × β} {l : List α}
    (hf : ∀ p a, r.Keeps p.1 → r.Keeps (f p a).1) {p : State × β} (hs : r.Keeps p.1) : r.Keeps (l.foldl f p).1 := by
  induction l generalizing p with
  | nil => exact hs
  | cons a l ih => exact ih (hf _ _ hs)
theorem State.tokenRecords_keeps {t : Stream} {g : Gen} {first : Nat} {toks : List Nat} {texts : List (List Byte)} {r s : State}
    (hr : r.Keeps s) : r.Keeps (s.tokenRecords t g first toks texts) := by
  unfold State.tokenRecords
  dsimp only
  split
  · exact State.Keeps.foldlFst (fun _ _ h => State.reply_keeps h) hr
  · split
    · exact State.reply_keeps hr
    · exact State.Keeps.foldl (fun _ _ h => State.reply_keeps h) (State.reply_keeps hr)

theorem State.startPark_keeps {ch : Nat} {rep : Rep} {ttl : Nat} {r₀ s : State} (hr : r₀.Keeps s) : r₀.Keeps (State.startPark s ch rep ttl) := by
  unfold State.startPark
  repeat' (first
    | with_reducible (first | assumption | exact fun _ => rfl | intro _)
    | dsimp only
    | with_reducible (first | apply State.Keeps.ite | apply State.updSrv_keeps | apply State.updStream_keeps |
      apply State.Keeps.each | apply State.Keeps.foldl | refine State.Keeps.snd (by assumption) ?_)
    | split | (with_reducible refine State.Keeps.upd rfl rfl ?_) | rfl | exact hr.same rfl rfl rfl)

theorem State.finishGen_keeps {ch detail : Nat} {r₀ s : State} (hr : r₀.Keeps s) : r₀.Keeps (State.finishGen s ch detail) := by
  unfold State.finishGen
  repeat' (first
    | with_reducible (first | assumption | exact fun _ => rfl | intro _)
    | dsimp only
    | with_reducible (first | apply State.Keeps.ite | apply State.endGen_keeps | apply State.startPark_keeps |
      apply State.Keeps.each | apply State.Keeps.foldl | refine State.Keeps.snd (by assumption) ?_)
    | split | (with_reducible refine State.Keeps.upd rfl rfl ?_) | rfl | exact hr.same rfl rfl rfl)

theorem State.finishResume_keeps {ch : Nat} {g : Gen} {r₀ s : State} (hr : r₀.Keeps s) : r₀.Keeps (State.finishResume s ch g) := by
  unfold State.finishResume
  repeat' (first
    | with_reducible (first | assumption | exact fun _ => rfl | intro _)
    | dsimp only
    | with_reducible (first | apply State.Keeps.ite | apply State.updStream_keeps | apply State.reply_keeps |
      apply State.startGen_keeps | apply State.Keeps.each | apply State.Keeps.foldl | refine State.Keeps.snd (by assumption) ?_)
    | split | (with_reducible refine State.Keeps.upd rfl rfl ?_) | rfl | exact hr.same rfl rfl rfl)

theorem State.finishEmbed_keeps {ch : Nat} {g : Gen} {n : Nat} {r₀ s : State} (hr : r₀.Keeps s) : r₀.Keeps (State.finishEmbed s ch g n) := by
  unfold State.finishEmbed
  repeat' (first
    | with_reducible (first | assumption | exact fun _ => rfl | intro _)
    | dsimp only
    | with_reducible (first | apply State.Keeps.ite | apply State.updSrv_keeps | apply State.delStream_keeps |
      apply State.hostOut_keeps | apply State.reply_keeps | apply State.freeStream_keeps | apply State.Keeps.each |
      apply State.Keeps.foldl | refine State.Keeps.snd (by assumption) ?_)
    | split | (with_reducible refine State.Keeps.upd rfl rfl ?_) | rfl | exact hr.same rfl rfl rfl)

theorem State.commitPosition_keeps {f : Flight} {r₀ s : State} (hr : r₀.Keeps s) : r₀.Keeps (State.commitPosition s f) := by
  unfold State.commitPosition
  repeat' (first
    | with_reducible (first | assumption | exact fun _ => rfl | intro _)
    | dsimp only
    | with_reducible (first | apply State.Keeps.ite | apply State.updFab_keeps | apply State.updSrv_keeps |
      apply State.updStream_keeps | apply State.countBudget_keeps | apply State.Keeps.each | apply State.Keeps.foldl |
      refine State.Keeps.snd (by assumption) ?_)
    | split | (with_reducible refine State.Keeps.upd rfl rfl ?_) | rfl | exact hr.same rfl rfl rfl)

theorem State.insertBlocks_keeps {ch from_ n epoch : Nat} {r₀ s : State} (hr : r₀.Keeps s) : r₀.Keeps (State.insertBlocks s ch from_ n epoch) := by
  unfold State.insertBlocks
  repeat' (first
    | with_reducible (first | assumption | exact fun _ => rfl | intro _)
    | dsimp only
    | with_reducible (first | apply State.Keeps.ite | apply State.insertPrefix_keeps | apply State.Keeps.each |
      apply State.Keeps.foldl | refine State.Keeps.snd (by assumption) ?_)
    | split | (with_reducible refine State.Keeps.upd rfl rfl ?_) | rfl | exact hr.same rfl rfl rfl)

theorem State.commitRun_keeps {ch n i : Nat} {r s : State} (hr : r.Keeps s) : r.Keeps (State.commitRun ch n i s).2 := by
  induction n generalizing s i with
  | zero => exact hr
  | succ n ih =>
    unfold State.commitRun
    split
    · exact hr
    · split
      · exact ih (State.commitPosition_keeps hr)
      · exact hr

theorem State.deliver_keeps {ch upto : Nat} {r₀ s : State} (hr : r₀.Keeps s) : r₀.Keeps (State.deliver s ch upto) := by
  unfold State.deliver
  repeat' (first
    | with_reducible (first | assumption | exact fun _ => rfl | intro _)
    | dsimp only
    | with_reducible (first | apply State.Keeps.ite | apply State.updStream_keeps | apply State.rehash_keeps |
      apply State.addMark_keeps | apply State.countBudget_keeps | apply State.tokenRecords_keeps | apply State.finishGen_keeps |
      apply State.finishResume_keeps | apply State.finishEmbed_keeps | apply State.Keeps.each | apply State.Keeps.foldl |
      refine State.Keeps.snd (by assumption) ?_)
    | split | (with_reducible refine State.Keeps.upd rfl rfl ?_) | rfl | exact hr.same rfl rfl rfl)

theorem State.commitFrom_keeps {ch index : Nat} {r₀ s : State} (hr : r₀.Keeps s) : r₀.Keeps (State.commitFrom s ch index) := by
  unfold State.commitFrom
  repeat' (first
    | with_reducible (first | assumption | exact fun _ => rfl | intro _)
    | dsimp only
    | with_reducible (first | apply State.Keeps.ite | apply State.insertBlocks_keeps | apply State.commitRun_keeps |
      apply State.deliver_keeps | apply State.Keeps.each | apply State.Keeps.foldl | refine State.Keeps.snd (by assumption) ?_)
    | split | (with_reducible refine State.Keeps.upd rfl rfl ?_) | rfl | exact hr.same rfl rfl rfl)

theorem State.dropOld_keeps {r₀ s : State} (hr : r₀.Keeps s) : r₀.Keeps (State.dropOld s) := by
  unfold State.dropOld
  repeat' (first
    | with_reducible (first | assumption | exact fun _ => rfl | intro _)
    | dsimp only
    | with_reducible (first | apply State.Keeps.ite | apply State.updSrv_keeps | apply State.Keeps.each |
      apply State.Keeps.foldl | refine State.Keeps.snd (by assumption) ?_)
    | split | (with_reducible refine State.Keeps.upd rfl rfl ?_) | rfl | exact hr.same rfl rfl rfl)

theorem State.parkWaiting_keeps {r₀ s : State} (hr : r₀.Keeps s) : r₀.Keeps (State.parkWaiting s) := by
  unfold State.parkWaiting
  repeat' (first
    | with_reducible (first | assumption | exact fun _ => rfl | intro _)
    | dsimp only
    | with_reducible (first | apply State.Keeps.ite | apply State.updStream_keeps | apply State.startPark_keeps |
      apply State.Keeps.each | apply State.Keeps.foldl | refine State.Keeps.snd (by assumption) ?_)
    | split | (with_reducible refine State.Keeps.upd rfl rfl ?_) | rfl | exact hr.same rfl rfl rfl)

theorem State.commitAll_keeps {r₀ s : State} (hr : r₀.Keeps s) : r₀.Keeps (State.commitAll s) := by
  unfold State.commitAll
  repeat' (first
    | with_reducible (first | assumption | exact fun _ => rfl | intro _)
    | dsimp only
    | with_reducible (first | apply State.Keeps.ite | apply State.commitFrom_keeps | apply State.Keeps.each |
      apply State.Keeps.foldl | refine State.Keeps.snd (by assumption) ?_)
    | split | (with_reducible refine State.Keeps.upd rfl rfl ?_) | rfl | exact hr.same rfl rfl rfl)

theorem State.dropFrom_keeps {ch index : Nat} {r₀ s : State} (hr : r₀.Keeps s) : r₀.Keeps (State.dropFrom s ch index) := by
  unfold State.dropFrom
  repeat' (first
    | with_reducible (first | assumption | exact fun _ => rfl | intro _)
    | dsimp only
    | with_reducible (first | apply State.Keeps.ite | apply State.updSrv_keeps | apply State.Keeps.each |
      apply State.Keeps.foldl | refine State.Keeps.snd (by assumption) ?_)
    | split | (with_reducible refine State.Keeps.upd rfl rfl ?_) | rfl | exact hr.same rfl rfl rfl)

theorem State.reenter_keeps {ch cut : Nat} {r₀ s : State} (hr : r₀.Keeps s) : r₀.Keeps (State.reenter s ch cut) := by
  unfold State.reenter
  repeat' (first
    | with_reducible (first | assumption | exact fun _ => rfl | intro _)
    | dsimp only
    | with_reducible (first | apply State.Keeps.ite | apply State.updStream_keeps | apply State.updGen_keeps |
      apply State.addMark_keeps | apply State.Keeps.each | apply State.Keeps.foldl | refine State.Keeps.snd (by assumption) ?_)
    | split | (with_reducible refine State.Keeps.upd rfl rfl ?_) | rfl | exact hr.same rfl rfl rfl)

theorem State.failStamp_keeps {stream index result : Nat} {r₀ s : State} (hr : r₀.Keeps s) : r₀.Keeps (State.failStamp s stream index result) := by
  unfold State.failStamp
  repeat' (first
    | with_reducible (first | assumption | exact fun _ => rfl | intro _)
    | dsimp only
    | with_reducible (first | apply State.Keeps.ite | apply State.updSrv_keeps | apply State.updChk_keeps |
      apply State.updStream_keeps | apply State.endGen_keeps | apply State.dropFrom_keeps | apply State.reenter_keeps |
      apply State.Keeps.each | apply State.Keeps.foldl | refine State.Keeps.snd (by assumption) ?_)
    | split | (with_reducible refine State.Keeps.upd rfl rfl ?_) | rfl | exact hr.same rfl rfl rfl)

theorem State.failAll_keeps {r₀ s : State} (hr : r₀.Keeps s) : r₀.Keeps (State.failAll s) := by
  unfold State.failAll
  repeat' (first
    | with_reducible (first | assumption | exact fun _ => rfl | intro _)
    | dsimp only
    | with_reducible (first | apply State.Keeps.ite | apply State.failStamp_keeps | apply State.Keeps.each |
      apply State.Keeps.foldl | refine State.Keeps.snd (by assumption) ?_)
    | split | (with_reducible refine State.Keeps.upd rfl rfl ?_) | rfl | exact hr.same rfl rfl rfl)

theorem State.enter_keeps {ch index token : Nat} {provisional needLogits : Bool} {mark : Option Nat} {r₀ s : State} (hr : r₀.Keeps s) : r₀.Keeps (State.enter s ch index token provisional needLogits mark) := by
  unfold State.enter
  repeat' (first
    | with_reducible (first | assumption | exact fun _ => rfl | intro _)
    | dsimp only
    | with_reducible (first | apply State.Keeps.ite | apply State.updFab_keeps | apply State.updSrv_keeps |
      apply State.updStream_keeps | apply State.freeOneCached_keeps | apply State.Keeps.each | apply State.Keeps.foldl |
      refine State.Keeps.snd (by assumption) ?_)
    | split | (with_reducible refine State.Keeps.upd rfl rfl ?_) | rfl | exact hr.same rfl rfl rfl)

theorem State.enterRebuild_keeps {t : Stream} {target index : Nat} {r₀ s : State} (hr : r₀.Keeps s) : r₀.Keeps (State.enterRebuild s t target index) := by
  unfold State.enterRebuild
  repeat' (first
    | with_reducible (first | assumption | exact fun _ => rfl | intro _)
    | dsimp only
    | with_reducible (first | apply State.Keeps.ite | apply State.updFab_keeps | apply State.Keeps.each |
      apply State.Keeps.foldl | refine State.Keeps.snd (by assumption) ?_)
    | split | (with_reducible refine State.Keeps.upd rfl rfl ?_) | rfl | exact hr.same rfl rfl rfl)

theorem State.takeSlots_keeps {ch n : Nat} {r₀ s : State} (hr : r₀.Keeps s) : r₀.Keeps (State.takeSlots s ch n) := by
  unfold State.takeSlots
  repeat' (first
    | with_reducible (first | assumption | exact fun _ => rfl | intro _)
    | dsimp only
    | with_reducible (first | apply State.Keeps.ite | apply State.updSrv_keeps | apply State.updStream_keeps |
      apply State.updGen_keeps | apply State.enter_keeps | apply State.enterRebuild_keeps | apply State.Keeps.each |
      apply State.Keeps.foldl | refine State.Keeps.snd (by assumption) ?_)
    | split | (with_reducible refine State.Keeps.upd rfl rfl ?_) | rfl | exact hr.same rfl rfl rfl)

theorem State.fillKind_keeps {kind : WorkKind} {k free : Nat} {d : List Nat} {r s : State} (hr : r.Keeps s) :
    r.Keeps (State.fillKind kind k free d s).2 := by
  induction k generalizing s free d with
  | zero => exact hr
  | succ k ih =>
    unfold State.fillKind
    split
    · exact hr
    · extract_lets ready key ord best
      clear_value best
      rcases best with _ | ⟨ch, t⟩
      · exact hr
      · exact State.Keeps.iteSnd (ih hr) (ih (State.updTenant_keeps (State.takeSlots_keeps hr)))

theorem State.holdRecords_keeps {r₀ s : State} (hr : r₀.Keeps s) : r₀.Keeps (State.holdRecords s) := by
  unfold State.holdRecords
  repeat' (first
    | with_reducible (first | assumption | exact fun _ => rfl | intro _)
    | dsimp only
    | with_reducible (first | apply State.Keeps.ite | apply State.updGen_keeps | apply State.reply_keeps |
      apply State.Keeps.each | apply State.Keeps.foldl | refine State.Keeps.snd (by assumption) ?_)
    | split | (with_reducible refine State.Keeps.upd rfl rfl ?_) | rfl | exact hr.same rfl rfl rfl)

theorem State.slotBudget_keeps {r₀ s : State} (hr : r₀.Keeps s) : r₀.Keeps (State.slotBudget s).2 := by
  unfold State.slotBudget
  repeat' (first
    | with_reducible (first | assumption | exact fun _ => rfl | intro _)
    | dsimp only
    | with_reducible (first | apply State.Keeps.ite | apply State.updSrv_keeps | apply State.Keeps.each |
      apply State.Keeps.foldl | refine State.Keeps.snd (by assumption) ?_)
    | split | (with_reducible refine State.Keeps.upd rfl rfl ?_) | rfl | exact hr.same rfl rfl rfl)

theorem State.sendHeadBundle_keeps {tack : Bool} {r₀ s : State} (hr : r₀.Keeps s) : r₀.Keeps (State.sendHeadBundle s tack) := by
  unfold State.sendHeadBundle
  repeat' (first
    | with_reducible (first | assumption | exact fun _ => rfl | intro _)
    | dsimp only
    | with_reducible (first | apply State.Keeps.ite | apply State.updFab_keeps | apply State.updSrv_keeps |
      apply State.sendBundle_keeps | apply State.Keeps.each | apply State.Keeps.foldl |
      refine State.Keeps.snd (by assumption) ?_)
    | split | (with_reducible refine State.Keeps.upd rfl rfl ?_) | rfl | exact hr.same rfl rfl rfl)

theorem State.fillSlots_keeps {r₀ s : State} (hr : r₀.Keeps s) : r₀.Keeps (State.fillSlots s) := by
  unfold State.fillSlots
  repeat' (first
    | with_reducible (first | assumption | exact fun _ => rfl | intro _)
    | dsimp only
    | with_reducible (first | apply State.Keeps.ite | apply State.updSrv_keeps | apply State.updTenant_keeps |
      apply State.fillKind_keeps | apply State.holdRecords_keeps | apply State.slotBudget_keeps | apply State.Keeps.each |
      apply State.Keeps.foldl | refine State.Keeps.snd (by assumption) ?_)
    | split | (with_reducible refine State.Keeps.upd rfl rfl ?_) | rfl | exact hr.same rfl rfl rfl)

theorem State.Keeps.window {r s : State} {f : Srv → Srv} (hf : ∀ v, Memory.wf v.window = true → Memory.wf (f v).window = true)
    (h : r.Keeps s) : r.Keeps (s.updSrv f) := h.trans ⟨rfl, fun w => ⟨hf _ w.1, w.2⟩⟩
theorem State.Keeps.clamps {r s : State} {f : Fab → Fab}
    (hf : ∀ b, Sparse.wf ClampSlot.reset b.clamps = true → Sparse.wf ClampSlot.reset (f b).clamps = true)
    (h : r.Keeps s) : r.Keeps (s.updFab f) := h.trans ⟨rfl, fun w => ⟨w.1, hf _ w.2⟩⟩
theorem State.storeSlot_keeps {f ch off : Nat} {data : List Byte} {r s : State} (hr : r.Keeps s) : r.Keeps (s.storeSlot f ch off data) := by
  have hw : r.Keeps (s.updSrv (fun v => { v with window := Memory.writeBytes v.window (256 * ch + off) data })) :=
    hr.window (fun _ h => Memory.wf_writeBytes _ h)
  unfold State.storeSlot
  dsimp only
  split
  · exact State.updSrv_keeps (fun _ => rfl) hr
  · split
    · exact State.updSrv_keeps (fun _ => rfl) hw
    · exact hw

theorem State.storeSpan_keeps {f : Nat} {n : Nat} {off : Nat} {data : List Byte} {r s : State} (hr : r.Keeps s) :
    r.Keeps (State.storeSpan f n off data s) := by
  induction n generalizing s off data with
  | zero => exact hr
  | succ n ih =>
    unfold State.storeSpan
    split
    · exact hr
    · exact ih (State.storeSlot_keeps hr)

theorem stepCommandSlotWrite_keeps {f off : Nat} {data : List Byte} {r₀ s : State} (hr : r₀.Keeps s) : r₀.Keeps (stepCommandSlotWrite f off data s) := by
  unfold stepCommandSlotWrite
  repeat' (first
    | with_reducible (first | assumption | exact fun _ => rfl | intro _)
    | dsimp only
    | with_reducible (first | apply State.Keeps.ite | apply State.emit_keeps | apply State.storeSpan_keeps |
      apply State.Keeps.each | apply State.Keeps.foldl | refine State.Keeps.snd (by assumption) ?_)
    | split | (with_reducible refine State.Keeps.upd rfl rfl ?_) | rfl | exact hr.same rfl rfl rfl)

theorem State.issueRead_keeps {c : Cmd} {r₀ s : State} (hr : r₀.Keeps s) : r₀.Keeps (State.issueRead s c).2 := by
  unfold State.issueRead
  repeat' (first
    | with_reducible (first | assumption | exact fun _ => rfl | intro _)
    | dsimp only
    | with_reducible (first | apply State.Keeps.ite | apply State.updSrv_keeps | apply State.updFn_keeps |
      apply State.emit_keeps | apply State.Keeps.each | apply State.Keeps.foldl | refine State.Keeps.snd (by assumption) ?_)
    | split | (with_reducible refine State.Keeps.upd rfl rfl ?_) | rfl | exact hr.same rfl rfl rfl)

theorem State.collectOne_keeps {ch : Nat} {r₀ s : State} (hr : r₀.Keeps s) : r₀.Keeps (State.collectOne s ch) := by
  unfold State.collectOne
  repeat' (first
    | with_reducible (first | assumption | exact fun _ => rfl | intro _)
    | dsimp only
    | with_reducible (first | apply State.Keeps.ite | apply State.updSrv_keeps | apply State.issueRead_keeps |
      apply State.Keeps.each | apply State.Keeps.foldl | refine State.Keeps.snd (by assumption) ?_)
    | split | (with_reducible refine State.Keeps.upd rfl rfl ?_) | rfl | exact hr.same rfl rfl rfl)

theorem State.collect_keeps {r₀ s : State} (hr : r₀.Keeps s) : r₀.Keeps (State.collect s) := by
  unfold State.collect
  repeat' (first
    | with_reducible (first | assumption | exact fun _ => rfl | intro _)
    | dsimp only
    | with_reducible (first | apply State.Keeps.ite | apply State.updSrv_keeps | apply State.collectOne_keeps |
      apply State.Keeps.each | apply State.Keeps.foldl | refine State.Keeps.snd (by assumption) ?_)
    | split | (with_reducible refine State.Keeps.upd rfl rfl ?_) | rfl | exact hr.same rfl rfl rfl)

theorem State.schedule_keeps {r₀ s : State} (hr : r₀.Keeps s) : r₀.Keeps (State.schedule s) := by
  unfold State.schedule
  repeat' (first
    | with_reducible (first | assumption | exact fun _ => rfl | intro _)
    | dsimp only
    | with_reducible (first | apply State.Keeps.ite | apply State.updSrv_keeps | apply State.reply_keeps |
      apply State.Keeps.each | apply State.Keeps.foldl | refine State.Keeps.snd (by assumption) ?_)
    | split | (with_reducible refine State.Keeps.upd rfl rfl ?_) | rfl | exact hr.same rfl rfl rfl)

theorem State.takeRead_keeps {c : Cmd} {data : List Byte} {r s : State} (hr : r.Keeps s) : r.Keeps (s.takeRead c data).2 := by
  have hp : ∀ (v : Srv) e k, (v.cachePut e k).window = v.window := by
    intro v e k
    unfold Srv.cachePut
    dsimp only
    split
    · rfl
    · split <;> rfl
  unfold State.takeRead
  split
  · exact hr
  · exact State.updSrv_keeps (fun v => hp v _ _) hr
  · exact State.updSrv_keeps (fun _ => rfl) hr
  · exact hr

theorem stepDescriptorFetchComplete_keeps {ch : Nat} {r : FetchEnd} {r₀ s : State} (hr : r₀.Keeps s) : r₀.Keeps (stepDescriptorFetchComplete ch r s) := by
  unfold stepDescriptorFetchComplete
  repeat' (first
    | with_reducible (first | assumption | exact fun _ => rfl | intro _)
    | dsimp only
    | with_reducible (first | apply State.Keeps.ite | apply State.updPcie_keeps | apply State.updSrv_keeps |
      apply State.updFn_keeps | apply State.issueRead_keeps | apply State.takeRead_keeps | apply State.Keeps.each |
      apply State.Keeps.foldl | refine State.Keeps.snd (by assumption) ?_)
    | split | (with_reducible refine State.Keeps.upd rfl rfl ?_) | rfl | exact hr.same rfl rfl rfl)

theorem State.finishRestore_keeps {ch : Nat} {poisoned : Bool} {r₀ s : State} (hr : r₀.Keeps s) : r₀.Keeps (State.finishRestore s ch poisoned) := by
  unfold State.finishRestore
  repeat' (first
    | with_reducible (first | assumption | exact fun _ => rfl | intro _)
    | dsimp only
    | with_reducible (first | apply State.Keeps.ite | apply State.updStream_keeps | apply State.reply_keeps |
      apply State.freeStream_keeps | apply State.startGen_keeps | apply State.Keeps.each | apply State.Keeps.foldl |
      refine State.Keeps.snd (by assumption) ?_)
    | split | (with_reducible refine State.Keeps.upd rfl rfl ?_) | rfl | exact hr.same rfl rfl rfl)

theorem State.tryRestore_keeps {ch : Nat} {r₀ s : State} (hr : r₀.Keeps s) : r₀.Keeps (State.tryRestore s ch).2 := by
  unfold State.tryRestore
  repeat' (first
    | with_reducible (first | assumption | exact fun _ => rfl | intro _)
    | dsimp only
    | with_reducible (first | apply State.Keeps.ite | apply State.updStream_keeps | apply State.reclaimFor_keeps |
      apply State.finishRestore_keeps | apply State.Keeps.each | apply State.Keeps.foldl |
      refine State.Keeps.snd (by assumption) ?_)
    | split | (with_reducible refine State.Keeps.upd rfl rfl ?_) | rfl | exact hr.same rfl rfl rfl)

theorem State.restoreList_keeps {l : List Nat} {r s : State} (hr : r.Keeps s) : r.Keeps (State.restoreList l s) := by
  induction l generalizing s with
  | nil => exact hr
  | cons ch l ih =>
    unfold State.restoreList
    split
    · next e => exact ih (State.Keeps.snd e (State.tryRestore_keeps hr))
    · next e => exact State.Keeps.snd e (State.tryRestore_keeps hr)

theorem stepResumeRestore_keeps {ch : Nat} {poisoned : Bool} {r₀ s : State} (hr : r₀.Keeps s) : r₀.Keeps (stepResumeRestore ch poisoned s) := by
  unfold stepResumeRestore
  repeat' (first
    | with_reducible (first | assumption | exact fun _ => rfl | intro _)
    | dsimp only
    | with_reducible (first | apply State.Keeps.ite | apply State.finishRestore_keeps | apply State.tryRestore_keeps |
      apply State.Keeps.each | apply State.Keeps.foldl | refine State.Keeps.snd (by assumption) ?_)
    | split | (with_reducible refine State.Keeps.upd rfl rfl ?_) | rfl | exact hr.same rfl rfl rfl)

theorem stepParkCopyComplete_keeps {ch : Nat} {err : Bool} {r₀ s : State} (hr : r₀.Keeps s) : r₀.Keeps (stepParkCopyComplete ch err s) := by
  unfold stepParkCopyComplete
  repeat' (first
    | with_reducible (first | assumption | exact fun _ => rfl | intro _)
    | dsimp only
    | with_reducible (first | apply State.Keeps.ite | apply State.updSrv_keeps | apply State.updStream_keeps |
      apply State.reply_keeps | apply State.Keeps.each | apply State.Keeps.foldl | refine State.Keeps.snd (by assumption) ?_)
    | split | (with_reducible refine State.Keeps.upd rfl rfl ?_) | rfl | exact hr.same rfl rfl rfl)

theorem stepTtlExpiry_keeps {ch : Nat} {r₀ s : State} (hr : r₀.Keeps s) : r₀.Keeps (stepTtlExpiry ch s) := by
  unfold stepTtlExpiry
  repeat' (first
    | with_reducible (first | assumption | exact fun _ => rfl | intro _)
    | dsimp only
    | with_reducible (first | apply State.Keeps.ite | apply State.expirePark_keeps | apply State.Keeps.each |
      apply State.Keeps.foldl | refine State.Keeps.snd (by assumption) ?_)
    | split | (with_reducible refine State.Keeps.upd rfl rfl ?_) | rfl | exact hr.same rfl rfl rfl)

theorem stepBudgetWindowEnd_keeps {tn : Nat} {r₀ s : State} (hr : r₀.Keeps s) : r₀.Keeps (stepBudgetWindowEnd tn s) := by
  unfold stepBudgetWindowEnd
  repeat' (first
    | with_reducible (first | assumption | exact fun _ => rfl | intro _)
    | dsimp only
    | with_reducible (first | apply State.Keeps.ite | apply State.updSrv_keeps | apply State.updTenant_keeps |
      apply State.Keeps.each | apply State.Keeps.foldl | refine State.Keeps.snd (by assumption) ?_)
    | split | (with_reducible refine State.Keeps.upd rfl rfl ?_) | rfl | exact hr.same rfl rfl rfl)

theorem State.expireLostStock_keeps {r₀ s : State} (hr : r₀.Keeps s) : r₀.Keeps (State.expireLostStock s) := by
  unfold State.expireLostStock
  repeat' (first
    | with_reducible (first | assumption | exact fun _ => rfl | intro _)
    | dsimp only
    | with_reducible (first | apply State.Keeps.ite | apply State.updSrv_keeps | apply State.expirePark_keeps |
      apply State.Keeps.each | apply State.Keeps.foldl | refine State.Keeps.snd (by assumption) ?_)
    | split | (with_reducible refine State.Keeps.upd rfl rfl ?_) | rfl | exact hr.same rfl rfl rfl)

theorem State.endWindows_keeps {r₀ s : State} (hr : r₀.Keeps s) : r₀.Keeps (State.endWindows s) := by
  unfold State.endWindows
  repeat' (first
    | with_reducible (first | assumption | exact fun _ => rfl | intro _)
    | dsimp only
    | with_reducible (first | apply State.Keeps.ite | apply stepTtlExpiry_keeps | apply stepBudgetWindowEnd_keeps |
      apply State.expireLostStock_keeps | apply State.Keeps.each | apply State.Keeps.foldl |
      refine State.Keeps.snd (by assumption) ?_)
    | split | (with_reducible refine State.Keeps.upd rfl rfl ?_) | rfl | exact hr.same rfl rfl rfl)

theorem State.advance_keeps {r₀ s : State} (hr : r₀.Keeps s) : r₀.Keeps (State.advance s) := by
  unfold State.advance
  repeat' (first
    | with_reducible (first | assumption | exact fun _ => rfl | intro _)
    | dsimp only
    | with_reducible (first | apply State.Keeps.ite | apply State.updSrv_keeps | apply State.retest_keeps |
      apply State.dropOld_keeps | apply State.parkWaiting_keeps | apply State.commitAll_keeps | apply State.failAll_keeps |
      apply State.fillSlots_keeps | apply State.restoreList_keeps | apply State.Keeps.each | apply State.Keeps.foldl |
      refine State.Keeps.snd (by assumption) ?_)
    | split | (with_reducible refine State.Keeps.upd rfl rfl ?_) | rfl | exact hr.same rfl rfl rfl)

theorem stepQueuedAdmission_keeps {ch : Nat} {r₀ s : State} (hr : r₀.Keeps s) : r₀.Keeps (stepQueuedAdmission ch s) := by
  unfold stepQueuedAdmission
  repeat' (first
    | with_reducible (first | assumption | exact fun _ => rfl | intro _)
    | dsimp only
    | with_reducible (first | apply State.Keeps.ite | apply State.retest_keeps | apply State.Keeps.each |
      apply State.Keeps.foldl | refine State.Keeps.snd (by assumption) ?_)
    | split | (with_reducible refine State.Keeps.upd rfl rfl ?_) | rfl | exact hr.same rfl rfl rfl)

theorem stepPositionCommit_keeps {ch index : Nat} {r₀ s : State} (hr : r₀.Keeps s) : r₀.Keeps (stepPositionCommit ch index s) := by
  unfold stepPositionCommit
  repeat' (first
    | with_reducible (first | assumption | exact fun _ => rfl | intro _)
    | dsimp only
    | with_reducible (first | apply State.Keeps.ite | apply State.commitFrom_keeps | apply State.Keeps.each |
      apply State.Keeps.foldl | refine State.Keeps.snd (by assumption) ?_)
    | split | (with_reducible refine State.Keeps.upd rfl rfl ?_) | rfl | exact hr.same rfl rfl rfl)

theorem stepStampFail_keeps {stream index : Nat} {r₀ s : State} (hr : r₀.Keeps s) : r₀.Keeps (stepStampFail stream index s) := by
  unfold stepStampFail
  repeat' (first
    | with_reducible (first | assumption | exact fun _ => rfl | intro _)
    | dsimp only
    | with_reducible (first | apply State.Keeps.ite | apply State.failStamp_keeps | apply State.Keeps.each |
      apply State.Keeps.foldl | refine State.Keeps.snd (by assumption) ?_)
    | split | (with_reducible refine State.Keeps.upd rfl rfl ?_) | rfl | exact hr.same rfl rfl rfl)

theorem State.runDue_keeps {op ch : Nat} {eff : Cmd → State → State} {r s : State} (he : ∀ c t, r.Keeps t → r.Keeps (eff c t)) (hr : r.Keeps s) :
    r.Keeps (s.runDue op ch eff) := by
  unfold State.runDue
  split
  · exact hr
  · next e => exact State.advance_keeps (he _ _ (State.takeDue_keeps e hr))

theorem State.refuse_keeps {rep : Rep} {status detail : Nat} {r₀ s : State} (hr : r₀.Keeps s) : r₀.Keeps (State.refuse s rep status detail) := by
  unfold State.refuse
  repeat' (first
    | with_reducible (first | assumption | exact fun _ => rfl | intro _)
    | dsimp only
    | with_reducible (first | apply State.Keeps.ite | apply State.reply_keeps | apply State.Keeps.each |
      apply State.Keeps.foldl | refine State.Keeps.snd (by assumption) ?_)
    | split | (with_reducible refine State.Keeps.upd rfl rfl ?_) | rfl | exact hr.same rfl rfl rfl)

theorem State.streamEff_keeps {eff : Cmd → Rep → State → State} {c : Cmd} {r s : State} (he : ∀ c p t, r.Keeps t → r.Keeps (eff c p t)) (hr : r.Keeps s) :
    r.Keeps (State.streamEff eff c s) := by
  unfold State.streamEff
  split
  · exact State.refuse_keeps hr
  · exact he _ _ _ hr

theorem effOpen_keeps {c : Cmd} {rep : Rep} {r₀ s : State} (hr : r₀.Keeps s) : r₀.Keeps (effOpen c rep s) := by
  unfold effOpen
  repeat' (first
    | with_reducible (first | assumption | exact fun _ => rfl | intro _)
    | dsimp only
    | with_reducible (first | apply State.Keeps.ite | apply State.updSrv_keeps | apply State.setStream_keeps |
      apply State.reply_keeps | apply State.rehash_keeps | apply State.startGen_keeps | apply State.refuse_keeps |
      apply State.Keeps.each | apply State.Keeps.foldl | refine State.Keeps.snd (by assumption) ?_)
    | split | (with_reducible refine State.Keeps.upd rfl rfl ?_) | rfl | exact hr.same rfl rfl rfl)

theorem effAppend_keeps {c : Cmd} {rep : Rep} {r₀ s : State} (hr : r₀.Keeps s) : r₀.Keeps (effAppend c rep s) := by
  unfold effAppend
  repeat' (first
    | with_reducible (first | assumption | exact fun _ => rfl | intro _)
    | dsimp only
    | with_reducible (first | apply State.Keeps.ite | apply State.updStream_keeps | apply State.reply_keeps |
      apply State.rehash_keeps | apply State.startGen_keeps | apply State.refuse_keeps | apply State.Keeps.each |
      apply State.Keeps.foldl | refine State.Keeps.snd (by assumption) ?_)
    | split | (with_reducible refine State.Keeps.upd rfl rfl ?_) | rfl | exact hr.same rfl rfl rfl)

theorem effGenerate_keeps {c : Cmd} {rep : Rep} {r₀ s : State} (hr : r₀.Keeps s) : r₀.Keeps (effGenerate c rep s) := by
  unfold effGenerate
  repeat' (first
    | with_reducible (first | assumption | exact fun _ => rfl | intro _)
    | dsimp only
    | with_reducible (first | apply State.Keeps.ite | apply State.startGen_keeps | apply State.refuse_keeps |
      apply State.Keeps.each | apply State.Keeps.foldl | refine State.Keeps.snd (by assumption) ?_)
    | split | (with_reducible refine State.Keeps.upd rfl rfl ?_) | rfl | exact hr.same rfl rfl rfl)

theorem effCancel_keeps {c : Cmd} {rep : Rep} {r₀ s : State} (hr : r₀.Keeps s) : r₀.Keeps (effCancel c rep s) := by
  unfold effCancel
  repeat' (first
    | with_reducible (first | assumption | exact fun _ => rfl | intro _)
    | dsimp only
    | with_reducible (first | apply State.Keeps.ite | apply State.reply_keeps | apply State.endGen_keeps |
      apply State.Keeps.each | apply State.Keeps.foldl | refine State.Keeps.snd (by assumption) ?_)
    | split | (with_reducible refine State.Keeps.upd rfl rfl ?_) | rfl | exact hr.same rfl rfl rfl)

theorem effPark_keeps {c : Cmd} {rep : Rep} {r₀ s : State} (hr : r₀.Keeps s) : r₀.Keeps (effPark c rep s) := by
  unfold effPark
  repeat' (first
    | with_reducible (first | assumption | exact fun _ => rfl | intro _)
    | dsimp only
    | with_reducible (first | apply State.Keeps.ite | apply State.updStream_keeps | apply State.reply_keeps |
      apply State.startPark_keeps | apply State.refuse_keeps | apply State.Keeps.each | apply State.Keeps.foldl |
      refine State.Keeps.snd (by assumption) ?_)
    | split | (with_reducible refine State.Keeps.upd rfl rfl ?_) | rfl | exact hr.same rfl rfl rfl)

theorem State.reprefillOr_keeps {rep : Rep} {start : Bool} {maxNew status detail : Nat} {r₀ s : State} (hr : r₀.Keeps s) : r₀.Keeps (State.reprefillOr s rep start maxNew status detail) := by
  unfold State.reprefillOr
  repeat' (first
    | with_reducible (first | assumption | exact fun _ => rfl | intro _)
    | dsimp only
    | with_reducible (first | apply State.Keeps.ite | apply State.updSrv_keeps | apply State.updStream_keeps |
      apply State.reply_keeps | apply State.freeStream_keeps | apply State.endGen_keeps | apply State.countRefusal_keeps |
      apply State.testGen_keeps | apply State.refuse_keeps | apply State.Keeps.each | apply State.Keeps.foldl |
      refine State.Keeps.snd (by assumption) ?_)
    | split | (with_reducible refine State.Keeps.upd rfl rfl ?_) | rfl | exact hr.same rfl rfl rfl)

theorem effResume_keeps {c : Cmd} {rep : Rep} {r₀ s : State} (hr : r₀.Keeps s) : r₀.Keeps (effResume c rep s) := by
  unfold effResume
  repeat' (first
    | with_reducible (first | assumption | exact fun _ => rfl | intro _)
    | dsimp only
    | with_reducible (first | apply State.Keeps.ite | apply State.updSrv_keeps | apply State.updStream_keeps |
      apply State.reply_keeps | apply State.tryRestore_keeps | apply State.refuse_keeps | apply State.reprefillOr_keeps |
      apply State.Keeps.each | apply State.Keeps.foldl | refine State.Keeps.snd (by assumption) ?_)
    | split | (with_reducible refine State.Keeps.upd rfl rfl ?_) | rfl | exact hr.same rfl rfl rfl)

theorem effClose_keeps {c : Cmd} {rep : Rep} {r₀ s : State} (hr : r₀.Keeps s) : r₀.Keeps (effClose c rep s) := by
  unfold effClose
  repeat' (first
    | with_reducible (first | assumption | exact fun _ => rfl | intro _)
    | dsimp only
    | with_reducible (first | apply State.Keeps.ite | apply State.updSrv_keeps | apply State.delStream_keeps |
      apply State.reply_keeps | apply State.freeStream_keeps | apply State.shrinkPool_keeps | apply State.endGen_keeps |
      apply State.Keeps.each | apply State.Keeps.foldl | refine State.Keeps.snd (by assumption) ?_)
    | split | (with_reducible refine State.Keeps.upd rfl rfl ?_) | rfl | exact hr.same rfl rfl rfl)

theorem State.moveRings_keeps {f ch ring : Nat} {r₀ s : State} (hr : r₀.Keeps s) : r₀.Keeps (State.moveRings s f ch ring) := by
  unfold State.moveRings
  repeat' (first
    | with_reducible (first | assumption | exact fun _ => rfl | intro _)
    | dsimp only
    | with_reducible (first | apply State.Keeps.ite | apply State.updWs_keeps | apply State.updLnk_keeps |
      apply State.updSrv_keeps | apply State.updChk_keeps | apply State.updSec_keeps | apply State.reply_keeps |
      apply State.Keeps.each | apply State.Keeps.foldl | refine State.Keeps.snd (by assumption) ?_)
    | split | (with_reducible refine State.Keeps.upd rfl rfl ?_) | rfl | exact hr.same rfl rfl rfl)

theorem effChanReload_keeps {c : Cmd} {rep : Rep} {r₀ s : State} (hr : r₀.Keeps s) : r₀.Keeps (effChanReload c rep s) := by
  unfold effChanReload
  repeat' (first
    | with_reducible (first | assumption | exact fun _ => rfl | intro _)
    | dsimp only
    | with_reducible (first | apply State.Keeps.ite | apply State.updStream_keeps | apply State.reply_keeps |
      apply State.refuse_keeps | apply State.moveRings_keeps | apply State.Keeps.each | apply State.Keeps.foldl |
      refine State.Keeps.snd (by assumption) ?_)
    | split | (with_reducible refine State.Keeps.upd rfl rfl ?_) | rfl | exact hr.same rfl rfl rfl)

theorem effEmbed_keeps {c : Cmd} {rep : Rep} {r₀ s : State} (hr : r₀.Keeps s) : r₀.Keeps (effEmbed c rep s) := by
  unfold effEmbed
  repeat' (first
    | with_reducible (first | assumption | exact fun _ => rfl | intro _)
    | dsimp only
    | with_reducible (first | apply State.Keeps.ite | apply State.updSrv_keeps | apply State.setStream_keeps |
      apply State.reply_keeps | apply State.countRefusal_keeps | apply State.retest_keeps | apply State.refuse_keeps |
      apply State.Keeps.each | apply State.Keeps.foldl | refine State.Keeps.snd (by assumption) ?_)
    | split | (with_reducible refine State.Keeps.upd rfl rfl ?_) | rfl | exact hr.same rfl rfl rfl)

theorem effTenantSet_keeps {c : Cmd} {r₀ s : State} (hr : r₀.Keeps s) : r₀.Keeps (effTenantSet c s) := by
  unfold effTenantSet
  repeat' (first
    | with_reducible (first | assumption | exact fun _ => rfl | intro _)
    | dsimp only
    | with_reducible (first | apply State.Keeps.ite | apply State.updTenant_keeps | apply State.reply_keeps |
      apply State.refuse_keeps | apply State.Keeps.each | apply State.Keeps.foldl | refine State.Keeps.snd (by assumption) ?_)
    | split | (with_reducible refine State.Keeps.upd rfl rfl ?_) | rfl | exact hr.same rfl rfl rfl)

theorem effNop_keeps {c : Cmd} {r₀ s : State} (hr : r₀.Keeps s) : r₀.Keeps (effNop c s) := by
  unfold effNop
  repeat' (first
    | with_reducible (first | assumption | exact fun _ => rfl | intro _)
    | dsimp only
    | with_reducible (first | apply State.Keeps.ite | apply State.reply_keeps | apply State.Keeps.each |
      apply State.Keeps.foldl | refine State.Keeps.snd (by assumption) ?_)
    | split | (with_reducible refine State.Keeps.upd rfl rfl ?_) | rfl | exact hr.same rfl rfl rfl)

theorem State.setResult_keeps {op : ImgOp} {code state : Nat} {r₀ s : State} (hr : r₀.Keeps s) : r₀.Keeps (State.setResult s op code state) := by
  unfold State.setResult
  repeat' (first
    | with_reducible (first | assumption | exact fun _ => rfl | intro _)
    | dsimp only
    | with_reducible (first | apply State.Keeps.ite | apply State.updWs_keeps | apply State.Keeps.each |
      apply State.Keeps.foldl | refine State.Keeps.snd (by assumption) ?_)
    | split | (with_reducible refine State.Keeps.upd rfl rfl ?_) | rfl | exact hr.same rfl rfl rfl)

theorem State.refuseImage_keeps {rep : Rep} {op : ImgOp} {code : Nat} {r₀ s : State} (hr : r₀.Keeps s) : r₀.Keeps (State.refuseImage s rep op code) := by
  unfold State.refuseImage
  repeat' (first
    | with_reducible (first | assumption | exact fun _ => rfl | intro _)
    | dsimp only
    | with_reducible (first | apply State.Keeps.ite | apply State.updWs_keeps | apply State.reply_keeps |
      apply State.Keeps.each | apply State.Keeps.foldl | refine State.Keeps.snd (by assumption) ?_)
    | split | (with_reducible refine State.Keeps.upd rfl rfl ?_) | rfl | exact hr.same rfl rfl rfl)

theorem State.unstage_keeps {r₀ s : State} (hr : r₀.Keeps s) : r₀.Keeps (State.unstage s) := by
  unfold State.unstage
  repeat' (first
    | with_reducible (first | assumption | exact fun _ => rfl | intro _)
    | dsimp only
    | with_reducible (first | apply State.Keeps.ite | apply State.updWs_keeps | apply State.Keeps.each |
      apply State.Keeps.foldl | refine State.Keeps.snd (by assumption) ?_)
    | split | (with_reducible refine State.Keeps.upd rfl rfl ?_) | rfl | exact hr.same rfl rfl rfl)

theorem State.readPage_keeps {r₀ s : State} (hr : r₀.Keeps s) : r₀.Keeps (State.readPage s) := by
  unfold State.readPage
  repeat' (first
    | with_reducible (first | assumption | exact fun _ => rfl | intro _)
    | dsimp only
    | with_reducible (first | apply State.Keeps.ite | apply State.emit_keeps | apply State.reply_keeps |
      apply State.Keeps.each | apply State.Keeps.foldl | refine State.Keeps.snd (by assumption) ?_)
    | split | (with_reducible refine State.Keeps.upd rfl rfl ?_) | rfl | exact hr.same rfl rfl rfl)

theorem effImage_keeps {op : ImgOp} {c : Cmd} {r₀ s : State} (hr : r₀.Keeps s) : r₀.Keeps (effImage op c s) := by
  unfold effImage
  repeat' (first
    | with_reducible (first | assumption | exact fun _ => rfl | intro _)
    | dsimp only
    | with_reducible (first | apply State.Keeps.ite | apply State.updWs_keeps | apply State.reply_keeps |
      apply State.refuseImage_keeps | apply State.unstage_keeps | apply State.readPage_keeps | apply State.Keeps.each |
      apply State.Keeps.foldl | refine State.Keeps.snd (by assumption) ?_)
    | split | (with_reducible refine State.Keeps.upd rfl rfl ?_) | rfl | exact hr.same rfl rfl rfl)

theorem State.endImage_keeps {code state : Nat} {r₀ s : State} (hr : r₀.Keeps s) : r₀.Keeps (State.endImage s code state) := by
  unfold State.endImage
  repeat' (first
    | with_reducible (first | assumption | exact fun _ => rfl | intro _)
    | dsimp only
    | with_reducible (first | apply State.Keeps.ite | apply State.updWs_keeps | apply State.reply_keeps |
      apply State.setResult_keeps | apply State.Keeps.each | apply State.Keeps.foldl |
      refine State.Keeps.snd (by assumption) ?_)
    | split | (with_reducible refine State.Keeps.upd rfl rfl ?_) | rfl | exact hr.same rfl rfl rfl)

theorem State.wearPages_keeps {pages : List Nat} {r₀ s : State} (hr : r₀.Keeps s) : r₀.Keeps (State.wearPages s pages) := by
  unfold State.wearPages
  repeat' (first
    | with_reducible (first | assumption | exact fun _ => rfl | intro _)
    | dsimp only
    | with_reducible (first | apply State.Keeps.ite | apply State.updWs_keeps | apply State.logEvent_keeps |
      apply State.Keeps.each | apply State.Keeps.foldl | refine State.Keeps.snd (by assumption) ?_)
    | split | (with_reducible refine State.Keeps.upd rfl rfl ?_) | rfl | exact hr.same rfl rfl rfl)

theorem State.writeDirectory_keeps {listing : List Payload} {r₀ s : State} (hr : r₀.Keeps s) : r₀.Keeps (State.writeDirectory s listing) := by
  unfold State.writeDirectory
  repeat' (first
    | with_reducible (first | assumption | exact fun _ => rfl | intro _)
    | dsimp only
    | with_reducible (first | apply State.Keeps.ite | apply State.updWs_keeps | apply State.wearPages_keeps |
      apply State.Keeps.each | apply State.Keeps.foldl | refine State.Keeps.snd (by assumption) ?_)
    | split | (with_reducible refine State.Keeps.upd rfl rfl ?_) | rfl | exact hr.same rfl rfl rfl)

theorem State.writePayloads_keeps {l : List Payload} {r₀ s : State} (hr : r₀.Keeps s) : r₀.Keeps (State.writePayloads s l).2 := by
  unfold State.writePayloads
  repeat' (first
    | with_reducible (first | assumption | exact fun _ => rfl | intro _)
    | dsimp only
    | with_reducible (first | apply State.Keeps.ite | apply State.updWs_keeps | apply State.wearPages_keeps |
      apply State.Keeps.each | apply State.Keeps.foldl | refine State.Keeps.snd (by assumption) ?_)
    | split | (with_reducible refine State.Keeps.upd rfl rfl ?_) | rfl | exact hr.same rfl rfl rfl)

theorem State.dropRun_keeps {r₀ s : State} (hr : r₀.Keeps s) : r₀.Keeps (State.dropRun s) := by
  unfold State.dropRun
  repeat' (first
    | with_reducible (first | assumption | exact fun _ => rfl | intro _)
    | dsimp only
    | with_reducible (first | apply State.Keeps.ite | apply State.updWs_keeps | apply State.writeDirectory_keeps |
      apply State.Keeps.each | apply State.Keeps.foldl | refine State.Keeps.snd (by assumption) ?_)
    | split | (with_reducible refine State.Keeps.upd rfl rfl ?_) | rfl | exact hr.same rfl rfl rfl)

theorem State.tellMembers_keeps {ftype : Nat} {words : List Nat} {r₀ s : State} (hr : r₀.Keeps s) : r₀.Keeps (State.tellMembers s ftype words) := by
  unfold State.tellMembers
  repeat' (first
    | with_reducible (first | assumption | exact fun _ => rfl | intro _)
    | dsimp only
    | with_reducible (first | apply State.Keeps.ite | apply State.emit_keeps | apply State.Keeps.each |
      apply State.Keeps.foldl | refine State.Keeps.snd (by assumption) ?_)
    | split | (with_reducible refine State.Keeps.upd rfl rfl ?_) | rfl | exact hr.same rfl rfl rfl)

theorem State.abortImage_keeps {code : Nat} {r₀ s : State} (hr : r₀.Keeps s) : r₀.Keeps (State.abortImage s code) := by
  unfold State.abortImage
  repeat' (first
    | with_reducible (first | assumption | exact fun _ => rfl | intro _)
    | dsimp only
    | with_reducible (first | apply State.Keeps.ite | apply State.endImage_keeps | apply State.dropRun_keeps |
      apply State.tellMembers_keeps | apply State.Keeps.each | apply State.Keeps.foldl |
      refine State.Keeps.snd (by assumption) ?_)
    | split | (with_reducible refine State.Keeps.upd rfl rfl ?_) | rfl | exact hr.same rfl rfl rfl)

theorem State.stageOwn_keeps {r : ImgRun} {r₀ s : State} (hr : r₀.Keeps s) : r₀.Keeps (State.stageOwn s r) := by
  unfold State.stageOwn
  repeat' (first
    | with_reducible (first | assumption | exact fun _ => rfl | intro _)
    | dsimp only
    | with_reducible (first | apply State.Keeps.ite | apply State.updWs_keeps | apply State.Keeps.each |
      apply State.Keeps.foldl | refine State.Keeps.snd (by assumption) ?_)
    | split | (with_reducible refine State.Keeps.upd rfl rfl ?_) | rfl | exact hr.same rfl rfl rfl)

theorem State.imageProgress_keeps {r₀ s : State} (hr : r₀.Keeps s) : r₀.Keeps (State.imageProgress s) := by
  unfold State.imageProgress
  repeat' (first
    | with_reducible (first | assumption | exact fun _ => rfl | intro _)
    | dsimp only
    | with_reducible (first | apply State.Keeps.ite | apply State.updWs_keeps | apply State.endImage_keeps |
      apply State.tellMembers_keeps | apply State.stageOwn_keeps | apply State.Keeps.each | apply State.Keeps.foldl |
      refine State.Keeps.snd (by assumption) ?_)
    | split | (with_reducible refine State.Keeps.upd rfl rfl ?_) | rfl | exact hr.same rfl rfl rfl)

theorem stepImageVerified_keeps {pkg code : Nat} {seeds : Bool} {r₀ s : State} (hr : r₀.Keeps s) : r₀.Keeps (stepImageVerified pkg code seeds s) := by
  unfold stepImageVerified
  repeat' (first
    | with_reducible (first | assumption | exact fun _ => rfl | intro _)
    | dsimp only
    | with_reducible (first | apply State.Keeps.ite | apply State.updWs_keeps | apply State.reply_keeps |
      apply State.abortImage_keeps | apply State.imageProgress_keeps | apply State.Keeps.each | apply State.Keeps.foldl |
      refine State.Keeps.snd (by assumption) ?_)
    | split | (with_reducible refine State.Keeps.upd rfl rfl ?_) | rfl | exact hr.same rfl rfl rfl)

theorem State.ownResult_keeps {r : ImgRun} {code : Nat} {r₀ s : State} (hr : r₀.Keeps s) : r₀.Keeps (State.ownResult s r code) := by
  unfold State.ownResult
  repeat' (first
    | with_reducible (first | assumption | exact fun _ => rfl | intro _)
    | dsimp only
    | with_reducible (first | apply State.Keeps.ite | apply State.updWs_keeps | apply State.emit_keeps |
      apply State.reply_keeps | apply stepImageVerified_keeps | apply State.Keeps.each | apply State.Keeps.foldl |
      refine State.Keeps.snd (by assumption) ?_)
    | split | (with_reducible refine State.Keeps.upd rfl rfl ?_) | rfl | exact hr.same rfl rfl rfl)

theorem stepImagePageReceive_keeps {op : ImgOp} {n : Nat} {f : FetchEnd} {r₀ s : State} (hr : r₀.Keeps s) : r₀.Keeps (stepImagePageReceive op n f s) := by
  unfold stepImagePageReceive
  repeat' (first
    | with_reducible (first | assumption | exact fun _ => rfl | intro _)
    | dsimp only
    | with_reducible (first | apply State.Keeps.ite | apply State.updWs_keeps | apply State.reply_keeps |
      apply State.sendPage_keeps | apply State.unstage_keeps | apply State.readPage_keeps | apply State.abortImage_keeps |
      apply State.ownResult_keeps | apply State.Keeps.each | apply State.Keeps.foldl |
      refine State.Keeps.snd (by assumption) ?_)
    | split | (with_reducible refine State.Keeps.upd rfl rfl ?_) | rfl | exact hr.same rfl rfl rfl)

theorem State.writePending_keeps {l : List Payload} {r₀ s : State} (hr : r₀.Keeps s) : r₀.Keeps (State.writePending s l) := by
  unfold State.writePending
  repeat' (first
    | with_reducible (first | assumption | exact fun _ => rfl | intro _)
    | dsimp only
    | with_reducible (first | apply State.Keeps.ite | apply State.updWs_keeps | apply State.writeDirectory_keeps |
      apply State.writePayloads_keeps | apply State.Keeps.each | apply State.Keeps.foldl |
      refine State.Keeps.snd (by assumption) ?_)
    | split | (with_reducible refine State.Keeps.upd rfl rfl ?_) | rfl | exact hr.same rfl rfl rfl)

theorem State.reportWritten_keeps {r₀ s : State} (hr : r₀.Keeps s) : r₀.Keeps (State.reportWritten s) := by
  unfold State.reportWritten
  repeat' (first
    | with_reducible (first | assumption | exact fun _ => rfl | intro _)
    | dsimp only
    | with_reducible (first | apply State.Keeps.ite | apply State.emit_keeps | apply State.Keeps.each |
      apply State.Keeps.foldl | refine State.Keeps.snd (by assumption) ?_)
    | split | (with_reducible refine State.Keeps.upd rfl rfl ?_) | rfl | exact hr.same rfl rfl rfl)

theorem stepImageWrite_keeps {r₀ s : State} (hr : r₀.Keeps s) : r₀.Keeps (stepImageWrite s) := by
  unfold stepImageWrite
  repeat' (first
    | with_reducible (first | assumption | exact fun _ => rfl | intro _)
    | dsimp only
    | with_reducible (first | apply State.Keeps.ite | apply State.reply_keeps | apply State.writePending_keeps |
      apply State.reportWritten_keeps | apply State.Keeps.each | apply State.Keeps.foldl |
      refine State.Keeps.snd (by assumption) ?_)
    | split | (with_reducible refine State.Keeps.upd rfl rfl ?_) | rfl | exact hr.same rfl rfl rfl)

theorem State.commitProgress_keeps {pkg : Nat} {r₀ s : State} (hr : r₀.Keeps s) : r₀.Keeps (State.commitProgress s pkg) := by
  unfold State.commitProgress
  repeat' (first
    | with_reducible (first | assumption | exact fun _ => rfl | intro _)
    | dsimp only
    | with_reducible (first | apply State.Keeps.ite | apply State.updWs_keeps | apply State.tellMembers_keeps |
      apply State.Keeps.each | apply State.Keeps.foldl | refine State.Keeps.snd (by assumption) ?_)
    | split | (with_reducible refine State.Keeps.upd rfl rfl ?_) | rfl | exact hr.same rfl rfl rfl)

theorem stepImageWritten_keeps {pkg : Nat} {r₀ s : State} (hr : r₀.Keeps s) : r₀.Keeps (stepImageWritten pkg s) := by
  unfold stepImageWritten
  repeat' (first
    | with_reducible (first | assumption | exact fun _ => rfl | intro _)
    | dsimp only
    | with_reducible (first | apply State.Keeps.ite | apply State.updWs_keeps | apply State.tellMembers_keeps |
      apply State.commitProgress_keeps | apply State.Keeps.each | apply State.Keeps.foldl |
      refine State.Keeps.snd (by assumption) ?_)
    | split | (with_reducible refine State.Keeps.upd rfl rfl ?_) | rfl | exact hr.same rfl rfl rfl)

theorem State.switchDirectory_keeps {epoch : Nat} {r₀ s : State} (hr : r₀.Keeps s) : r₀.Keeps (State.switchDirectory s epoch) := by
  unfold State.switchDirectory
  repeat' (first
    | with_reducible (first | assumption | exact fun _ => rfl | intro _)
    | dsimp only
    | with_reducible (first | apply State.Keeps.ite | apply State.updWs_keeps | apply State.writeDirectory_keeps |
      apply State.Keeps.each | apply State.Keeps.foldl | refine State.Keeps.snd (by assumption) ?_)
    | split | (with_reducible refine State.Keeps.upd rfl rfl ?_) | rfl | exact hr.same rfl rfl rfl)

theorem State.commitTack_keeps {r₀ s : State} (hr : r₀.Keeps s) : r₀.Keeps (State.commitTack s) := by
  unfold State.commitTack
  repeat' (first
    | with_reducible (first | assumption | exact fun _ => rfl | intro _)
    | dsimp only
    | with_reducible (first | apply State.Keeps.ite | apply State.updWs_keeps | apply State.switchDirectory_keeps |
      apply State.Keeps.each | apply State.Keeps.foldl | refine State.Keeps.snd (by assumption) ?_)
    | split | (with_reducible refine State.Keeps.upd rfl rfl ?_) | rfl | exact hr.same rfl rfl rfl)

theorem stepImageCommit_keeps {r₀ s : State} (hr : r₀.Keeps s) : r₀.Keeps (stepImageCommit s) := by
  unfold stepImageCommit
  repeat' (first
    | with_reducible (first | assumption | exact fun _ => rfl | intro _)
    | dsimp only
    | with_reducible (first | apply State.Keeps.ite | apply State.updWs_keeps | apply State.updSrv_keeps |
      apply State.reply_keeps | apply State.stageOwn_keeps | apply State.switchDirectory_keeps | apply State.commitTack_keeps |
      apply State.Keeps.each | apply State.Keeps.foldl | refine State.Keeps.snd (by assumption) ?_)
    | split | (with_reducible refine State.Keeps.upd rfl rfl ?_) | rfl | exact hr.same rfl rfl rfl)

theorem stepImageAbort_keeps {code : Nat} {r₀ s : State} (hr : r₀.Keeps s) : r₀.Keeps (stepImageAbort code s) := by
  unfold stepImageAbort
  repeat' (first
    | with_reducible (first | assumption | exact fun _ => rfl | intro _)
    | dsimp only
    | with_reducible (first | apply State.Keeps.ite | apply State.reply_keeps | apply State.dropRun_keeps |
      apply State.abortImage_keeps | apply State.Keeps.each | apply State.Keeps.foldl |
      refine State.Keeps.snd (by assumption) ?_)
    | split | (with_reducible refine State.Keeps.upd rfl rfl ?_) | rfl | exact hr.same rfl rfl rfl)

theorem State.loadBodies_keeps {bodies : List PanBody} {r₀ s : State} (hr : r₀.Keeps s) : r₀.Keeps (State.loadBodies s bodies) := by
  unfold State.loadBodies
  repeat' (first
    | with_reducible (first | assumption | exact fun _ => rfl | intro _)
    | dsimp only
    | with_reducible (first | apply State.Keeps.ite | apply State.updPan_keeps | apply State.leavePosition_keeps |
      apply State.Keeps.each | apply State.Keeps.foldl | refine State.Keeps.snd (by assumption) ?_)
    | split | (with_reducible refine State.Keeps.upd rfl rfl ?_) | rfl | exact hr.same rfl rfl rfl)

theorem State.loadRest_keeps {p : Payload} {r s : State} (hr : r.Keeps s) : r.Keeps (s.loadRest p) := by
  unfold State.loadRest
  refine State.updTime_keeps (State.Keeps.clamps (fun b _ => ?_) (State.updDle_keeps (State.updWs_keeps hr)))
  dsimp only
  generalize List.map recordOf _ = l
  suffices h : ∀ m : List (Nat × ClampSlot), Sparse.wf ClampSlot.reset m = true →
      Sparse.wf ClampSlot.reset (l.foldl (fun m r => Sparse.set ClampSlot.reset m r.slot (clampOf r)) m) = true from h [] rfl
  induction l with
  | nil => exact fun _ h => h
  | cons x l ih => exact fun m h => ih _ (Sparse.wf_set ClampSlot.reset h)

theorem State.badLoad_keeps {p : Payload} {bad : List Nat} {r₀ s : State} (hr : r₀.Keeps s) : r₀.Keeps (State.badLoad s p bad) := by
  unfold State.badLoad
  repeat' (first
    | with_reducible (first | assumption | exact fun _ => rfl | intro _)
    | dsimp only
    | with_reducible (first | apply State.Keeps.ite | apply State.updWs_keeps | apply State.Keeps.each |
      apply State.Keeps.foldl | refine State.Keeps.snd (by assumption) ?_)
    | split | (with_reducible refine State.Keeps.upd rfl rfl ?_) | rfl | exact hr.same rfl rfl rfl)

theorem stepPayloadLoad_keeps {us : Nat} {badPages : List Nat} {epoch : Option Nat} {r₀ s : State} (hr : r₀.Keeps s) : r₀.Keeps (stepPayloadLoad us badPages epoch s) := by
  unfold stepPayloadLoad
  repeat' (first
    | with_reducible (first | assumption | exact fun _ => rfl | intro _)
    | dsimp only
    | with_reducible (first | apply State.Keeps.ite | apply State.updWs_keeps | apply State.updSrv_keeps |
      apply State.loadSchedule_keeps | apply State.endImage_keeps | apply State.loadBodies_keeps | apply State.loadRest_keeps |
      apply State.badLoad_keeps | apply State.Keeps.each | apply State.Keeps.foldl | refine State.Keeps.snd (by assumption) ?_)
    | split | (with_reducible refine State.Keeps.upd rfl rfl ?_) | rfl | exact hr.same rfl rfl rfl)

theorem State.dutyDone_keeps {pkg pos : Nat} {r₀ s : State} (hr : r₀.Keeps s) : r₀.Keeps (State.dutyDone s pkg pos) := by
  unfold State.dutyDone
  repeat' (first
    | with_reducible (first | assumption | exact fun _ => rfl | intro _)
    | dsimp only
    | with_reducible (first | apply State.Keeps.ite | apply State.updLnk_keeps | apply State.reply_keeps |
      apply State.Keeps.each | apply State.Keeps.foldl | refine State.Keeps.snd (by assumption) ?_)
    | split | (with_reducible refine State.Keeps.upd rfl rfl ?_) | rfl | exact hr.same rfl rfl rfl)

theorem State.takeDuty_keeps {pos kind epoch : Nat} {pages : List (Nat × List Byte)} {r₀ s : State} (hr : r₀.Keeps s) : r₀.Keeps (State.takeDuty s pos kind epoch pages) := by
  unfold State.takeDuty
  repeat' (first
    | with_reducible (first | assumption | exact fun _ => rfl | intro _)
    | dsimp only
    | with_reducible (first | apply State.Keeps.ite | apply State.updRole_keeps | apply State.updWs_keeps |
      apply State.writeDirectory_keeps | apply State.writePayloads_keeps | apply State.Keeps.each | apply State.Keeps.foldl |
      refine State.Keeps.snd (by assumption) ?_)
    | split | (with_reducible refine State.Keeps.upd rfl rfl ?_) | rfl | exact hr.same rfl rfl rfl)

theorem stepSpareDutyCopy_keeps {pkg pos kind epoch : Nat} {pages : List (Nat × List Byte)} {r₀ s : State} (hr : r₀.Keeps s) : r₀.Keeps (stepSpareDutyCopy pkg pos kind epoch pages s) := by
  unfold stepSpareDutyCopy
  repeat' (first
    | with_reducible (first | assumption | exact fun _ => rfl | intro _)
    | dsimp only
    | with_reducible (first | apply State.Keeps.ite | apply State.emit_keeps | apply State.sendMsg_keeps |
      apply State.dutyDone_keeps | apply State.takeDuty_keeps | apply State.Keeps.each | apply State.Keeps.foldl |
      refine State.Keeps.snd (by assumption) ?_)
    | split | (with_reducible refine State.Keeps.upd rfl rfl ?_) | rfl | exact hr.same rfl rfl rfl)

theorem State.endUnderKey_keeps {id : List Byte} {r₀ s : State} (hr : r₀.Keeps s) : r₀.Keeps (State.endUnderKey s id) := by
  unfold State.endUnderKey
  repeat' (first
    | with_reducible (first | assumption | exact fun _ => rfl | intro _)
    | dsimp only
    | with_reducible (first | apply State.Keeps.ite | apply State.emit_keeps | apply State.reply_keeps |
      apply State.unstage_keeps | apply State.dropRun_keeps | apply State.abortImage_keeps | apply State.Keeps.each |
      apply State.Keeps.foldl | refine State.Keeps.snd (by assumption) ?_)
    | split | (with_reducible refine State.Keeps.upd rfl rfl ?_) | rfl | exact hr.same rfl rfl rfl)

theorem State.keyOperation_keeps {op : Bool × Nat × List Byte} {r₀ s : State} (hr : r₀.Keeps s) : r₀.Keeps (State.keyOperation s op) := by
  unfold State.keyOperation
  repeat' (first
    | with_reducible (first | assumption | exact fun _ => rfl | intro _)
    | dsimp only
    | with_reducible (first | apply State.Keeps.ite | apply State.updSec_keeps | apply State.updNv_keeps |
      apply State.endUnderKey_keeps | apply State.Keeps.each | apply State.Keeps.foldl |
      refine State.Keeps.snd (by assumption) ?_)
    | split | (with_reducible refine State.Keeps.upd rfl rfl ?_) | rfl | exact hr.same rfl rfl rfl)

theorem State.applyKeys_keeps {r₀ s : State} (hr : r₀.Keeps s) : r₀.Keeps (State.applyKeys s) := by
  unfold State.applyKeys
  repeat' (first
    | with_reducible (first | assumption | exact fun _ => rfl | intro _)
    | dsimp only
    | with_reducible (first | apply State.Keeps.ite | apply State.updSec_keeps | apply State.keyOperation_keeps |
      apply State.Keeps.each | apply State.Keeps.foldl | refine State.Keeps.snd (by assumption) ?_)
    | split | (with_reducible refine State.Keeps.upd rfl rfl ?_) | rfl | exact hr.same rfl rfl rfl)

theorem State.keyGo_keeps {revoke : Bool} {slot : Nat} {r₀ s : State} (hr : r₀.Keeps s) : r₀.Keeps (State.keyGo s revoke slot) := by
  unfold State.keyGo
  repeat' (first
    | with_reducible (first | assumption | exact fun _ => rfl | intro _)
    | dsimp only
    | with_reducible (first | apply State.Keeps.ite | apply State.updSec_keeps | apply State.Keeps.each |
      apply State.Keeps.foldl | refine State.Keeps.snd (by assumption) ?_)
    | split | (with_reducible refine State.Keeps.upd rfl rfl ?_) | rfl | exact hr.same rfl rfl rfl)

theorem stepKeyEnrol_keeps {slot : Nat} {r₀ s : State} (hr : r₀.Keeps s) : r₀.Keeps (stepKeyEnrol slot s) := by
  unfold stepKeyEnrol
  repeat' (first
    | with_reducible (first | assumption | exact fun _ => rfl | intro _)
    | dsimp only
    | with_reducible (first | apply State.Keeps.ite | apply State.keyGo_keeps | apply State.Keeps.each |
      apply State.Keeps.foldl | refine State.Keeps.snd (by assumption) ?_)
    | split | (with_reducible refine State.Keeps.upd rfl rfl ?_) | rfl | exact hr.same rfl rfl rfl)

theorem stepKeyRevoke_keeps {slot : Nat} {r₀ s : State} (hr : r₀.Keeps s) : r₀.Keeps (stepKeyRevoke slot s) := by
  unfold stepKeyRevoke
  repeat' (first
    | with_reducible (first | assumption | exact fun _ => rfl | intro _)
    | dsimp only
    | with_reducible (first | apply State.Keeps.ite | apply State.keyGo_keeps | apply State.Keeps.each |
      apply State.Keeps.foldl | refine State.Keeps.snd (by assumption) ?_)
    | split | (with_reducible refine State.Keeps.upd rfl rfl ?_) | rfl | exact hr.same rfl rfl rfl)

theorem stepLcChallenge_keeps {r₀ s : State} (hr : r₀.Keeps s) : r₀.Keeps (stepLcChallenge s) := by
  unfold stepLcChallenge
  repeat' (first
    | with_reducible (first | assumption | exact fun _ => rfl | intro _)
    | dsimp only
    | with_reducible (first | apply State.Keeps.ite | apply State.updSec_keeps | apply State.Keeps.each |
      apply State.Keeps.foldl | refine State.Keeps.snd (by assumption) ?_)
    | split | (with_reducible refine State.Keeps.upd rfl rfl ?_) | rfl | exact hr.same rfl rfl rfl)

theorem stepLcTransition_keeps {target confirm : Nat} {token : TokenRead} {torn : Bool} {r₀ s : State} (hr : r₀.Keeps s) : r₀.Keeps (stepLcTransition target confirm token torn s) := by
  unfold stepLcTransition
  repeat' (first
    | with_reducible (first | assumption | exact fun _ => rfl | intro _)
    | dsimp only
    | with_reducible (first | apply State.Keeps.ite | apply State.updSec_keeps | apply State.updNv_keeps |
      apply State.Keeps.each | apply State.Keeps.foldl | refine State.Keeps.snd (by assumption) ?_)
    | split | (with_reducible refine State.Keeps.upd rfl rfl ?_) | rfl | exact hr.same rfl rfl rfl)

theorem stepFwUpdate_keeps {bundle : Option (List (List Byte))} {cut : Bool} {r₀ s : State} (hr : r₀.Keeps s) : r₀.Keeps (stepFwUpdate bundle cut s) := by
  unfold stepFwUpdate
  repeat' (first
    | with_reducible (first | assumption | exact fun _ => rfl | intro _)
    | dsimp only
    | with_reducible (first | apply State.Keeps.ite | apply State.updWs_keeps | apply State.updSec_keeps |
      apply State.updNv_keeps | apply State.Keeps.each | apply State.Keeps.foldl | refine State.Keeps.snd (by assumption) ?_)
    | split | (with_reducible refine State.Keeps.upd rfl rfl ?_) | rfl | exact hr.same rfl rfl rfl)

theorem stepCommitSvn_keeps {r₀ s : State} (hr : r₀.Keeps s) : r₀.Keeps (stepCommitSvn s) := by
  unfold stepCommitSvn
  repeat' (first
    | with_reducible (first | assumption | exact fun _ => rfl | intro _)
    | dsimp only
    | with_reducible (first | apply State.Keeps.ite | apply State.updNv_keeps | apply State.Keeps.each |
      apply State.Keeps.foldl | refine State.Keeps.snd (by assumption) ?_)
    | split | (with_reducible refine State.Keeps.upd rfl rfl ?_) | rfl | exact hr.same rfl rfl rfl)

theorem stepAttestationKeyGeneration_keeps {r₀ s : State} (hr : r₀.Keeps s) : r₀.Keeps (stepAttestationKeyGeneration s) := by
  unfold stepAttestationKeyGeneration
  repeat' (first
    | with_reducible (first | assumption | exact fun _ => rfl | intro _)
    | dsimp only
    | with_reducible (first | apply State.Keeps.ite | apply State.updSec_keeps | apply State.updNv_keeps |
      apply State.Keeps.each | apply State.Keeps.foldl | refine State.Keeps.snd (by assumption) ?_)
    | split | (with_reducible refine State.Keeps.upd rfl rfl ?_) | rfl | exact hr.same rfl rfl rfl)

theorem State.sendEvidence_keeps {w : AttWait} {r₀ s : State} (hr : r₀.Keeps s) : r₀.Keeps (State.sendEvidence s w) := by
  unfold State.sendEvidence
  repeat' (first
    | with_reducible (first | assumption | exact fun _ => rfl | intro _)
    | dsimp only
    | with_reducible (first | apply State.Keeps.ite | apply State.updSec_keeps | apply State.hostOut_keeps |
      apply State.reply_keeps | apply State.Keeps.each | apply State.Keeps.foldl | refine State.Keeps.snd (by assumption) ?_)
    | split | (with_reducible refine State.Keeps.upd rfl rfl ?_) | rfl | exact hr.same rfl rfl rfl)

theorem State.serveAttests_keeps {k : Nat} {r s : State} (hr : r.Keeps s) : r.Keeps (State.serveAttests k s) := by
  induction k generalizing s with
  | zero => exact hr
  | succ k ih =>
    unfold State.serveAttests
    split
    · exact hr
    · split
      · exact ih (State.sendEvidence_keeps (State.updSec_keeps hr))
      · dsimp only
        split
        · exact ih (State.reply_keeps (State.updSec_keeps (State.updSec_keeps hr)))
        · exact State.updSec_keeps hr

theorem effAttest_keeps {c : Cmd} {r₀ s : State} (hr : r₀.Keeps s) : r₀.Keeps (effAttest c s) := by
  unfold effAttest
  repeat' (first
    | with_reducible (first | assumption | exact fun _ => rfl | intro _)
    | dsimp only
    | with_reducible (first | apply State.Keeps.ite | apply State.updSec_keeps | apply State.reply_keeps |
      apply State.refuse_keeps | apply State.serveAttests_keeps | apply State.Keeps.each | apply State.Keeps.foldl |
      refine State.Keeps.snd (by assumption) ?_)
    | split | (with_reducible refine State.Keeps.upd rfl rfl ?_) | rfl | exact hr.same rfl rfl rfl)

theorem stepAttestReservation_keeps {firstOk retryOk : Bool} {r₀ s : State} (hr : r₀.Keeps s) : r₀.Keeps (stepAttestReservation firstOk retryOk s) := by
  unfold stepAttestReservation
  repeat' (first
    | with_reducible (first | assumption | exact fun _ => rfl | intro _)
    | dsimp only
    | with_reducible (first | apply State.Keeps.ite | apply State.updSec_keeps | apply State.updNv_keeps |
      apply State.serveAttests_keeps | apply State.Keeps.each | apply State.Keeps.foldl |
      refine State.Keeps.snd (by assumption) ?_)
    | split | (with_reducible refine State.Keeps.upd rfl rfl ?_) | rfl | exact hr.same rfl rfl rfl)

theorem stepReplyRecordWrite_keeps {f r : Nat} {ok : Bool} {r₀ s : State} (hr : r₀.Keeps s) : r₀.Keeps (stepReplyRecordWrite f r ok s) := by
  unfold stepReplyRecordWrite
  repeat' (first
    | with_reducible (first | assumption | exact fun _ => rfl | intro _)
    | dsimp only
    | with_reducible (first | apply State.Keeps.ite | apply State.updPcie_keeps | apply State.updFn_keeps |
      apply State.updRing_keeps | apply State.emit_keeps | apply State.Keeps.each | apply State.Keeps.foldl |
      refine State.Keeps.snd (by assumption) ?_)
    | split | (with_reducible refine State.Keeps.upd rfl rfl ?_) | rfl | exact hr.same rfl rfl rfl)

theorem stepBacklogDrain_keeps {f r : Nat} {r₀ s : State} (hr : r₀.Keeps s) : r₀.Keeps (stepBacklogDrain f r s) := by
  unfold stepBacklogDrain
  repeat' (first
    | with_reducible (first | assumption | exact fun _ => rfl | intro _)
    | dsimp only
    | with_reducible (first | apply State.Keeps.ite | apply State.updRing_keeps | apply State.Keeps.each |
      apply State.Keeps.foldl | refine State.Keeps.snd (by assumption) ?_)
    | split | (with_reducible refine State.Keeps.upd rfl rfl ?_) | rfl | exact hr.same rfl rfl rfl)

theorem State.writeRingCfg_keeps {f r : Nat} {v : W32} {r₀ s : State} (hr : r₀.Keeps s) : r₀.Keeps (State.writeRingCfg s f r v) := by
  unfold State.writeRingCfg
  repeat' (first
    | with_reducible (first | assumption | exact fun _ => rfl | intro _)
    | dsimp only
    | with_reducible (first | apply State.Keeps.ite | apply State.updRing_keeps | apply State.Keeps.each |
      apply State.Keeps.foldl | refine State.Keeps.snd (by assumption) ?_)
    | split | (with_reducible refine State.Keeps.upd rfl rfl ?_) | rfl | exact hr.same rfl rfl rfl)

theorem stepRingEnable_keeps {f r : Nat} {r₀ s : State} (hr : r₀.Keeps s) : r₀.Keeps (stepRingEnable f r s) := by
  unfold stepRingEnable
  repeat' (first
    | with_reducible (first | assumption | exact fun _ => rfl | intro _)
    | dsimp only
    | with_reducible (first | apply State.Keeps.ite | apply State.writeRingCfg_keeps | apply State.Keeps.each |
      apply State.Keeps.foldl | refine State.Keeps.snd (by assumption) ?_)
    | split | (with_reducible refine State.Keeps.upd rfl rfl ?_) | rfl | exact hr.same rfl rfl rfl)

theorem stepRingConsWrite_keeps {f r : Nat} {cons : W32} {r₀ s : State} (hr : r₀.Keeps s) : r₀.Keeps (stepRingConsWrite f r cons s) := by
  unfold stepRingConsWrite
  repeat' (first
    | with_reducible (first | assumption | exact fun _ => rfl | intro _)
    | dsimp only
    | with_reducible (first | apply State.Keeps.ite | apply State.updFn_keeps | apply State.updRing_keeps |
      apply State.Keeps.each | apply State.Keeps.foldl | refine State.Keeps.snd (by assumption) ?_)
    | split | (with_reducible refine State.Keeps.upd rfl rfl ?_) | rfl | exact hr.same rfl rfl rfl)

theorem State.unlatch_keeps {f key : Nat} {r₀ s : State} (hr : r₀.Keeps s) : r₀.Keeps (State.unlatch s f key) := by
  unfold State.unlatch
  repeat' (first
    | with_reducible (first | assumption | exact fun _ => rfl | intro _)
    | dsimp only
    | with_reducible (first | apply State.Keeps.ite  | apply State.Keeps.each | apply State.Keeps.foldl |
      refine State.Keeps.snd (by assumption) ?_)
    | split | (with_reducible refine State.Keeps.upd rfl rfl ?_) | rfl | exact hr.same rfl rfl rfl)

theorem State.latch_keeps {f key : Nat} {w : W32} {r₀ s : State} (hr : r₀.Keeps s) : r₀.Keeps (State.latch s f key w) := by
  unfold State.latch
  repeat' (first
    | with_reducible (first | assumption | exact fun _ => rfl | intro _)
    | dsimp only
    | with_reducible (first | apply State.Keeps.ite | apply State.unlatch_keeps | apply State.Keeps.each |
      apply State.Keeps.foldl | refine State.Keeps.snd (by assumption) ?_)
    | split | (with_reducible refine State.Keeps.upd rfl rfl ?_) | rfl | exact hr.same rfl rfl rfl)

theorem State.clearPend_keeps {g : Nat} {seen : W64} {r₀ s : State} (hr : r₀.Keeps s) : r₀.Keeps (State.clearPend s g seen) := by
  unfold State.clearPend
  repeat' (first
    | with_reducible (first | assumption | exact fun _ => rfl | intro _)
    | dsimp only
    | with_reducible (first | apply State.Keeps.ite | apply State.updFn_keeps | apply State.Keeps.each |
      apply State.Keeps.foldl | refine State.Keeps.snd (by assumption) ?_)
    | split | (with_reducible refine State.Keeps.upd rfl rfl ?_) | rfl | exact hr.same rfl rfl rfl)

theorem State.readPendLo_keeps {f g : Nat} {r₀ s : State} (hr : r₀.Keeps s) : r₀.Keeps (State.readPendLo s f g).2 := by
  unfold State.readPendLo
  repeat' (first
    | with_reducible (first | assumption | exact fun _ => rfl | intro _)
    | dsimp only
    | with_reducible (first | apply State.Keeps.ite | apply State.latch_keeps | apply State.clearPend_keeps |
      apply State.Keeps.each | apply State.Keeps.foldl | refine State.Keeps.snd (by assumption) ?_)
    | split | (with_reducible refine State.Keeps.upd rfl rfl ?_) | rfl | exact hr.same rfl rfl rfl)

theorem stepPendRead_keeps {f : Nat} {r₀ s : State} (hr : r₀.Keeps s) : r₀.Keeps (stepPendRead f s) := by
  unfold stepPendRead
  repeat' (first
    | with_reducible (first | assumption | exact fun _ => rfl | intro _)
    | dsimp only
    | with_reducible (first | apply State.Keeps.ite | apply State.emit_keeps | apply State.unlatch_keeps |
      apply State.clearPend_keeps | apply State.Keeps.each | apply State.Keeps.foldl |
      refine State.Keeps.snd (by assumption) ?_)
    | split | (with_reducible refine State.Keeps.upd rfl rfl ?_) | rfl | exact hr.same rfl rfl rfl)

theorem stepChanRangeWrite_keeps {f : Nat} {v : W32} {r₀ s : State} (hr : r₀.Keeps s) : r₀.Keeps (stepChanRangeWrite f v s) := by
  unfold stepChanRangeWrite
  repeat' (first
    | with_reducible (first | assumption | exact fun _ => rfl | intro _)
    | dsimp only
    | with_reducible (first | apply State.Keeps.ite | apply State.updFn_keeps | apply State.Keeps.each |
      apply State.Keeps.foldl | refine State.Keeps.snd (by assumption) ?_)
    | split | (with_reducible refine State.Keeps.upd rfl rfl ?_) | rfl | exact hr.same rfl rfl rfl)

theorem stepMsixUnmask_keeps {f e : Nat} {r₀ s : State} (hr : r₀.Keeps s) : r₀.Keeps (stepMsixUnmask f e s) := by
  unfold stepMsixUnmask
  repeat' (first
    | with_reducible (first | assumption | exact fun _ => rfl | intro _)
    | dsimp only
    | with_reducible (first | apply State.Keeps.ite | apply State.updMsix_keeps | apply State.emit_keeps |
      apply State.Keeps.each | apply State.Keeps.foldl | refine State.Keeps.snd (by assumption) ?_)
    | split | (with_reducible refine State.Keeps.upd rfl rfl ?_) | rfl | exact hr.same rfl rfl rfl)

theorem State.writeEvtCfg_keeps {v : W32} {r₀ s : State} (hr : r₀.Keeps s) : r₀.Keeps (State.writeEvtCfg s v) := by
  unfold State.writeEvtCfg
  repeat' (first
    | with_reducible (first | assumption | exact fun _ => rfl | intro _)
    | dsimp only
    | with_reducible (first | apply State.Keeps.ite | apply State.updPcie_keeps | apply State.Keeps.each |
      apply State.Keeps.foldl | refine State.Keeps.snd (by assumption) ?_)
    | split | (with_reducible refine State.Keeps.upd rfl rfl ?_) | rfl | exact hr.same rfl rfl rfl)

theorem stepEventRingEnable_keeps {r₀ s : State} (hr : r₀.Keeps s) : r₀.Keeps (stepEventRingEnable s) := by
  unfold stepEventRingEnable
  repeat' (first
    | with_reducible (first | assumption | exact fun _ => rfl | intro _)
    | dsimp only
    | with_reducible (first | apply State.Keeps.ite | apply State.writeEvtCfg_keeps | apply State.Keeps.each |
      apply State.Keeps.foldl | refine State.Keeps.snd (by assumption) ?_)
    | split | (with_reducible refine State.Keeps.upd rfl rfl ?_) | rfl | exact hr.same rfl rfl rfl)

theorem stepEventRingConsWrite_keeps {cons : W32} {r₀ s : State} (hr : r₀.Keeps s) : r₀.Keeps (stepEventRingConsWrite cons s) := by
  unfold stepEventRingConsWrite
  repeat' (first
    | with_reducible (first | assumption | exact fun _ => rfl | intro _)
    | dsimp only
    | with_reducible (first | apply State.Keeps.ite | apply State.updPcie_keeps | apply State.Keeps.each |
      apply State.Keeps.foldl | refine State.Keeps.snd (by assumption) ?_)
    | split | (with_reducible refine State.Keeps.upd rfl rfl ?_) | rfl | exact hr.same rfl rfl rfl)

theorem stepLateCompletion_keeps {r₀ s : State} (hr : r₀.Keeps s) : r₀.Keeps (stepLateCompletion s) := by
  unfold stepLateCompletion
  repeat' (first
    | with_reducible (first | assumption | exact fun _ => rfl | intro _)
    | dsimp only
    | with_reducible (first | apply State.Keeps.ite | apply State.updPcie_keeps | apply State.Keeps.each |
      apply State.Keeps.foldl | refine State.Keeps.snd (by assumption) ?_)
    | split | (with_reducible refine State.Keeps.upd rfl rfl ?_) | rfl | exact hr.same rfl rfl rfl)

theorem stepPoisonedTlp_keeps {write : Bool} {ch : Option Nat} {r₀ s : State} (hr : r₀.Keeps s) : r₀.Keeps (stepPoisonedTlp write ch s) := by
  unfold stepPoisonedTlp
  repeat' (first
    | with_reducible (first | assumption | exact fun _ => rfl | intro _)
    | dsimp only
    | with_reducible (first | apply State.Keeps.ite | apply State.updPcie_keeps | apply State.failFetch_keeps |
      apply State.Keeps.each | apply State.Keeps.foldl | refine State.Keeps.snd (by assumption) ?_)
    | split | (with_reducible refine State.Keeps.upd rfl rfl ?_) | rfl | exact hr.same rfl rfl rfl)

theorem stepAtomicOp_keeps {f _bar : Nat} {r₀ s : State} (hr : r₀.Keeps s) : r₀.Keeps (stepAtomicOp f _bar s) := by
  unfold stepAtomicOp
  repeat' (first
    | with_reducible (first | assumption | exact fun _ => rfl | intro _)
    | dsimp only
    | with_reducible (first | apply State.Keeps.ite | apply State.emit_keeps | apply State.Keeps.each |
      apply State.Keeps.foldl | refine State.Keeps.snd (by assumption) ?_)
    | split | (with_reducible refine State.Keeps.upd rfl rfl ?_) | rfl | exact hr.same rfl rfl rfl)

theorem stepConfigRequestRetry_keeps {f : Nat} {r₀ s : State} (hr : r₀.Keeps s) : r₀.Keeps (stepConfigRequestRetry f s) := by
  unfold stepConfigRequestRetry
  repeat' (first
    | with_reducible (first | assumption | exact fun _ => rfl | intro _)
    | dsimp only
    | with_reducible (first | apply State.Keeps.ite | apply State.emit_keeps | apply State.Keeps.each |
      apply State.Keeps.foldl | refine State.Keeps.snd (by assumption) ?_)
    | split | (with_reducible refine State.Keeps.upd rfl rfl ?_) | rfl | exact hr.same rfl rfl rfl)

theorem State.abandonReads_keeps {f : Nat} {r₀ s : State} (hr : r₀.Keeps s) : r₀.Keeps (State.abandonReads s f) := by
  unfold State.abandonReads
  repeat' (first
    | with_reducible (first | assumption | exact fun _ => rfl | intro _)
    | dsimp only
    | with_reducible (first | apply State.Keeps.ite | apply State.updSrv_keeps | apply State.updFn_keeps |
      apply State.Keeps.each | apply State.Keeps.foldl | refine State.Keeps.snd (by assumption) ?_)
    | split | (with_reducible refine State.Keeps.upd rfl rfl ?_) | rfl | exact hr.same rfl rfl rfl)

theorem State.abandonGrants_keeps {f : Nat} {r₀ s : State} (hr : r₀.Keeps s) : r₀.Keeps (State.abandonGrants s f) := by
  unfold State.abandonGrants
  repeat' (first
    | with_reducible (first | assumption | exact fun _ => rfl | intro _)
    | dsimp only
    | with_reducible (first | apply State.Keeps.ite | apply State.updArb_keeps | apply State.Keeps.each |
      apply State.Keeps.foldl | refine State.Keeps.snd (by assumption) ?_)
    | split | (with_reducible refine State.Keeps.upd rfl rfl ?_) | rfl | exact hr.same rfl rfl rfl)

theorem State.stopFn_keeps {f : Nat} {r₀ s : State} (hr : r₀.Keeps s) : r₀.Keeps (State.stopFn s f) := by
  unfold State.stopFn
  repeat' (first
    | with_reducible (first | assumption | exact fun _ => rfl | intro _)
    | dsimp only
    | with_reducible (first | apply State.Keeps.ite | apply State.updFn_keeps | apply State.abandonReads_keeps |
      apply State.abandonGrants_keeps | apply State.Keeps.each | apply State.Keeps.foldl |
      refine State.Keeps.snd (by assumption) ?_)
    | split | (with_reducible refine State.Keeps.upd rfl rfl ?_) | rfl | exact hr.same rfl rfl rfl)

theorem State.resumeFn_keeps {f : Nat} {r₀ s : State} (hr : r₀.Keeps s) : r₀.Keeps (State.resumeFn s f) := by
  unfold State.resumeFn
  repeat' (first
    | with_reducible (first | assumption | exact fun _ => rfl | intro _)
    | dsimp only
    | with_reducible (first | apply State.Keeps.ite | apply State.flushOuts_keeps | apply stepBacklogDrain_keeps |
      apply State.Keeps.each | apply State.Keeps.foldl | refine State.Keeps.snd (by assumption) ?_)
    | split | (with_reducible refine State.Keeps.upd rfl rfl ?_) | rfl | exact hr.same rfl rfl rfl)

theorem stepBusMasterDisable_keeps {f : Nat} {r₀ s : State} (hr : r₀.Keeps s) : r₀.Keeps (stepBusMasterDisable f s) := by
  unfold stepBusMasterDisable
  repeat' (first
    | with_reducible (first | assumption | exact fun _ => rfl | intro _)
    | dsimp only
    | with_reducible (first | apply State.Keeps.ite | apply State.updFnCfg_keeps | apply State.stopFn_keeps |
      apply State.Keeps.each | apply State.Keeps.foldl | refine State.Keeps.snd (by assumption) ?_)
    | split | (with_reducible refine State.Keeps.upd rfl rfl ?_) | rfl | exact hr.same rfl rfl rfl)

theorem stepBusMasterEnable_keeps {f : Nat} {r₀ s : State} (hr : r₀.Keeps s) : r₀.Keeps (stepBusMasterEnable f s) := by
  unfold stepBusMasterEnable
  repeat' (first
    | with_reducible (first | assumption | exact fun _ => rfl | intro _)
    | dsimp only
    | with_reducible (first | apply State.Keeps.ite | apply State.updPcie_keeps | apply State.updFnCfg_keeps |
      apply State.resumeFn_keeps | apply State.Keeps.each | apply State.Keeps.foldl | refine State.Keeps.snd (by assumption) ?_)
    | split | (with_reducible refine State.Keeps.upd rfl rfl ?_) | rfl | exact hr.same rfl rfl rfl)

theorem stepD3hotEntry_keeps {f : Nat} {r₀ s : State} (hr : r₀.Keeps s) : r₀.Keeps (stepD3hotEntry f s) := by
  unfold stepD3hotEntry
  repeat' (first
    | with_reducible (first | assumption | exact fun _ => rfl | intro _)
    | dsimp only
    | with_reducible (first | apply State.Keeps.ite | apply State.updFnCfg_keeps | apply State.stopFn_keeps |
      apply State.Keeps.each | apply State.Keeps.foldl | refine State.Keeps.snd (by assumption) ?_)
    | split | (with_reducible refine State.Keeps.upd rfl rfl ?_) | rfl | exact hr.same rfl rfl rfl)

theorem stepD3hotExit_keeps {f : Nat} {r₀ s : State} (hr : r₀.Keeps s) : r₀.Keeps (stepD3hotExit f s) := by
  unfold stepD3hotExit
  repeat' (first
    | with_reducible (first | assumption | exact fun _ => rfl | intro _)
    | dsimp only
    | with_reducible (first | apply State.Keeps.ite | apply State.updFnCfg_keeps | apply State.resumeFn_keeps |
      apply State.Keeps.each | apply State.Keeps.foldl | refine State.Keeps.snd (by assumption) ?_)
    | split | (with_reducible refine State.Keeps.upd rfl rfl ?_) | rfl | exact hr.same rfl rfl rfl)

theorem State.requestFlr_keeps {f : Nat} {r₀ s : State} (hr : r₀.Keeps s) : r₀.Keeps (State.requestFlr s f) := by
  unfold State.requestFlr
  repeat' (first
    | with_reducible (first | assumption | exact fun _ => rfl | intro _)
    | dsimp only
    | with_reducible (first | apply State.Keeps.ite | apply State.updFn_keeps | apply State.abandonGrants_keeps |
      apply State.Keeps.each | apply State.Keeps.foldl | refine State.Keeps.snd (by assumption) ?_)
    | split | (with_reducible refine State.Keeps.upd rfl rfl ?_) | rfl | exact hr.same rfl rfl rfl)

theorem stepFlrVf_keeps {f : Nat} {r₀ s : State} (hr : r₀.Keeps s) : r₀.Keeps (stepFlrVf f s) := by
  unfold stepFlrVf
  repeat' (first
    | with_reducible (first | assumption | exact fun _ => rfl | intro _)
    | dsimp only
    | with_reducible (first | apply State.Keeps.ite | apply State.requestFlr_keeps | apply State.Keeps.each |
      apply State.Keeps.foldl | refine State.Keeps.snd (by assumption) ?_)
    | split | (with_reducible refine State.Keeps.upd rfl rfl ?_) | rfl | exact hr.same rfl rfl rfl)

theorem stepFlrPf0_keeps {r₀ s : State} (hr : r₀.Keeps s) : r₀.Keeps (stepFlrPf0 s) := by
  unfold stepFlrPf0
  repeat' (first
    | with_reducible (first | assumption | exact fun _ => rfl | intro _)
    | dsimp only
    | with_reducible (first | apply State.Keeps.ite | apply State.updPcie_keeps | apply State.requestFlr_keeps |
      apply State.Keeps.each | apply State.Keeps.foldl | refine State.Keeps.snd (by assumption) ?_)
    | split | (with_reducible refine State.Keeps.upd rfl rfl ?_) | rfl | exact hr.same rfl rfl rfl)

theorem stepVfEnableClear_keeps {r₀ s : State} (hr : r₀.Keeps s) : r₀.Keeps (stepVfEnableClear s) := by
  unfold stepVfEnableClear
  repeat' (first
    | with_reducible (first | assumption | exact fun _ => rfl | intro _)
    | dsimp only
    | with_reducible (first | apply State.Keeps.ite | apply State.updPcie_keeps | apply State.requestFlr_keeps |
      apply State.Keeps.each | apply State.Keeps.foldl | refine State.Keeps.snd (by assumption) ?_)
    | split | (with_reducible refine State.Keeps.upd rfl rfl ?_) | rfl | exact hr.same rfl rfl rfl)

theorem State.dropStream_keeps {ch : Nat} {r₀ s : State} (hr : r₀.Keeps s) : r₀.Keeps (State.dropStream s ch) := by
  unfold State.dropStream
  repeat' (first
    | with_reducible (first | assumption | exact fun _ => rfl | intro _)
    | dsimp only
    | with_reducible (first | apply State.Keeps.ite | apply State.updSrv_keeps | apply State.delStream_keeps |
      apply State.freeStream_keeps | apply State.addMark_keeps | apply State.Keeps.each | apply State.Keeps.foldl |
      refine State.Keeps.snd (by assumption) ?_)
    | split | (with_reducible refine State.Keeps.upd rfl rfl ?_) | rfl | exact hr.same rfl rfl rfl)

theorem State.dropLatches_keeps {f : Nat} {r₀ s : State} (hr : r₀.Keeps s) : r₀.Keeps (State.dropLatches s f) := by
  unfold State.dropLatches
  repeat' (first
    | with_reducible (first | assumption | exact fun _ => rfl | intro _)
    | dsimp only
    | with_reducible (first | apply State.Keeps.ite  | apply State.Keeps.each | apply State.Keeps.foldl |
      refine State.Keeps.snd (by assumption) ?_)
    | split | (with_reducible refine State.Keeps.upd rfl rfl ?_) | rfl | exact hr.same rfl rfl rfl)

theorem State.clearFn_keeps {f : Nat} {r s : State} (hr : r.Keeps s) : r.Keeps (s.clearFn f) := by
  unfold State.clearFn
  extract_lets n s1 mine s2 s3
  have h2 : r.Keeps s2 := State.Keeps.window (fun _ h => Memory.wf_erase h)
    (State.Keeps.each (fun _ _ h => State.dropStream_keeps h) hr)
  exact State.dropLatches_keeps (State.updFnCfg_keeps (State.updFn_keeps (State.updSec_keeps h2)))

theorem State.resetRanges_keeps {r₀ s : State} (hr : r₀.Keeps s) : r₀.Keeps (State.resetRanges s) := by
  unfold State.resetRanges
  repeat' (first
    | with_reducible (first | assumption | exact fun _ => rfl | intro _)
    | dsimp only
    | with_reducible (first | apply State.Keeps.ite | apply State.updFn_keeps | apply State.Keeps.each |
      apply State.Keeps.foldl | refine State.Keeps.snd (by assumption) ?_)
    | split | (with_reducible refine State.Keeps.upd rfl rfl ?_) | rfl | exact hr.same rfl rfl rfl)

theorem State.actFlr_keeps {r₀ s : State} (hr : r₀.Keeps s) : r₀.Keeps (State.actFlr s) := by
  unfold State.actFlr
  repeat' (first
    | with_reducible (first | assumption | exact fun _ => rfl | intro _)
    | dsimp only
    | with_reducible (first | apply State.Keeps.ite | apply State.shrinkPool_keeps | apply State.clearFn_keeps |
      apply State.resetRanges_keeps | apply State.Keeps.each | apply State.Keeps.foldl |
      refine State.Keeps.snd (by assumption) ?_)
    | split | (with_reducible refine State.Keeps.upd rfl rfl ?_) | rfl | exact hr.same rfl rfl rfl)

theorem stepFlrCompletion_keeps {f : Nat} {r₀ s : State} (hr : r₀.Keeps s) : r₀.Keeps (stepFlrCompletion f s) := by
  unfold stepFlrCompletion
  repeat' (first
    | with_reducible (first | assumption | exact fun _ => rfl | intro _)
    | dsimp only
    | with_reducible (first | apply State.Keeps.ite | apply State.shrinkPool_keeps | apply State.clearFn_keeps |
      apply State.actFlr_keeps | apply State.Keeps.each | apply State.Keeps.foldl | refine State.Keeps.snd (by assumption) ?_)
    | split | (with_reducible refine State.Keeps.upd rfl rfl ?_) | rfl | exact hr.same rfl rfl rfl)

theorem stepPcieLinkDown_keeps {r₀ s : State} (hr : r₀.Keeps s) : r₀.Keeps (stepPcieLinkDown s) := by
  unfold stepPcieLinkDown
  repeat' (first
    | with_reducible (first | assumption | exact fun _ => rfl | intro _)
    | dsimp only
    | with_reducible (first | apply State.Keeps.ite | apply State.updTime_keeps | apply State.updPcie_keeps |
      apply State.updSrv_keeps | apply State.updArb_keeps | apply State.stopFn_keeps | apply stepFlrPf0_keeps |
      apply State.Keeps.each | apply State.Keeps.foldl | refine State.Keeps.snd (by assumption) ?_)
    | split | (with_reducible refine State.Keeps.upd rfl rfl ?_) | rfl | exact hr.same rfl rfl rfl)

theorem stepPcieLinkUp_keeps {speed width : Nat} {reversed sris : Bool} {r₀ s : State} (hr : r₀.Keeps s) : r₀.Keeps (stepPcieLinkUp speed width reversed sris s) := by
  unfold stepPcieLinkUp
  repeat' (first
    | with_reducible (first | assumption | exact fun _ => rfl | intro _)
    | dsimp only
    | with_reducible (first | apply State.Keeps.ite | apply State.updPcie_keeps | apply State.Keeps.each |
      apply State.Keeps.foldl | refine State.Keeps.snd (by assumption) ?_)
    | split | (with_reducible refine State.Keeps.upd rfl rfl ?_) | rfl | exact hr.same rfl rfl rfl)

theorem stepTimeStart_keeps {r₀ s : State} (hr : r₀.Keeps s) : r₀.Keeps (stepTimeStart s) := by
  unfold stepTimeStart
  repeat' (first
    | with_reducible (first | assumption | exact fun _ => rfl | intro _)
    | dsimp only
    | with_reducible (first | apply State.Keeps.ite | apply State.updTime_keeps | apply State.Keeps.each |
      apply State.Keeps.foldl | refine State.Keeps.snd (by assumption) ?_)
    | split | (with_reducible refine State.Keeps.upd rfl rfl ?_) | rfl | exact hr.same rfl rfl rfl)

theorem stepTimeStop_keeps {r₀ s : State} (hr : r₀.Keeps s) : r₀.Keeps (stepTimeStop s) := by
  unfold stepTimeStop
  repeat' (first
    | with_reducible (first | assumption | exact fun _ => rfl | intro _)
    | dsimp only
    | with_reducible (first | apply State.Keeps.ite | apply State.updTime_keeps | apply State.Keeps.each |
      apply State.Keeps.foldl | refine State.Keeps.snd (by assumption) ?_)
    | split | (with_reducible refine State.Keeps.upd rfl rfl ?_) | rfl | exact hr.same rfl rfl rfl)

theorem stepTickPeriodWrite_keeps {period : Nat} {r₀ s : State} (hr : r₀.Keeps s) : r₀.Keeps (stepTickPeriodWrite period s) := by
  unfold stepTickPeriodWrite
  repeat' (first
    | with_reducible (first | assumption | exact fun _ => rfl | intro _)
    | dsimp only
    | with_reducible (first | apply State.Keeps.ite | apply State.updTime_keeps | apply State.Keeps.each |
      apply State.Keeps.foldl | refine State.Keeps.snd (by assumption) ?_)
    | split | (with_reducible refine State.Keeps.upd rfl rfl ?_) | rfl | exact hr.same rfl rfl rfl)

theorem State.decideStretch_keeps {r₀ s : State} (hr : r₀.Keeps s) : r₀.Keeps (State.decideStretch s) := by
  unfold State.decideStretch
  repeat' (first
    | with_reducible (first | assumption | exact fun _ => rfl | intro _)
    | dsimp only
    | with_reducible (first | apply State.Keeps.ite | apply State.updTime_keeps | apply State.Keeps.each |
      apply State.Keeps.foldl | refine State.Keeps.snd (by assumption) ?_)
    | split | (with_reducible refine State.Keeps.upd rfl rfl ?_) | rfl | exact hr.same rfl rfl rfl)

theorem State.applyChange_keeps {r₀ s : State} (hr : r₀.Keeps s) : r₀.Keeps (State.applyChange s) := by
  unfold State.applyChange
  repeat' (first
    | with_reducible (first | assumption | exact fun _ => rfl | intro _)
    | dsimp only
    | with_reducible (first | apply State.Keeps.ite | apply State.updTime_keeps | apply State.Keeps.each |
      apply State.Keeps.foldl | refine State.Keeps.snd (by assumption) ?_)
    | split | (with_reducible refine State.Keeps.upd rfl rfl ?_) | rfl | exact hr.same rfl rfl rfl)

theorem stepPeriodChangeEffect_keeps {r₀ s : State} (hr : r₀.Keeps s) : r₀.Keeps (stepPeriodChangeEffect s) := by
  unfold stepPeriodChangeEffect
  repeat' (first
    | with_reducible (first | assumption | exact fun _ => rfl | intro _)
    | dsimp only
    | with_reducible (first | apply State.Keeps.ite | apply State.decideStretch_keeps | apply State.applyChange_keeps |
      apply State.Keeps.each | apply State.Keeps.foldl | refine State.Keeps.snd (by assumption) ?_)
    | split | (with_reducible refine State.Keeps.upd rfl rfl ?_) | rfl | exact hr.same rfl rfl rfl)

theorem State.alignFault_keeps {e : Int} {r₀ s : State} (hr : r₀.Keeps s) : r₀.Keeps (State.alignFault s e) := by
  unfold State.alignFault
  repeat' (first
    | with_reducible (first | assumption | exact fun _ => rfl | intro _)
    | dsimp only
    | with_reducible (first | apply State.Keeps.ite | apply State.updTime_keeps | apply State.logEvent_keeps |
      apply State.Keeps.each | apply State.Keeps.foldl | refine State.Keeps.snd (by assumption) ?_)
    | split | (with_reducible refine State.Keeps.upd rfl rfl ?_) | rfl | exact hr.same rfl rfl rfl)

theorem stepTickMarkerReceive_keeps {port : Nat} {m : Marker} {e : Int} {r₀ s : State} (hr : r₀.Keeps s) : r₀.Keeps (stepTickMarkerReceive port m e s) := by
  unfold stepTickMarkerReceive
  repeat' (first
    | with_reducible (first | assumption | exact fun _ => rfl | intro _)
    | dsimp only
    | with_reducible (first | apply State.Keeps.ite | apply State.updTime_keeps | apply State.alignFault_keeps |
      apply State.Keeps.each | apply State.Keeps.foldl | refine State.Keeps.snd (by assumption) ?_)
    | split | (with_reducible refine State.Keeps.upd rfl rfl ?_) | rfl | exact hr.same rfl rfl rfl)

theorem stepMarkerLost_keeps {r₀ s : State} (hr : r₀.Keeps s) : r₀.Keeps (stepMarkerLost s) := by
  unfold stepMarkerLost
  repeat' (first
    | with_reducible (first | assumption | exact fun _ => rfl | intro _)
    | dsimp only
    | with_reducible (first | apply State.Keeps.ite | apply State.updTime_keeps | apply State.Keeps.each |
      apply State.Keeps.foldl | refine State.Keeps.snd (by assumption) ?_)
    | split | (with_reducible refine State.Keeps.upd rfl rfl ?_) | rfl | exact hr.same rfl rfl rfl)

theorem stepFreeTimeout_keeps {r₀ s : State} (hr : r₀.Keeps s) : r₀.Keeps (stepFreeTimeout s) := by
  unfold stepFreeTimeout
  repeat' (first
    | with_reducible (first | assumption | exact fun _ => rfl | intro _)
    | dsimp only
    | with_reducible (first | apply State.Keeps.ite | apply State.updTime_keeps | apply State.Keeps.each |
      apply State.Keeps.foldl | refine State.Keeps.snd (by assumption) ?_)
    | split | (with_reducible refine State.Keeps.upd rfl rfl ?_) | rfl | exact hr.same rfl rfl rfl)

theorem State.lockSync_keeps {r₀ s : State} (hr : r₀.Keeps s) : r₀.Keeps (State.lockSync s) := by
  unfold State.lockSync
  repeat' (first
    | with_reducible (first | assumption | exact fun _ => rfl | intro _)
    | dsimp only
    | with_reducible (first | apply State.Keeps.ite | apply State.updTime_keeps | apply State.Keeps.each |
      apply State.Keeps.foldl | refine State.Keeps.snd (by assumption) ?_)
    | split | (with_reducible refine State.Keeps.upd rfl rfl ?_) | rfl | exact hr.same rfl rfl rfl)

theorem State.closeTick_keeps {r₀ s : State} (hr : r₀.Keeps s) : r₀.Keeps (State.closeTick s) := by
  unfold State.closeTick
  repeat' (first
    | with_reducible (first | assumption | exact fun _ => rfl | intro _)
    | dsimp only
    | with_reducible (first | apply State.Keeps.ite | apply State.updTime_keeps | apply State.lockSync_keeps |
      apply State.Keeps.each | apply State.Keeps.foldl | refine State.Keeps.snd (by assumption) ?_)
    | split | (with_reducible refine State.Keeps.upd rfl rfl ?_) | rfl | exact hr.same rfl rfl rfl)

theorem State.sendMarker_keeps {r₀ s : State} (hr : r₀.Keeps s) : r₀.Keeps (State.sendMarker s) := by
  unfold State.sendMarker
  repeat' (first
    | with_reducible (first | assumption | exact fun _ => rfl | intro _)
    | dsimp only
    | with_reducible (first | apply State.Keeps.ite | apply State.updTime_keeps | apply State.emit_keeps |
      apply State.Keeps.each | apply State.Keeps.foldl | refine State.Keeps.snd (by assumption) ?_)
    | split | (with_reducible refine State.Keeps.upd rfl rfl ?_) | rfl | exact hr.same rfl rfl rfl)

theorem stepPtmDialog_keeps {masterNs : Option Nat} {r₀ s : State} (hr : r₀.Keeps s) : r₀.Keeps (stepPtmDialog masterNs s) := by
  unfold stepPtmDialog
  repeat' (first
    | with_reducible (first | assumption | exact fun _ => rfl | intro _)
    | dsimp only
    | with_reducible (first | apply State.Keeps.ite | apply State.updTime_keeps | apply State.Keeps.each |
      apply State.Keeps.foldl | refine State.Keeps.snd (by assumption) ?_)
    | split | (with_reducible refine State.Keeps.upd rfl rfl ?_) | rfl | exact hr.same rfl rfl rfl)

theorem State.lateBundle_keeps {b : Bundle} {late : Option Nat} {r₀ s : State} (hr : r₀.Keeps s) : r₀.Keeps (State.lateBundle s b late) := by
  unfold State.lateBundle
  repeat' (first
    | with_reducible (first | assumption | exact fun _ => rfl | intro _)
    | dsimp only
    | with_reducible (first | apply State.Keeps.ite | apply State.updWork_keeps | apply State.slipOne_keeps |
      apply State.slip_keeps | apply State.Keeps.each | apply State.Keeps.foldl | refine State.Keeps.snd (by assumption) ?_)
    | split | (with_reducible refine State.Keeps.upd rfl rfl ?_) | rfl | exact hr.same rfl rfl rfl)

theorem State.layerMarker_keeps {r₀ s : State} (hr : r₀.Keeps s) : r₀.Keeps (State.layerMarker s) := by
  unfold State.layerMarker
  repeat' (first
    | with_reducible (first | assumption | exact fun _ => rfl | intro _)
    | dsimp only
    | with_reducible (first | apply State.Keeps.ite | apply State.updWs_keeps | apply State.Keeps.each |
      apply State.Keeps.foldl | refine State.Keeps.snd (by assumption) ?_)
    | split | (with_reducible refine State.Keeps.upd rfl rfl ?_) | rfl | exact hr.same rfl rfl rfl)

theorem State.layerBundle_keeps {b : Bundle} {late : Option Nat} {r₀ s : State} (hr : r₀.Keeps s) : r₀.Keeps (State.layerBundle s b late) := by
  unfold State.layerBundle
  repeat' (first
    | with_reducible (first | assumption | exact fun _ => rfl | intro _)
    | dsimp only
    | with_reducible (first | apply State.Keeps.ite | apply State.updFab_keeps | apply State.poisonWork_keeps |
      apply State.lateBundle_keeps | apply State.layerMarker_keeps | apply State.Keeps.each | apply State.Keeps.foldl |
      refine State.Keeps.snd (by assumption) ?_)
    | split | (with_reducible refine State.Keeps.upd rfl rfl ?_) | rfl | exact hr.same rfl rfl rfl)

theorem State.noteFailure_keeps {stream index result cause : Nat} {r₀ s : State} (hr : r₀.Keeps s) : r₀.Keeps (State.noteFailure s stream index result cause) := by
  unfold State.noteFailure
  repeat' (first
    | with_reducible (first | assumption | exact fun _ => rfl | intro _)
    | dsimp only
    | with_reducible (first | apply State.Keeps.ite | apply State.updSrv_keeps | apply State.Keeps.each |
      apply State.Keeps.foldl | refine State.Keeps.snd (by assumption) ?_)
    | split | (with_reducible refine State.Keeps.upd rfl rfl ?_) | rfl | exact hr.same rfl rfl rfl)

theorem State.headEntry_keeps {e : BundleEntry} {r₀ s : State} (hr : r₀.Keeps s) : r₀.Keeps (State.headEntry s e) := by
  unfold State.headEntry
  repeat' (first
    | with_reducible (first | assumption | exact fun _ => rfl | intro _)
    | dsimp only
    | with_reducible (first | apply State.Keeps.ite | apply State.updSrv_keeps | apply State.noteFailure_keeps |
      apply State.Keeps.each | apply State.Keeps.foldl | refine State.Keeps.snd (by assumption) ?_)
    | split | (with_reducible refine State.Keeps.upd rfl rfl ?_) | rfl | exact hr.same rfl rfl rfl)

theorem stepBundleReceive_keeps {b : Bundle} {late : Option Nat} {r₀ s : State} (hr : r₀.Keeps s) : r₀.Keeps (stepBundleReceive b late s) := by
  unfold stepBundleReceive
  repeat' (first
    | with_reducible (first | assumption | exact fun _ => rfl | intro _)
    | dsimp only
    | with_reducible (first | apply State.Keeps.ite | apply State.layerBundle_keeps | apply State.headEntry_keeps |
      apply State.Keeps.each | apply State.Keeps.foldl | refine State.Keeps.snd (by assumption) ?_)
    | split | (with_reducible refine State.Keeps.upd rfl rfl ?_) | rfl | exact hr.same rfl rfl rfl)

theorem State.admitWaiting_keeps {r₀ s : State} (hr : r₀.Keeps s) : r₀.Keeps (State.admitWaiting s) := by
  unfold State.admitWaiting
  repeat' (first
    | with_reducible (first | assumption | exact fun _ => rfl | intro _)
    | dsimp only
    | with_reducible (first | apply State.Keeps.ite | apply State.updSrv_keeps | apply State.Keeps.each |
      apply State.Keeps.foldl | refine State.Keeps.snd (by assumption) ?_)
    | split | (with_reducible refine State.Keeps.upd rfl rfl ?_) | rfl | exact hr.same rfl rfl rfl)

theorem State.takeEntry_keeps {pkg tick : Nat} {e : StampEntry} {r₀ s : State} (hr : r₀.Keeps s) : r₀.Keeps (State.takeEntry s pkg tick e) := by
  unfold State.takeEntry
  repeat' (first
    | with_reducible (first | assumption | exact fun _ => rfl | intro _)
    | dsimp only
    | with_reducible (first | apply State.Keeps.ite | apply State.updSrv_keeps | apply State.noteFailure_keeps |
      apply State.Keeps.each | apply State.Keeps.foldl | refine State.Keeps.snd (by assumption) ?_)
    | split | (with_reducible refine State.Keeps.upd rfl rfl ?_) | rfl | exact hr.same rfl rfl rfl)

theorem State.takeStamp_keeps {st : Stamp} {r₀ s : State} (hr : r₀.Keeps s) : r₀.Keeps (State.takeStamp s st) := by
  unfold State.takeStamp
  repeat' (first
    | with_reducible (first | assumption | exact fun _ => rfl | intro _)
    | dsimp only
    | with_reducible (first | apply State.Keeps.ite | apply State.updTime_keeps | apply State.updSrv_keeps |
      apply State.takeEntry_keeps | apply State.Keeps.each | apply State.Keeps.foldl |
      refine State.Keeps.snd (by assumption) ?_)
    | split | (with_reducible refine State.Keeps.upd rfl rfl ?_) | rfl | exact hr.same rfl rfl rfl)

theorem stepVerdictReceive_keeps {stamps : List Stamp} {r₀ s : State} (hr : r₀.Keeps s) : r₀.Keeps (stepVerdictReceive stamps s) := by
  unfold stepVerdictReceive
  repeat' (first
    | with_reducible (first | assumption | exact fun _ => rfl | intro _)
    | dsimp only
    | with_reducible (first | apply State.Keeps.ite | apply State.updFab_keeps | apply State.updLnk_keeps |
      apply State.takeStamp_keeps | apply State.Keeps.each | apply State.Keeps.foldl |
      refine State.Keeps.snd (by assumption) ?_)
    | split | (with_reducible refine State.Keeps.upd rfl rfl ?_) | rfl | exact hr.same rfl rfl rfl)

theorem State.sendStamps_keeps {k : Nat} {r₀ s : State} (hr : r₀.Keeps s) : r₀.Keeps (State.sendStamps s k) := by
  unfold State.sendStamps
  repeat' (first
    | with_reducible (first | assumption | exact fun _ => rfl | intro _)
    | dsimp only
    | with_reducible (first | apply State.Keeps.ite | apply State.updFab_keeps | apply State.updChk_keeps |
      apply State.emit_keeps | apply State.sendVerdict_keeps | apply State.takeStamp_keeps | apply State.Keeps.each |
      apply State.Keeps.foldl | refine State.Keeps.snd (by assumption) ?_)
    | split | (with_reducible refine State.Keeps.upd rfl rfl ?_) | rfl | exact hr.same rfl rfl rfl)

theorem State.sendExpert_keeps {w : Work} {r₀ s : State} (hr : r₀.Keeps s) : r₀.Keeps (State.sendExpert s w) := by
  unfold State.sendExpert
  repeat' (first
    | with_reducible (first | assumption | exact fun _ => rfl | intro _)
    | dsimp only
    | with_reducible (first | apply State.Keeps.ite | apply State.emit_keeps | apply State.Keeps.each |
      apply State.Keeps.foldl | refine State.Keeps.snd (by assumption) ?_)
    | split | (with_reducible refine State.Keeps.upd rfl rfl ?_) | rfl | exact hr.same rfl rfl rfl)

theorem State.noteLeft_keeps {left : List Work} {r₀ s : State} (hr : r₀.Keeps s) : r₀.Keeps (State.noteLeft s left) := by
  unfold State.noteLeft
  repeat' (first
    | with_reducible (first | assumption | exact fun _ => rfl | intro _)
    | dsimp only
    | with_reducible (first | apply State.Keeps.ite | apply State.updFab_keeps | apply State.Keeps.each |
      apply State.Keeps.foldl | refine State.Keeps.snd (by assumption) ?_)
    | split | (with_reducible refine State.Keeps.upd rfl rfl ?_) | rfl | exact hr.same rfl rfl rfl)

theorem State.closeWorks_keeps {r₀ s : State} (hr : r₀.Keeps s) : r₀.Keeps (State.closeWorks s) := by
  unfold State.closeWorks
  repeat' (first
    | with_reducible (first | assumption | exact fun _ => rfl | intro _)
    | dsimp only
    | with_reducible (first | apply State.Keeps.ite | apply State.updFab_keeps | apply State.sendBundle_keeps |
      apply State.sendExpert_keeps | apply State.noteLeft_keeps | apply State.Keeps.each | apply State.Keeps.foldl |
      refine State.Keeps.snd (by assumption) ?_)
    | split | (with_reducible refine State.Keeps.upd rfl rfl ?_) | rfl | exact hr.same rfl rfl rfl)

theorem State.routeMoe_keeps {slot k : Nat} {scores : List (Nat × Nat × List W32)} {r s : State} (hr : r.Keeps s) :
    r.Keeps (s.routeMoe slot k scores) := by
  unfold State.routeMoe
  dsimp only
  refine State.Keeps.each (fun _ _ h => State.emit_keeps h) (State.Keeps.foldlFst (fun p a h => ?_)
    (State.Keeps.each (fun _ _ h => State.updDle_keeps h) hr))
  split
  · exact State.numericFault_keeps h
  · split
    · exact State.slipWorks_keeps h
    · exact State.updWork_keeps (State.updFab_keeps (fun _ => rfl) h)

theorem State.runExpert_keeps {expert : Nat} {positions : List (Nat × Nat × W32 × List W32)} {r₀ s : State} (hr : r₀.Keeps s) : r₀.Keeps (State.runExpert s expert positions) := by
  unfold State.runExpert
  repeat' (first
    | with_reducible (first | assumption | exact fun _ => rfl | intro _)
    | dsimp only
    | with_reducible (first | apply State.Keeps.ite | apply State.updFab_keeps | apply State.Keeps.each |
      apply State.Keeps.foldl | refine State.Keeps.snd (by assumption) ?_)
    | split | (with_reducible refine State.Keeps.upd rfl rfl ?_) | rfl | exact hr.same rfl rfl rfl)

theorem stepMoeDispatch_keeps {d : MoeWork} {r₀ s : State} (hr : r₀.Keeps s) : r₀.Keeps (stepMoeDispatch d s) := by
  unfold stepMoeDispatch
  repeat' (first
    | with_reducible (first | assumption | exact fun _ => rfl | intro _)
    | dsimp only
    | with_reducible (first | apply State.Keeps.ite | apply State.routeMoe_keeps | apply State.runExpert_keeps |
      apply State.Keeps.each | apply State.Keeps.foldl | refine State.Keeps.snd (by assumption) ?_)
    | split | (with_reducible refine State.Keeps.upd rfl rfl ?_) | rfl | exact hr.same rfl rfl rfl)

theorem stepMoeReturn_keeps {layer stream index : Nat} {outs : List (W32 × List W16)} {residual : List W32} {r₀ s : State} (hr : r₀.Keeps s) : r₀.Keeps (stepMoeReturn layer stream index outs residual s) := by
  unfold stepMoeReturn
  repeat' (first
    | with_reducible (first | assumption | exact fun _ => rfl | intro _)
    | dsimp only
    | with_reducible (first | apply State.Keeps.ite | apply State.updWork_keeps | apply State.numericFault_keeps |
      apply State.Keeps.each | apply State.Keeps.foldl | refine State.Keeps.snd (by assumption) ?_)
    | split | (with_reducible refine State.Keeps.upd rfl rfl ?_) | rfl | exact hr.same rfl rfl rfl)

theorem State.writeMember_keeps {head : Nat} {own : Bool} {dst : Nat} {entries : List (Nat × W32)} {accept : Option Nat} {role : Option RoleWrite} {parent : Option Nat} {switch : Option Nat} {r₀ s : State} (hr : r₀.Keeps s) : r₀.Keeps (State.writeMember s head own dst entries accept role parent switch) := by
  unfold State.writeMember
  repeat' (first
    | with_reducible (first | assumption | exact fun _ => rfl | intro _)
    | dsimp only
    | with_reducible (first | apply State.Keeps.ite | apply State.updRole_keeps | apply State.updLnk_keeps |
      apply State.emit_keeps | apply State.writeIdle_keeps | apply State.Keeps.each | apply State.Keeps.foldl |
      refine State.Keeps.snd (by assumption) ?_)
    | split | (with_reducible refine State.Keeps.upd rfl rfl ?_) | rfl | exact hr.same rfl rfl rfl)

theorem State.writePlan_keeps {slice : Nat} {links : List LinkFact} {all some_ : List Member} {switch : Option Nat} {r₀ s : State} (hr : r₀.Keeps s) : r₀.Keeps (State.writePlan s slice links all some_ switch) := by
  unfold State.writePlan
  repeat' (first
    | with_reducible (first | assumption | exact fun _ => rfl | intro _)
    | dsimp only
    | with_reducible (first | apply State.Keeps.ite | apply State.writeMember_keeps | apply State.Keeps.each |
      apply State.Keeps.foldl | refine State.Keeps.snd (by assumption) ?_)
    | split | (with_reducible refine State.Keeps.upd rfl rfl ?_) | rfl | exact hr.same rfl rfl rfl)

theorem State.orderSwitch_keeps {all some_ : List Member} {tick : Nat} {r₀ s : State} (hr : r₀.Keeps s) : r₀.Keeps (State.orderSwitch s all some_ tick) := by
  unfold State.orderSwitch
  repeat' (first
    | with_reducible (first | assumption | exact fun _ => rfl | intro _)
    | dsimp only
    | with_reducible (first | apply State.Keeps.ite | apply State.writeMember_keeps | apply State.Keeps.each |
      apply State.Keeps.foldl | refine State.Keeps.snd (by assumption) ?_)
    | split | (with_reducible refine State.Keeps.upd rfl rfl ?_) | rfl | exact hr.same rfl rfl rfl)

theorem State.releaseMembers_keeps {old gone : List Member} {tick : Nat} {r₀ s : State} (hr : r₀.Keeps s) : r₀.Keeps (State.releaseMembers s old gone tick) := by
  unfold State.releaseMembers
  repeat' (first
    | with_reducible (first | assumption | exact fun _ => rfl | intro _)
    | dsimp only
    | with_reducible (first | apply State.Keeps.ite | apply State.writeMember_keeps | apply State.Keeps.each |
      apply State.Keeps.foldl | refine State.Keeps.snd (by assumption) ?_)
    | split | (with_reducible refine State.Keeps.upd rfl rfl ?_) | rfl | exact hr.same rfl rfl rfl)

theorem State.ifService_keeps {rep : Rep} {r s k : State} (hk : r.Keeps k) (hr : r.Keeps s) : r.Keeps (s.ifService rep k) :=
  State.Keeps.ite hk (State.refuse_keeps hr)

theorem State.dissolve_keeps {rep : Rep} {r₀ s : State} (hr : r₀.Keeps s) : r₀.Keeps (State.dissolve s rep) := by
  unfold State.dissolve
  repeat' (first
    | with_reducible (first | assumption | exact fun _ => rfl | intro _)
    | dsimp only
    | with_reducible (first | apply State.Keeps.ite | apply State.updLnk_keeps | apply State.reply_keeps |
      apply State.releaseMembers_keeps | apply State.Keeps.each | apply State.Keeps.foldl |
      refine State.Keeps.snd (by assumption) ?_)
    | split | (with_reducible refine State.Keeps.upd rfl rfl ?_) | rfl | exact hr.same rfl rfl rfl)

theorem State.slicePeriod_keeps {p : Nat} {r₀ s : State} (hr : r₀.Keeps s) : r₀.Keeps (State.slicePeriod s p) := by
  unfold State.slicePeriod
  repeat' (first
    | with_reducible (first | assumption | exact fun _ => rfl | intro _)
    | dsimp only
    | with_reducible (first | apply State.Keeps.ite | apply State.updTime_keeps | apply State.Keeps.each |
      apply State.Keeps.foldl | refine State.Keeps.snd (by assumption) ?_)
    | split | (with_reducible refine State.Keeps.upd rfl rfl ?_) | rfl | exact hr.same rfl rfl rfl)

theorem effSliceSet_keeps {f : SliceFacts} {c : Cmd} {r₀ s : State} (hr : r₀.Keeps s) : r₀.Keeps (effSliceSet f c s) := by
  unfold effSliceSet
  repeat' (first
    | with_reducible (first | assumption | exact fun _ => rfl | intro _)
    | dsimp only
    | with_reducible (first | apply State.Keeps.ite | apply State.updLnk_keeps | apply State.emit_keeps |
      apply State.reply_keeps | apply State.refuse_keeps | apply State.writePlan_keeps | apply State.releaseMembers_keeps |
      apply State.ifService_keeps | apply State.dissolve_keeps | apply State.slicePeriod_keeps | apply State.Keeps.each |
      apply State.Keeps.foldl | refine State.Keeps.snd (by assumption) ?_)
    | split | (with_reducible refine State.Keeps.upd rfl rfl ?_) | rfl | exact hr.same rfl rfl rfl)

theorem State.finishSlice_keeps {r₀ s : State} (hr : r₀.Keeps s) : r₀.Keeps (State.finishSlice s) := by
  unfold State.finishSlice
  repeat' (first
    | with_reducible (first | assumption | exact fun _ => rfl | intro _)
    | dsimp only
    | with_reducible (first | apply State.Keeps.ite | apply State.updLnk_keeps | apply State.reply_keeps |
      apply State.Keeps.each | apply State.Keeps.foldl | refine State.Keeps.snd (by assumption) ?_)
    | split | (with_reducible refine State.Keeps.upd rfl rfl ?_) | rfl | exact hr.same rfl rfl rfl)

theorem effSpareSet_keeps {c : Cmd} {r₀ s : State} (hr : r₀.Keeps s) : r₀.Keeps (effSpareSet c s) := by
  unfold effSpareSet
  repeat' (first
    | with_reducible (first | assumption | exact fun _ => rfl | intro _)
    | dsimp only
    | with_reducible (first | apply State.Keeps.ite | apply State.updLnk_keeps | apply State.emit_keeps |
      apply State.reply_keeps | apply State.refuse_keeps | apply State.ifService_keeps | apply State.Keeps.each |
      apply State.Keeps.foldl | refine State.Keeps.snd (by assumption) ?_)
    | split | (with_reducible refine State.Keeps.upd rfl rfl ?_) | rfl | exact hr.same rfl rfl rfl)

theorem State.discardWork_keeps {r₀ s : State} (hr : r₀.Keeps s) : r₀.Keeps (State.discardWork s) := by
  unfold State.discardWork
  repeat' (first
    | with_reducible (first | assumption | exact fun _ => rfl | intro _)
    | dsimp only
    | with_reducible (first | apply State.Keeps.ite | apply State.updSrv_keeps | apply State.dropFrom_keeps |
      apply State.reenter_keeps | apply State.Keeps.each | apply State.Keeps.foldl | refine State.Keeps.snd (by assumption) ?_)
    | split | (with_reducible refine State.Keeps.upd rfl rfl ?_) | rfl | exact hr.same rfl rfl rfl)

theorem State.suspend_keeps {pkg position : Nat} {r₀ s : State} (hr : r₀.Keeps s) : r₀.Keeps (State.suspend s pkg position) := by
  unfold State.suspend
  repeat' (first
    | with_reducible (first | assumption | exact fun _ => rfl | intro _)
    | dsimp only
    | with_reducible (first | apply State.Keeps.ite | apply State.updLnk_keeps | apply State.reply_keeps |
      apply State.discardWork_keeps | apply State.Keeps.each | apply State.Keeps.foldl |
      refine State.Keeps.snd (by assumption) ?_)
    | split | (with_reducible refine State.Keeps.upd rfl rfl ?_) | rfl | exact hr.same rfl rfl rfl)

theorem State.degradedRecords_keeps {r₀ s : State} (hr : r₀.Keeps s) : r₀.Keeps (State.degradedRecords s) := by
  unfold State.degradedRecords
  repeat' (first
    | with_reducible (first | assumption | exact fun _ => rfl | intro _)
    | dsimp only
    | with_reducible (first | apply State.Keeps.ite | apply State.reply_keeps | apply State.Keeps.each |
      apply State.Keeps.foldl | refine State.Keeps.snd (by assumption) ?_)
    | split | (with_reducible refine State.Keeps.upd rfl rfl ?_) | rfl | exact hr.same rfl rfl rfl)

theorem State.noteLost_keeps {pkg cause : Nat} {r₀ s : State} (hr : r₀.Keeps s) : r₀.Keeps (State.noteLost s pkg cause) := by
  unfold State.noteLost
  repeat' (first
    | with_reducible (first | assumption | exact fun _ => rfl | intro _)
    | dsimp only
    | with_reducible (first | apply State.Keeps.ite | apply State.updLnk_keeps | apply State.logEvent_keeps |
      apply State.abortImage_keeps | apply State.Keeps.each | apply State.Keeps.foldl |
      refine State.Keeps.snd (by assumption) ?_)
    | split | (with_reducible refine State.Keeps.upd rfl rfl ?_) | rfl | exact hr.same rfl rfl rfl)

theorem State.beginRerig_keeps {r : Rerig} {r₀ s : State} (hr : r₀.Keeps s) : r₀.Keeps (State.beginRerig s r) := by
  unfold State.beginRerig
  repeat' (first
    | with_reducible (first | assumption | exact fun _ => rfl | intro _)
    | dsimp only
    | with_reducible (first | apply State.Keeps.ite | apply State.updLnk_keeps | apply State.emit_keeps |
      apply State.suspend_keeps | apply State.degradedRecords_keeps | apply State.Keeps.each | apply State.Keeps.foldl |
      refine State.Keeps.snd (by assumption) ?_)
    | split | (with_reducible refine State.Keeps.upd rfl rfl ?_) | rfl | exact hr.same rfl rfl rfl)

theorem State.rerigHead_keeps {rep : Rep} {pkg spare : Nat} {f : RerigFacts} {r₀ s : State} (hr : r₀.Keeps s) : r₀.Keeps (State.rerigHead s rep pkg spare f) := by
  unfold State.rerigHead
  repeat' (first
    | with_reducible (first | assumption | exact fun _ => rfl | intro _)
    | dsimp only
    | with_reducible (first | apply State.Keeps.ite | apply State.reply_keeps | apply State.refuse_keeps |
      apply State.noteLost_keeps | apply State.beginRerig_keeps | apply State.Keeps.each | apply State.Keeps.foldl |
      refine State.Keeps.snd (by assumption) ?_)
    | split | (with_reducible refine State.Keeps.upd rfl rfl ?_) | rfl | exact hr.same rfl rfl rfl)

theorem State.rerigSpare_keeps {rep : Rep} {pkg spare : Nat} {f : RerigFacts} {r₀ s : State} (hr : r₀.Keeps s) : r₀.Keeps (State.rerigSpare s rep pkg spare f) := by
  unfold State.rerigSpare
  repeat' (first
    | with_reducible (first | assumption | exact fun _ => rfl | intro _)
    | dsimp only
    | with_reducible (first | apply State.Keeps.ite | apply State.updLnk_keeps | apply State.reply_keeps |
      apply State.refuse_keeps | apply State.Keeps.each | apply State.Keeps.foldl | refine State.Keeps.snd (by assumption) ?_)
    | split | (with_reducible refine State.Keeps.upd rfl rfl ?_) | rfl | exact hr.same rfl rfl rfl)

theorem effRerig_keeps {f : RerigFacts} {c : Cmd} {r₀ s : State} (hr : r₀.Keeps s) : r₀.Keeps (effRerig f c s) := by
  unfold effRerig
  repeat' (first
    | with_reducible (first | assumption | exact fun _ => rfl | intro _)
    | dsimp only
    | with_reducible (first | apply State.Keeps.ite | apply State.ifService_keeps | apply State.rerigHead_keeps |
      apply State.rerigSpare_keeps | apply State.Keeps.each | apply State.Keeps.foldl |
      refine State.Keeps.snd (by assumption) ?_)
    | split | (with_reducible refine State.Keeps.upd rfl rfl ?_) | rfl | exact hr.same rfl rfl rfl)

theorem State.startRebuild_keeps {position : Nat} {last256 : Bool} {r₀ s : State} (hr : r₀.Keeps s) : r₀.Keeps (State.startRebuild s position last256) := by
  unfold State.startRebuild
  repeat' (first
    | with_reducible (first | assumption | exact fun _ => rfl | intro _)
    | dsimp only
    | with_reducible (first | apply State.Keeps.ite | apply State.updSrv_keeps | apply State.Keeps.each |
      apply State.Keeps.foldl | refine State.Keeps.snd (by assumption) ?_)
    | split | (with_reducible refine State.Keeps.upd rfl rfl ?_) | rfl | exact hr.same rfl rfl rfl)

theorem State.resumeSlice_keeps {r₀ s : State} (hr : r₀.Keeps s) : r₀.Keeps (State.resumeSlice s) := by
  unfold State.resumeSlice
  repeat' (first
    | with_reducible (first | assumption | exact fun _ => rfl | intro _)
    | dsimp only
    | with_reducible (first | apply State.Keeps.ite | apply State.updLnk_keeps | apply State.updSrv_keeps |
      apply State.Keeps.each | apply State.Keeps.foldl | refine State.Keeps.snd (by assumption) ?_)
    | split | (with_reducible refine State.Keeps.upd rfl rfl ?_) | rfl | exact hr.same rfl rfl rfl)

theorem State.swapIn_keeps {r : Rerig} {r₀ s : State} (hr : r₀.Keeps s) : r₀.Keeps (State.swapIn s r) := by
  unfold State.swapIn
  repeat' (first
    | with_reducible (first | assumption | exact fun _ => rfl | intro _)
    | dsimp only
    | with_reducible (first | apply State.Keeps.ite | apply State.updTime_keeps | apply State.updLnk_keeps |
      apply State.updSrv_keeps | apply State.Keeps.each | apply State.Keeps.foldl | refine State.Keeps.snd (by assumption) ?_)
    | split | (with_reducible refine State.Keeps.upd rfl rfl ?_) | rfl | exact hr.same rfl rfl rfl)

theorem State.stepRerig_keeps {r₀ s : State} (hr : r₀.Keeps s) : r₀.Keeps (State.stepRerig s) := by
  unfold State.stepRerig
  repeat' (first
    | with_reducible (first | assumption | exact fun _ => rfl | intro _)
    | dsimp only
    | with_reducible (first | apply State.Keeps.ite | apply State.updLnk_keeps | apply State.logEvent_keeps |
      apply State.reply_keeps | apply State.writePlan_keeps | apply State.orderSwitch_keeps | apply State.beginRerig_keeps |
      apply State.startRebuild_keeps | apply State.resumeSlice_keeps | apply State.swapIn_keeps | apply State.Keeps.each |
      apply State.Keeps.foldl | refine State.Keeps.snd (by assumption) ?_)
    | split | (with_reducible refine State.Keeps.upd rfl rfl ?_) | rfl | exact hr.same rfl rfl rfl)

theorem State.suspendLost_keeps {r₀ s : State} (hr : r₀.Keeps s) : r₀.Keeps (State.suspendLost s) := by
  unfold State.suspendLost
  repeat' (first
    | with_reducible (first | assumption | exact fun _ => rfl | intro _)
    | dsimp only
    | with_reducible (first | apply State.Keeps.ite | apply State.suspend_keeps | apply State.Keeps.each |
      apply State.Keeps.foldl | refine State.Keeps.snd (by assumption) ?_)
    | split | (with_reducible refine State.Keeps.upd rfl rfl ?_) | rfl | exact hr.same rfl rfl rfl)

theorem stepMemberLossReport_keeps {pkg : Nat} {r₀ s : State} (hr : r₀.Keeps s) : r₀.Keeps (stepMemberLossReport pkg s) := by
  unfold stepMemberLossReport
  repeat' (first
    | with_reducible (first | assumption | exact fun _ => rfl | intro _)
    | dsimp only
    | with_reducible (first | apply State.Keeps.ite | apply State.emit_keeps | apply State.noteLost_keeps |
      apply State.Keeps.each | apply State.Keeps.foldl | refine State.Keeps.snd (by assumption) ?_)
    | split | (with_reducible refine State.Keeps.upd rfl rfl ?_) | rfl | exact hr.same rfl rfl rfl)

theorem stepMemberLost_keeps {pkg cause : Nat} {r₀ s : State} (hr : r₀.Keeps s) : r₀.Keeps (stepMemberLost pkg cause s) := by
  unfold stepMemberLost
  repeat' (first
    | with_reducible (first | assumption | exact fun _ => rfl | intro _)
    | dsimp only
    | with_reducible (first | apply State.Keeps.ite | apply State.noteLost_keeps | apply State.Keeps.each |
      apply State.Keeps.foldl | refine State.Keeps.snd (by assumption) ?_)
    | split | (with_reducible refine State.Keeps.upd rfl rfl ?_) | rfl | exact hr.same rfl rfl rfl)

theorem stepMemberRejoin_keeps {pkg : Nat} {kept : Bool} {r₀ s : State} (hr : r₀.Keeps s) : r₀.Keeps (stepMemberRejoin pkg kept s) := by
  unfold stepMemberRejoin
  repeat' (first
    | with_reducible (first | assumption | exact fun _ => rfl | intro _)
    | dsimp only
    | with_reducible (first | apply State.Keeps.ite | apply State.updLnk_keeps | apply State.startRebuild_keeps |
      apply State.resumeSlice_keeps | apply State.Keeps.each | apply State.Keeps.foldl |
      refine State.Keeps.snd (by assumption) ?_)
    | split | (with_reducible refine State.Keeps.upd rfl rfl ?_) | rfl | exact hr.same rfl rfl rfl)

theorem stepRerigWaitExpiry_keeps {f : RerigFacts} {r₀ s : State} (hr : r₀.Keeps s) : r₀.Keeps (stepRerigWaitExpiry f s) := by
  unfold stepRerigWaitExpiry
  repeat' (first
    | with_reducible (first | assumption | exact fun _ => rfl | intro _)
    | dsimp only
    | with_reducible (first | apply State.Keeps.ite | apply State.reply_keeps | apply State.degradedRecords_keeps |
      apply State.beginRerig_keeps | apply State.Keeps.each | apply State.Keeps.foldl |
      refine State.Keeps.snd (by assumption) ?_)
    | split | (with_reducible refine State.Keeps.upd rfl rfl ?_) | rfl | exact hr.same rfl rfl rfl)

theorem stepStreamRebuilt_keeps {ch : Nat} {r₀ s : State} (hr : r₀.Keeps s) : r₀.Keeps (stepStreamRebuilt ch s) := by
  unfold stepStreamRebuilt
  repeat' (first
    | with_reducible (first | assumption | exact fun _ => rfl | intro _)
    | dsimp only
    | with_reducible (first | apply State.Keeps.ite | apply State.updStream_keeps | apply State.finishRestore_keeps |
      apply State.Keeps.each | apply State.Keeps.foldl | refine State.Keeps.snd (by assumption) ?_)
    | split | (with_reducible refine State.Keeps.upd rfl rfl ?_) | rfl | exact hr.same rfl rfl rfl)

theorem stepSyncLock_keeps {pkg : Nat} {r₀ s : State} (hr : r₀.Keeps s) : r₀.Keeps (stepSyncLock pkg s) := by
  unfold stepSyncLock
  repeat' (first
    | with_reducible (first | assumption | exact fun _ => rfl | intro _)
    | dsimp only
    | with_reducible (first | apply State.Keeps.ite | apply State.updLnk_keeps | apply State.lockSync_keeps |
      apply State.finishSlice_keeps | apply State.Keeps.each | apply State.Keeps.foldl |
      refine State.Keeps.snd (by assumption) ?_)
    | split | (with_reducible refine State.Keeps.upd rfl rfl ?_) | rfl | exact hr.same rfl rfl rfl)

theorem State.stepTaps_keeps {r₀ s : State} (hr : r₀.Keeps s) : r₀.Keeps (State.stepTaps s) := by
  unfold State.stepTaps
  repeat' (first
    | with_reducible (first | assumption | exact fun _ => rfl | intro _)
    | dsimp only
    | with_reducible (first | apply State.Keeps.ite  | apply State.Keeps.each | apply State.Keeps.foldl |
      refine State.Keeps.snd (by assumption) ?_)
    | split | (with_reducible refine State.Keeps.upd rfl rfl ?_) | rfl | exact hr.same rfl rfl rfl)

theorem State.darkIslands_keeps {r s : State} (hr : r.Keeps s) : r.Keeps s.darkIslands := by
  unfold State.darkIslands
  exact State.Keeps.upd rfl rfl (State.updHk_keeps hr)

theorem State.fillTrim_keeps {r : List (Nat × List Byte)} {r₀ s : State} (hr : r₀.Keeps s) : r₀.Keeps (State.fillTrim s r) := by
  unfold State.fillTrim
  repeat' (first
    | with_reducible (first | assumption | exact fun _ => rfl | intro _)
    | dsimp only
    | with_reducible (first | apply State.Keeps.ite | apply State.updPan_keeps | apply State.Keeps.each |
      apply State.Keeps.foldl | refine State.Keeps.snd (by assumption) ?_)
    | split | (with_reducible refine State.Keeps.upd rfl rfl ?_) | rfl | exact hr.same rfl rfl rfl)

theorem stepTrimStoreLoad_keeps {r₀ s : State} (hr : r₀.Keeps s) : r₀.Keeps (stepTrimStoreLoad s) := by
  unfold stepTrimStoreLoad
  repeat' (first
    | with_reducible (first | assumption | exact fun _ => rfl | intro _)
    | dsimp only
    | with_reducible (first | apply State.Keeps.ite | apply State.updWs_keeps | apply State.logEvent_keeps |
      apply State.darkIslands_keeps | apply State.fillTrim_keeps | apply State.Keeps.each | apply State.Keeps.foldl |
      refine State.Keeps.snd (by assumption) ?_)
    | split | (with_reducible refine State.Keeps.upd rfl rfl ?_) | rfl | exact hr.same rfl rfl rfl)

theorem stepVerifyRequest_keeps {pan : Nat} {r₀ s : State} (hr : r₀.Keeps s) : r₀.Keeps (stepVerifyRequest pan s) := by
  unfold stepVerifyRequest
  repeat' (first
    | with_reducible (first | assumption | exact fun _ => rfl | intro _)
    | dsimp only
    | with_reducible (first | apply State.Keeps.ite | apply State.updFab_keeps | apply State.updPan_keeps |
      apply State.decideVacate_keeps | apply State.Keeps.each | apply State.Keeps.foldl |
      refine State.Keeps.snd (by assumption) ?_)
    | split | (with_reducible refine State.Keeps.upd rfl rfl ?_) | rfl | exact hr.same rfl rfl rfl)

theorem State.setQf_keeps {p a qf : Nat} {r₀ s : State} (hr : r₀.Keeps s) : r₀.Keeps (State.setQf s p a qf) := by
  unfold State.setQf
  repeat' (first
    | with_reducible (first | assumption | exact fun _ => rfl | intro _)
    | dsimp only
    | with_reducible (first | apply State.Keeps.ite | apply State.updArr_keeps | apply State.logEvent_keeps |
      apply State.failEvent_keeps | apply State.Keeps.each | apply State.Keeps.foldl |
      refine State.Keeps.snd (by assumption) ?_)
    | split | (with_reducible refine State.Keeps.upd rfl rfl ?_) | rfl | exact hr.same rfl rfl rfl)

theorem stepVerificationComplete_keeps {pan : Nat} {qfs : List Nat} {r₀ s : State} (hr : r₀.Keeps s) : r₀.Keeps (stepVerificationComplete pan qfs s) := by
  unfold stepVerificationComplete
  repeat' (first
    | with_reducible (first | assumption | exact fun _ => rfl | intro _)
    | dsimp only
    | with_reducible (first | apply State.Keeps.ite | apply State.updFab_keeps | apply State.updPan_keeps |
      apply State.setQf_keeps | apply State.Keeps.each | apply State.Keeps.foldl | refine State.Keeps.snd (by assumption) ?_)
    | split | (with_reducible refine State.Keeps.upd rfl rfl ?_) | rfl | exact hr.same rfl rfl rfl)

theorem State.calibrateArray_keeps {t : Nat} {resid : List (Nat × Nat)} {e : Nat × List Byte} {r₀ s : State} (hr : r₀.Keeps s) : r₀.Keeps (State.calibrateArray s t resid e) := by
  unfold State.calibrateArray
  repeat' (first
    | with_reducible (first | assumption | exact fun _ => rfl | intro _)
    | dsimp only
    | with_reducible (first | apply State.Keeps.ite | apply State.updWs_keeps | apply State.updArr_keeps |
      apply State.retireUnit_keeps | apply State.Keeps.each | apply State.Keeps.foldl |
      refine State.Keeps.snd (by assumption) ?_)
    | split | (with_reducible refine State.Keeps.upd rfl rfl ?_) | rfl | exact hr.same rfl rfl rfl)

theorem State.writeCalibration_keeps {torn : Bool} {r₀ s : State} (hr : r₀.Keeps s) : r₀.Keeps (State.writeCalibration s torn) := by
  unfold State.writeCalibration
  repeat' (first
    | with_reducible (first | assumption | exact fun _ => rfl | intro _)
    | dsimp only
    | with_reducible (first | apply State.Keeps.ite | apply State.updFab_keeps | apply State.updWs_keeps |
      apply State.updNv_keeps | apply State.Keeps.each | apply State.Keeps.foldl | refine State.Keeps.snd (by assumption) ?_)
    | split | (with_reducible refine State.Keeps.upd rfl rfl ?_) | rfl | exact hr.same rfl rfl rfl)

theorem stepFactoryCalibration_keeps {point ladderDiff : Nat} {taps : List (Nat × List Byte)} {resid : List (Nat × Nat)} {last torn : Bool} {r₀ s : State} (hr : r₀.Keeps s) : r₀.Keeps (stepFactoryCalibration point ladderDiff taps resid last torn s) := by
  unfold stepFactoryCalibration
  repeat' (first
    | with_reducible (first | assumption | exact fun _ => rfl | intro _)
    | dsimp only
    | with_reducible (first | apply State.Keeps.ite | apply State.updWs_keeps | apply State.calibrateArray_keeps |
      apply State.writeCalibration_keeps | apply State.Keeps.each | apply State.Keeps.foldl |
      refine State.Keeps.snd (by assumption) ?_)
    | split | (with_reducible refine State.Keeps.upd rfl rfl ?_) | rfl | exact hr.same rfl rfl rfl)

theorem State.raiseStep_keeps {kind unit : Nat} {r₀ s : State} (hr : r₀.Keeps s) : r₀.Keeps (State.raiseStep s kind unit) := by
  unfold State.raiseStep
  repeat' (first
    | with_reducible (first | assumption | exact fun _ => rfl | intro _)
    | dsimp only
    | with_reducible (first | apply State.Keeps.ite | apply State.updDle_keeps | apply State.updPan_keeps |
      apply State.updPort_keeps | apply State.logEvent_keeps | apply State.Keeps.each | apply State.Keeps.foldl |
      refine State.Keeps.snd (by assumption) ?_)
    | split | (with_reducible refine State.Keeps.upd rfl rfl ?_) | rfl | exact hr.same rfl rfl rfl)

theorem State.markRetired_keeps {kind unit : Nat} {r₀ s : State} (hr : r₀.Keeps s) : r₀.Keeps (State.markRetired s kind unit) := by
  unfold State.markRetired
  repeat' (first
    | with_reducible (first | assumption | exact fun _ => rfl | intro _)
    | dsimp only
    | with_reducible (first | apply State.Keeps.ite | apply State.updChk_keeps | apply State.Keeps.each |
      apply State.Keeps.foldl | refine State.Keeps.snd (by assumption) ?_)
    | split | (with_reducible refine State.Keeps.upd rfl rfl ?_) | rfl | exact hr.same rfl rfl rfl)

theorem State.endMargin_keeps {rep : Rep} {kind unit status detail : Nat} {r₀ s : State} (hr : r₀.Keeps s) : r₀.Keeps (State.endMargin s rep kind unit status detail) := by
  unfold State.endMargin
  repeat' (first
    | with_reducible (first | assumption | exact fun _ => rfl | intro _)
    | dsimp only
    | with_reducible (first | apply State.Keeps.ite | apply State.logEvent_keeps | apply State.reply_keeps |
      apply State.Keeps.each | apply State.Keeps.foldl | refine State.Keeps.snd (by assumption) ?_)
    | split | (with_reducible refine State.Keeps.upd rfl rfl ?_) | rfl | exact hr.same rfl rfl rfl)

theorem effMarginTest_keeps {f : MarginFacts} {c : Cmd} {r₀ s : State} (hr : r₀.Keeps s) : r₀.Keeps (effMarginTest f c s) := by
  unfold effMarginTest
  repeat' (first
    | with_reducible (first | assumption | exact fun _ => rfl | intro _)
    | dsimp only
    | with_reducible (first | apply State.Keeps.ite | apply State.emit_keeps | apply State.reply_keeps |
      apply State.refuse_keeps | apply State.raiseStep_keeps | apply State.markRetired_keeps | apply State.endMargin_keeps |
      apply State.Keeps.each | apply State.Keeps.foldl | refine State.Keeps.snd (by assumption) ?_)
    | split | (with_reducible refine State.Keeps.upd rfl rfl ?_) | rfl | exact hr.same rfl rfl rfl)

theorem State.retireRemote_keeps {rep : Rep} {pkg kind unit : Nat} {r₀ s : State} (hr : r₀.Keeps s) : r₀.Keeps (State.retireRemote s rep pkg kind unit) := by
  unfold State.retireRemote
  repeat' (first
    | with_reducible (first | assumption | exact fun _ => rfl | intro _)
    | dsimp only
    | with_reducible (first | apply State.Keeps.ite | apply State.updChk_keeps | apply State.emit_keeps |
      apply State.Keeps.each | apply State.Keeps.foldl | refine State.Keeps.snd (by assumption) ?_)
    | split | (with_reducible refine State.Keeps.upd rfl rfl ?_) | rfl | exact hr.same rfl rfl rfl)

theorem State.retireMember_keeps {rep : Rep} {m : Member} {f : RerigFacts} {r₀ s : State} (hr : r₀.Keeps s) : r₀.Keeps (State.retireMember s rep m f) := by
  unfold State.retireMember
  repeat' (first
    | with_reducible (first | assumption | exact fun _ => rfl | intro _)
    | dsimp only
    | with_reducible (first | apply State.Keeps.ite | apply State.updLnk_keeps | apply State.updChk_keeps |
      apply State.emit_keeps | apply State.reply_keeps | apply State.noteLost_keeps | apply State.Keeps.each |
      apply State.Keeps.foldl | refine State.Keeps.snd (by assumption) ?_)
    | split | (with_reducible refine State.Keeps.upd rfl rfl ?_) | rfl | exact hr.same rfl rfl rfl)

theorem effRetire_keeps {gone : Bool} {f : RerigFacts} {c : Cmd} {r₀ s : State} (hr : r₀.Keeps s) : r₀.Keeps (effRetire gone f c s) := by
  unfold effRetire
  repeat' (first
    | with_reducible (first | assumption | exact fun _ => rfl | intro _)
    | dsimp only
    | with_reducible (first | apply State.Keeps.ite | apply State.updChk_keeps | apply State.reply_keeps |
      apply State.refuse_keeps | apply State.markRetired_keeps | apply State.retireRemote_keeps |
      apply State.retireMember_keeps | apply State.Keeps.each | apply State.Keeps.foldl |
      refine State.Keeps.snd (by assumption) ?_)
    | split | (with_reducible refine State.Keeps.upd rfl rfl ?_) | rfl | exact hr.same rfl rfl rfl)

theorem State.darkFabric_keeps {r₀ s : State} (hr : r₀.Keeps s) : r₀.Keeps (State.darkFabric s) := by
  unfold State.darkFabric
  repeat' (first
    | with_reducible (first | assumption | exact fun _ => rfl | intro _)
    | dsimp only
    | with_reducible (first | apply State.Keeps.ite | apply State.updDle_keeps | apply State.darkIslands_keeps |
      apply State.Keeps.each | apply State.Keeps.foldl | refine State.Keeps.snd (by assumption) ?_)
    | split | (with_reducible refine State.Keeps.upd rfl rfl ?_) | rfl | exact hr.same rfl rfl rfl)

theorem State.retirePackage_keeps {r₀ s : State} (hr : r₀.Keeps s) : r₀.Keeps (State.retirePackage s) := by
  unfold State.retirePackage
  repeat' (first
    | with_reducible (first | assumption | exact fun _ => rfl | intro _)
    | dsimp only
    | with_reducible (first | apply State.Keeps.ite | apply State.updWs_keeps | apply State.updSrv_keeps |
      apply State.updChk_keeps | apply State.logEvent_keeps | apply State.reply_keeps | apply State.darkFabric_keeps |
      apply State.Keeps.each | apply State.Keeps.foldl | refine State.Keeps.snd (by assumption) ?_)
    | split | (with_reducible refine State.Keeps.upd rfl rfl ?_) | rfl | exact hr.same rfl rfl rfl)

theorem State.decideRetires_keeps {r₀ s : State} (hr : r₀.Keeps s) : r₀.Keeps (State.decideRetires s) := by
  unfold State.decideRetires
  repeat' (first
    | with_reducible (first | assumption | exact fun _ => rfl | intro _)
    | dsimp only
    | with_reducible (first | apply State.Keeps.ite | apply State.updChk_keeps | apply State.reply_keeps |
      apply stepUnitRetireDecision_keeps | apply State.retirePackage_keeps | apply State.Keeps.each | apply State.Keeps.foldl |
      refine State.Keeps.snd (by assumption) ?_)
    | split | (with_reducible refine State.Keeps.upd rfl rfl ?_) | rfl | exact hr.same rfl rfl rfl)

theorem State.release_keeps {r₀ s : State} (hr : r₀.Keeps s) : r₀.Keeps (State.release s) := by
  unfold State.release
  repeat' (first
    | with_reducible (first | assumption | exact fun _ => rfl | intro _)
    | dsimp only
    | with_reducible (first | apply State.Keeps.ite  | apply State.Keeps.each | apply State.Keeps.foldl |
      refine State.Keeps.snd (by assumption) ?_)
    | split | (with_reducible refine State.Keeps.upd rfl rfl ?_) | rfl | exact hr.same rfl rfl rfl)

theorem State.dropHold_keeps {r₀ s : State} (hr : r₀.Keeps s) : r₀.Keeps (State.dropHold s) := by
  unfold State.dropHold
  repeat' (first
    | with_reducible (first | assumption | exact fun _ => rfl | intro _)
    | dsimp only
    | with_reducible (first | apply State.Keeps.ite  | apply State.Keeps.each | apply State.Keeps.foldl |
      refine State.Keeps.snd (by assumption) ?_)
    | split | (with_reducible refine State.Keeps.upd rfl rfl ?_) | rfl | exact hr.same rfl rfl rfl)

theorem State.warmFrom_keeps {src : Nat} {r s : State} (hr : r.Keeps s) : r.Keeps (s.warmFrom src) := by
  have hc : r.Keeps (s.updCn (fun c => c.count src)) := State.updCn_keeps hr
  have hw : ∀ b, r.Keeps (((s.updCn (fun c => c.count src)).upd (fun d => d.warm b)).dropHold) :=
    fun _ => State.dropHold_keeps (hc.empty rfl rfl rfl)
  unfold State.warmFrom
  dsimp only
  split
  · exact hc
  · split
    · exact State.updRst_keeps hc
    · exact State.Keeps.ite (hw _) (State.release_keeps (hw _))

theorem State.coldFrom_keeps {src : Nat} {r s : State} (hr : r.Keeps s) : r.Keeps (s.coldFrom src) := by
  unfold State.coldFrom
  dsimp only
  split
  · exact hr
  · split
    · exact State.updRst_keeps (State.updCn_keeps hr)
    · exact State.dropHold_keeps (hr.empty rfl rfl rfl)

theorem State.raiseIbi_keeps {bit : Nat} {r₀ s : State} (hr : r₀.Keeps s) : r₀.Keeps (State.raiseIbi s bit) := by
  unfold State.raiseIbi
  repeat' (first
    | with_reducible (first | assumption | exact fun _ => rfl | intro _)
    | dsimp only
    | with_reducible (first | apply State.Keeps.ite | apply State.emit_keeps | apply State.Keeps.each |
      apply State.Keeps.foldl | refine State.Keeps.snd (by assumption) ?_)
    | split | (with_reducible refine State.Keeps.upd rfl rfl ?_) | rfl | exact hr.same rfl rfl rfl)

theorem State.resetHold_keeps {code arg : Nat} {r s : State} (hr : r.Keeps s) : r.Keeps (s.resetHold code arg) := by
  unfold State.resetHold
  exact State.raiseIbi_keeps (State.dropHold_keeps (hr.empty rfl rfl rfl))

theorem stepPowerOnReset_keeps {r s : State} (hr : r.Keeps s) : r.Keeps (stepPowerOnReset s) := by
  unfold stepPowerOnReset
  exact State.dropHold_keeps (hr.empty rfl rfl rfl)

theorem stepAuxBrownout_keeps {r s : State} (hr : r.Keeps s) : r.Keeps (stepAuxBrownout s) := by
  unfold stepAuxBrownout
  exact State.dropHold_keeps (hr.empty rfl rfl rfl)

theorem stepColdReset_keeps {hottest : Int} {r₀ s : State} (hr : r₀.Keeps s) : r₀.Keeps (stepColdReset hottest s) := by
  unfold stepColdReset
  repeat' (first
    | with_reducible (first | assumption | exact fun _ => rfl | intro _)
    | dsimp only
    | with_reducible (first | apply State.Keeps.ite | apply State.updCn_keeps | apply State.coldFrom_keeps |
      apply State.Keeps.each | apply State.Keeps.foldl | refine State.Keeps.snd (by assumption) ?_)
    | split | (with_reducible refine State.Keeps.upd rfl rfl ?_) | rfl | exact hr.same rfl rfl rfl)

theorem stepThermalTripRestart_keeps {hottest : Int} {r₀ s : State} (hr : r₀.Keeps s) : r₀.Keeps (stepThermalTripRestart hottest s) := by
  unfold stepThermalTripRestart
  repeat' (first
    | with_reducible (first | assumption | exact fun _ => rfl | intro _)
    | dsimp only
    | with_reducible (first | apply State.Keeps.ite | apply stepColdReset_keeps | apply State.Keeps.each |
      apply State.Keeps.foldl | refine State.Keeps.snd (by assumption) ?_)
    | split | (with_reducible refine State.Keeps.upd rfl rfl ?_) | rfl | exact hr.same rfl rfl rfl)

theorem stepWarmReset_keeps {r₀ s : State} (hr : r₀.Keeps s) : r₀.Keeps (stepWarmReset s) := by
  unfold stepWarmReset
  repeat' (first
    | with_reducible (first | assumption | exact fun _ => rfl | intro _)
    | dsimp only
    | with_reducible (first | apply State.Keeps.ite | apply State.warmFrom_keeps | apply State.Keeps.each |
      apply State.Keeps.foldl | refine State.Keeps.snd (by assumption) ?_)
    | split | (with_reducible refine State.Keeps.upd rfl rfl ?_) | rfl | exact hr.same rfl rfl rfl)

theorem stepRstCtrlWarm_keeps {v : Nat} {r₀ s : State} (hr : r₀.Keeps s) : r₀.Keeps (stepRstCtrlWarm v s) := by
  unfold stepRstCtrlWarm
  repeat' (first
    | with_reducible (first | assumption | exact fun _ => rfl | intro _)
    | dsimp only
    | with_reducible (first | apply State.Keeps.ite | apply State.warmFrom_keeps | apply State.Keeps.each |
      apply State.Keeps.foldl | refine State.Keeps.snd (by assumption) ?_)
    | split | (with_reducible refine State.Keeps.upd rfl rfl ?_) | rfl | exact hr.same rfl rfl rfl)

theorem stepPcieHotReset_keeps {r₀ s : State} (hr : r₀.Keeps s) : r₀.Keeps (stepPcieHotReset s) := by
  unfold stepPcieHotReset
  repeat' (first
    | with_reducible (first | assumption | exact fun _ => rfl | intro _)
    | dsimp only
    | with_reducible (first | apply State.Keeps.ite | apply State.warmFrom_keeps | apply State.Keeps.each |
      apply State.Keeps.foldl | refine State.Keeps.snd (by assumption) ?_)
    | split | (with_reducible refine State.Keeps.upd rfl rfl ?_) | rfl | exact hr.same rfl rfl rfl)

theorem stepPerst_keeps {low : Bool} {r₀ s : State} (hr : r₀.Keeps s) : r₀.Keeps (stepPerst low s) := by
  unfold stepPerst
  repeat' (first
    | with_reducible (first | assumption | exact fun _ => rfl | intro _)
    | dsimp only
    | with_reducible (first | apply State.Keeps.ite | apply State.updTime_keeps | apply State.updPcie_keeps |
      apply State.updRst_keeps | apply State.release_keeps | apply State.warmFrom_keeps | apply State.Keeps.each |
      apply State.Keeps.foldl | refine State.Keeps.snd (by assumption) ?_)
    | split | (with_reducible refine State.Keeps.upd rfl rfl ?_) | rfl | exact hr.same rfl rfl rfl)

theorem stepDeviceWatchdogBite_keeps {r₀ s : State} (hr : r₀.Keeps s) : r₀.Keeps (stepDeviceWatchdogBite s) := by
  unfold stepDeviceWatchdogBite
  repeat' (first
    | with_reducible (first | assumption | exact fun _ => rfl | intro _)
    | dsimp only
    | with_reducible (first | apply State.Keeps.ite | apply State.updRst_keeps | apply State.warmFrom_keeps |
      apply State.Keeps.each | apply State.Keeps.foldl | refine State.Keeps.snd (by assumption) ?_)
    | split | (with_reducible refine State.Keeps.upd rfl rfl ?_) | rfl | exact hr.same rfl rfl rfl)

theorem stepWatchdogKick_keeps {r₀ s : State} (hr : r₀.Keeps s) : r₀.Keeps (stepWatchdogKick s) := by
  unfold stepWatchdogKick
  repeat' (first
    | with_reducible (first | assumption | exact fun _ => rfl | intro _)
    | dsimp only
    | with_reducible (first | apply State.Keeps.ite | apply State.updRst_keeps | apply State.Keeps.each |
      apply State.Keeps.foldl | refine State.Keeps.snd (by assumption) ?_)
    | split | (with_reducible refine State.Keeps.upd rfl rfl ?_) | rfl | exact hr.same rfl rfl rfl)

theorem stepPllLossOfLock_keeps {dom : PllDomain} {r₀ s : State} (hr : r₀.Keeps s) : r₀.Keeps (stepPllLossOfLock dom s) := by
  unfold stepPllLossOfLock
  repeat' (first
    | with_reducible (first | assumption | exact fun _ => rfl | intro _)
    | dsimp only
    | with_reducible (first | apply State.Keeps.ite | apply State.warmFrom_keeps | apply State.coldFrom_keeps |
      apply State.Keeps.each | apply State.Keeps.foldl | refine State.Keeps.snd (by assumption) ?_)
    | split | (with_reducible refine State.Keeps.upd rfl rfl ?_) | rfl | exact hr.same rfl rfl rfl)

theorem stepReferenceFailure_keeps {r₀ s : State} (hr : r₀.Keeps s) : r₀.Keeps (stepReferenceFailure s) := by
  unfold stepReferenceFailure
  repeat' (first
    | with_reducible (first | assumption | exact fun _ => rfl | intro _)
    | dsimp only
    | with_reducible (first | apply State.Keeps.ite | apply State.updCn_keeps | apply State.resetHold_keeps |
      apply State.Keeps.each | apply State.Keeps.foldl | refine State.Keeps.snd (by assumption) ?_)
    | split | (with_reducible refine State.Keeps.upd rfl rfl ?_) | rfl | exact hr.same rfl rfl rfl)

theorem stepVbakLoss_keeps {r₀ s : State} (hr : r₀.Keeps s) : r₀.Keeps (stepVbakLoss s) := by
  unfold stepVbakLoss
  repeat' (first
    | with_reducible (first | assumption | exact fun _ => rfl | intro _)
    | dsimp only
    | with_reducible (first | apply State.Keeps.ite | apply State.updCn_keeps | apply State.Keeps.each |
      apply State.Keeps.foldl | refine State.Keeps.snd (by assumption) ?_)
    | split | (with_reducible refine State.Keeps.upd rfl rfl ?_) | rfl | exact hr.same rfl rfl rfl)

theorem stepResetCountClear_keeps {r₀ s : State} (hr : r₀.Keeps s) : r₀.Keeps (stepResetCountClear s) := by
  unfold stepResetCountClear
  repeat' (first
    | with_reducible (first | assumption | exact fun _ => rfl | intro _)
    | dsimp only
    | with_reducible (first | apply State.Keeps.ite | apply State.updCn_keeps | apply State.Keeps.each |
      apply State.Keeps.foldl | refine State.Keeps.snd (by assumption) ?_)
    | split | (with_reducible refine State.Keeps.upd rfl rfl ?_) | rfl | exact hr.same rfl rfl rfl)

theorem stepRailsSoftStart_keeps {railOk : Bool} {r₀ s : State} (hr : r₀.Keeps s) : r₀.Keeps (stepRailsSoftStart railOk s) := by
  unfold stepRailsSoftStart
  repeat' (first
    | with_reducible (first | assumption | exact fun _ => rfl | intro _)
    | dsimp only
    | with_reducible (first | apply State.Keeps.ite | apply State.updRst_keeps | apply State.updCn_keeps |
      apply State.take32_keeps | apply State.resetHold_keeps | apply State.Keeps.each | apply State.Keeps.foldl |
      refine State.Keeps.snd (by assumption) ?_)
    | split | (with_reducible refine State.Keeps.upd rfl rfl ?_) | rfl | exact hr.same rfl rfl rfl)

theorem State.bootSwap_keeps {p : Nat} {to_ : PanRole} {r₀ s : State} (hr : r₀.Keeps s) : r₀.Keeps (State.bootSwap s p to_).2 := by
  unfold State.bootSwap
  repeat' (first
    | with_reducible (first | assumption | exact fun _ => rfl | intro _)
    | dsimp only
    | with_reducible (first | apply State.Keeps.ite | apply State.updPan_keeps | apply State.Keeps.each |
      apply State.Keeps.foldl | refine State.Keeps.snd (by assumption) ?_)
    | split | (with_reducible refine State.Keeps.upd rfl rfl ?_) | rfl | exact hr.same rfl rfl rfl)

theorem State.bootRetire_keeps {kind unit : Nat} {r₀ s : State} (hr : r₀.Keeps s) : r₀.Keeps (State.bootRetire s kind unit).2 := by
  unfold State.bootRetire
  repeat' (first
    | with_reducible (first | assumption | exact fun _ => rfl | intro _)
    | dsimp only
    | with_reducible (first | apply State.Keeps.ite | apply State.updDle_keeps | apply State.updChk_keeps |
      apply State.updArr_keeps | apply State.darkFabric_keeps | apply State.bootSwap_keeps | apply State.Keeps.each |
      apply State.Keeps.foldl | refine State.Keeps.snd (by assumption) ?_)
    | split | (with_reducible refine State.Keeps.upd rfl rfl ?_) | rfl | exact hr.same rfl rfl rfl)

theorem State.bootSuspect_keeps {kind unit arg : Nat} {r₀ s : State} (hr : r₀.Keeps s) : r₀.Keeps (State.bootSuspect s kind unit arg) := by
  unfold State.bootSuspect
  repeat' (first
    | with_reducible (first | assumption | exact fun _ => rfl | intro _)
    | dsimp only
    | with_reducible (first | apply State.Keeps.ite | apply State.updDle_keeps | apply State.updPan_keeps |
      apply State.updPort_keeps | apply State.Keeps.each | apply State.Keeps.foldl | refine State.Keeps.snd (by assumption) ?_)
    | split | (with_reducible refine State.Keeps.upd rfl rfl ?_) | rfl | exact hr.same rfl rfl rfl)

theorem State.bootList_keeps {r₀ s : State} (hr : r₀.Keeps s) : r₀.Keeps (State.bootList s) := by
  unfold State.bootList
  repeat' (first
    | with_reducible (first | assumption | exact fun _ => rfl | intro _)
    | dsimp only
    | with_reducible (first | apply State.Keeps.ite | apply State.leavePosition_keeps | apply State.bootRetire_keeps |
      apply State.bootSuspect_keeps | apply State.Keeps.each | apply State.Keeps.foldl |
      refine State.Keeps.snd (by assumption) ?_)
    | split | (with_reducible refine State.Keeps.upd rfl rfl ?_) | rfl | exact hr.same rfl rfl rfl)

theorem State.safeState_keeps {r₀ s : State} (hr : r₀.Keeps s) : r₀.Keeps (State.safeState s) := by
  unfold State.safeState
  repeat' (first
    | with_reducible (first | assumption | exact fun _ => rfl | intro _)
    | dsimp only
    | with_reducible (first | apply State.Keeps.ite | apply State.updDle_keeps | apply State.updRst_keeps |
      apply State.darkIslands_keeps | apply State.Keeps.each | apply State.Keeps.foldl |
      refine State.Keeps.snd (by assumption) ?_)
    | split | (with_reducible refine State.Keeps.upd rfl rfl ?_) | rfl | exact hr.same rfl rfl rfl)

theorem State.bistUnits_keeps {kind : Nat} {units : List Nat} {r₀ s : State} (hr : r₀.Keeps s) : r₀.Keeps (State.bistUnits s kind units) := by
  unfold State.bistUnits
  repeat' (first
    | with_reducible (first | assumption | exact fun _ => rfl | intro _)
    | dsimp only
    | with_reducible (first | apply State.Keeps.ite | apply State.logEvent_keeps | apply State.bootRetire_keeps |
      apply State.safeState_keeps | apply State.Keeps.each | apply State.Keeps.foldl |
      refine State.Keeps.snd (by assumption) ?_)
    | split | (with_reducible refine State.Keeps.upd rfl rfl ?_) | rfl | exact hr.same rfl rfl rfl)

theorem State.bootChain_keeps {r₀ s : State} (hr : r₀.Keeps s) : r₀.Keeps (State.bootChain s).2 := by
  unfold State.bootChain
  repeat' (first
    | with_reducible (first | assumption | exact fun _ => rfl | intro _)
    | dsimp only
    | with_reducible (first | apply State.Keeps.ite | apply State.updSec_keeps | apply State.updNv_keeps |
      apply State.Keeps.each | apply State.Keeps.foldl | refine State.Keeps.snd (by assumption) ?_)
    | split | (with_reducible refine State.Keeps.upd rfl rfl ?_) | rfl | exact hr.same rfl rfl rfl)

theorem State.bootCounter_keeps {r₀ s : State} (hr : r₀.Keeps s) : r₀.Keeps (State.bootCounter s) := by
  unfold State.bootCounter
  repeat' (first
    | with_reducible (first | assumption | exact fun _ => rfl | intro _)
    | dsimp only
    | with_reducible (first | apply State.Keeps.ite | apply State.updSec_keeps | apply State.Keeps.each |
      apply State.Keeps.foldl | refine State.Keeps.snd (by assumption) ?_)
    | split | (with_reducible refine State.Keeps.upd rfl rfl ?_) | rfl | exact hr.same rfl rfl rfl)

theorem State.findDirectory_keeps {fault : Bool} {r₀ s : State} (hr : r₀.Keeps s) : r₀.Keeps (State.findDirectory s fault) := by
  unfold State.findDirectory
  repeat' (first
    | with_reducible (first | assumption | exact fun _ => rfl | intro _)
    | dsimp only
    | with_reducible (first | apply State.Keeps.ite | apply State.updWs_keeps | apply State.Keeps.each |
      apply State.Keeps.foldl | refine State.Keeps.snd (by assumption) ?_)
    | split | (with_reducible refine State.Keeps.upd rfl rfl ?_) | rfl | exact hr.same rfl rfl rfl)

theorem State.resolveDirectory_keeps {dirs : List (Nat × Option Nat)} {r₀ s : State} (hr : r₀.Keeps s) : r₀.Keeps (State.resolveDirectory s dirs) := by
  unfold State.resolveDirectory
  repeat' (first
    | with_reducible (first | assumption | exact fun _ => rfl | intro _)
    | dsimp only
    | with_reducible (first | apply State.Keeps.ite | apply State.writeDirectory_keeps | apply State.switchDirectory_keeps |
      apply State.Keeps.each | apply State.Keeps.foldl | refine State.Keeps.snd (by assumption) ?_)
    | split | (with_reducible refine State.Keeps.upd rfl rfl ?_) | rfl | exact hr.same rfl rfl rfl)

theorem State.loadStep_keeps {qfs : List (Nat × Nat)} {us : Nat} {badPages : List Nat} {r₀ s : State} (hr : r₀.Keeps s) : r₀.Keeps (State.loadStep s qfs us badPages).2 := by
  unfold State.loadStep
  repeat' (first
    | with_reducible (first | assumption | exact fun _ => rfl | intro _)
    | dsimp only
    | with_reducible (first | apply State.Keeps.ite | apply stepPayloadLoad_keeps | apply stepTrimStoreLoad_keeps |
      apply State.setQf_keeps | apply State.Keeps.each | apply State.Keeps.foldl | refine State.Keeps.snd (by assumption) ?_)
    | split | (with_reducible refine State.Keeps.upd rfl rfl ?_) | rfl | exact hr.same rfl rfl rfl)

theorem State.restartTicks_keeps {r₀ s : State} (hr : r₀.Keeps s) : r₀.Keeps (State.restartTicks s) := by
  unfold State.restartTicks
  repeat' (first
    | with_reducible (first | assumption | exact fun _ => rfl | intro _)
    | dsimp only
    | with_reducible (first | apply State.Keeps.ite | apply State.updTime_keeps | apply State.updRst_keeps |
      apply State.Keeps.each | apply State.Keeps.foldl | refine State.Keeps.snd (by assumption) ?_)
    | split | (with_reducible refine State.Keeps.upd rfl rfl ?_) | rfl | exact hr.same rfl rfl rfl)

theorem State.afterBoot_keeps {f : BootFacts} {r₀ s : State} (hr : r₀.Keeps s) : r₀.Keeps (State.afterBoot s f) := by
  unfold State.afterBoot
  repeat' (first
    | with_reducible (first | assumption | exact fun _ => rfl | intro _)
    | dsimp only
    | with_reducible (first | apply State.Keeps.ite | apply State.updFab_keeps | apply State.updDle_keeps |
      apply State.updWs_keeps | apply State.updRst_keeps | apply State.updMem_keeps | apply State.take32_keeps |
      apply State.startTraining_keeps | apply State.retireLane_keeps | apply State.bootList_keeps |
      apply State.bistUnits_keeps | apply State.bootCounter_keeps | apply State.findDirectory_keeps |
      apply State.resolveDirectory_keeps | apply State.loadStep_keeps | apply State.restartTicks_keeps |
      apply State.Keeps.each | apply State.Keeps.foldl | refine State.Keeps.snd (by assumption) ?_)
    | split | (with_reducible refine State.Keeps.upd rfl rfl ?_) | rfl | exact hr.same rfl rfl rfl)

theorem stepCcBoot_keeps {f : BootFacts} {r₀ s : State} (hr : r₀.Keeps s) : r₀.Keeps (stepCcBoot f s) := by
  unfold stepCcBoot
  repeat' (first
    | with_reducible (first | assumption | exact fun _ => rfl | intro _)
    | dsimp only
    | with_reducible (first | apply State.Keeps.ite | apply State.resetHold_keeps | apply State.bootChain_keeps |
      apply State.afterBoot_keeps | apply State.Keeps.each | apply State.Keeps.foldl |
      refine State.Keeps.snd (by assumption) ?_)
    | split | (with_reducible refine State.Keeps.upd rfl rfl ?_) | rfl | exact hr.same rfl rfl rfl)

theorem stepBistRequest_keeps {fclk kind target : Nat} {r₀ s : State} (hr : r₀.Keeps s) : r₀.Keeps (stepBistRequest fclk kind target s) := by
  unfold stepBistRequest
  repeat' (first
    | with_reducible (first | assumption | exact fun _ => rfl | intro _)
    | dsimp only
    | with_reducible (first | apply State.Keeps.ite | apply State.updRst_keeps | apply State.Keeps.each |
      apply State.Keeps.foldl | refine State.Keeps.snd (by assumption) ?_)
    | split | (with_reducible refine State.Keeps.upd rfl rfl ?_) | rfl | exact hr.same rfl rfl rfl)

theorem State.retestPans_keeps {target : Nat} {r₀ s : State} (hr : r₀.Keeps s) : r₀.Keeps (State.retestPans s target) := by
  unfold State.retestPans
  repeat' (first
    | with_reducible (first | assumption | exact fun _ => rfl | intro _)
    | dsimp only
    | with_reducible (first | apply State.Keeps.ite  | apply State.Keeps.each | apply State.Keeps.foldl |
      refine State.Keeps.snd (by assumption) ?_)
    | split | (with_reducible refine State.Keeps.upd rfl rfl ?_) | rfl | exact hr.same rfl rfl rfl)

theorem State.loseDram_keeps {r₀ s : State} (hr : r₀.Keeps s) : r₀.Keeps (State.loseDram s) := by
  unfold State.loseDram
  repeat' (first
    | with_reducible (first | assumption | exact fun _ => rfl | intro _)
    | dsimp only
    | with_reducible (first | apply State.Keeps.ite | apply State.updFab_keeps | apply State.updDle_keeps |
      apply State.updWs_keeps | apply State.updSrv_keeps | apply State.Keeps.each | apply State.Keeps.foldl |
      refine State.Keeps.snd (by assumption) ?_)
    | split | (with_reducible refine State.Keeps.upd rfl rfl ?_) | rfl | exact hr.same rfl rfl rfl)

theorem State.afterTest_keeps {kind target : Nat} {r₀ s : State} (hr : r₀.Keeps s) : r₀.Keeps (State.afterTest s kind target) := by
  unfold State.afterTest
  repeat' (first
    | with_reducible (first | assumption | exact fun _ => rfl | intro _)
    | dsimp only
    | with_reducible (first | apply State.Keeps.ite | apply State.updDle_keeps | apply State.updPort_keeps |
      apply State.startTraining_keeps | apply State.loadStep_keeps | apply State.retestPans_keeps | apply State.loseDram_keeps |
      apply State.Keeps.each | apply State.Keeps.foldl | refine State.Keeps.snd (by assumption) ?_)
    | split | (with_reducible refine State.Keeps.upd rfl rfl ?_) | rfl | exact hr.same rfl rfl rfl)

theorem State.testFailures_keeps {kind : Nat} {units : List Nat} {r₀ s : State} (hr : r₀.Keeps s) : r₀.Keeps (State.testFailures s kind units) := by
  unfold State.testFailures
  repeat' (first
    | with_reducible (first | assumption | exact fun _ => rfl | intro _)
    | dsimp only
    | with_reducible (first | apply State.Keeps.ite | apply State.retireLane_keeps | apply State.resetHold_keeps |
      apply State.bistUnits_keeps | apply State.Keeps.each | apply State.Keeps.foldl |
      refine State.Keeps.snd (by assumption) ?_)
    | split | (with_reducible refine State.Keeps.upd rfl rfl ?_) | rfl | exact hr.same rfl rfl rfl)

theorem stepBistComplete_keeps {cond : Bool} {bad : List Nat} {r₀ s : State} (hr : r₀.Keeps s) : r₀.Keeps (stepBistComplete cond bad s) := by
  unfold stepBistComplete
  repeat' (first
    | with_reducible (first | assumption | exact fun _ => rfl | intro _)
    | dsimp only
    | with_reducible (first | apply State.Keeps.ite | apply State.updRst_keeps | apply State.afterTest_keeps |
      apply State.testFailures_keeps | apply State.Keeps.each | apply State.Keeps.foldl |
      refine State.Keeps.snd (by assumption) ?_)
    | split | (with_reducible refine State.Keeps.upd rfl rfl ?_) | rfl | exact hr.same rfl rfl rfl)

theorem State.enterFurl_keeps {r s : State} (hr : r.Keeps s) : r.Keeps s.enterFurl := by
  unfold State.enterFurl
  exact State.dropHold_keeps (hr.empty rfl rfl rfl)

theorem State.applyFurl_keeps {r₀ s : State} (hr : r₀.Keeps s) : r₀.Keeps (State.applyFurl s) := by
  unfold State.applyFurl
  repeat' (first
    | with_reducible (first | assumption | exact fun _ => rfl | intro _)
    | dsimp only
    | with_reducible (first | apply State.Keeps.ite | apply State.updHk_keeps | apply State.enterFurl_keeps |
      apply State.Keeps.each | apply State.Keeps.foldl | refine State.Keeps.snd (by assumption) ?_)
    | split | (with_reducible refine State.Keeps.upd rfl rfl ?_) | rfl | exact hr.same rfl rfl rfl)

theorem stepFurlRequest_keeps {r₀ s : State} (hr : r₀.Keeps s) : r₀.Keeps (stepFurlRequest s) := by
  unfold stepFurlRequest
  repeat' (first
    | with_reducible (first | assumption | exact fun _ => rfl | intro _)
    | dsimp only
    | with_reducible (first | apply State.Keeps.ite | apply State.updHk_keeps | apply State.Keeps.each |
      apply State.Keeps.foldl | refine State.Keeps.snd (by assumption) ?_)
    | split | (with_reducible refine State.Keeps.upd rfl rfl ?_) | rfl | exact hr.same rfl rfl rfl)

theorem stepMgmtFurl_keeps {r₀ s : State} (hr : r₀.Keeps s) : r₀.Keeps (stepMgmtFurl s) := by
  unfold stepMgmtFurl
  repeat' (first
    | with_reducible (first | assumption | exact fun _ => rfl | intro _)
    | dsimp only
    | with_reducible (first | apply State.Keeps.ite | apply stepFurlRequest_keeps | apply State.Keeps.each |
      apply State.Keeps.foldl | refine State.Keeps.snd (by assumption) ?_)
    | split | (with_reducible refine State.Keeps.upd rfl rfl ?_) | rfl | exact hr.same rfl rfl rfl)

theorem stepWakeN_keeps {r₀ s : State} (hr : r₀.Keeps s) : r₀.Keeps (stepWakeN s) := by
  unfold stepWakeN
  repeat' (first
    | with_reducible (first | assumption | exact fun _ => rfl | intro _)
    | dsimp only
    | with_reducible (first | apply State.Keeps.ite | apply State.updRst_keeps | apply State.Keeps.each |
      apply State.Keeps.foldl | refine State.Keeps.snd (by assumption) ?_)
    | split | (with_reducible refine State.Keeps.upd rfl rfl ?_) | rfl | exact hr.same rfl rfl rfl)

theorem stepMgmtWake_keeps {r₀ s : State} (hr : r₀.Keeps s) : r₀.Keeps (stepMgmtWake s) := by
  unfold stepMgmtWake
  repeat' (first
    | with_reducible (first | assumption | exact fun _ => rfl | intro _)
    | dsimp only
    | with_reducible (first | apply State.Keeps.ite | apply stepWakeN_keeps | apply State.Keeps.each | apply State.Keeps.foldl |
      refine State.Keeps.snd (by assumption) ?_)
    | split | (with_reducible refine State.Keeps.upd rfl rfl ?_) | rfl | exact hr.same rfl rfl rfl)

theorem State.tripRecord_keeps {kind sensor : Nat} {temp : Int} {r₀ s : State} (hr : r₀.Keeps s) : r₀.Keeps (State.tripRecord s kind sensor temp) := by
  unfold State.tripRecord
  repeat' (first
    | with_reducible (first | assumption | exact fun _ => rfl | intro _)
    | dsimp only
    | with_reducible (first | apply State.Keeps.ite | apply State.updNv_keeps | apply State.Keeps.each |
      apply State.Keeps.foldl | refine State.Keeps.snd (by assumption) ?_)
    | split | (with_reducible refine State.Keeps.upd rfl rfl ?_) | rfl | exact hr.same rfl rfl rfl)

theorem stepThermalTrip_keeps {sensor : Nat} {temp : Int} {r₀ s : State} (hr : r₀.Keeps s) : r₀.Keeps (stepThermalTrip sensor temp s) := by
  unfold stepThermalTrip
  repeat' (first
    | with_reducible (first | assumption | exact fun _ => rfl | intro _)
    | dsimp only
    | with_reducible (first | apply State.Keeps.ite | apply State.updCn_keeps | apply State.raiseIbi_keeps |
      apply State.enterFurl_keeps | apply State.tripRecord_keeps | apply State.Keeps.each | apply State.Keeps.foldl |
      refine State.Keeps.snd (by assumption) ?_)
    | split | (with_reducible refine State.Keeps.upd rfl rfl ?_) | rfl | exact hr.same rfl rfl rfl)

theorem stepVinFault_keeps {r₀ s : State} (hr : r₀.Keeps s) : r₀.Keeps (stepVinFault s) := by
  unfold stepVinFault
  repeat' (first
    | with_reducible (first | assumption | exact fun _ => rfl | intro _)
    | dsimp only
    | with_reducible (first | apply State.Keeps.ite | apply State.updCn_keeps | apply State.take32_keeps |
      apply State.raiseIbi_keeps | apply State.enterFurl_keeps | apply State.tripRecord_keeps | apply State.Keeps.each |
      apply State.Keeps.foldl | refine State.Keeps.snd (by assumption) ?_)
    | split | (with_reducible refine State.Keeps.upd rfl rfl ?_) | rfl | exact hr.same rfl rfl rfl)

theorem State.islandGo_keeps {op i : Nat} {r₀ s : State} (hr : r₀.Keeps s) : r₀.Keeps (State.islandGo s op i) := by
  unfold State.islandGo
  repeat' (first
    | with_reducible (first | assumption | exact fun _ => rfl | intro _)
    | dsimp only
    | with_reducible (first | apply State.Keeps.ite | apply State.updHk_keeps | apply State.Keeps.each |
      apply State.Keeps.foldl | refine State.Keeps.snd (by assumption) ?_)
    | split | (with_reducible refine State.Keeps.upd rfl rfl ?_) | rfl | exact hr.same rfl rfl rfl)

theorem stepIslandFurlRetain_keeps {i : Nat} {r₀ s : State} (hr : r₀.Keeps s) : r₀.Keeps (stepIslandFurlRetain i s) := by
  unfold stepIslandFurlRetain
  repeat' (first
    | with_reducible (first | assumption | exact fun _ => rfl | intro _)
    | dsimp only
    | with_reducible (first | apply State.Keeps.ite | apply State.islandGo_keeps | apply State.Keeps.each |
      apply State.Keeps.foldl | refine State.Keeps.snd (by assumption) ?_)
    | split | (with_reducible refine State.Keeps.upd rfl rfl ?_) | rfl | exact hr.same rfl rfl rfl)

theorem stepIslandFurlDark_keeps {i : Nat} {r₀ s : State} (hr : r₀.Keeps s) : r₀.Keeps (stepIslandFurlDark i s) := by
  unfold stepIslandFurlDark
  repeat' (first
    | with_reducible (first | assumption | exact fun _ => rfl | intro _)
    | dsimp only
    | with_reducible (first | apply State.Keeps.ite | apply State.islandGo_keeps | apply State.Keeps.each |
      apply State.Keeps.foldl | refine State.Keeps.snd (by assumption) ?_)
    | split | (with_reducible refine State.Keeps.upd rfl rfl ?_) | rfl | exact hr.same rfl rfl rfl)

theorem stepIslandUnfurl_keeps {i : Nat} {r₀ s : State} (hr : r₀.Keeps s) : r₀.Keeps (stepIslandUnfurl i s) := by
  unfold stepIslandUnfurl
  repeat' (first
    | with_reducible (first | assumption | exact fun _ => rfl | intro _)
    | dsimp only
    | with_reducible (first | apply State.Keeps.ite | apply State.islandGo_keeps | apply State.Keeps.each |
      apply State.Keeps.foldl | refine State.Keeps.snd (by assumption) ?_)
    | split | (with_reducible refine State.Keeps.upd rfl rfl ?_) | rfl | exact hr.same rfl rfl rfl)

theorem State.loseIsland_keeps {i : Nat} {r₀ s : State} (hr : r₀.Keeps s) : r₀.Keeps (State.loseIsland s i) := by
  unfold State.loseIsland
  repeat' (first
    | with_reducible (first | assumption | exact fun _ => rfl | intro _)
    | dsimp only
    | with_reducible (first | apply State.Keeps.ite  | apply State.Keeps.each | apply State.Keeps.foldl |
      refine State.Keeps.snd (by assumption) ?_)
    | split | (with_reducible refine State.Keeps.upd rfl rfl ?_) | rfl | exact hr.same rfl rfl rfl)

theorem State.refuseIsland_keeps {reason : Nat} {r₀ s : State} (hr : r₀.Keeps s) : r₀.Keeps (State.refuseIsland s reason) := by
  unfold State.refuseIsland
  repeat' (first
    | with_reducible (first | assumption | exact fun _ => rfl | intro _)
    | dsimp only
    | with_reducible (first | apply State.Keeps.ite | apply State.updHk_keeps | apply State.Keeps.each |
      apply State.Keeps.foldl | refine State.Keeps.snd (by assumption) ?_)
    | split | (with_reducible refine State.Keeps.upd rfl rfl ?_) | rfl | exact hr.same rfl rfl rfl)

theorem State.furlIsland_keeps {dark : Bool} {i : Nat} {r₀ s : State} (hr : r₀.Keeps s) : r₀.Keeps (State.furlIsland s dark i) := by
  unfold State.furlIsland
  repeat' (first
    | with_reducible (first | assumption | exact fun _ => rfl | intro _)
    | dsimp only
    | with_reducible (first | apply State.Keeps.ite | apply State.updIsl_keeps | apply State.loseIsland_keeps |
      apply State.refuseIsland_keeps | apply State.Keeps.each | apply State.Keeps.foldl |
      refine State.Keeps.snd (by assumption) ?_)
    | split | (with_reducible refine State.Keeps.upd rfl rfl ?_) | rfl | exact hr.same rfl rfl rfl)

theorem State.unfurlIsland_keeps {i : Nat} {r₀ s : State} (hr : r₀.Keeps s) : r₀.Keeps (State.unfurlIsland s i) := by
  unfold State.unfurlIsland
  repeat' (first
    | with_reducible (first | assumption | exact fun _ => rfl | intro _)
    | dsimp only
    | with_reducible (first | apply State.Keeps.ite | apply State.updIsl_keeps | apply State.Keeps.each |
      apply State.Keeps.foldl | refine State.Keeps.snd (by assumption) ?_)
    | split | (with_reducible refine State.Keeps.upd rfl rfl ?_) | rfl | exact hr.same rfl rfl rfl)

theorem State.applyIslands_keeps {r₀ s : State} (hr : r₀.Keeps s) : r₀.Keeps (State.applyIslands s) := by
  unfold State.applyIslands
  repeat' (first
    | with_reducible (first | assumption | exact fun _ => rfl | intro _)
    | dsimp only
    | with_reducible (first | apply State.Keeps.ite | apply State.updHk_keeps | apply State.furlIsland_keeps |
      apply State.unfurlIsland_keeps | apply State.Keeps.each | apply State.Keeps.foldl |
      refine State.Keeps.snd (by assumption) ?_)
    | split | (with_reducible refine State.Keeps.upd rfl rfl ?_) | rfl | exact hr.same rfl rfl rfl)

theorem stepIslandFurlComplete_keeps {i : Nat} {r₀ s : State} (hr : r₀.Keeps s) : r₀.Keeps (stepIslandFurlComplete i s) := by
  unfold stepIslandFurlComplete
  repeat' (first
    | with_reducible (first | assumption | exact fun _ => rfl | intro _)
    | dsimp only
    | with_reducible (first | apply State.Keeps.ite | apply State.updIsl_keeps | apply State.Keeps.each |
      apply State.Keeps.foldl | refine State.Keeps.snd (by assumption) ?_)
    | split | (with_reducible refine State.Keeps.upd rfl rfl ?_) | rfl | exact hr.same rfl rfl rfl)

theorem State.jumpTaps_keeps {i : Nat} {r₀ s : State} (hr : r₀.Keeps s) : r₀.Keeps (State.jumpTaps s i) := by
  unfold State.jumpTaps
  repeat' (first
    | with_reducible (first | assumption | exact fun _ => rfl | intro _)
    | dsimp only
    | with_reducible (first | apply State.Keeps.ite  | apply State.Keeps.each | apply State.Keeps.foldl |
      refine State.Keeps.snd (by assumption) ?_)
    | split | (with_reducible refine State.Keeps.upd rfl rfl ?_) | rfl | exact hr.same rfl rfl rfl)

theorem State.refillIsland_keeps {i : Nat} {r₀ s : State} (hr : r₀.Keeps s) : r₀.Keeps (State.refillIsland s i) := by
  unfold State.refillIsland
  repeat' (first
    | with_reducible (first | assumption | exact fun _ => rfl | intro _)
    | dsimp only
    | with_reducible (first | apply State.Keeps.ite | apply State.loadBodies_keeps | apply stepTrimStoreLoad_keeps |
      apply State.Keeps.each | apply State.Keeps.foldl | refine State.Keeps.snd (by assumption) ?_)
    | split | (with_reducible refine State.Keeps.upd rfl rfl ?_) | rfl | exact hr.same rfl rfl rfl)

theorem stepIslandUnfurlComplete_keeps {i : Nat} {r₀ s : State} (hr : r₀.Keeps s) : r₀.Keeps (stepIslandUnfurlComplete i s) := by
  unfold stepIslandUnfurlComplete
  repeat' (first
    | with_reducible (first | assumption | exact fun _ => rfl | intro _)
    | dsimp only
    | with_reducible (first | apply State.Keeps.ite | apply State.updIsl_keeps | apply State.jumpTaps_keeps |
      apply State.refillIsland_keeps | apply State.Keeps.each | apply State.Keeps.foldl |
      refine State.Keeps.snd (by assumption) ?_)
    | split | (with_reducible refine State.Keeps.upd rfl rfl ?_) | rfl | exact hr.same rfl rfl rfl)

theorem stepRtcSet_keeps {r₀ s : State} (hr : r₀.Keeps s) : r₀.Keeps (stepRtcSet s) := by
  unfold stepRtcSet
  repeat' (first
    | with_reducible (first | assumption | exact fun _ => rfl | intro _)
    | dsimp only
    | with_reducible (first | apply State.Keeps.ite | apply State.updCn_keeps | apply State.Keeps.each |
      apply State.Keeps.foldl | refine State.Keeps.snd (by assumption) ?_)
    | split | (with_reducible refine State.Keeps.upd rfl rfl ?_) | rfl | exact hr.same rfl rfl rfl)

theorem stepMgmtDenyWrite_keeps {entry : Nat} {v : W32} {r₀ s : State} (hr : r₀.Keeps s) : r₀.Keeps (stepMgmtDenyWrite entry v s) := by
  unfold stepMgmtDenyWrite
  repeat' (first
    | with_reducible (first | assumption | exact fun _ => rfl | intro _)
    | dsimp only
    | with_reducible (first | apply State.Keeps.ite | apply stepDenyWrite_keeps | apply State.Keeps.each |
      apply State.Keeps.foldl | refine State.Keeps.snd (by assumption) ?_)
    | split | (with_reducible refine State.Keeps.upd rfl rfl ?_) | rfl | exact hr.same rfl rfl rfl)

theorem State.writeReefFloor_keeps {v : W32} {r₀ s : State} (hr : r₀.Keeps s) : r₀.Keeps (State.writeReefFloor s v) := by
  unfold State.writeReefFloor
  repeat' (first
    | with_reducible (first | assumption | exact fun _ => rfl | intro _)
    | dsimp only
    | with_reducible (first | apply State.Keeps.ite | apply State.updCn_keeps | apply State.Keeps.each |
      apply State.Keeps.foldl | refine State.Keeps.snd (by assumption) ?_)
    | split | (with_reducible refine State.Keeps.upd rfl rfl ?_) | rfl | exact hr.same rfl rfl rfl)

theorem stepMgmtReefFloorWrite_keeps {v : W32} {r₀ s : State} (hr : r₀.Keeps s) : r₀.Keeps (stepMgmtReefFloorWrite v s) := by
  unfold stepMgmtReefFloorWrite
  repeat' (first
    | with_reducible (first | assumption | exact fun _ => rfl | intro _)
    | dsimp only
    | with_reducible (first | apply State.Keeps.ite | apply State.writeReefFloor_keeps | apply State.Keeps.each |
      apply State.Keeps.foldl | refine State.Keeps.snd (by assumption) ?_)
    | split | (with_reducible refine State.Keeps.upd rfl rfl ?_) | rfl | exact hr.same rfl rfl rfl)

theorem State.writeI3cCfg_keeps {v : W32} {r₀ s : State} (hr : r₀.Keeps s) : r₀.Keeps (State.writeI3cCfg s v) := by
  unfold State.writeI3cCfg
  repeat' (first
    | with_reducible (first | assumption | exact fun _ => rfl | intro _)
    | dsimp only
    | with_reducible (first | apply State.Keeps.ite | apply State.updCn_keeps | apply State.Keeps.each |
      apply State.Keeps.foldl | refine State.Keeps.snd (by assumption) ?_)
    | split | (with_reducible refine State.Keeps.upd rfl rfl ?_) | rfl | exact hr.same rfl rfl rfl)

theorem stepMgmtI3cCfgWrite_keeps {v : W32} {r₀ s : State} (hr : r₀.Keeps s) : r₀.Keeps (stepMgmtI3cCfgWrite v s) := by
  unfold stepMgmtI3cCfgWrite
  repeat' (first
    | with_reducible (first | assumption | exact fun _ => rfl | intro _)
    | dsimp only
    | with_reducible (first | apply State.Keeps.ite | apply State.writeI3cCfg_keeps | apply State.Keeps.each |
      apply State.Keeps.foldl | refine State.Keeps.snd (by assumption) ?_)
    | split | (with_reducible refine State.Keeps.upd rfl rfl ?_) | rfl | exact hr.same rfl rfl rfl)

theorem stepMgmtTripRecordRead_keeps {i : Nat} {r₀ s : State} (hr : r₀.Keeps s) : r₀.Keeps (stepMgmtTripRecordRead i s) := by
  unfold stepMgmtTripRecordRead
  repeat' (first
    | with_reducible (first | assumption | exact fun _ => rfl | intro _)
    | dsimp only
    | with_reducible (first | apply State.Keeps.ite | apply State.emit_keeps | apply State.Keeps.each |
      apply State.Keeps.foldl | refine State.Keeps.snd (by assumption) ?_)
    | split | (with_reducible refine State.Keeps.upd rfl rfl ?_) | rfl | exact hr.same rfl rfl rfl)

theorem State.updChan_keeps {c : Nat} {f : Chan → Chan} {r₀ s : State} (hr : r₀.Keeps s) : r₀.Keeps (State.updChan s c f) := by
  unfold State.updChan
  repeat' (first
    | with_reducible (first | assumption | exact fun _ => rfl | intro _)
    | dsimp only
    | with_reducible (first | apply State.Keeps.ite | apply State.updHk_keeps | apply State.Keeps.each |
      apply State.Keeps.foldl | refine State.Keeps.snd (by assumption) ?_)
    | split | (with_reducible refine State.Keeps.upd rfl rfl ?_) | rfl | exact hr.same rfl rfl rfl)

theorem State.pushResult_keeps {trig stale : Bool} {c : Nat} {v : BitVec 16} {r₀ s : State} (hr : r₀.Keeps s) : r₀.Keeps (State.pushResult s trig stale c v) := by
  unfold State.pushResult
  repeat' (first
    | with_reducible (first | assumption | exact fun _ => rfl | intro _)
    | dsimp only
    | with_reducible (first | apply State.Keeps.ite | apply State.updHk_keeps | apply State.overflow_keeps |
      apply State.Keeps.each | apply State.Keeps.foldl | refine State.Keeps.snd (by assumption) ?_)
    | split | (with_reducible refine State.Keeps.upd rfl rfl ?_) | rfl | exact hr.same rfl rfl rfl)

theorem State.islandTemp_keeps {i : Nat} {t : Int} {subst : Bool} {r₀ s : State} (hr : r₀.Keeps s) : r₀.Keeps (State.islandTemp s i t subst) := by
  unfold State.islandTemp
  repeat' (first
    | with_reducible (first | assumption | exact fun _ => rfl | intro _)
    | dsimp only
    | with_reducible (first | apply State.Keeps.ite | apply State.updPan_keeps | apply State.Keeps.each |
      apply State.Keeps.foldl | refine State.Keeps.snd (by assumption) ?_)
    | split | (with_reducible refine State.Keeps.upd rfl rfl ?_) | rfl | exact hr.same rfl rfl rfl)

theorem State.feedTemps_keeps {c : Nat} {r₀ s : State} (hr : r₀.Keeps s) : r₀.Keeps (State.feedTemps s c) := by
  unfold State.feedTemps
  repeat' (first
    | with_reducible (first | assumption | exact fun _ => rfl | intro _)
    | dsimp only
    | with_reducible (first | apply State.Keeps.ite | apply State.islandTemp_keeps | apply State.Keeps.each |
      apply State.Keeps.foldl | refine State.Keeps.snd (by assumption) ?_)
    | split | (with_reducible refine State.Keeps.upd rfl rfl ?_) | rfl | exact hr.same rfl rfl rfl)

theorem State.checkRail_keeps {c : Nat} {r₀ s : State} (hr : r₀.Keeps s) : r₀.Keeps (State.checkRail s c) := by
  unfold State.checkRail
  repeat' (first
    | with_reducible (first | assumption | exact fun _ => rfl | intro _)
    | dsimp only
    | with_reducible (first | apply State.Keeps.ite | apply State.updHk_keeps | apply State.dueDeny_keeps |
      apply State.Keeps.each | apply State.Keeps.foldl | refine State.Keeps.snd (by assumption) ?_)
    | split | (with_reducible refine State.Keeps.upd rfl rfl ?_) | rfl | exact hr.same rfl rfl rfl)

theorem State.trimError_keeps {p ecc : Nat} {r₀ s : State} (hr : r₀.Keeps s) : r₀.Keeps (State.trimError s p ecc) := by
  unfold State.trimError
  repeat' (first
    | with_reducible (first | assumption | exact fun _ => rfl | intro _)
    | dsimp only
    | with_reducible (first | apply State.Keeps.ite | apply State.updPan_keeps | apply State.logEvent_keeps |
      apply State.Keeps.each | apply State.Keeps.foldl | refine State.Keeps.snd (by assumption) ?_)
    | split | (with_reducible refine State.Keeps.upd rfl rfl ?_) | rfl | exact hr.same rfl rfl rfl)

theorem stepHkConversionComplete_keeps {c : Nat} {v : Int} {good triggered : Bool} {trimEcc : List (Nat × Nat)} {r₀ s : State} (hr : r₀.Keeps s) : r₀.Keeps (stepHkConversionComplete c v good triggered trimEcc s) := by
  unfold stepHkConversionComplete
  repeat' (first
    | with_reducible (first | assumption | exact fun _ => rfl | intro _)
    | dsimp only
    | with_reducible (first | apply State.Keeps.ite | apply State.updHk_keeps | apply State.updChan_keeps |
      apply State.pushResult_keeps | apply State.feedTemps_keeps | apply State.checkRail_keeps | apply State.trimError_keeps |
      apply State.Keeps.each | apply State.Keeps.foldl | refine State.Keeps.snd (by assumption) ?_)
    | split | (with_reducible refine State.Keeps.upd rfl rfl ?_) | rfl | exact hr.same rfl rfl rfl)

theorem stepHkRoundEnd_keeps {r₀ s : State} (hr : r₀.Keeps s) : r₀.Keeps (stepHkRoundEnd s) := by
  unfold stepHkRoundEnd
  repeat' (first
    | with_reducible (first | assumption | exact fun _ => rfl | intro _)
    | dsimp only
    | with_reducible (first | apply State.Keeps.ite | apply State.updHk_keeps | apply State.emit_keeps |
      apply State.beginMargining_keeps | apply State.laneShares_keeps | apply State.Keeps.each | apply State.Keeps.foldl |
      refine State.Keeps.snd (by assumption) ?_)
    | split | (with_reducible refine State.Keeps.upd rfl rfl ?_) | rfl | exact hr.same rfl rfl rfl)

theorem stepHeadFractionUpdate_keeps {pkg f : Nat} {rate : RateReport} {r₀ s : State} (hr : r₀.Keeps s) : r₀.Keeps (stepHeadFractionUpdate pkg f rate s) := by
  unfold stepHeadFractionUpdate
  repeat' (first
    | with_reducible (first | assumption | exact fun _ => rfl | intro _)
    | dsimp only
    | with_reducible (first | apply State.Keeps.ite | apply State.updLnk_keeps | apply State.Keeps.each |
      apply State.Keeps.foldl | refine State.Keeps.snd (by assumption) ?_)
    | split | (with_reducible refine State.Keeps.upd rfl rfl ?_) | rfl | exact hr.same rfl rfl rfl)

theorem stepHkTrigger_keeps {busy : Bool} {r₀ s : State} (hr : r₀.Keeps s) : r₀.Keeps (stepHkTrigger busy s) := by
  unfold stepHkTrigger
  repeat' (first
    | with_reducible (first | assumption | exact fun _ => rfl | intro _)
    | dsimp only
    | with_reducible (first | apply State.Keeps.ite | apply State.updHk_keeps | apply State.Keeps.each |
      apply State.Keeps.foldl | refine State.Keeps.snd (by assumption) ?_)
    | split | (with_reducible refine State.Keeps.upd rfl rfl ?_) | rfl | exact hr.same rfl rfl rfl)

theorem State.readFifo_keeps {r₀ s : State} (hr : r₀.Keeps s) : r₀.Keeps (State.readFifo s).2 := by
  unfold State.readFifo
  repeat' (first
    | with_reducible (first | assumption | exact fun _ => rfl | intro _)
    | dsimp only
    | with_reducible (first | apply State.Keeps.ite | apply State.updHk_keeps | apply State.Keeps.each |
      apply State.Keeps.foldl | refine State.Keeps.snd (by assumption) ?_)
    | split | (with_reducible refine State.Keeps.upd rfl rfl ?_) | rfl | exact hr.same rfl rfl rfl)

theorem stepHkFifoDataRead_keeps {r₀ s : State} (hr : r₀.Keeps s) : r₀.Keeps (stepHkFifoDataRead s) := by
  unfold stepHkFifoDataRead
  repeat' (first
    | with_reducible (first | assumption | exact fun _ => rfl | intro _)
    | dsimp only
    | with_reducible (first | apply State.Keeps.ite | apply State.emit_keeps | apply State.readFifo_keeps |
      apply State.Keeps.each | apply State.Keeps.foldl | refine State.Keeps.snd (by assumption) ?_)
    | split | (with_reducible refine State.Keeps.upd rfl rfl ?_) | rfl | exact hr.same rfl rfl rfl)

theorem State.digGo_keeps {p : Nat} {write : Bool} {a row : Nat} {r₀ s : State} (hr : r₀.Keeps s) : r₀.Keeps (State.digGo s p write a row) := by
  unfold State.digGo
  repeat' (first
    | with_reducible (first | assumption | exact fun _ => rfl | intro _)
    | dsimp only
    | with_reducible (first | apply State.Keeps.ite | apply State.updPan_keeps | apply State.Keeps.each |
      apply State.Keeps.foldl | refine State.Keeps.snd (by assumption) ?_)
    | split | (with_reducible refine State.Keeps.upd rfl rfl ?_) | rfl | exact hr.same rfl rfl rfl)

theorem stepPanDigComplete_keeps {p : Nat} {r₀ s : State} (hr : r₀.Keeps s) : r₀.Keeps (stepPanDigComplete p s) := by
  unfold stepPanDigComplete
  repeat' (first
    | with_reducible (first | assumption | exact fun _ => rfl | intro _)
    | dsimp only
    | with_reducible (first | apply State.Keeps.ite | apply State.updPan_keeps | apply State.updArr_keeps |
      apply State.Keeps.each | apply State.Keeps.foldl | refine State.Keeps.snd (by assumption) ?_)
    | split | (with_reducible refine State.Keeps.upd rfl rfl ?_) | rfl | exact hr.same rfl rfl rfl)

theorem stepPanDigRead_keeps {p a row : Nat} {r₀ s : State} (hr : r₀.Keeps s) : r₀.Keeps (stepPanDigRead p a row s) := by
  unfold stepPanDigRead
  repeat' (first
    | with_reducible (first | assumption | exact fun _ => rfl | intro _)
    | dsimp only
    | with_reducible (first | apply State.Keeps.ite | apply State.digGo_keeps | apply State.Keeps.each |
      apply State.Keeps.foldl | refine State.Keeps.snd (by assumption) ?_)
    | split | (with_reducible refine State.Keeps.upd rfl rfl ?_) | rfl | exact hr.same rfl rfl rfl)

theorem stepPanDigWrite_keeps {p a row : Nat} {r₀ s : State} (hr : r₀.Keeps s) : r₀.Keeps (stepPanDigWrite p a row s) := by
  unfold stepPanDigWrite
  repeat' (first
    | with_reducible (first | assumption | exact fun _ => rfl | intro _)
    | dsimp only
    | with_reducible (first | apply State.Keeps.ite | apply State.digGo_keeps | apply State.Keeps.each |
      apply State.Keeps.foldl | refine State.Keeps.snd (by assumption) ?_)
    | split | (with_reducible refine State.Keeps.upd rfl rfl ?_) | rfl | exact hr.same rfl rfl rfl)

theorem stepClampWindowClose_keeps {r₀ s : State} (hr : r₀.Keeps s) : r₀.Keeps (stepClampWindowClose s) := by
  unfold stepClampWindowClose
  repeat' (first
    | with_reducible (first | assumption | exact fun _ => rfl | intro _)
    | dsimp only
    | with_reducible (first | apply State.Keeps.ite | apply State.updFab_keeps | apply State.updClamp_keeps |
      apply State.logEvent_keeps | apply State.Keeps.each | apply State.Keeps.foldl | refine State.Keeps.snd (by assumption) ?_)
    | split | (with_reducible refine State.Keeps.upd rfl rfl ?_) | rfl | exact hr.same rfl rfl rfl)

theorem State.setWide_keeps {l : List (Nat × Nat)} {w : Bool} {r₀ s : State} (hr : r₀.Keeps s) : r₀.Keeps (State.setWide s l w) := by
  unfold State.setWide
  repeat' (first
    | with_reducible (first | assumption | exact fun _ => rfl | intro _)
    | dsimp only
    | with_reducible (first | apply State.Keeps.ite | apply State.updArr_keeps | apply State.Keeps.each |
      apply State.Keeps.foldl | refine State.Keeps.snd (by assumption) ?_)
    | split | (with_reducible refine State.Keeps.upd rfl rfl ?_) | rfl | exact hr.same rfl rfl rfl)

theorem stepClampPolicyAction_keeps {slot : Nat} {r₀ s : State} (hr : r₀.Keeps s) : r₀.Keeps (stepClampPolicyAction slot s) := by
  unfold stepClampPolicyAction
  repeat' (first
    | with_reducible (first | assumption | exact fun _ => rfl | intro _)
    | dsimp only
    | with_reducible (first | apply State.Keeps.ite | apply State.updClamp_keeps | apply State.turnBank_keeps |
      apply State.setWide_keeps | apply State.Keeps.each | apply State.Keeps.foldl | refine State.Keeps.snd (by assumption) ?_)
    | split | (with_reducible refine State.Keeps.upd rfl rfl ?_) | rfl | exact hr.same rfl rfl rfl)

theorem stepDleLayerCopyComplete_keeps {slot : Nat} {verified : Bool} {r₀ s : State} (hr : r₀.Keeps s) : r₀.Keeps (stepDleLayerCopyComplete slot verified s) := by
  unfold stepDleLayerCopyComplete
  repeat' (first
    | with_reducible (first | assumption | exact fun _ => rfl | intro _)
    | dsimp only
    | with_reducible (first | apply State.Keeps.ite | apply State.updWs_keeps | apply State.updClamp_keeps |
      apply State.Keeps.each | apply State.Keeps.foldl | refine State.Keeps.snd (by assumption) ?_)
    | split | (with_reducible refine State.Keeps.upd rfl rfl ?_) | rfl | exact hr.same rfl rfl rfl)

theorem stepClampRestore_keeps {slot : Nat} {r₀ s : State} (hr : r₀.Keeps s) : r₀.Keeps (stepClampRestore slot s) := by
  unfold stepClampRestore
  repeat' (first
    | with_reducible (first | assumption | exact fun _ => rfl | intro _)
    | dsimp only
    | with_reducible (first | apply State.Keeps.ite | apply State.updClamp_keeps | apply State.Keeps.each |
      apply State.Keeps.foldl | refine State.Keeps.snd (by assumption) ?_)
    | split | (with_reducible refine State.Keeps.upd rfl rfl ?_) | rfl | exact hr.same rfl rfl rfl)

theorem State.applyRestores_keeps {r₀ s : State} (hr : r₀.Keeps s) : r₀.Keeps (State.applyRestores s) := by
  unfold State.applyRestores
  repeat' (first
    | with_reducible (first | assumption | exact fun _ => rfl | intro _)
    | dsimp only
    | with_reducible (first | apply State.Keeps.ite | apply State.updWs_keeps | apply State.updClamp_keeps |
      apply State.turnBank_keeps | apply State.setWide_keeps | apply State.Keeps.each | apply State.Keeps.foldl |
      refine State.Keeps.snd (by assumption) ?_)
    | split | (with_reducible refine State.Keeps.upd rfl rfl ?_) | rfl | exact hr.same rfl rfl rfl)

theorem State.applyBudget_keeps {r₀ s : State} (hr : r₀.Keeps s) : r₀.Keeps (State.applyBudget s) := by
  unfold State.applyBudget
  repeat' (first
    | with_reducible (first | assumption | exact fun _ => rfl | intro _)
    | dsimp only
    | with_reducible (first | apply State.Keeps.ite | apply State.updFab_keeps | apply State.Keeps.each |
      apply State.Keeps.foldl | refine State.Keeps.snd (by assumption) ?_)
    | split | (with_reducible refine State.Keeps.upd rfl rfl ?_) | rfl | exact hr.same rfl rfl rfl)

theorem State.readPend_keeps {f g : Nat} {high : Bool} {r₀ s : State} (hr : r₀.Keeps s) : r₀.Keeps (State.readPend s f g high).2 := by
  unfold State.readPend
  repeat' (first
    | with_reducible (first | assumption | exact fun _ => rfl | intro _)
    | dsimp only
    | with_reducible (first | apply State.Keeps.ite | apply State.unlatch_keeps | apply State.clearPend_keeps |
      apply State.readPendLo_keeps | apply State.Keeps.each | apply State.Keeps.foldl |
      refine State.Keeps.snd (by assumption) ?_)
    | split | (with_reducible refine State.Keeps.upd rfl rfl ?_) | rfl | exact hr.same rfl rfl rfl)

theorem State.readReg_keeps {f blk o : Nat} {r₀ s : State} (hr : r₀.Keeps s) : r₀.Keeps (State.readReg s f blk o).2 := by
  unfold State.readReg
  repeat' (first
    | with_reducible (first | assumption | exact fun _ => rfl | intro _)
    | dsimp only
    | with_reducible (first | apply State.Keeps.ite | apply State.unlatch_keeps | apply State.latch_keeps |
      apply State.readFifo_keeps | apply State.readPend_keeps | apply State.Keeps.each | apply State.Keeps.foldl |
      refine State.Keeps.snd (by assumption) ?_)
    | split | (with_reducible refine State.Keeps.upd rfl rfl ?_) | rfl | exact hr.same rfl rfl rfl)

theorem State.readAt_keeps {f a : Nat} {r₀ s : State} (hr : r₀.Keeps s) : r₀.Keeps (State.readAt s f a).2 := by
  unfold State.readAt
  repeat' (first
    | with_reducible (first | assumption | exact fun _ => rfl | intro _)
    | dsimp only
    | with_reducible (first | apply State.Keeps.ite | apply State.readReg_keeps | apply State.Keeps.each |
      apply State.Keeps.foldl | refine State.Keeps.snd (by assumption) ?_)
    | split | (with_reducible refine State.Keeps.upd rfl rfl ?_) | rfl | exact hr.same rfl rfl rfl)

theorem State.readWords_keeps {f n a : Nat} {r s : State} (hr : r.Keeps s) : r.Keeps (State.readWords f n a s).2 := by
  induction n generalizing s a with
  | zero => exact hr
  | succ n ih => exact ih (State.readAt_keeps hr)

theorem stepLowWordRead_keeps {f : Nat} {slots : Bool} {off len : Nat} {r₀ s : State} (hr : r₀.Keeps s) : r₀.Keeps (stepLowWordRead f slots off len s) := by
  unfold stepLowWordRead
  repeat' (first
    | with_reducible (first | assumption | exact fun _ => rfl | intro _)
    | dsimp only
    | with_reducible (first | apply State.Keeps.ite | apply State.emit_keeps | apply State.readWords_keeps |
      apply State.Keeps.each | apply State.Keeps.foldl | refine State.Keeps.snd (by assumption) ?_)
    | split | (with_reducible refine State.Keeps.upd rfl rfl ?_) | rfl | exact hr.same rfl rfl rfl)

theorem stepSnapHold_keeps {r₀ s : State} (hr : r₀.Keeps s) : r₀.Keeps (stepSnapHold s) := by
  unfold stepSnapHold
  repeat' (first
    | with_reducible (first | assumption | exact fun _ => rfl | intro _)
    | dsimp only
    | with_reducible (first | apply State.Keeps.ite  | apply State.Keeps.each | apply State.Keeps.foldl |
      refine State.Keeps.snd (by assumption) ?_)
    | split | (with_reducible refine State.Keeps.upd rfl rfl ?_) | rfl | exact hr.same rfl rfl rfl)

theorem stepSnapRelease_keeps {r₀ s : State} (hr : r₀.Keeps s) : r₀.Keeps (stepSnapRelease s) := by
  unfold stepSnapRelease
  repeat' (first
    | with_reducible (first | assumption | exact fun _ => rfl | intro _)
    | dsimp only
    | with_reducible (first | apply State.Keeps.ite  | apply State.Keeps.each | apply State.Keeps.foldl |
      refine State.Keeps.snd (by assumption) ?_)
    | split | (with_reducible refine State.Keeps.upd rfl rfl ?_) | rfl | exact hr.same rfl rfl rfl)

theorem stepSnapHoldExpiry_keeps {r₀ s : State} (hr : r₀.Keeps s) : r₀.Keeps (stepSnapHoldExpiry s) := by
  unfold stepSnapHoldExpiry
  repeat' (first
    | with_reducible (first | assumption | exact fun _ => rfl | intro _)
    | dsimp only
    | with_reducible (first | apply State.Keeps.ite  | apply State.Keeps.each | apply State.Keeps.foldl |
      refine State.Keeps.snd (by assumption) ?_)
    | split | (with_reducible refine State.Keeps.upd rfl rfl ?_) | rfl | exact hr.same rfl rfl rfl)

theorem State.writeGlb_keeps {o : Nat} {v : W32} {r₀ s : State} (hr : r₀.Keeps s) : r₀.Keeps (State.writeGlb s o v) := by
  unfold State.writeGlb
  repeat' (first
    | with_reducible (first | assumption | exact fun _ => rfl | intro _)
    | dsimp only
    | with_reducible (first | apply State.Keeps.ite | apply stepSnapHold_keeps | apply stepSnapRelease_keeps |
      apply State.Keeps.each | apply State.Keeps.foldl | refine State.Keeps.snd (by assumption) ?_)
    | split | (with_reducible refine State.Keeps.upd rfl rfl ?_) | rfl | exact hr.same rfl rfl rfl)

theorem State.writeTime_keeps {o : Nat} {v : W32} {r₀ s : State} (hr : r₀.Keeps s) : r₀.Keeps (State.writeTime s o v) := by
  unfold State.writeTime
  repeat' (first
    | with_reducible (first | assumption | exact fun _ => rfl | intro _)
    | dsimp only
    | with_reducible (first | apply State.Keeps.ite | apply State.updTime_keeps | apply stepTimeStart_keeps |
      apply stepTimeStop_keeps | apply stepTickPeriodWrite_keeps | apply State.alignFault_keeps | apply State.Keeps.each |
      apply State.Keeps.foldl | refine State.Keeps.snd (by assumption) ?_)
    | split | (with_reducible refine State.Keeps.upd rfl rfl ?_) | rfl | exact hr.same rfl rfl rfl)

theorem State.writeClamp_keeps {l r : Nat} {v : W32} {r₀ s : State} (hr : r₀.Keeps s) : r₀.Keeps (State.writeClamp s l r v) := by
  unfold State.writeClamp
  repeat' (first
    | with_reducible (first | assumption | exact fun _ => rfl | intro _)
    | dsimp only
    | with_reducible (first | apply State.Keeps.ite | apply State.updClamp_keeps | apply stepClampRestore_keeps |
      apply State.Keeps.each | apply State.Keeps.foldl | refine State.Keeps.snd (by assumption) ?_)
    | split | (with_reducible refine State.Keeps.upd rfl rfl ?_) | rfl | exact hr.same rfl rfl rfl)

theorem State.writeFab_keeps {o : Nat} {v : W32} {r₀ s : State} (hr : r₀.Keeps s) : r₀.Keeps (State.writeFab s o v) := by
  unfold State.writeFab
  repeat' (first
    | with_reducible (first | assumption | exact fun _ => rfl | intro _)
    | dsimp only
    | with_reducible (first | apply State.Keeps.ite | apply State.updFab_keeps | apply stepVerifyRequest_keeps |
      apply State.writeClamp_keeps | apply State.Keeps.each | apply State.Keeps.foldl |
      refine State.Keeps.snd (by assumption) ?_)
    | split | (with_reducible refine State.Keeps.upd rfl rfl ?_) | rfl | exact hr.same rfl rfl rfl)

theorem State.writePan_keeps {p o : Nat} {v : W32} {r₀ s : State} (hr : r₀.Keeps s) : r₀.Keeps (State.writePan s p o v) := by
  unfold State.writePan
  repeat' (first
    | with_reducible (first | assumption | exact fun _ => rfl | intro _)
    | dsimp only
    | with_reducible (first | apply State.Keeps.ite | apply State.updPan_keeps | apply State.updArr_keeps |
      apply State.digGo_keeps | apply State.Keeps.each | apply State.Keeps.foldl | refine State.Keeps.snd (by assumption) ?_)
    | split | (with_reducible refine State.Keeps.upd rfl rfl ?_) | rfl | exact hr.same rfl rfl rfl)

theorem State.writeArb_keeps {r o : Nat} {v : W32} {r₀ s : State} (hr : r₀.Keeps s) : r₀.Keeps (State.writeArb s r o v) := by
  unfold State.writeArb
  repeat' (first
    | with_reducible (first | assumption | exact fun _ => rfl | intro _)
    | dsimp only
    | with_reducible (first | apply State.Keeps.ite | apply State.updArb_keeps | apply State.Keeps.each |
      apply State.Keeps.foldl | refine State.Keeps.snd (by assumption) ?_)
    | split | (with_reducible refine State.Keeps.upd rfl rfl ?_) | rfl | exact hr.same rfl rfl rfl)

theorem State.writeDle_keeps {o : Nat} {v : W32} {r₀ s : State} (hr : r₀.Keeps s) : r₀.Keeps (State.writeDle s o v) := by
  unfold State.writeDle
  repeat' (first
    | with_reducible (first | assumption | exact fun _ => rfl | intro _)
    | dsimp only
    | with_reducible (first | apply State.Keeps.ite | apply State.updDle_keeps | apply State.attnLate_keeps |
      apply State.Keeps.each | apply State.Keeps.foldl | refine State.Keeps.snd (by assumption) ?_)
    | split | (with_reducible refine State.Keeps.upd rfl rfl ?_) | rfl | exact hr.same rfl rfl rfl)

theorem State.writeMem_keeps {o : Nat} {v : W32} {r₀ s : State} (hr : r₀.Keeps s) : r₀.Keeps (State.writeMem s o v) := by
  unfold State.writeMem
  repeat' (first
    | with_reducible (first | assumption | exact fun _ => rfl | intro _)
    | dsimp only
    | with_reducible (first | apply State.Keeps.ite | apply State.writeArb_keeps | apply State.Keeps.each |
      apply State.Keeps.foldl | refine State.Keeps.snd (by assumption) ?_)
    | split | (with_reducible refine State.Keeps.upd rfl rfl ?_) | rfl | exact hr.same rfl rfl rfl)

theorem State.writeWs_keeps {o : Nat} {v : W32} {r₀ s : State} (hr : r₀.Keeps s) : r₀.Keeps (State.writeWs s o v) := by
  unfold State.writeWs
  repeat' (first
    | with_reducible (first | assumption | exact fun _ => rfl | intro _)
    | dsimp only
    | with_reducible (first | apply State.Keeps.ite | apply State.updWs_keeps | apply State.writeArb_keeps |
      apply State.Keeps.each | apply State.Keeps.foldl | refine State.Keeps.snd (by assumption) ?_)
    | split | (with_reducible refine State.Keeps.upd rfl rfl ?_) | rfl | exact hr.same rfl rfl rfl)

theorem State.writePortCtrl_keeps {p : Nat} {v : W32} {r₀ s : State} (hr : r₀.Keeps s) : r₀.Keeps (State.writePortCtrl s p v) := by
  unfold State.writePortCtrl
  repeat' (first
    | with_reducible (first | assumption | exact fun _ => rfl | intro _)
    | dsimp only
    | with_reducible (first | apply State.Keeps.ite | apply State.updPort_keeps | apply stepLinkRetrain_keeps |
      apply State.Keeps.each | apply State.Keeps.foldl | refine State.Keeps.snd (by assumption) ?_)
    | split | (with_reducible refine State.Keeps.upd rfl rfl ?_) | rfl | exact hr.same rfl rfl rfl)

theorem State.writeLnk_keeps {o : Nat} {v : W32} {r₀ s : State} (hr : r₀.Keeps s) : r₀.Keeps (State.writeLnk s o v) := by
  unfold State.writeLnk
  repeat' (first
    | with_reducible (first | assumption | exact fun _ => rfl | intro _)
    | dsimp only
    | with_reducible (first | apply State.Keeps.ite | apply State.updLnk_keeps | apply State.updPort_keeps |
      apply stepVlShareWrite_keeps | apply stepRouteWrite_keeps | apply State.writePortCtrl_keeps | apply State.Keeps.each |
      apply State.Keeps.foldl | refine State.Keeps.snd (by assumption) ?_)
    | split | (with_reducible refine State.Keeps.upd rfl rfl ?_) | rfl | exact hr.same rfl rfl rfl)

theorem State.writeMsix_keeps {f o : Nat} {v : W32} {r₀ s : State} (hr : r₀.Keeps s) : r₀.Keeps (State.writeMsix s f o v) := by
  unfold State.writeMsix
  repeat' (first
    | with_reducible (first | assumption | exact fun _ => rfl | intro _)
    | dsimp only
    | with_reducible (first | apply State.Keeps.ite | apply State.updMsix_keeps | apply stepMsixUnmask_keeps |
      apply State.Keeps.each | apply State.Keeps.foldl | refine State.Keeps.snd (by assumption) ?_)
    | split | (with_reducible refine State.Keeps.upd rfl rfl ?_) | rfl | exact hr.same rfl rfl rfl)

theorem State.writePcie_keeps {o : Nat} {v : W32} {r₀ s : State} (hr : r₀.Keeps s) : r₀.Keeps (State.writePcie s o v) := by
  unfold State.writePcie
  repeat' (first
    | with_reducible (first | assumption | exact fun _ => rfl | intro _)
    | dsimp only
    | with_reducible (first | apply State.Keeps.ite | apply State.updTime_keeps | apply State.updPcie_keeps |
      apply State.writeEvtCfg_keeps | apply stepEventRingConsWrite_keeps | apply State.writeArb_keeps |
      apply State.writeMsix_keeps | apply State.Keeps.each | apply State.Keeps.foldl |
      refine State.Keeps.snd (by assumption) ?_)
    | split | (with_reducible refine State.Keeps.upd rfl rfl ?_) | rfl | exact hr.same rfl rfl rfl)

theorem State.writeStock_keeps {o : Nat} {v : W32} {r₀ s : State} (hr : r₀.Keeps s) : r₀.Keeps (State.writeStock s o v) := by
  unfold State.writeStock
  repeat' (first
    | with_reducible (first | assumption | exact fun _ => rfl | intro _)
    | dsimp only
    | with_reducible (first | apply State.Keeps.ite | apply State.updSrv_keeps | apply State.Keeps.each |
      apply State.Keeps.foldl | refine State.Keeps.snd (by assumption) ?_)
    | split | (with_reducible refine State.Keeps.upd rfl rfl ?_) | rfl | exact hr.same rfl rfl rfl)

theorem State.writeRing_keeps {f r o : Nat} {v : W32} {r₀ s : State} (hr : r₀.Keeps s) : r₀.Keeps (State.writeRing s f r o v) := by
  unfold State.writeRing
  repeat' (first
    | with_reducible (first | assumption | exact fun _ => rfl | intro _)
    | dsimp only
    | with_reducible (first | apply State.Keeps.ite | apply State.updRing_keeps | apply State.writeRingCfg_keeps |
      apply stepRingConsWrite_keeps | apply State.Keeps.each | apply State.Keeps.foldl |
      refine State.Keeps.snd (by assumption) ?_)
    | split | (with_reducible refine State.Keeps.upd rfl rfl ?_) | rfl | exact hr.same rfl rfl rfl)

theorem State.writeFn_keeps {f o : Nat} {v : W32} {pf0 : Bool} {r₀ s : State} (hr : r₀.Keeps s) : r₀.Keeps (State.writeFn s f o v pf0) := by
  unfold State.writeFn
  repeat' (first
    | with_reducible (first | assumption | exact fun _ => rfl | intro _)
    | dsimp only
    | with_reducible (first | apply State.Keeps.ite | apply State.updFn_keeps | apply stepChanRangeWrite_keeps |
      apply State.writeRing_keeps | apply State.Keeps.each | apply State.Keeps.foldl |
      refine State.Keeps.snd (by assumption) ?_)
    | split | (with_reducible refine State.Keeps.upd rfl rfl ?_) | rfl | exact hr.same rfl rfl rfl)

theorem State.writeSrv_keeps {f o : Nat} {v : W32} {r₀ s : State} (hr : r₀.Keeps s) : r₀.Keeps (State.writeSrv s f o v) := by
  unfold State.writeSrv
  repeat' (first
    | with_reducible (first | assumption | exact fun _ => rfl | intro _)
    | dsimp only
    | with_reducible (first | apply State.Keeps.ite | apply State.updSrv_keeps | apply State.writeStock_keeps |
      apply State.writeFn_keeps | apply State.Keeps.each | apply State.Keeps.foldl | refine State.Keeps.snd (by assumption) ?_)
    | split | (with_reducible refine State.Keeps.upd rfl rfl ?_) | rfl | exact hr.same rfl rfl rfl)

theorem State.writeChk_keeps {o : Nat} {v : W32} {r₀ s : State} (hr : r₀.Keeps s) : r₀.Keeps (State.writeChk s o v) := by
  unfold State.writeChk
  repeat' (first
    | with_reducible (first | assumption | exact fun _ => rfl | intro _)
    | dsimp only
    | with_reducible (first | apply State.Keeps.ite | apply State.updChk_keeps | apply stepDenyWrite_keeps |
      apply State.Keeps.each | apply State.Keeps.foldl | refine State.Keeps.snd (by assumption) ?_)
    | split | (with_reducible refine State.Keeps.upd rfl rfl ?_) | rfl | exact hr.same rfl rfl rfl)

theorem State.writeSec_keeps {o : Nat} {v : W32} {r₀ s : State} (hr : r₀.Keeps s) : r₀.Keeps (State.writeSec s o v) := by
  unfold State.writeSec
  repeat' (first
    | with_reducible (first | assumption | exact fun _ => rfl | intro _)
    | dsimp only
    | with_reducible (first | apply State.Keeps.ite | apply State.updSec_keeps | apply State.keyGo_keeps |
      apply stepLcChallenge_keeps | apply stepLcTransition_keeps | apply stepFwUpdate_keeps | apply stepCommitSvn_keeps |
      apply State.Keeps.each | apply State.Keeps.foldl | refine State.Keeps.snd (by assumption) ?_)
    | split | (with_reducible refine State.Keeps.upd rfl rfl ?_) | rfl | exact hr.same rfl rfl rfl)

theorem State.writeRst_keeps {o : Nat} {v : W32} {r₀ s : State} (hr : r₀.Keeps s) : r₀.Keeps (State.writeRst s o v) := by
  unfold State.writeRst
  repeat' (first
    | with_reducible (first | assumption | exact fun _ => rfl | intro _)
    | dsimp only
    | with_reducible (first | apply State.Keeps.ite | apply State.updRst_keeps | apply stepRstCtrlWarm_keeps |
      apply stepWatchdogKick_keeps | apply stepBistRequest_keeps | apply State.Keeps.each | apply State.Keeps.foldl |
      refine State.Keeps.snd (by assumption) ?_)
    | split | (with_reducible refine State.Keeps.upd rfl rfl ?_) | rfl | exact hr.same rfl rfl rfl)

theorem State.writeHk_keeps {o : Nat} {v : W32} {r₀ s : State} (hr : r₀.Keeps s) : r₀.Keeps (State.writeHk s o v) := by
  unfold State.writeHk
  repeat' (first
    | with_reducible (first | assumption | exact fun _ => rfl | intro _)
    | dsimp only
    | with_reducible (first | apply State.Keeps.ite | apply State.updHk_keeps | apply State.overflow_keeps |
      apply stepFurlRequest_keeps | apply State.islandGo_keeps | apply State.Keeps.each | apply State.Keeps.foldl |
      refine State.Keeps.snd (by assumption) ?_)
    | split | (with_reducible refine State.Keeps.upd rfl rfl ?_) | rfl | exact hr.same rfl rfl rfl)

theorem State.writeCn_keeps {o : Nat} {v : W32} {r₀ s : State} (hr : r₀.Keeps s) : r₀.Keeps (State.writeCn s o v) := by
  unfold State.writeCn
  repeat' (first
    | with_reducible (first | assumption | exact fun _ => rfl | intro _)
    | dsimp only
    | with_reducible (first | apply State.Keeps.ite | apply State.updCn_keeps | apply stepResetCountClear_keeps |
      apply stepRtcSet_keeps | apply State.writeReefFloor_keeps | apply State.writeI3cCfg_keeps | apply State.Keeps.each |
      apply State.Keeps.foldl | refine State.Keeps.snd (by assumption) ?_)
    | split | (with_reducible refine State.Keeps.upd rfl rfl ?_) | rfl | exact hr.same rfl rfl rfl)

theorem State.writeReg_keeps {f blk o : Nat} {v : W32} {r₀ s : State} (hr : r₀.Keeps s) : r₀.Keeps (State.writeReg s f blk o v) := by
  unfold State.writeReg
  repeat' (first
    | with_reducible (first | assumption | exact fun _ => rfl | intro _)
    | dsimp only
    | with_reducible (first | apply State.Keeps.ite | apply State.writeGlb_keeps | apply State.writeTime_keeps |
      apply State.writeFab_keeps | apply State.writePan_keeps | apply State.writeDle_keeps | apply State.writeMem_keeps |
      apply State.writeWs_keeps | apply State.writeLnk_keeps | apply State.writeMsix_keeps | apply State.writePcie_keeps |
      apply State.writeSrv_keeps | apply State.writeChk_keeps | apply State.writeSec_keeps | apply State.writeRst_keeps |
      apply State.writeHk_keeps | apply State.writeCn_keeps | apply State.Keeps.each | apply State.Keeps.foldl |
      refine State.Keeps.snd (by assumption) ?_)
    | split | (with_reducible refine State.Keeps.upd rfl rfl ?_) | rfl | exact hr.same rfl rfl rfl)

theorem State.writeAt_keeps {f a : Nat} {v : W32} {r₀ s : State} (hr : r₀.Keeps s) : r₀.Keeps (State.writeAt s f a v) := by
  unfold State.writeAt
  repeat' (first
    | with_reducible (first | assumption | exact fun _ => rfl | intro _)
    | dsimp only
    | with_reducible (first | apply State.Keeps.ite | apply State.writeReg_keeps | apply State.Keeps.each |
      apply State.Keeps.foldl | refine State.Keeps.snd (by assumption) ?_)
    | split | (with_reducible refine State.Keeps.upd rfl rfl ?_) | rfl | exact hr.same rfl rfl rfl)

theorem stepRegisterWrite_keeps {f off : Nat} {data : List Byte} {r₀ s : State} (hr : r₀.Keeps s) : r₀.Keeps (stepRegisterWrite f off data s) := by
  unfold stepRegisterWrite
  repeat' (first
    | with_reducible (first | assumption | exact fun _ => rfl | intro _)
    | dsimp only
    | with_reducible (first | apply State.Keeps.ite | apply State.emit_keeps | apply State.writeAt_keeps |
      apply State.Keeps.each | apply State.Keeps.foldl | refine State.Keeps.snd (by assumption) ?_)
    | split | (with_reducible refine State.Keeps.upd rfl rfl ?_) | rfl | exact hr.same rfl rfl rfl)

theorem stepMgmtTsRead_keeps {blk off len : Nat} {r₀ s : State} (hr : r₀.Keeps s) : r₀.Keeps (stepMgmtTsRead blk off len s) := by
  unfold stepMgmtTsRead
  repeat' (first
    | with_reducible (first | assumption | exact fun _ => rfl | intro _)
    | dsimp only
    | with_reducible (first | apply State.Keeps.ite | apply State.emit_keeps | apply State.Keeps.each |
      apply State.Keeps.foldl | refine State.Keeps.snd (by assumption) ?_)
    | split | (with_reducible refine State.Keeps.upd rfl rfl ?_) | rfl | exact hr.same rfl rfl rfl)

theorem State.rebuildGen_keeps {ch : Nat} {r₀ s : State} (hr : r₀.Keeps s) : r₀.Keeps (State.rebuildGen s ch) := by
  unfold State.rebuildGen
  repeat' (first
    | with_reducible (first | assumption | exact fun _ => rfl | intro _)
    | dsimp only
    | with_reducible (first | apply State.Keeps.ite | apply State.updStream_keeps | apply State.freeStream_keeps |
      apply State.addMark_keeps | apply State.endGen_keeps | apply State.dropFrom_keeps | apply State.Keeps.each |
      apply State.Keeps.foldl | refine State.Keeps.snd (by assumption) ?_)
    | split | (with_reducible refine State.Keeps.upd rfl rfl ?_) | rfl | exact hr.same rfl rfl rfl)

theorem State.tackStream_keeps {t : Stream} {r₀ s : State} (hr : r₀.Keeps s) : r₀.Keeps (State.tackStream s t) := by
  unfold State.tackStream
  repeat' (first
    | with_reducible (first | assumption | exact fun _ => rfl | intro _)
    | dsimp only
    | with_reducible (first | apply State.Keeps.ite | apply State.updStream_keeps | apply State.freeStream_keeps |
      apply State.reprefillOr_keeps | apply State.rebuildGen_keeps | apply State.Keeps.each | apply State.Keeps.foldl |
      refine State.Keeps.snd (by assumption) ?_)
    | split | (with_reducible refine State.Keeps.upd rfl rfl ?_) | rfl | exact hr.same rfl rfl rfl)

theorem State.keepOldKv_keeps {r₀ s : State} (hr : r₀.Keeps s) : r₀.Keeps (State.keepOldKv s) := by
  unfold State.keepOldKv
  repeat' (first
    | with_reducible (first | assumption | exact fun _ => rfl | intro _)
    | dsimp only
    | with_reducible (first | apply State.Keeps.ite | apply State.updSrv_keeps | apply State.Keeps.each |
      apply State.Keeps.foldl | refine State.Keeps.snd (by assumption) ?_)
    | split | (with_reducible refine State.Keeps.upd rfl rfl ?_) | rfl | exact hr.same rfl rfl rfl)

theorem State.placeMarker_keeps {r₀ s : State} (hr : r₀.Keeps s) : r₀.Keeps (State.placeMarker s) := by
  unfold State.placeMarker
  repeat' (first
    | with_reducible (first | assumption | exact fun _ => rfl | intro _)
    | dsimp only
    | with_reducible (first | apply State.Keeps.ite | apply State.updWs_keeps | apply State.Keeps.each |
      apply State.Keeps.foldl | refine State.Keeps.snd (by assumption) ?_)
    | split | (with_reducible refine State.Keeps.upd rfl rfl ?_) | rfl | exact hr.same rfl rfl rfl)

theorem State.tackMarker_keeps {r₀ s : State} (hr : r₀.Keeps s) : r₀.Keeps (State.tackMarker s) := by
  unfold State.tackMarker
  repeat' (first
    | with_reducible (first | assumption | exact fun _ => rfl | intro _)
    | dsimp only
    | with_reducible (first | apply State.Keeps.ite | apply State.updFab_keeps | apply State.updWs_keeps |
      apply State.updSrv_keeps | apply State.rehash_keeps | apply State.shrinkPool_keeps | apply State.tackStream_keeps |
      apply State.keepOldKv_keeps | apply State.Keeps.each | apply State.Keeps.foldl |
      refine State.Keeps.snd (by assumption) ?_)
    | split | (with_reducible refine State.Keeps.upd rfl rfl ?_) | rfl | exact hr.same rfl rfl rfl)

theorem State.closeHead_keeps {r₀ s : State} (hr : r₀.Keeps s) : r₀.Keeps (State.closeHead s) := by
  unfold State.closeHead
  repeat' (first
    | with_reducible (first | assumption | exact fun _ => rfl | intro _)
    | dsimp only
    | with_reducible (first | apply State.Keeps.ite | apply State.sendHeadBundle_keeps | apply State.tackMarker_keeps |
      apply State.Keeps.each | apply State.Keeps.foldl | refine State.Keeps.snd (by assumption) ?_)
    | split | (with_reducible refine State.Keeps.upd rfl rfl ?_) | rfl | exact hr.same rfl rfl rfl)

theorem effTack_keeps {c : Cmd} {r₀ s : State} (hr : r₀.Keeps s) : r₀.Keeps (effTack c s) := by
  unfold effTack
  repeat' (first
    | with_reducible (first | assumption | exact fun _ => rfl | intro _)
    | dsimp only
    | with_reducible (first | apply State.Keeps.ite | apply State.updWs_keeps | apply State.reply_keeps |
      apply State.refuseImage_keeps | apply State.placeMarker_keeps | apply State.Keeps.each | apply State.Keeps.foldl |
      refine State.Keeps.snd (by assumption) ?_)
    | split | (with_reducible refine State.Keeps.upd rfl rfl ?_) | rfl | exact hr.same rfl rfl rfl)

theorem stepDrainMarker_keeps {r₀ s : State} (hr : r₀.Keeps s) : r₀.Keeps (stepDrainMarker s) := by
  unfold stepDrainMarker
  repeat' (first
    | with_reducible (first | assumption | exact fun _ => rfl | intro _)
    | dsimp only
    | with_reducible (first | apply State.Keeps.ite | apply State.placeMarker_keeps | apply State.Keeps.each |
      apply State.Keeps.foldl | refine State.Keeps.snd (by assumption) ?_)
    | split | (with_reducible refine State.Keeps.upd rfl rfl ?_) | rfl | exact hr.same rfl rfl rfl)

theorem stepDrainLimitExpiry_keeps {r₀ s : State} (hr : r₀.Keeps s) : r₀.Keeps (stepDrainLimitExpiry s) := by
  unfold stepDrainLimitExpiry
  repeat' (first
    | with_reducible (first | assumption | exact fun _ => rfl | intro _)
    | dsimp only
    | with_reducible (first | apply State.Keeps.ite | apply State.placeMarker_keeps | apply State.Keeps.each |
      apply State.Keeps.foldl | refine State.Keeps.snd (by assumption) ?_)
    | split | (with_reducible refine State.Keeps.upd rfl rfl ?_) | rfl | exact hr.same rfl rfl rfl)

theorem State.switchCfgs_keeps {bodies : List PanBody} {r₀ s : State} (hr : r₀.Keeps s) : r₀.Keeps (State.switchCfgs s bodies) := by
  unfold State.switchCfgs
  repeat' (first
    | with_reducible (first | assumption | exact fun _ => rfl | intro _)
    | dsimp only
    | with_reducible (first | apply State.Keeps.ite | apply State.updArr_keeps | apply State.Keeps.each |
      apply State.Keeps.foldl | refine State.Keeps.snd (by assumption) ?_)
    | split | (with_reducible refine State.Keeps.upd rfl rfl ?_) | rfl | exact hr.same rfl rfl rfl)

theorem stepTackRewriteStart_keeps {r₀ s : State} (hr : r₀.Keeps s) : r₀.Keeps (stepTackRewriteStart s) := by
  unfold stepTackRewriteStart
  repeat' (first
    | with_reducible (first | assumption | exact fun _ => rfl | intro _)
    | dsimp only
    | with_reducible (first | apply State.Keeps.ite | apply State.updFab_keeps | apply State.updWs_keeps |
      apply State.updPan_keeps | apply State.leavePosition_keeps | apply State.loadSchedule_keeps | apply State.Keeps.each |
      apply State.Keeps.foldl | refine State.Keeps.snd (by assumption) ?_)
    | split | (with_reducible refine State.Keeps.upd rfl rfl ?_) | rfl | exact hr.same rfl rfl rfl)

theorem stepTackBankSwitch_keeps {r₀ s : State} (hr : r₀.Keeps s) : r₀.Keeps (stepTackBankSwitch s) := by
  unfold stepTackBankSwitch
  repeat' (first
    | with_reducible (first | assumption | exact fun _ => rfl | intro _)
    | dsimp only
    | with_reducible (first | apply State.Keeps.ite | apply State.updFab_keeps | apply State.updWs_keeps |
      apply State.loadRest_keeps | apply State.switchCfgs_keeps | apply State.Keeps.each | apply State.Keeps.foldl |
      refine State.Keeps.snd (by assumption) ?_)
    | split | (with_reducible refine State.Keeps.upd rfl rfl ?_) | rfl | exact hr.same rfl rfl rfl)

theorem State.endTack_keeps {r₀ s : State} (hr : r₀.Keeps s) : r₀.Keeps (State.endTack s) := by
  unfold State.endTack
  repeat' (first
    | with_reducible (first | assumption | exact fun _ => rfl | intro _)
    | dsimp only
    | with_reducible (first | apply State.Keeps.ite | apply State.updWs_keeps | apply State.reply_keeps |
      apply State.setResult_keeps | apply State.Keeps.each | apply State.Keeps.foldl |
      refine State.Keeps.snd (by assumption) ?_)
    | split | (with_reducible refine State.Keeps.upd rfl rfl ?_) | rfl | exact hr.same rfl rfl rfl)

theorem stepWeightStoreCommit_keeps {r₀ s : State} (hr : r₀.Keeps s) : r₀.Keeps (stepWeightStoreCommit s) := by
  unfold stepWeightStoreCommit
  repeat' (first
    | with_reducible (first | assumption | exact fun _ => rfl | intro _)
    | dsimp only
    | with_reducible (first | apply State.Keeps.ite | apply State.updWs_keeps | apply State.writePending_keeps |
      apply State.reportWritten_keeps | apply State.commitProgress_keeps | apply State.endTack_keeps | apply State.Keeps.each |
      apply State.Keeps.foldl | refine State.Keeps.snd (by assumption) ?_)
    | split | (with_reducible refine State.Keeps.upd rfl rfl ?_) | rfl | exact hr.same rfl rfl rfl)

theorem State.dleWork_keeps {macs : Nat} {r₀ s : State} (hr : r₀.Keeps s) : r₀.Keeps (State.dleWork s macs) := by
  unfold State.dleWork
  repeat' (first
    | with_reducible (first | assumption | exact fun _ => rfl | intro _)
    | dsimp only
    | with_reducible (first | apply State.Keeps.ite | apply State.updDle_keeps | apply State.Keeps.each |
      apply State.Keeps.foldl | refine State.Keeps.snd (by assumption) ?_)
    | split | (with_reducible refine State.Keeps.upd rfl rfl ?_) | rfl | exact hr.same rfl rfl rfl)

theorem State.dleFault_keeps {stream index cluster : Nat} {f : DleFault} {r s : State} (hr : r.Keeps s) :
    r.Keeps (s.dleFault stream index cluster f) := by
  cases f
  · exact State.failWork_keeps (State.failEvent_keeps (State.logEvent_keeps (State.updChk_keeps hr)))
  · exact State.poisonWork_keeps (State.failEvent_keeps (State.logEvent_keeps (State.updDle_keeps hr)))
  · exact State.updDle_keeps hr

theorem State.dleNumeric_keeps {stream index : Nat} {r₀ s : State} (hr : r₀.Keeps s) : r₀.Keeps (State.dleNumeric s stream index) := by
  unfold State.dleNumeric
  repeat' (first
    | with_reducible (first | assumption | exact fun _ => rfl | intro _)
    | dsimp only
    | with_reducible (first | apply State.Keeps.ite | apply State.updDle_keeps | apply State.numericFault_keeps |
      apply State.Keeps.each | apply State.Keeps.foldl | refine State.Keeps.snd (by assumption) ?_)
    | split | (with_reducible refine State.Keeps.upd rfl rfl ?_) | rfl | exact hr.same rfl rfl rfl)

theorem State.runAttention_keeps {j : AttnJob} {r s : State} (hr : r.Keeps s) : r.Keeps (s.runAttention j) := by
  have hf : ∀ {t : State}, r.Keeps t → r.Keeps (match j.fault with
      | some (c, f) => t.dleFault j.stream j.index c f
      | none => t) := by
    intro t ht
    split
    · exact State.dleFault_keeps ht
    · exact ht
  have hp : ∀ {t : State} (b : Bool), r.Keeps t → r.Keeps (if b then t.poisonWork j.stream j.index 3 else t) :=
    fun _ ht => State.Keeps.ite (State.poisonWork_keeps ht) ht
  unfold State.runAttention
  split
  · exact hr
  · split
    · exact hr
    · extract_lets n ctx heads x outs nan vals per s1 s2 s3 s4
      have h2 : r.Keeps s2 := State.updDle_keeps (State.dleWork_keeps hr)
      exact hp _ (hf (State.Keeps.ite (State.dleNumeric_keeps h2) h2))

theorem State.serveHeld_keeps {r₀ s : State} (hr : r₀.Keeps s) : r₀.Keeps (State.serveHeld s) := by
  unfold State.serveHeld
  repeat' (first
    | with_reducible (first | assumption | exact fun _ => rfl | intro _)
    | dsimp only
    | with_reducible (first | apply State.Keeps.ite | apply State.updDle_keeps | apply State.runAttention_keeps |
      apply State.Keeps.each | apply State.Keeps.foldl | refine State.Keeps.snd (by assumption) ?_)
    | split | (with_reducible refine State.Keeps.upd rfl rfl ?_) | rfl | exact hr.same rfl rfl rfl)

theorem State.dropWaits_keeps {r₀ s : State} (hr : r₀.Keeps s) : r₀.Keeps (State.dropWaits s) := by
  unfold State.dropWaits
  repeat' (first
    | with_reducible (first | assumption | exact fun _ => rfl | intro _)
    | dsimp only
    | with_reducible (first | apply State.Keeps.ite | apply State.updDle_keeps | apply State.serveHeld_keeps |
      apply State.Keeps.each | apply State.Keeps.foldl | refine State.Keeps.snd (by assumption) ?_)
    | split | (with_reducible refine State.Keeps.upd rfl rfl ?_) | rfl | exact hr.same rfl rfl rfl)

theorem stepDleAttention_keeps {stream index slot : Nat} {blocks : List Nat} {len : Nat} {q : List W16} {fault : Option (Nat × DleFault)} {r₀ s : State} (hr : r₀.Keeps s) : r₀.Keeps (stepDleAttention stream index slot blocks len q fault s) := by
  unfold stepDleAttention
  repeat' (first
    | with_reducible (first | assumption | exact fun _ => rfl | intro _)
    | dsimp only
    | with_reducible (first | apply State.Keeps.ite | apply State.updDle_keeps | apply State.runAttention_keeps |
      apply State.serveHeld_keeps | apply State.Keeps.each | apply State.Keeps.foldl |
      refine State.Keeps.snd (by assumption) ?_)
    | split | (with_reducible refine State.Keeps.upd rfl rfl ?_) | rfl | exact hr.same rfl rfl rfl)

theorem stepDleTier2Pass_keeps {slot name : Nat} {arrays : List (Nat × Nat)} {acts : List (Nat × Nat × W16 × List Byte)}
    {fault : Option (Nat × DleFault)} {r s : State} (hr : r.Keeps s) : r.Keeps (stepDleTier2Pass slot name arrays acts fault s) := by
  unfold stepDleTier2Pass
  split
  · exact hr
  · split
    · exact hr
    · extract_lets s1 s2 s3
      have h3 : r.Keeps s3 := State.Keeps.each (fun _ _ h => State.dleNumeric_keeps h) (State.updDle_keeps (State.dleWork_keeps hr))
      split
      · exact State.dleFault_keeps h3
      · exact State.Keeps.each (fun _ _ h => State.dleFault_keeps h) h3
      · exact h3

theorem State.passTick_keeps {r₀ s : State} (hr : r₀.Keeps s) : r₀.Keeps (State.passTick s) := by
  unfold State.passTick
  repeat' (first
    | with_reducible (first | assumption | exact fun _ => rfl | intro _)
    | dsimp only
    | with_reducible (first | apply State.Keeps.ite | apply State.passCycles_keeps | apply State.Keeps.each |
      apply State.Keeps.foldl | refine State.Keeps.snd (by assumption) ?_)
    | split | (with_reducible refine State.Keeps.upd rfl rfl ?_) | rfl | exact hr.same rfl rfl rfl)

theorem State.openTick_keeps {r₀ s : State} (hr : r₀.Keeps s) : r₀.Keeps (State.openTick s) := by
  unfold State.openTick
  repeat' (first
    | with_reducible (first | assumption | exact fun _ => rfl | intro _)
    | dsimp only
    | with_reducible (first | apply State.Keeps.ite | apply State.updTime_keeps | apply State.updCn_keeps |
      apply State.Keeps.each | apply State.Keeps.foldl | refine State.Keeps.snd (by assumption) ?_)
    | split | (with_reducible refine State.Keeps.upd rfl rfl ?_) | rfl | exact hr.same rfl rfl rfl)

theorem State.capture_keeps {r₀ s : State} (hr : r₀.Keeps s) : r₀.Keeps (State.capture s) := by
  unfold State.capture
  repeat' (first
    | with_reducible (first | assumption | exact fun _ => rfl | intro _)
    | dsimp only
    | with_reducible (first | apply State.Keeps.ite  | apply State.Keeps.each | apply State.Keeps.foldl |
      refine State.Keeps.snd (by assumption) ?_)
    | split | (with_reducible refine State.Keeps.upd rfl rfl ?_) | rfl | exact hr.same rfl rfl rfl)

theorem State.closeWindows_keeps {r₀ s : State} (hr : r₀.Keeps s) : r₀.Keeps (State.closeWindows s) := by
  unfold State.closeWindows
  repeat' (first
    | with_reducible (first | assumption | exact fun _ => rfl | intro _)
    | dsimp only
    | with_reducible (first | apply State.Keeps.ite | apply State.endWindows_keeps | apply stepFreeTimeout_keeps |
      apply stepClampWindowClose_keeps | apply stepSnapHoldExpiry_keeps | apply stepDrainMarker_keeps |
      apply stepDrainLimitExpiry_keeps | apply State.Keeps.each | apply State.Keeps.foldl |
      refine State.Keeps.snd (by assumption) ?_)
    | split | (with_reducible refine State.Keeps.upd rfl rfl ?_) | rfl | exact hr.same rfl rfl rfl)

theorem State.restoreInPlace_keeps {r₀ s : State} (hr : r₀.Keeps s) : r₀.Keeps (State.restoreInPlace s) := by
  unfold State.restoreInPlace
  repeat' (first
    | with_reducible (first | assumption | exact fun _ => rfl | intro _)
    | dsimp only
    | with_reducible (first | apply State.Keeps.ite | apply State.updArr_keeps | apply State.Keeps.each |
      apply State.Keeps.foldl | refine State.Keeps.snd (by assumption) ?_)
    | split | (with_reducible refine State.Keeps.upd rfl rfl ?_) | rfl | exact hr.same rfl rfl rfl)

theorem State.returnPayloads_keeps {r₀ s : State} (hr : r₀.Keeps s) : r₀.Keeps (State.returnPayloads s) := by
  unfold State.returnPayloads
  repeat' (first
    | with_reducible (first | assumption | exact fun _ => rfl | intro _)
    | dsimp only
    | with_reducible (first | apply State.Keeps.ite | apply State.updPan_keeps | apply State.updArr_keeps |
      apply State.Keeps.each | apply State.Keeps.foldl | refine State.Keeps.snd (by assumption) ?_)
    | split | (with_reducible refine State.Keeps.upd rfl rfl ?_) | rfl | exact hr.same rfl rfl rfl)

theorem State.substitute_keeps {r₀ s : State} (hr : r₀.Keeps s) : r₀.Keeps (State.substitute s) := by
  unfold State.substitute
  repeat' (first
    | with_reducible (first | assumption | exact fun _ => rfl | intro _)
    | dsimp only
    | with_reducible (first | apply State.Keeps.ite | apply stepPanSubstitution_keeps | apply State.Keeps.each |
      apply State.Keeps.foldl | refine State.Keeps.snd (by assumption) ?_)
    | split | (with_reducible refine State.Keeps.upd rfl rfl ?_) | rfl | exact hr.same rfl rfl rfl)

theorem State.applyStop_keeps {r₀ s : State} (hr : r₀.Keeps s) : r₀.Keeps (State.applyStop s) := by
  unfold State.applyStop
  repeat' (first
    | with_reducible (first | assumption | exact fun _ => rfl | intro _)
    | dsimp only
    | with_reducible (first | apply State.Keeps.ite | apply State.updTime_keeps | apply State.Keeps.each |
      apply State.Keeps.foldl | refine State.Keeps.snd (by assumption) ?_)
    | split | (with_reducible refine State.Keeps.upd rfl rfl ?_) | rfl | exact hr.same rfl rfl rfl)

theorem State.applyFabric_keeps {r₀ s : State} (hr : r₀.Keeps s) : r₀.Keeps (State.applyFabric s) := by
  unfold State.applyFabric
  repeat' (first
    | with_reducible (first | assumption | exact fun _ => rfl | intro _)
    | dsimp only
    | with_reducible (first | apply State.Keeps.ite | apply State.switchBank_keeps | apply State.stepTaps_keeps |
      apply stepClampPolicyAction_keeps | apply State.applyRestores_keeps | apply State.restoreInPlace_keeps |
      apply State.returnPayloads_keeps | apply State.substitute_keeps | apply State.Keeps.each | apply State.Keeps.foldl |
      refine State.Keeps.snd (by assumption) ?_)
    | split | (with_reducible refine State.Keeps.upd rfl rfl ?_) | rfl | exact hr.same rfl rfl rfl)

theorem State.applyRest_keeps {r₀ s : State} (hr : r₀.Keeps s) : r₀.Keeps (State.applyRest s) := by
  unfold State.applyRest
  repeat' (first
    | with_reducible (first | assumption | exact fun _ => rfl | intro _)
    | dsimp only
    | with_reducible (first | apply State.Keeps.ite | apply State.applyDeny_keeps | apply State.compareViews_keeps |
      apply State.applyShares_keeps | apply stepRouteBankSwitch_keeps | apply State.applyKeys_keeps | apply State.actFlr_keeps |
      apply State.applyChange_keeps | apply State.finishSlice_keeps | apply State.stepRerig_keeps |
      apply State.suspendLost_keeps | apply State.decideRetires_keeps | apply State.applyIslands_keeps |
      apply State.applyBudget_keeps | apply State.applyStop_keeps | apply State.Keeps.each | apply State.Keeps.foldl |
      refine State.Keeps.snd (by assumption) ?_)
    | split | (with_reducible refine State.Keeps.upd rfl rfl ?_) | rfl | exact hr.same rfl rfl rfl)

theorem State.countVerdicts_keeps {r s : State} (hr : r.Keeps s) : r.Keeps s.countVerdicts := by
  unfold State.countVerdicts
  extract_lets l n heads counts s1 s2
  have h1 : r.Keeps s1 := State.updLnk_keeps hr
  have h2 : r.Keeps s2 := by
    refine State.Keeps.ite ?_ h1
    cases s1.dev.lnk.pipeline.getLast? with
    | none => exact h1
    | some m => exact State.noteLost_keeps h1
  exact State.Keeps.ite h1 (State.Keeps.each (fun _ _ h => State.noteLost_keeps h) h2)

theorem State.replyMessage_keeps {f : Nat} {r₀ s : State} (hr : r₀.Keeps s) : r₀.Keeps (State.replyMessage s f) := by
  unfold State.replyMessage
  repeat' (first
    | with_reducible (first | assumption | exact fun _ => rfl | intro _)
    | dsimp only
    | with_reducible (first | apply State.Keeps.ite | apply State.updFn_keeps | apply State.sendMsix_keeps |
      apply State.Keeps.each | apply State.Keeps.foldl | refine State.Keeps.snd (by assumption) ?_)
    | split | (with_reducible refine State.Keeps.upd rfl rfl ?_) | rfl | exact hr.same rfl rfl rfl)

theorem State.eventMessage_keeps {r₀ s : State} (hr : r₀.Keeps s) : r₀.Keeps (State.eventMessage s) := by
  unfold State.eventMessage
  repeat' (first
    | with_reducible (first | assumption | exact fun _ => rfl | intro _)
    | dsimp only
    | with_reducible (first | apply State.Keeps.ite | apply State.updPcie_keeps | apply State.sendMsix_keeps |
      apply State.Keeps.each | apply State.Keeps.foldl | refine State.Keeps.snd (by assumption) ?_)
    | split | (with_reducible refine State.Keeps.upd rfl rfl ?_) | rfl | exact hr.same rfl rfl rfl)

theorem State.messages_keeps {r₀ s : State} (hr : r₀.Keeps s) : r₀.Keeps (State.messages s) := by
  unfold State.messages
  repeat' (first
    | with_reducible (first | assumption | exact fun _ => rfl | intro _)
    | dsimp only
    | with_reducible (first | apply State.Keeps.ite | apply State.flushMsix_keeps | apply State.flushOuts_keeps |
      apply State.replyMessage_keeps | apply State.eventMessage_keeps | apply State.Keeps.each | apply State.Keeps.foldl |
      refine State.Keeps.snd (by assumption) ?_)
    | split | (with_reducible refine State.Keeps.upd rfl rfl ?_) | rfl | exact hr.same rfl rfl rfl)

theorem State.collectAll_keeps {r₀ s : State} (hr : r₀.Keeps s) : r₀.Keeps (State.collectAll s) := by
  unfold State.collectAll
  repeat' (first
    | with_reducible (first | assumption | exact fun _ => rfl | intro _)
    | dsimp only
    | with_reducible (first | apply State.Keeps.ite | apply State.updSrv_keeps | apply State.collect_keeps |
      apply State.schedule_keeps | apply State.advance_keeps | apply State.Keeps.each | apply State.Keeps.foldl |
      refine State.Keeps.snd (by assumption) ?_)
    | split | (with_reducible refine State.Keeps.upd rfl rfl ?_) | rfl | exact hr.same rfl rfl rfl)

theorem State.goesDown_keeps {r s t : State} (e : s.goesDown = some t) (hr : r.Keeps s) : r.Keeps t := by
  unfold State.goesDown at e
  split at e
  · cases e; exact State.warmFrom_keeps hr
  · split at e
    · cases e; exact State.applyFurl_keeps hr
    · cases e

theorem State.runBoundary_keeps {r s : State} (hr : r.Keeps s) : r.Keeps s.runBoundary := by
  unfold State.runBoundary
  extract_lets k s1 s2 s3 s4 s5 s6
  have h1 : r.Keeps s1 := State.closeTick_keeps (State.countVerdicts_keeps (State.closeHead_keeps (State.dropWaits_keeps
    (State.closeWorks_keeps (State.arriveAll_keeps (State.passTick_keeps hr))))))
  have h2 : r.Keeps s2 := State.capture_keeps (State.openTick_keeps h1)
  have hw : r.Keeps s3 := State.closeWindows_keeps (State.Keeps.upd rfl rfl h2)
  clear_value s3
  split
  · next e => exact State.goesDown_keeps e hw
  · exact State.collectAll_keeps (State.messages_keeps (State.admitWaiting_keeps (State.sendMarker_keeps (State.decideStretch_keeps
      (State.sendStamps_keeps (State.applyRest_keeps (State.applyFabric_keeps (State.applyFurl_keeps hw))))))))

theorem State.idleBoundary_keeps {r s : State} (hr : r.Keeps s) : r.Keeps s.idleBoundary := by
  unfold State.idleBoundary
  dsimp only
  split
  · next e => exact State.goesDown_keeps e (State.passTick_keeps hr)
  · exact State.collectAll_keeps (State.messages_keeps (State.applyRest_keeps (State.applyFabric_keeps (State.applyFurl_keeps
      (State.passTick_keeps hr)))))

theorem stepTickBoundary_keeps {r₀ s : State} (hr : r₀.Keeps s) : r₀.Keeps (stepTickBoundary s) := by
  unfold stepTickBoundary
  repeat' (first
    | with_reducible (first | assumption | exact fun _ => rfl | intro _)
    | dsimp only
    | with_reducible (first | apply State.Keeps.ite | apply State.runBoundary_keeps | apply State.idleBoundary_keeps |
      apply State.Keeps.each | apply State.Keeps.foldl | refine State.Keeps.snd (by assumption) ?_)
    | split | (with_reducible refine State.Keeps.upd rfl rfl ?_) | rfl | exact hr.same rfl rfl rfl)

theorem effStateQuery_keeps {gathered : List (Nat × List Byte)} {c : Cmd} {r₀ s : State} (hr : r₀.Keeps s) : r₀.Keeps (effStateQuery gathered c s) := by
  unfold effStateQuery
  repeat' (first
    | with_reducible (first | assumption | exact fun _ => rfl | intro _)
    | dsimp only
    | with_reducible (first | apply State.Keeps.ite | apply State.produce_keeps | apply State.hostOut_keeps |
      apply State.unlock_keeps | apply State.refuse_keeps | apply State.Keeps.each | apply State.Keeps.foldl |
      refine State.Keeps.snd (by assumption) ?_)
    | split | (with_reducible refine State.Keeps.upd rfl rfl ?_) | rfl | exact hr.same rfl rfl rfl)

theorem stepLmHeadPassComplete_keeps {ch index : Nat} {logits : List W32} {r₀ s : State} (hr : r₀.Keeps s) : r₀.Keeps (stepLmHeadPassComplete ch index logits s) := by
  unfold stepLmHeadPassComplete
  repeat' (first
    | with_reducible (first | assumption | exact fun _ => rfl | intro _)
    | dsimp only
    | with_reducible (first | apply State.Keeps.ite | apply State.updDle_keeps | apply State.updSrv_keeps |
      apply State.updStream_keeps | apply State.updGen_keeps | apply State.dropFrom_keeps | apply State.Keeps.each |
      apply State.Keeps.foldl | refine State.Keeps.snd (by assumption) ?_)
    | split | (with_reducible refine State.Keeps.upd rfl rfl ?_) | rfl | exact hr.same rfl rfl rfl)

theorem stepDraftProposal_keeps {ch : Nat} {z : List W32} {r₀ s : State} (hr : r₀.Keeps s) : r₀.Keeps (stepDraftProposal ch z s) := by
  unfold stepDraftProposal
  repeat' (first
    | with_reducible (first | assumption | exact fun _ => rfl | intro _)
    | dsimp only
    | with_reducible (first | apply State.Keeps.ite | apply State.updSrv_keeps | apply State.updGen_keeps |
      apply State.Keeps.each | apply State.Keeps.foldl | refine State.Keeps.snd (by assumption) ?_)
    | split | (with_reducible refine State.Keeps.upd rfl rfl ?_) | rfl | exact hr.same rfl rfl rfl)

theorem execCommandSlotWrite_keeps {fn off : Nat} {data : List Byte} {s : State} {t : State} (h : execCommandSlotWrite fn off data s = .next t) : s.Keeps t := by
  unfold execCommandSlotWrite at h
  by_cases c : 4194304 < off + data.length
  · rw [if_pos c] at h; cases h
  · rw [if_neg c] at h; exact State.Keeps.next h (stepCommandSlotWrite_keeps (.refl s))
theorem execOpenCmd_keeps {ch : Nat} {s : State} {t : State} (h : execOpenCmd ch s = .next t) : s.Keeps t :=
  State.Keeps.next h (State.runDue_keeps (fun _ _ h => State.streamEff_keeps (fun _ _ _ h => effOpen_keeps h) h) (.refl s))
theorem execAppend_keeps {ch : Nat} {s : State} {t : State} (h : execAppend ch s = .next t) : s.Keeps t :=
  State.Keeps.next h (State.runDue_keeps (fun _ _ h => State.streamEff_keeps (fun _ _ _ h => effAppend_keeps h) h) (.refl s))
theorem execGenerate_keeps {ch : Nat} {s : State} {t : State} (h : execGenerate ch s = .next t) : s.Keeps t :=
  State.Keeps.next h (State.runDue_keeps (fun _ _ h => State.streamEff_keeps (fun _ _ _ h => effGenerate_keeps h) h) (.refl s))
theorem execCancel_keeps {ch : Nat} {s : State} {t : State} (h : execCancel ch s = .next t) : s.Keeps t :=
  State.Keeps.next h (State.runDue_keeps (fun _ _ h => State.streamEff_keeps (fun _ _ _ h => effCancel_keeps h) h) (.refl s))
theorem execPark_keeps {ch : Nat} {s : State} {t : State} (h : execPark ch s = .next t) : s.Keeps t :=
  State.Keeps.next h (State.runDue_keeps (fun _ _ h => State.streamEff_keeps (fun _ _ _ h => effPark_keeps h) h) (.refl s))
theorem execResume_keeps {ch : Nat} {s : State} {t : State} (h : execResume ch s = .next t) : s.Keeps t :=
  State.Keeps.next h (State.runDue_keeps (fun _ _ h => State.streamEff_keeps (fun _ _ _ h => effResume_keeps h) h) (.refl s))
theorem execClose_keeps {ch : Nat} {s : State} {t : State} (h : execClose ch s = .next t) : s.Keeps t :=
  State.Keeps.next h (State.runDue_keeps (fun _ _ h => State.streamEff_keeps (fun _ _ _ h => effClose_keeps h) h) (.refl s))
theorem execEmbed_keeps {ch : Nat} {s : State} {t : State} (h : execEmbed ch s = .next t) : s.Keeps t :=
  State.Keeps.next h (State.runDue_keeps (fun _ _ h => State.streamEff_keeps (fun _ _ _ h => effEmbed_keeps h) h) (.refl s))
theorem execChanReload_keeps {ch : Nat} {s : State} {t : State} (h : execChanReload ch s = .next t) : s.Keeps t :=
  State.Keeps.next h (State.runDue_keeps (fun _ _ h => State.streamEff_keeps (fun _ _ _ h => effChanReload_keeps h) h) (.refl s))
theorem execTenantSet_keeps {ch : Nat} {s : State} {t : State} (h : execTenantSet ch s = .next t) : s.Keeps t :=
  State.Keeps.next h (State.runDue_keeps (fun _ _ h => effTenantSet_keeps h) (.refl s))
theorem execImageInstall_keeps {ch : Nat} {s : State} {t : State} (h : execImageInstall ch s = .next t) : s.Keeps t :=
  State.Keeps.next h (State.runDue_keeps (fun _ _ h => effImage_keeps h) (.refl s))
theorem execImageStage_keeps {ch : Nat} {s : State} {t : State} (h : execImageStage ch s = .next t) : s.Keeps t :=
  State.Keeps.next h (State.runDue_keeps (fun _ _ h => effImage_keeps h) (.refl s))
theorem execImageTack_keeps {ch : Nat} {s : State} {t : State} (h : execImageTack ch s = .next t) : s.Keeps t :=
  State.Keeps.next h (State.runDue_keeps (fun _ _ h => effTack_keeps h) (.refl s))
theorem execImageVerify_keeps {ch : Nat} {s : State} {t : State} (h : execImageVerify ch s = .next t) : s.Keeps t :=
  State.Keeps.next h (State.runDue_keeps (fun _ _ h => effImage_keeps h) (.refl s))
theorem execSliceSet_keeps {ch : Nat} {facts : SliceFacts} {s : State} {t : State} (h : execSliceSet ch facts s = .next t) : s.Keeps t :=
  State.Keeps.next h (State.runDue_keeps (fun _ _ h => effSliceSet_keeps h) (.refl s))
theorem execRerig_keeps {ch : Nat} {facts : RerigFacts} {s : State} {t : State} (h : execRerig ch facts s = .next t) : s.Keeps t :=
  State.Keeps.next h (State.runDue_keeps (fun _ _ h => effRerig_keeps h) (.refl s))
theorem execSpareSet_keeps {ch : Nat} {s : State} {t : State} (h : execSpareSet ch s = .next t) : s.Keeps t :=
  State.Keeps.next h (State.runDue_keeps (fun _ _ h => effSpareSet_keeps h) (.refl s))
theorem execMarginTest_keeps {ch : Nat} {facts : MarginFacts} {s : State} {t : State} (h : execMarginTest ch facts s = .next t) : s.Keeps t :=
  State.Keeps.next h (State.runDue_keeps (fun _ _ h => effMarginTest_keeps h) (.refl s))
theorem execRetire_keeps {ch : Nat} {gone : Bool} {facts : RerigFacts} {s : State} {t : State} (h : execRetire ch gone facts s = .next t) : s.Keeps t :=
  State.Keeps.next h (State.runDue_keeps (fun _ _ h => effRetire_keeps h) (.refl s))
theorem execStateQuery_keeps {ch : Nat} {gathered : List (Nat × List Byte)} {s : State} {t : State} (h : execStateQuery ch gathered s = .next t) : s.Keeps t :=
  State.Keeps.next h (State.runDue_keeps (fun _ _ h => effStateQuery_keeps h) (.refl s))
theorem execAttest_keeps {ch : Nat} {s : State} {t : State} (h : execAttest ch s = .next t) : s.Keeps t :=
  State.Keeps.next h (State.runDue_keeps (fun _ _ h => effAttest_keeps h) (.refl s))
theorem execNop_keeps {ch : Nat} {s : State} {t : State} (h : execNop ch s = .next t) : s.Keeps t :=
  State.Keeps.next h (State.runDue_keeps (fun _ _ h => effNop_keeps h) (.refl s))
theorem execDescriptorFetchComplete_keeps {ch : Nat} {r : FetchEnd} {s : State} {t : State} (h : execDescriptorFetchComplete ch r s = .next t) : s.Keeps t :=
  State.Keeps.next h (stepDescriptorFetchComplete_keeps (.refl s))
theorem execTickBoundary_keeps {s : State} {t : State} (h : execTickBoundary s = .next t) : s.Keeps t :=
  State.Keeps.next h (stepTickBoundary_keeps (.refl s))
theorem execQueuedAdmission_keeps {ch : Nat} {s : State} {t : State} (h : execQueuedAdmission ch s = .next t) : s.Keeps t :=
  State.Keeps.next h (stepQueuedAdmission_keeps (.refl s))
theorem execPositionCommit_keeps {ch index : Nat} {s : State} {t : State} (h : execPositionCommit ch index s = .next t) : s.Keeps t :=
  State.Keeps.next h (stepPositionCommit_keeps (.refl s))
theorem execStampFail_keeps {stream index : Nat} {s : State} {t : State} (h : execStampFail stream index s = .next t) : s.Keeps t :=
  State.Keeps.next h (stepStampFail_keeps (.refl s))
theorem execLmHeadPassComplete_keeps {ch index : Nat} {logits : List W32} {s : State} {t : State} (h : execLmHeadPassComplete ch index logits s = .next t) : s.Keeps t :=
  State.Keeps.next h (stepLmHeadPassComplete_keeps (.refl s))
theorem execDraftProposal_keeps {ch : Nat} {logits : List W32} {s : State} {t : State} (h : execDraftProposal ch logits s = .next t) : s.Keeps t :=
  State.Keeps.next h (stepDraftProposal_keeps (.refl s))
theorem execBudgetWindowEnd_keeps {tenant : Nat} {s : State} {t : State} (h : execBudgetWindowEnd tenant s = .next t) : s.Keeps t :=
  State.Keeps.next h (stepBudgetWindowEnd_keeps (.refl s))
theorem execTtlExpiry_keeps {ch : Nat} {s : State} {t : State} (h : execTtlExpiry ch s = .next t) : s.Keeps t :=
  State.Keeps.next h (stepTtlExpiry_keeps (.refl s))
theorem execParkCopyComplete_keeps {ch : Nat} {err : Bool} {s : State} {t : State} (h : execParkCopyComplete ch err s = .next t) : s.Keeps t :=
  State.Keeps.next h (stepParkCopyComplete_keeps (.refl s))
theorem execResumeRestore_keeps {ch : Nat} {poisoned : Bool} {s : State} {t : State} (h : execResumeRestore ch poisoned s = .next t) : s.Keeps t :=
  State.Keeps.next h (stepResumeRestore_keeps (.refl s))
theorem execDrainMarker_keeps {s : State} {t : State} (h : execDrainMarker s = .next t) : s.Keeps t :=
  State.Keeps.next h (stepDrainMarker_keeps (.refl s))
theorem execDrainLimitExpiry_keeps {s : State} {t : State} (h : execDrainLimitExpiry s = .next t) : s.Keeps t :=
  State.Keeps.next h (stepDrainLimitExpiry_keeps (.refl s))
theorem execTackRewriteStart_keeps {s : State} {t : State} (h : execTackRewriteStart s = .next t) : s.Keeps t :=
  State.Keeps.next h (stepTackRewriteStart_keeps (.refl s))
theorem execTackBankSwitch_keeps {s : State} {t : State} (h : execTackBankSwitch s = .next t) : s.Keeps t :=
  State.Keeps.next h (stepTackBankSwitch_keeps (.refl s))
theorem execWeightStoreCommit_keeps {s : State} {t : State} (h : execWeightStoreCommit s = .next t) : s.Keeps t :=
  State.Keeps.next h (stepWeightStoreCommit_keeps (.refl s))
theorem execImagePageReceive_keeps {op : ImgOp} {page : Nat} {r : FetchEnd} {s : State} {t : State} (h : execImagePageReceive op page r s = .next t) : s.Keeps t :=
  State.Keeps.next h (stepImagePageReceive_keeps (.refl s))
theorem execImageVerified_keeps {pkg code : Nat} {seeds : Bool} {s : State} {t : State} (h : execImageVerified pkg code seeds s = .next t) : s.Keeps t :=
  State.Keeps.next h (stepImageVerified_keeps (.refl s))
theorem execImageWrite_keeps {s : State} {t : State} (h : execImageWrite s = .next t) : s.Keeps t :=
  State.Keeps.next h (stepImageWrite_keeps (.refl s))
theorem execImageWritten_keeps {pkg : Nat} {s : State} {t : State} (h : execImageWritten pkg s = .next t) : s.Keeps t :=
  State.Keeps.next h (stepImageWritten_keeps (.refl s))
theorem execImageCommit_keeps {s : State} {t : State} (h : execImageCommit s = .next t) : s.Keeps t :=
  State.Keeps.next h (stepImageCommit_keeps (.refl s))
theorem execImageAbort_keeps {code : Nat} {s : State} {t : State} (h : execImageAbort code s = .next t) : s.Keeps t :=
  State.Keeps.next h (stepImageAbort_keeps (.refl s))
theorem execPayloadLoad_keeps {us : Nat} {badPages : List Nat} {epoch : Option Nat} {s : State} {t : State} (h : execPayloadLoad us badPages epoch s = .next t) : s.Keeps t :=
  State.Keeps.next h (stepPayloadLoad_keeps (.refl s))
theorem execSpareDutyCopy_keeps {pkg position kind epoch : Nat} {pages : List (Nat × List Byte)} {s : State} {t : State} (h : execSpareDutyCopy pkg position kind epoch pages s = .next t) : s.Keeps t :=
  State.Keeps.next h (stepSpareDutyCopy_keeps (.refl s))
theorem execClampWindowClose_keeps {s : State} {t : State} (h : execClampWindowClose s = .next t) : s.Keeps t :=
  State.Keeps.next h (stepClampWindowClose_keeps (.refl s))
theorem execClampPolicyAction_keeps {slot : Nat} {s : State} {t : State} (h : execClampPolicyAction slot s = .next t) : s.Keeps t :=
  State.Keeps.next h (stepClampPolicyAction_keeps (.refl s))
theorem execDleLayerCopyComplete_keeps {slot : Nat} {verified : Bool} {s : State} {t : State} (h : execDleLayerCopyComplete slot verified s = .next t) : s.Keeps t :=
  State.Keeps.next h (stepDleLayerCopyComplete_keeps (.refl s))
theorem execClampRestore_keeps {slot : Nat} {s : State} {t : State} (h : execClampRestore slot s = .next t) : s.Keeps t :=
  State.Keeps.next h (stepClampRestore_keeps (.refl s))
theorem execVector_keeps {pan arr ring slot stream index vec ecc : Nat} {s : State} {t : State} (h : execVector pan arr ring slot stream index vec ecc s = .next t) : s.Keeps t :=
  State.Keeps.next h (stepVector_keeps (.refl s))
theorem execArrayVectorComplete_keeps {pan arr : Nat} {s : State} {t : State} (h : execArrayVectorComplete pan arr s = .next t) : s.Keeps t :=
  State.Keeps.next h (stepArrayVectorComplete_keeps (.refl s))
theorem execStrictReplay_keeps {pan stream index : Nat} {s : State} {t : State} (h : execStrictReplay pan stream index s = .next t) : s.Keeps t :=
  State.Keeps.next h (stepStrictReplay_keeps (.refl s))
theorem execBitternEventServe_keeps {pan : Nat} {s : State} {t : State} (h : execBitternEventServe pan s = .next t) : s.Keeps t :=
  State.Keeps.next h (stepBitternEventServe_keeps (.refl s))
theorem execRingLoad_keeps {pan ring : Nat} {acts : List Byte} {scale : W16} {s : State} {t : State} (h : execRingLoad pan ring acts scale s = .next t) : s.Keeps t :=
  State.Keeps.next h (stepRingLoad_keeps (.refl s))
theorem execPrefetch_keeps {pan stream index res addr len dst : Nat} {s : State} {t : State} (h : execPrefetch pan stream index res addr len dst s = .next t) : s.Keeps t :=
  State.Keeps.next h (stepPrefetch_keeps (.refl s))
theorem execDeadline_keeps {pan stream index : Nat} {s : State} {t : State} (h : execDeadline pan stream index s = .next t) : s.Keeps t :=
  State.Keeps.next h (stepDeadline_keeps (.refl s))
theorem execAttnReturn_keeps {pan stream index : Nat} {complete : Bool} {s : State} {t : State} (h : execAttnReturn pan stream index complete s = .next t) : s.Keeps t :=
  State.Keeps.next h (stepAttnReturn_keeps (.refl s))
theorem execSlipSlot_keeps {slot : Nat} {s : State} {t : State} (h : execSlipSlot slot s = .next t) : s.Keeps t :=
  State.Keeps.next h (stepSlipSlot_keeps (.refl s))
theorem execCorrectLast_keeps {pan scaleArr slot stream index vec ecc : Nat} {s : State} {t : State} (h : execCorrectLast pan scaleArr slot stream index vec ecc s = .next t) : s.Keeps t :=
  State.Keeps.next h (stepCorrectLast_keeps (.refl s))
theorem execCall_keeps {pan slot stream index : Nat} {op : PanOp} {ecc : Nat} {s : State} {t : State} (h : execCall pan slot stream index op ecc s = .next t) : s.Keeps t :=
  State.Keeps.next h (stepCall_keeps (.refl s))
theorem execSpot_keeps {pan arr eligible : Nat} {s : State} {t : State} (h : execSpot pan arr eligible s = .next t) : s.Keeps t :=
  State.Keeps.next h (stepSpot_keeps (.refl s))
theorem execCanary_keeps {pan : Nat} {s : State} {t : State} (h : execCanary pan s = .next t) : s.Keeps t :=
  State.Keeps.next h (stepCanary_keeps (.refl s))
theorem execFlitForward_keeps {pan : Nat} {plane : Plane} {slot : Nat} {flits : List Flit} {s : State} {t : State} (h : execFlitForward pan plane slot flits s = .next t) : s.Keeps t :=
  State.Keeps.next h (stepFlitForward_keeps (.refl s))
theorem execControlFrameReceive_keeps {pan inp : Nat} {bytes : List Byte} {s : State} {t : State} (h : execControlFrameReceive pan inp bytes s = .next t) : s.Keeps t :=
  State.Keeps.next h (stepControlFrameReceive_keeps (.refl s))
theorem execKvWriteComplete_keeps {stream index : Nat} {s : State} {t : State} (h : execKvWriteComplete stream index s = .next t) : s.Keeps t :=
  State.Keeps.next h (stepKvWriteComplete_keeps (.refl s))
theorem execDleAttention_keeps {stream index slot : Nat} {blocks : List Nat} {len : Nat} {q : List W16} {fault : Option (Nat × DleFault)} {s : State} {t : State} (h : execDleAttention stream index slot blocks len q fault s = .next t) : s.Keeps t :=
  State.Keeps.next h (stepDleAttention_keeps (.refl s))
theorem execDleTier2Pass_keeps {slot name : Nat} {arrays : List (Nat × Nat)} {acts : List (Nat × Nat × W16 × List Byte)} {fault : Option (Nat × DleFault)} {s : State} {t : State} (h : execDleTier2Pass slot name arrays acts fault s = .next t) : s.Keeps t :=
  State.Keeps.next h (stepDleTier2Pass_keeps (.refl s))
theorem execUnitRetireDecision_keeps {kind unit : Nat} {s : State} {t : State} (h : execUnitRetireDecision kind unit s = .next t) : s.Keeps t :=
  State.Keeps.next h (stepUnitRetireDecision_keeps (.refl s))
theorem execPanSubstitution_keeps {pan : Nat} {s : State} {t : State} (h : execPanSubstitution pan s = .next t) : s.Keeps t :=
  State.Keeps.next h (stepPanSubstitution_keeps (.refl s))
theorem execDenyWrite_keeps {entry : Nat} {value : W32} {s : State} {t : State} (h : execDenyWrite entry value s = .next t) : s.Keeps t :=
  State.Keeps.next h (stepDenyWrite_keeps (.refl s))
theorem execHkConversionComplete_keeps {chan : Nat} {value : Int} {good triggered : Bool} {trimEcc : List (Nat × Nat)} {s : State} {t : State} (h : execHkConversionComplete chan value good triggered trimEcc s = .next t) : s.Keeps t :=
  State.Keeps.next h (stepHkConversionComplete_keeps (.refl s))
theorem execHkRoundEnd_keeps {s : State} {t : State} (h : execHkRoundEnd s = .next t) : s.Keeps t :=
  State.Keeps.next h (stepHkRoundEnd_keeps (.refl s))
theorem execHeadFractionUpdate_keeps {pkg f : Nat} {rate : RateReport} {s : State} {t : State} (h : execHeadFractionUpdate pkg f rate s = .next t) : s.Keeps t :=
  State.Keeps.next h (stepHeadFractionUpdate_keeps (.refl s))
theorem execHkTrigger_keeps {busy : Bool} {s : State} {t : State} (h : execHkTrigger busy s = .next t) : s.Keeps t :=
  State.Keeps.next h (stepHkTrigger_keeps (.refl s))
theorem execHkFifoDataRead_keeps {s : State} {t : State} (h : execHkFifoDataRead s = .next t) : s.Keeps t :=
  State.Keeps.next h (stepHkFifoDataRead_keeps (.refl s))
theorem execLaneMargining_keeps {port lane width height : Nat} {s : State} {t : State} (h : execLaneMargining port lane width height s = .next t) : s.Keeps t :=
  State.Keeps.next h (stepLaneMargining_keeps (.refl s))
theorem execTrimStoreLoad_keeps {s : State} {t : State} (h : execTrimStoreLoad s = .next t) : s.Keeps t :=
  State.Keeps.next h (stepTrimStoreLoad_keeps (.refl s))
theorem execVerifyRequest_keeps {pan : Nat} {s : State} {t : State} (h : execVerifyRequest pan s = .next t) : s.Keeps t :=
  State.Keeps.next h (stepVerifyRequest_keeps (.refl s))
theorem execVerificationComplete_keeps {pan : Nat} {qfs : List Nat} {s : State} {t : State} (h : execVerificationComplete pan qfs s = .next t) : s.Keeps t :=
  State.Keeps.next h (stepVerificationComplete_keeps (.refl s))
theorem execTimeStart_keeps {s : State} {t : State} (h : execTimeStart s = .next t) : s.Keeps t :=
  State.Keeps.next h (stepTimeStart_keeps (.refl s))
theorem execTimeStop_keeps {s : State} {t : State} (h : execTimeStop s = .next t) : s.Keeps t :=
  State.Keeps.next h (stepTimeStop_keeps (.refl s))
theorem execTickPeriodWrite_keeps {period : Nat} {s : State} {t : State} (h : execTickPeriodWrite period s = .next t) : s.Keeps t :=
  State.Keeps.next h (stepTickPeriodWrite_keeps (.refl s))
theorem execPeriodChangeEffect_keeps {s : State} {t : State} (h : execPeriodChangeEffect s = .next t) : s.Keeps t :=
  State.Keeps.next h (stepPeriodChangeEffect_keeps (.refl s))
theorem execTickMarkerReceive_keeps {port : Nat} {m : Marker} {err : Int} {s : State} {t : State} (h : execTickMarkerReceive port m err s = .next t) : s.Keeps t :=
  State.Keeps.next h (stepTickMarkerReceive_keeps (.refl s))
theorem execMarkerLost_keeps {s : State} {t : State} (h : execMarkerLost s = .next t) : s.Keeps t :=
  State.Keeps.next h (stepMarkerLost_keeps (.refl s))
theorem execFreeTimeout_keeps {s : State} {t : State} (h : execFreeTimeout s = .next t) : s.Keeps t :=
  State.Keeps.next h (stepFreeTimeout_keeps (.refl s))
theorem execSyncLock_keeps {pkg : Nat} {s : State} {t : State} (h : execSyncLock pkg s = .next t) : s.Keeps t :=
  State.Keeps.next h (stepSyncLock_keeps (.refl s))
theorem execPtmDialog_keeps {masterNs : Option Nat} {s : State} {t : State} (h : execPtmDialog masterNs s = .next t) : s.Keeps t :=
  State.Keeps.next h (stepPtmDialog_keeps (.refl s))
theorem execLinkRetrain_keeps {port : Nat} {cause : RetrainCause} {s : State} {t : State} (h : execLinkRetrain port cause s = .next t) : s.Keeps t :=
  State.Keeps.next h (stepLinkRetrain_keeps (.refl s))
theorem execLinkTrainingDone_keeps {port : Nat} {r : TrainResult} {s : State} {t : State} (h : execLinkTrainingDone port r s = .next t) : s.Keeps t :=
  State.Keeps.next h (stepLinkTrainingDone_keeps (.refl s))
theorem execFrameReceive_keeps {port : Nat} {bytes : List Byte} {lanes : List (Nat × Nat)} {bad : Bool} {s : State} {t : State} (h : execFrameReceive port bytes lanes bad s = .next t) : s.Keeps t :=
  State.Keeps.next h (stepFrameReceive_keeps (.refl s))
theorem execLinkAck_keeps {port seq : Nat} {s : State} {t : State} (h : execLinkAck port seq s = .next t) : s.Keeps t :=
  State.Keeps.next h (stepLinkAck_keeps (.refl s))
theorem execLinkNak_keeps {port seq : Nat} {s : State} {t : State} (h : execLinkNak port seq s = .next t) : s.Keeps t :=
  State.Keeps.next h (stepLinkNak_keeps (.refl s))
theorem execBundleReceive_keeps {b : Bundle} {late : Option Nat} {s : State} {t : State} (h : execBundleReceive b late s = .next t) : s.Keeps t :=
  State.Keeps.next h (stepBundleReceive_keeps (.refl s))
theorem execVerdictReceive_keeps {stamps : List Stamp} {s : State} {t : State} (h : execVerdictReceive stamps s = .next t) : s.Keeps t :=
  State.Keeps.next h (stepVerdictReceive_keeps (.refl s))
theorem execRouteFrame_keeps {src : Nat} {entries : List (Nat × W32)} {accept : Option Nat} {role : Option RoleWrite} {parent switchTick : Option Nat} {s : State} {t : State} (h : execRouteFrame src entries accept role parent switchTick s = .next t) : s.Keeps t :=
  State.Keeps.next h (stepRouteFrame_keeps (.refl s))
theorem execRouteBankSwitch_keeps {s : State} {t : State} (h : execRouteBankSwitch s = .next t) : s.Keeps t :=
  State.Keeps.next h (stepRouteBankSwitch_keeps (.refl s))
theorem execMoeDispatch_keeps {d : MoeWork} {s : State} {t : State} (h : execMoeDispatch d s = .next t) : s.Keeps t :=
  State.Keeps.next h (stepMoeDispatch_keeps (.refl s))
theorem execMoeReturn_keeps {layer stream index : Nat} {outs : List (W32 × List W16)} {residual : List W32} {s : State} {t : State} (h : execMoeReturn layer stream index outs residual s = .next t) : s.Keeps t :=
  State.Keeps.next h (stepMoeReturn_keeps (.refl s))
theorem execMemberLossReport_keeps {pkg : Nat} {s : State} {t : State} (h : execMemberLossReport pkg s = .next t) : s.Keeps t :=
  State.Keeps.next h (stepMemberLossReport_keeps (.refl s))
theorem execMemberLost_keeps {pkg cause : Nat} {s : State} {t : State} (h : execMemberLost pkg cause s = .next t) : s.Keeps t :=
  State.Keeps.next h (stepMemberLost_keeps (.refl s))
theorem execMemberRejoin_keeps {pkg : Nat} {kept : Bool} {s : State} {t : State} (h : execMemberRejoin pkg kept s = .next t) : s.Keeps t :=
  State.Keeps.next h (stepMemberRejoin_keeps (.refl s))
theorem execRerigWaitExpiry_keeps {facts : RerigFacts} {s : State} {t : State} (h : execRerigWaitExpiry facts s = .next t) : s.Keeps t :=
  State.Keeps.next h (stepRerigWaitExpiry_keeps (.refl s))
theorem execStreamRebuilt_keeps {ch : Nat} {s : State} {t : State} (h : execStreamRebuilt ch s = .next t) : s.Keeps t :=
  State.Keeps.next h (stepStreamRebuilt_keeps (.refl s))
theorem execRouteWrite_keeps {value : W32} {s : State} {t : State} (h : execRouteWrite value s = .next t) : s.Keeps t :=
  State.Keeps.next h (stepRouteWrite_keeps (.refl s))
theorem execVlShareWrite_keeps {port : Nat} {value : W32} {s : State} {t : State} (h : execVlShareWrite port value s = .next t) : s.Keeps t :=
  State.Keeps.next h (stepVlShareWrite_keeps (.refl s))
theorem execArbRequest_keeps {res unit : Nat} {who : Requester} {waited : Nat} {ch : Option Nat} {s : State} {t : State} (h : execArbRequest res unit who waited ch s = .next t) : s.Keeps t :=
  State.Keeps.next h (stepArbRequest_keeps (.refl s))
theorem execBackoffExpiry_keeps {res unit : Nat} {who : Requester} {s : State} {t : State} (h : execBackoffExpiry res unit who s = .next t) : s.Keeps t :=
  State.Keeps.next h (stepBackoffExpiry_keeps (.refl s))
theorem execArbTransferComplete_keeps {res unit bytes : Nat} {write : Bool} {data : List Byte} {ecc : Nat} {s : State} {t : State} (h : execArbTransferComplete res unit bytes write data ecc s = .next t) : s.Keeps t :=
  State.Keeps.next h (stepArbTransferComplete_keeps (.refl s))
theorem execArbWatchdogBite_keeps {res unit : Nat} {s : State} {t : State} (h : execArbWatchdogBite res unit s = .next t) : s.Keeps t :=
  State.Keeps.next h (stepArbWatchdogBite_keeps (.refl s))
theorem execBiteResetEnd_keeps {res : Nat} {s : State} {t : State} (h : execBiteResetEnd res s = .next t) : s.Keeps t :=
  State.Keeps.next h (stepBiteResetEnd_keeps (.refl s))
theorem execReplyRecordWrite_keeps {fn ring : Nat} {ok : Bool} {s : State} {t : State} (h : execReplyRecordWrite fn ring ok s = .next t) : s.Keeps t :=
  State.Keeps.next h (stepReplyRecordWrite_keeps (.refl s))
theorem execBacklogDrain_keeps {fn ring : Nat} {s : State} {t : State} (h : execBacklogDrain fn ring s = .next t) : s.Keeps t :=
  State.Keeps.next h (stepBacklogDrain_keeps (.refl s))
theorem execRingEnable_keeps {fn ring : Nat} {s : State} {t : State} (h : execRingEnable fn ring s = .next t) : s.Keeps t :=
  State.Keeps.next h (stepRingEnable_keeps (.refl s))
theorem execRingConsWrite_keeps {fn ring : Nat} {cons : W32} {s : State} {t : State} (h : execRingConsWrite fn ring cons s = .next t) : s.Keeps t :=
  State.Keeps.next h (stepRingConsWrite_keeps (.refl s))
theorem execPendRead_keeps {fn : Nat} {s : State} {t : State} (h : execPendRead fn s = .next t) : s.Keeps t :=
  State.Keeps.next h (stepPendRead_keeps (.refl s))
theorem execChanRangeWrite_keeps {fn : Nat} {value : W32} {s : State} {t : State} (h : execChanRangeWrite fn value s = .next t) : s.Keeps t :=
  State.Keeps.next h (stepChanRangeWrite_keeps (.refl s))
theorem execMsixUnmask_keeps {fn entry : Nat} {s : State} {t : State} (h : execMsixUnmask fn entry s = .next t) : s.Keeps t :=
  State.Keeps.next h (stepMsixUnmask_keeps (.refl s))
theorem execEventRingEnable_keeps {s : State} {t : State} (h : execEventRingEnable s = .next t) : s.Keeps t :=
  State.Keeps.next h (stepEventRingEnable_keeps (.refl s))
theorem execEventRingConsWrite_keeps {cons : W32} {s : State} {t : State} (h : execEventRingConsWrite cons s = .next t) : s.Keeps t :=
  State.Keeps.next h (stepEventRingConsWrite_keeps (.refl s))
theorem execLateCompletion_keeps {s : State} {t : State} (h : execLateCompletion s = .next t) : s.Keeps t :=
  State.Keeps.next h (stepLateCompletion_keeps (.refl s))
theorem execPoisonedTlp_keeps {write : Bool} {ch : Option Nat} {s : State} {t : State} (h : execPoisonedTlp write ch s = .next t) : s.Keeps t :=
  State.Keeps.next h (stepPoisonedTlp_keeps (.refl s))
theorem execAtomicOp_keeps {fn bar : Nat} {s : State} {t : State} (h : execAtomicOp fn bar s = .next t) : s.Keeps t :=
  State.Keeps.next h (stepAtomicOp_keeps (.refl s))
theorem execFlrVf_keeps {fn : Nat} {s : State} {t : State} (h : execFlrVf fn s = .next t) : s.Keeps t :=
  State.Keeps.next h (stepFlrVf_keeps (.refl s))
theorem execFlrPf0_keeps {s : State} {t : State} (h : execFlrPf0 s = .next t) : s.Keeps t :=
  State.Keeps.next h (stepFlrPf0_keeps (.refl s))
theorem execFlrCompletion_keeps {fn : Nat} {s : State} {t : State} (h : execFlrCompletion fn s = .next t) : s.Keeps t :=
  State.Keeps.next h (stepFlrCompletion_keeps (.refl s))
theorem execVfEnableClear_keeps {s : State} {t : State} (h : execVfEnableClear s = .next t) : s.Keeps t :=
  State.Keeps.next h (stepVfEnableClear_keeps (.refl s))
theorem execBusMasterDisable_keeps {fn : Nat} {s : State} {t : State} (h : execBusMasterDisable fn s = .next t) : s.Keeps t :=
  State.Keeps.next h (stepBusMasterDisable_keeps (.refl s))
theorem execD3hotEntry_keeps {fn : Nat} {s : State} {t : State} (h : execD3hotEntry fn s = .next t) : s.Keeps t :=
  State.Keeps.next h (stepD3hotEntry_keeps (.refl s))
theorem execD3hotExit_keeps {fn : Nat} {s : State} {t : State} (h : execD3hotExit fn s = .next t) : s.Keeps t :=
  State.Keeps.next h (stepD3hotExit_keeps (.refl s))
theorem execPcieLinkDown_keeps {s : State} {t : State} (h : execPcieLinkDown s = .next t) : s.Keeps t :=
  State.Keeps.next h (stepPcieLinkDown_keeps (.refl s))
theorem execPcieHotReset_keeps {s : State} {t : State} (h : execPcieHotReset s = .next t) : s.Keeps t :=
  State.Keeps.next h (stepPcieHotReset_keeps (.refl s))
theorem execPerst_keeps {low : Bool} {s : State} {t : State} (h : execPerst low s = .next t) : s.Keeps t :=
  State.Keeps.next h (stepPerst_keeps (.refl s))
theorem execConfigRequestRetry_keeps {fn : Nat} {s : State} {t : State} (h : execConfigRequestRetry fn s = .next t) : s.Keeps t :=
  State.Keeps.next h (stepConfigRequestRetry_keeps (.refl s))
theorem execLowWordRead_keeps {fn : Nat} {slots : Bool} {off len : Nat} {s : State} {t : State} (h : execLowWordRead fn slots off len s = .next t) : s.Keeps t := by
  unfold execLowWordRead at h
  by_cases c : (if slots then 4194304 else bar0Size fn) < off + len
  · rw [if_pos c] at h; cases h
  · rw [if_neg c] at h; exact State.Keeps.next h (stepLowWordRead_keeps (.refl s))
theorem execSnapHold_keeps {s : State} {t : State} (h : execSnapHold s = .next t) : s.Keeps t :=
  State.Keeps.next h (stepSnapHold_keeps (.refl s))
theorem execSnapRelease_keeps {s : State} {t : State} (h : execSnapRelease s = .next t) : s.Keeps t :=
  State.Keeps.next h (stepSnapRelease_keeps (.refl s))
theorem execSnapHoldExpiry_keeps {s : State} {t : State} (h : execSnapHoldExpiry s = .next t) : s.Keeps t :=
  State.Keeps.next h (stepSnapHoldExpiry_keeps (.refl s))
theorem execPanDigRead_keeps {pan arr row : Nat} {s : State} {t : State} (h : execPanDigRead pan arr row s = .next t) : s.Keeps t :=
  State.Keeps.next h (stepPanDigRead_keeps (.refl s))
theorem execPanDigWrite_keeps {pan arr row : Nat} {s : State} {t : State} (h : execPanDigWrite pan arr row s = .next t) : s.Keeps t :=
  State.Keeps.next h (stepPanDigWrite_keeps (.refl s))
theorem execPanDigComplete_keeps {pan : Nat} {s : State} {t : State} (h : execPanDigComplete pan s = .next t) : s.Keeps t :=
  State.Keeps.next h (stepPanDigComplete_keeps (.refl s))
theorem execKeyEnrol_keeps {slot : Nat} {s : State} {t : State} (h : execKeyEnrol slot s = .next t) : s.Keeps t :=
  State.Keeps.next h (stepKeyEnrol_keeps (.refl s))
theorem execKeyRevoke_keeps {slot : Nat} {s : State} {t : State} (h : execKeyRevoke slot s = .next t) : s.Keeps t :=
  State.Keeps.next h (stepKeyRevoke_keeps (.refl s))
theorem execLcChallenge_keeps {s : State} {t : State} (h : execLcChallenge s = .next t) : s.Keeps t :=
  State.Keeps.next h (stepLcChallenge_keeps (.refl s))
theorem execLcTransition_keeps {target confirm : Nat} {token : TokenRead} {torn : Bool} {s : State} {t : State} (h : execLcTransition target confirm token torn s = .next t) : s.Keeps t :=
  State.Keeps.next h (stepLcTransition_keeps (.refl s))
theorem execFwUpdate_keeps {bundle : Option (List (List Byte))} {cut : Bool} {s : State} {t : State} (h : execFwUpdate bundle cut s = .next t) : s.Keeps t :=
  State.Keeps.next h (stepFwUpdate_keeps (.refl s))
theorem execCommitSvn_keeps {s : State} {t : State} (h : execCommitSvn s = .next t) : s.Keeps t :=
  State.Keeps.next h (stepCommitSvn_keeps (.refl s))
theorem execAttestReservation_keeps {firstOk retryOk : Bool} {s : State} {t : State} (h : execAttestReservation firstOk retryOk s = .next t) : s.Keeps t :=
  State.Keeps.next h (stepAttestReservation_keeps (.refl s))
theorem execPowerOnReset_keeps {s : State} {t : State} (h : execPowerOnReset s = .next t) : s.Keeps t :=
  State.Keeps.next h (stepPowerOnReset_keeps (.refl s))
theorem execRailsSoftStart_keeps {railOk : Bool} {s : State} {t : State} (h : execRailsSoftStart railOk s = .next t) : s.Keeps t :=
  State.Keeps.next h (stepRailsSoftStart_keeps (.refl s))
theorem execCcBoot_keeps {facts : BootFacts} {s : State} {t : State} (h : execCcBoot facts s = .next t) : s.Keeps t :=
  State.Keeps.next h (stepCcBoot_keeps (.refl s))
theorem execAuxBrownout_keeps {s : State} {t : State} (h : execAuxBrownout s = .next t) : s.Keeps t :=
  State.Keeps.next h (stepAuxBrownout_keeps (.refl s))
theorem execColdReset_keeps {hottest : Int} {s : State} {t : State} (h : execColdReset hottest s = .next t) : s.Keeps t :=
  State.Keeps.next h (stepColdReset_keeps (.refl s))
theorem execWarmReset_keeps {s : State} {t : State} (h : execWarmReset s = .next t) : s.Keeps t :=
  State.Keeps.next h (stepWarmReset_keeps (.refl s))
theorem execRstCtrlWarm_keeps {value : Nat} {s : State} {t : State} (h : execRstCtrlWarm value s = .next t) : s.Keeps t :=
  State.Keeps.next h (stepRstCtrlWarm_keeps (.refl s))
theorem execWatchdogKick_keeps {s : State} {t : State} (h : execWatchdogKick s = .next t) : s.Keeps t :=
  State.Keeps.next h (stepWatchdogKick_keeps (.refl s))
theorem execDeviceWatchdogBite_keeps {s : State} {t : State} (h : execDeviceWatchdogBite s = .next t) : s.Keeps t :=
  State.Keeps.next h (stepDeviceWatchdogBite_keeps (.refl s))
theorem execPllLossOfLock_keeps {dom : PllDomain} {s : State} {t : State} (h : execPllLossOfLock dom s = .next t) : s.Keeps t :=
  State.Keeps.next h (stepPllLossOfLock_keeps (.refl s))
theorem execReferenceFailure_keeps {s : State} {t : State} (h : execReferenceFailure s = .next t) : s.Keeps t :=
  State.Keeps.next h (stepReferenceFailure_keeps (.refl s))
theorem execThermalTrip_keeps {sensor : Nat} {temp : Int} {s : State} {t : State} (h : execThermalTrip sensor temp s = .next t) : s.Keeps t :=
  State.Keeps.next h (stepThermalTrip_keeps (.refl s))
theorem execThermalTripRestart_keeps {hottest : Int} {s : State} {t : State} (h : execThermalTripRestart hottest s = .next t) : s.Keeps t :=
  State.Keeps.next h (stepThermalTripRestart_keeps (.refl s))
theorem execVinFault_keeps {s : State} {t : State} (h : execVinFault s = .next t) : s.Keeps t :=
  State.Keeps.next h (stepVinFault_keeps (.refl s))
theorem execVbakLoss_keeps {s : State} {t : State} (h : execVbakLoss s = .next t) : s.Keeps t :=
  State.Keeps.next h (stepVbakLoss_keeps (.refl s))
theorem execFurlRequest_keeps {s : State} {t : State} (h : execFurlRequest s = .next t) : s.Keeps t :=
  State.Keeps.next h (stepFurlRequest_keeps (.refl s))
theorem execWakeN_keeps {s : State} {t : State} (h : execWakeN s = .next t) : s.Keeps t :=
  State.Keeps.next h (stepWakeN_keeps (.refl s))
theorem execIslandFurlRetain_keeps {isl : Nat} {s : State} {t : State} (h : execIslandFurlRetain isl s = .next t) : s.Keeps t :=
  State.Keeps.next h (stepIslandFurlRetain_keeps (.refl s))
theorem execIslandFurlDark_keeps {isl : Nat} {s : State} {t : State} (h : execIslandFurlDark isl s = .next t) : s.Keeps t :=
  State.Keeps.next h (stepIslandFurlDark_keeps (.refl s))
theorem execIslandUnfurl_keeps {isl : Nat} {s : State} {t : State} (h : execIslandUnfurl isl s = .next t) : s.Keeps t :=
  State.Keeps.next h (stepIslandUnfurl_keeps (.refl s))
theorem execIslandFurlComplete_keeps {isl : Nat} {s : State} {t : State} (h : execIslandFurlComplete isl s = .next t) : s.Keeps t :=
  State.Keeps.next h (stepIslandFurlComplete_keeps (.refl s))
theorem execIslandUnfurlComplete_keeps {isl : Nat} {s : State} {t : State} (h : execIslandUnfurlComplete isl s = .next t) : s.Keeps t :=
  State.Keeps.next h (stepIslandUnfurlComplete_keeps (.refl s))
theorem execBistRequest_keeps {fclk kind target : Nat} {s : State} {t : State} (h : execBistRequest fclk kind target s = .next t) : s.Keeps t :=
  State.Keeps.next h (stepBistRequest_keeps (.refl s))
theorem execBistComplete_keeps {cond : Bool} {badUnits : List Nat} {s : State} {t : State} (h : execBistComplete cond badUnits s = .next t) : s.Keeps t :=
  State.Keeps.next h (stepBistComplete_keeps (.refl s))
theorem execResetCountClear_keeps {s : State} {t : State} (h : execResetCountClear s = .next t) : s.Keeps t :=
  State.Keeps.next h (stepResetCountClear_keeps (.refl s))
theorem execRtcSet_keeps {s : State} {t : State} (h : execRtcSet s = .next t) : s.Keeps t :=
  State.Keeps.next h (stepRtcSet_keeps (.refl s))
theorem execMgmtTsRead_keeps {block off len : Nat} {s : State} {t : State} (h : execMgmtTsRead block off len s = .next t) : s.Keeps t :=
  State.Keeps.next h (stepMgmtTsRead_keeps (.refl s))
theorem execMgmtDenyWrite_keeps {entry : Nat} {value : W32} {s : State} {t : State} (h : execMgmtDenyWrite entry value s = .next t) : s.Keeps t :=
  State.Keeps.next h (stepMgmtDenyWrite_keeps (.refl s))
theorem execMgmtReefFloorWrite_keeps {value : W32} {s : State} {t : State} (h : execMgmtReefFloorWrite value s = .next t) : s.Keeps t :=
  State.Keeps.next h (stepMgmtReefFloorWrite_keeps (.refl s))
theorem execMgmtFurl_keeps {s : State} {t : State} (h : execMgmtFurl s = .next t) : s.Keeps t :=
  State.Keeps.next h (stepMgmtFurl_keeps (.refl s))
theorem execMgmtWake_keeps {s : State} {t : State} (h : execMgmtWake s = .next t) : s.Keeps t :=
  State.Keeps.next h (stepMgmtWake_keeps (.refl s))
theorem execMgmtTripRecordRead_keeps {i : Nat} {s : State} {t : State} (h : execMgmtTripRecordRead i s = .next t) : s.Keeps t :=
  State.Keeps.next h (stepMgmtTripRecordRead_keeps (.refl s))
theorem execRegisterWrite_keeps {fn off : Nat} {data : List Byte} {s : State} {t : State} (h : execRegisterWrite fn off data s = .next t) : s.Keeps t := by
  unfold execRegisterWrite at h
  by_cases c : bar0Size fn < off + data.length
  · rw [if_pos c] at h; cases h
  · rw [if_neg c] at h; exact State.Keeps.next h (stepRegisterWrite_keeps (.refl s))
theorem execFactoryCalibration_keeps {point ladderDiff : Nat} {taps : List (Nat × List Byte)} {resid : List (Nat × Nat)} {last torn : Bool} {s : State} {t : State} (h : execFactoryCalibration point ladderDiff taps resid last torn s = .next t) : s.Keeps t :=
  State.Keeps.next h (stepFactoryCalibration_keeps (.refl s))
theorem execAttestationKeyGeneration_keeps {s : State} {t : State} (h : execAttestationKeyGeneration s = .next t) : s.Keeps t :=
  State.Keeps.next h (stepAttestationKeyGeneration_keeps (.refl s))
theorem execCompletionTimeout_keeps {res unit : Nat} {s : State} {t : State} (h : execCompletionTimeout res unit s = .next t) : s.Keeps t :=
  State.Keeps.next h (stepCompletionTimeout_keeps (.refl s))
theorem execPcieLinkUp_keeps {speed width : Nat} {reversed sris : Bool} {s : State} {t : State} (h : execPcieLinkUp speed width reversed sris s = .next t) : s.Keeps t :=
  State.Keeps.next h (stepPcieLinkUp_keeps (.refl s))
theorem execBusMasterEnable_keeps {fn : Nat} {s : State} {t : State} (h : execBusMasterEnable fn s = .next t) : s.Keeps t :=
  State.Keeps.next h (stepBusMasterEnable_keeps (.refl s))
theorem execMgmtI3cCfgWrite_keeps {value : W32} {s : State} {t : State} (h : execMgmtI3cCfgWrite value s = .next t) : s.Keeps t :=
  State.Keeps.next h (stepMgmtI3cCfgWrite_keeps (.refl s))

end Sys2Proof.Machine
end

