-- ==== Sys2Proof/Laws/Ops.lean ====
section
/-! SUPPORT. What each shared operation can do: the parts of the state that outputs, the error log, interrupt messages, reply
records and passing time leave as they are, and folds over the state that keep a property. -/

namespace Sys2Proof.Machine

/-- A fold keeps what each of its parts keeps. -/
theorem State.each_keeps {α : Type} (P : State → Prop) (f : State → α → State) (h : ∀ s a, P s → P (f s a)) :
    ∀ (l : List α) (s : State), P s → P (s.each l f)
  | [], _, hs => hs
  | a :: l, s, hs => State.each_keeps P f h l (f s a) (h s a hs)

/-- A fold leaves what each of its parts leaves. -/
theorem State.each_leaves {α β : Type} (g : State → β) (f : State → α → State) (h : ∀ s a, g (f s a) = g s)
    (l : List α) (s : State) : g (s.each l f) = g s :=
  State.each_keeps (fun t => g t = g s) f (fun t a ht => (h t a).trans ht) l s rfl

/-- The same of a left fold written out. -/
theorem foldl_leaves {α β : Type} (g : State → β) (f : State → α → State) (h : ∀ s a, g (f s a) = g s)
    (l : List α) (s : State) : g (l.foldl f s) = g s := State.each_leaves g f h l s

@[simp] theorem State.sendMsix_role (s : State) (f e : Nat) : (s.sendMsix f e).dev.role = s.dev.role := by unfold State.sendMsix; split <;> rfl
@[simp] theorem State.sendMsix_time (s : State) (f e : Nat) : (s.sendMsix f e).dev.time = s.dev.time := by unfold State.sendMsix; split <;> rfl
@[simp] theorem State.sendMsix_fab (s : State) (f e : Nat) : (s.sendMsix f e).dev.fab = s.dev.fab := by unfold State.sendMsix; split <;> rfl
@[simp] theorem State.sendMsix_pans (s : State) (f e : Nat) : (s.sendMsix f e).dev.pans = s.dev.pans := by unfold State.sendMsix; split <;> rfl
@[simp] theorem State.sendMsix_dle (s : State) (f e : Nat) : (s.sendMsix f e).dev.dle = s.dev.dle := by unfold State.sendMsix; split <;> rfl
@[simp] theorem State.sendMsix_mem (s : State) (f e : Nat) : (s.sendMsix f e).dev.mem = s.dev.mem := by unfold State.sendMsix; split <;> rfl
@[simp] theorem State.sendMsix_arb (s : State) (f e : Nat) : (s.sendMsix f e).dev.arb = s.dev.arb := by unfold State.sendMsix; split <;> rfl
@[simp] theorem State.sendMsix_ws (s : State) (f e : Nat) : (s.sendMsix f e).dev.ws = s.dev.ws := by unfold State.sendMsix; split <;> rfl
@[simp] theorem State.sendMsix_lnk (s : State) (f e : Nat) : (s.sendMsix f e).dev.lnk = s.dev.lnk := by unfold State.sendMsix; split <;> rfl
@[simp] theorem State.sendMsix_srv (s : State) (f e : Nat) : (s.sendMsix f e).dev.srv = s.dev.srv := by unfold State.sendMsix; split <;> rfl
@[simp] theorem State.sendMsix_chk (s : State) (f e : Nat) : (s.sendMsix f e).dev.chk = s.dev.chk := by unfold State.sendMsix; split <;> rfl
@[simp] theorem State.sendMsix_sec (s : State) (f e : Nat) : (s.sendMsix f e).dev.sec = s.dev.sec := by unfold State.sendMsix; split <;> rfl
@[simp] theorem State.sendMsix_nv (s : State) (f e : Nat) : (s.sendMsix f e).dev.nv = s.dev.nv := by unfold State.sendMsix; split <;> rfl
@[simp] theorem State.sendMsix_rst (s : State) (f e : Nat) : (s.sendMsix f e).dev.rst = s.dev.rst := by unfold State.sendMsix; split <;> rfl
@[simp] theorem State.sendMsix_hk (s : State) (f e : Nat) : (s.sendMsix f e).dev.hk = s.dev.hk := by unfold State.sendMsix; split <;> rfl
@[simp] theorem State.sendMsix_cn (s : State) (f e : Nat) : (s.sendMsix f e).dev.cn = s.dev.cn := by unfold State.sendMsix; split <;> rfl
@[simp] theorem State.sendMsix_snap (s : State) (f e : Nat) : (s.sendMsix f e).snap = s.snap := by unfold State.sendMsix; split <;> rfl
@[simp] theorem State.sendMsix_snapTick (s : State) (f e : Nat) : (s.sendMsix f e).snapTick = s.snapTick := by unfold State.sendMsix; split <;> rfl
@[simp] theorem State.sendMsix_hold (s : State) (f e : Nat) : (s.sendMsix f e).hold = s.hold := by unfold State.sendMsix; split <;> rfl
@[simp] theorem State.sendMsix_holdExpired (s : State) (f e : Nat) : (s.sendMsix f e).holdExpired = s.holdExpired := by unfold State.sendMsix; split <;> rfl
@[simp] theorem State.sendMsix_latches (s : State) (f e : Nat) : (s.sendMsix f e).latches = s.latches := by unfold State.sendMsix; split <;> rfl
@[simp] theorem State.sendMsix_freeCtr (s : State) (f e : Nat) : (s.sendMsix f e).freeCtr = s.freeCtr := by unfold State.sendMsix; split <;> rfl
@[simp] theorem State.sendMsix_begun (s : State) (f e : Nat) : (s.sendMsix f e).begun = s.begun := by unfold State.sendMsix; split <;> rfl
@[simp] theorem State.sendMsix_pending (s : State) (f e : Nat) : (s.sendMsix f e).pending = s.pending := by unfold State.sendMsix; split <;> rfl

/-- flushMsix changes the functions' MSI-X entries and the outputs, and nothing else. -/
theorem State.flushMsix_leaves {β : Type} (g : State → β) (h1 : ∀ s f e k, g (State.updMsix s f e k) = g s)
    (h2 : ∀ s o, g (State.emit s o) = g s) (s : State) (f : Nat) : g (s.flushMsix f) = g s := by
  unfold State.flushMsix
  split
  · refine foldl_leaves g _ ?_ _ _
    intro t e
    split
    · rw [h2, h1]
    · rfl
  · rfl

@[simp] theorem State.flushMsix_role (s : State) (f : Nat) : (s.flushMsix f).dev.role = s.dev.role := by exact State.flushMsix_leaves (fun t => t.dev.role) (fun _ _ _ _ => rfl) (fun _ _ => rfl) s f
@[simp] theorem State.flushMsix_time (s : State) (f : Nat) : (s.flushMsix f).dev.time = s.dev.time := by exact State.flushMsix_leaves (fun t => t.dev.time) (fun _ _ _ _ => rfl) (fun _ _ => rfl) s f
@[simp] theorem State.flushMsix_fab (s : State) (f : Nat) : (s.flushMsix f).dev.fab = s.dev.fab := by exact State.flushMsix_leaves (fun t => t.dev.fab) (fun _ _ _ _ => rfl) (fun _ _ => rfl) s f
@[simp] theorem State.flushMsix_pans (s : State) (f : Nat) : (s.flushMsix f).dev.pans = s.dev.pans := by exact State.flushMsix_leaves (fun t => t.dev.pans) (fun _ _ _ _ => rfl) (fun _ _ => rfl) s f
@[simp] theorem State.flushMsix_dle (s : State) (f : Nat) : (s.flushMsix f).dev.dle = s.dev.dle := by exact State.flushMsix_leaves (fun t => t.dev.dle) (fun _ _ _ _ => rfl) (fun _ _ => rfl) s f
@[simp] theorem State.flushMsix_mem (s : State) (f : Nat) : (s.flushMsix f).dev.mem = s.dev.mem := by exact State.flushMsix_leaves (fun t => t.dev.mem) (fun _ _ _ _ => rfl) (fun _ _ => rfl) s f
@[simp] theorem State.flushMsix_arb (s : State) (f : Nat) : (s.flushMsix f).dev.arb = s.dev.arb := by exact State.flushMsix_leaves (fun t => t.dev.arb) (fun _ _ _ _ => rfl) (fun _ _ => rfl) s f
@[simp] theorem State.flushMsix_ws (s : State) (f : Nat) : (s.flushMsix f).dev.ws = s.dev.ws := by exact State.flushMsix_leaves (fun t => t.dev.ws) (fun _ _ _ _ => rfl) (fun _ _ => rfl) s f
@[simp] theorem State.flushMsix_lnk (s : State) (f : Nat) : (s.flushMsix f).dev.lnk = s.dev.lnk := by exact State.flushMsix_leaves (fun t => t.dev.lnk) (fun _ _ _ _ => rfl) (fun _ _ => rfl) s f
@[simp] theorem State.flushMsix_srv (s : State) (f : Nat) : (s.flushMsix f).dev.srv = s.dev.srv := by exact State.flushMsix_leaves (fun t => t.dev.srv) (fun _ _ _ _ => rfl) (fun _ _ => rfl) s f
@[simp] theorem State.flushMsix_chk (s : State) (f : Nat) : (s.flushMsix f).dev.chk = s.dev.chk := by exact State.flushMsix_leaves (fun t => t.dev.chk) (fun _ _ _ _ => rfl) (fun _ _ => rfl) s f
@[simp] theorem State.flushMsix_sec (s : State) (f : Nat) : (s.flushMsix f).dev.sec = s.dev.sec := by exact State.flushMsix_leaves (fun t => t.dev.sec) (fun _ _ _ _ => rfl) (fun _ _ => rfl) s f
@[simp] theorem State.flushMsix_nv (s : State) (f : Nat) : (s.flushMsix f).dev.nv = s.dev.nv := by exact State.flushMsix_leaves (fun t => t.dev.nv) (fun _ _ _ _ => rfl) (fun _ _ => rfl) s f
@[simp] theorem State.flushMsix_rst (s : State) (f : Nat) : (s.flushMsix f).dev.rst = s.dev.rst := by exact State.flushMsix_leaves (fun t => t.dev.rst) (fun _ _ _ _ => rfl) (fun _ _ => rfl) s f
@[simp] theorem State.flushMsix_hk (s : State) (f : Nat) : (s.flushMsix f).dev.hk = s.dev.hk := by exact State.flushMsix_leaves (fun t => t.dev.hk) (fun _ _ _ _ => rfl) (fun _ _ => rfl) s f
@[simp] theorem State.flushMsix_cn (s : State) (f : Nat) : (s.flushMsix f).dev.cn = s.dev.cn := by exact State.flushMsix_leaves (fun t => t.dev.cn) (fun _ _ _ _ => rfl) (fun _ _ => rfl) s f
@[simp] theorem State.flushMsix_snap (s : State) (f : Nat) : (s.flushMsix f).snap = s.snap := by exact State.flushMsix_leaves (fun t => t.snap) (fun _ _ _ _ => rfl) (fun _ _ => rfl) s f
@[simp] theorem State.flushMsix_snapTick (s : State) (f : Nat) : (s.flushMsix f).snapTick = s.snapTick := by exact State.flushMsix_leaves (fun t => t.snapTick) (fun _ _ _ _ => rfl) (fun _ _ => rfl) s f
@[simp] theorem State.flushMsix_hold (s : State) (f : Nat) : (s.flushMsix f).hold = s.hold := by exact State.flushMsix_leaves (fun t => t.hold) (fun _ _ _ _ => rfl) (fun _ _ => rfl) s f
@[simp] theorem State.flushMsix_holdExpired (s : State) (f : Nat) : (s.flushMsix f).holdExpired = s.holdExpired := by exact State.flushMsix_leaves (fun t => t.holdExpired) (fun _ _ _ _ => rfl) (fun _ _ => rfl) s f
@[simp] theorem State.flushMsix_latches (s : State) (f : Nat) : (s.flushMsix f).latches = s.latches := by exact State.flushMsix_leaves (fun t => t.latches) (fun _ _ _ _ => rfl) (fun _ _ => rfl) s f
@[simp] theorem State.flushMsix_freeCtr (s : State) (f : Nat) : (s.flushMsix f).freeCtr = s.freeCtr := by exact State.flushMsix_leaves (fun t => t.freeCtr) (fun _ _ _ _ => rfl) (fun _ _ => rfl) s f
@[simp] theorem State.flushMsix_begun (s : State) (f : Nat) : (s.flushMsix f).begun = s.begun := by exact State.flushMsix_leaves (fun t => t.begun) (fun _ _ _ _ => rfl) (fun _ _ => rfl) s f
@[simp] theorem State.flushMsix_pending (s : State) (f : Nat) : (s.flushMsix f).pending = s.pending := by exact State.flushMsix_leaves (fun t => t.pending) (fun _ _ _ _ => rfl) (fun _ _ => rfl) s f
@[simp] theorem State.mirrorEvent_role (s : State) (e : LogEntry) : (s.mirrorEvent e).dev.role = s.dev.role := by simp only [State.mirrorEvent]; (repeat' split) <;> rfl
@[simp] theorem State.mirrorEvent_time (s : State) (e : LogEntry) : (s.mirrorEvent e).dev.time = s.dev.time := by simp only [State.mirrorEvent]; (repeat' split) <;> rfl
@[simp] theorem State.mirrorEvent_fab (s : State) (e : LogEntry) : (s.mirrorEvent e).dev.fab = s.dev.fab := by simp only [State.mirrorEvent]; (repeat' split) <;> rfl
@[simp] theorem State.mirrorEvent_pans (s : State) (e : LogEntry) : (s.mirrorEvent e).dev.pans = s.dev.pans := by simp only [State.mirrorEvent]; (repeat' split) <;> rfl
@[simp] theorem State.mirrorEvent_dle (s : State) (e : LogEntry) : (s.mirrorEvent e).dev.dle = s.dev.dle := by simp only [State.mirrorEvent]; (repeat' split) <;> rfl
@[simp] theorem State.mirrorEvent_mem (s : State) (e : LogEntry) : (s.mirrorEvent e).dev.mem = s.dev.mem := by simp only [State.mirrorEvent]; (repeat' split) <;> rfl
@[simp] theorem State.mirrorEvent_arb (s : State) (e : LogEntry) : (s.mirrorEvent e).dev.arb = s.dev.arb := by simp only [State.mirrorEvent]; (repeat' split) <;> rfl
@[simp] theorem State.mirrorEvent_ws (s : State) (e : LogEntry) : (s.mirrorEvent e).dev.ws = s.dev.ws := by simp only [State.mirrorEvent]; (repeat' split) <;> rfl
@[simp] theorem State.mirrorEvent_lnk (s : State) (e : LogEntry) : (s.mirrorEvent e).dev.lnk = s.dev.lnk := by simp only [State.mirrorEvent]; (repeat' split) <;> rfl
@[simp] theorem State.mirrorEvent_srv (s : State) (e : LogEntry) : (s.mirrorEvent e).dev.srv = s.dev.srv := by simp only [State.mirrorEvent]; (repeat' split) <;> rfl
@[simp] theorem State.mirrorEvent_chk (s : State) (e : LogEntry) : (s.mirrorEvent e).dev.chk = s.dev.chk := by simp only [State.mirrorEvent]; (repeat' split) <;> rfl
@[simp] theorem State.mirrorEvent_sec (s : State) (e : LogEntry) : (s.mirrorEvent e).dev.sec = s.dev.sec := by simp only [State.mirrorEvent]; (repeat' split) <;> rfl
@[simp] theorem State.mirrorEvent_nv (s : State) (e : LogEntry) : (s.mirrorEvent e).dev.nv = s.dev.nv := by simp only [State.mirrorEvent]; (repeat' split) <;> rfl
@[simp] theorem State.mirrorEvent_rst (s : State) (e : LogEntry) : (s.mirrorEvent e).dev.rst = s.dev.rst := by simp only [State.mirrorEvent]; (repeat' split) <;> rfl
@[simp] theorem State.mirrorEvent_hk (s : State) (e : LogEntry) : (s.mirrorEvent e).dev.hk = s.dev.hk := by simp only [State.mirrorEvent]; (repeat' split) <;> rfl
@[simp] theorem State.mirrorEvent_cn (s : State) (e : LogEntry) : (s.mirrorEvent e).dev.cn = s.dev.cn := by simp only [State.mirrorEvent]; (repeat' split) <;> rfl
@[simp] theorem State.mirrorEvent_snap (s : State) (e : LogEntry) : (s.mirrorEvent e).snap = s.snap := by simp only [State.mirrorEvent]; (repeat' split) <;> rfl
@[simp] theorem State.mirrorEvent_snapTick (s : State) (e : LogEntry) : (s.mirrorEvent e).snapTick = s.snapTick := by simp only [State.mirrorEvent]; (repeat' split) <;> rfl
@[simp] theorem State.mirrorEvent_hold (s : State) (e : LogEntry) : (s.mirrorEvent e).hold = s.hold := by simp only [State.mirrorEvent]; (repeat' split) <;> rfl
@[simp] theorem State.mirrorEvent_holdExpired (s : State) (e : LogEntry) : (s.mirrorEvent e).holdExpired = s.holdExpired := by simp only [State.mirrorEvent]; (repeat' split) <;> rfl
@[simp] theorem State.mirrorEvent_latches (s : State) (e : LogEntry) : (s.mirrorEvent e).latches = s.latches := by simp only [State.mirrorEvent]; (repeat' split) <;> rfl
@[simp] theorem State.mirrorEvent_freeCtr (s : State) (e : LogEntry) : (s.mirrorEvent e).freeCtr = s.freeCtr := by simp only [State.mirrorEvent]; (repeat' split) <;> rfl
@[simp] theorem State.mirrorEvent_begun (s : State) (e : LogEntry) : (s.mirrorEvent e).begun = s.begun := by simp only [State.mirrorEvent]; (repeat' split) <;> rfl
@[simp] theorem State.mirrorEvent_pending (s : State) (e : LogEntry) : (s.mirrorEvent e).pending = s.pending := by simp only [State.mirrorEvent]; (repeat' split) <;> rfl
@[simp] theorem State.logEvent_role (s : State) (c k u a b : Nat) : (s.logEvent c k u a b).dev.role = s.dev.role := by simp only [State.logEvent, State.mirrorEvent_role]; (repeat' split) <;> rfl
@[simp] theorem State.logEvent_time (s : State) (c k u a b : Nat) : (s.logEvent c k u a b).dev.time = s.dev.time := by simp only [State.logEvent, State.mirrorEvent_time]; (repeat' split) <;> rfl
@[simp] theorem State.logEvent_fab (s : State) (c k u a b : Nat) : (s.logEvent c k u a b).dev.fab = s.dev.fab := by simp only [State.logEvent, State.mirrorEvent_fab]; (repeat' split) <;> rfl
@[simp] theorem State.logEvent_pans (s : State) (c k u a b : Nat) : (s.logEvent c k u a b).dev.pans = s.dev.pans := by simp only [State.logEvent, State.mirrorEvent_pans]; (repeat' split) <;> rfl
@[simp] theorem State.logEvent_dle (s : State) (c k u a b : Nat) : (s.logEvent c k u a b).dev.dle = s.dev.dle := by simp only [State.logEvent, State.mirrorEvent_dle]; (repeat' split) <;> rfl
@[simp] theorem State.logEvent_mem (s : State) (c k u a b : Nat) : (s.logEvent c k u a b).dev.mem = s.dev.mem := by simp only [State.logEvent, State.mirrorEvent_mem]; (repeat' split) <;> rfl
@[simp] theorem State.logEvent_arb (s : State) (c k u a b : Nat) : (s.logEvent c k u a b).dev.arb = s.dev.arb := by simp only [State.logEvent, State.mirrorEvent_arb]; (repeat' split) <;> rfl
@[simp] theorem State.logEvent_ws (s : State) (c k u a b : Nat) : (s.logEvent c k u a b).dev.ws = s.dev.ws := by simp only [State.logEvent, State.mirrorEvent_ws]; (repeat' split) <;> rfl
@[simp] theorem State.logEvent_lnk (s : State) (c k u a b : Nat) : (s.logEvent c k u a b).dev.lnk = s.dev.lnk := by simp only [State.logEvent, State.mirrorEvent_lnk]; (repeat' split) <;> rfl
@[simp] theorem State.logEvent_srv (s : State) (c k u a b : Nat) : (s.logEvent c k u a b).dev.srv = s.dev.srv := by simp only [State.logEvent, State.mirrorEvent_srv]; (repeat' split) <;> rfl
@[simp] theorem State.logEvent_sec (s : State) (c k u a b : Nat) : (s.logEvent c k u a b).dev.sec = s.dev.sec := by simp only [State.logEvent, State.mirrorEvent_sec]; (repeat' split) <;> rfl
@[simp] theorem State.logEvent_rst (s : State) (c k u a b : Nat) : (s.logEvent c k u a b).dev.rst = s.dev.rst := by simp only [State.logEvent, State.mirrorEvent_rst]; (repeat' split) <;> rfl
@[simp] theorem State.logEvent_hk (s : State) (c k u a b : Nat) : (s.logEvent c k u a b).dev.hk = s.dev.hk := by simp only [State.logEvent, State.mirrorEvent_hk]; (repeat' split) <;> rfl
@[simp] theorem State.logEvent_cn (s : State) (c k u a b : Nat) : (s.logEvent c k u a b).dev.cn = s.dev.cn := by simp only [State.logEvent, State.mirrorEvent_cn]; (repeat' split) <;> rfl
@[simp] theorem State.logEvent_snap (s : State) (c k u a b : Nat) : (s.logEvent c k u a b).snap = s.snap := by simp only [State.logEvent, State.mirrorEvent_snap]; (repeat' split) <;> rfl
@[simp] theorem State.logEvent_snapTick (s : State) (c k u a b : Nat) : (s.logEvent c k u a b).snapTick = s.snapTick := by simp only [State.logEvent, State.mirrorEvent_snapTick]; (repeat' split) <;> rfl
@[simp] theorem State.logEvent_hold (s : State) (c k u a b : Nat) : (s.logEvent c k u a b).hold = s.hold := by simp only [State.logEvent, State.mirrorEvent_hold]; (repeat' split) <;> rfl
@[simp] theorem State.logEvent_holdExpired (s : State) (c k u a b : Nat) : (s.logEvent c k u a b).holdExpired = s.holdExpired := by simp only [State.logEvent, State.mirrorEvent_holdExpired]; (repeat' split) <;> rfl
@[simp] theorem State.logEvent_latches (s : State) (c k u a b : Nat) : (s.logEvent c k u a b).latches = s.latches := by simp only [State.logEvent, State.mirrorEvent_latches]; (repeat' split) <;> rfl
@[simp] theorem State.logEvent_freeCtr (s : State) (c k u a b : Nat) : (s.logEvent c k u a b).freeCtr = s.freeCtr := by simp only [State.logEvent, State.mirrorEvent_freeCtr]; (repeat' split) <;> rfl
@[simp] theorem State.logEvent_begun (s : State) (c k u a b : Nat) : (s.logEvent c k u a b).begun = s.begun := by simp only [State.logEvent, State.mirrorEvent_begun]; (repeat' split) <;> rfl
@[simp] theorem State.logEvent_pending (s : State) (c k u a b : Nat) : (s.logEvent c k u a b).pending = s.pending := by simp only [State.logEvent, State.mirrorEvent_pending]; (repeat' split) <;> rfl
@[simp] theorem State.unlock_role (s : State) (ch : Nat) : (s.unlock ch).dev.role = s.dev.role := by rfl
@[simp] theorem State.unlock_time (s : State) (ch : Nat) : (s.unlock ch).dev.time = s.dev.time := by rfl
@[simp] theorem State.unlock_fab (s : State) (ch : Nat) : (s.unlock ch).dev.fab = s.dev.fab := by rfl
@[simp] theorem State.unlock_pans (s : State) (ch : Nat) : (s.unlock ch).dev.pans = s.dev.pans := by rfl
@[simp] theorem State.unlock_dle (s : State) (ch : Nat) : (s.unlock ch).dev.dle = s.dev.dle := by rfl
@[simp] theorem State.unlock_mem (s : State) (ch : Nat) : (s.unlock ch).dev.mem = s.dev.mem := by rfl
@[simp] theorem State.unlock_arb (s : State) (ch : Nat) : (s.unlock ch).dev.arb = s.dev.arb := by rfl
@[simp] theorem State.unlock_ws (s : State) (ch : Nat) : (s.unlock ch).dev.ws = s.dev.ws := by rfl
@[simp] theorem State.unlock_lnk (s : State) (ch : Nat) : (s.unlock ch).dev.lnk = s.dev.lnk := by rfl
@[simp] theorem State.unlock_pcie (s : State) (ch : Nat) : (s.unlock ch).dev.pcie = s.dev.pcie := by rfl
@[simp] theorem State.unlock_chk (s : State) (ch : Nat) : (s.unlock ch).dev.chk = s.dev.chk := by rfl
@[simp] theorem State.unlock_sec (s : State) (ch : Nat) : (s.unlock ch).dev.sec = s.dev.sec := by rfl
@[simp] theorem State.unlock_nv (s : State) (ch : Nat) : (s.unlock ch).dev.nv = s.dev.nv := by rfl
@[simp] theorem State.unlock_rst (s : State) (ch : Nat) : (s.unlock ch).dev.rst = s.dev.rst := by rfl
@[simp] theorem State.unlock_hk (s : State) (ch : Nat) : (s.unlock ch).dev.hk = s.dev.hk := by rfl
@[simp] theorem State.unlock_cn (s : State) (ch : Nat) : (s.unlock ch).dev.cn = s.dev.cn := by rfl
@[simp] theorem State.unlock_snap (s : State) (ch : Nat) : (s.unlock ch).snap = s.snap := by rfl
@[simp] theorem State.unlock_snapTick (s : State) (ch : Nat) : (s.unlock ch).snapTick = s.snapTick := by rfl
@[simp] theorem State.unlock_hold (s : State) (ch : Nat) : (s.unlock ch).hold = s.hold := by rfl
@[simp] theorem State.unlock_holdExpired (s : State) (ch : Nat) : (s.unlock ch).holdExpired = s.holdExpired := by rfl
@[simp] theorem State.unlock_latches (s : State) (ch : Nat) : (s.unlock ch).latches = s.latches := by rfl
@[simp] theorem State.unlock_out (s : State) (ch : Nat) : (s.unlock ch).out = s.out := by rfl
@[simp] theorem State.unlock_freeCtr (s : State) (ch : Nat) : (s.unlock ch).freeCtr = s.freeCtr := by rfl
@[simp] theorem State.unlock_begun (s : State) (ch : Nat) : (s.unlock ch).begun = s.begun := by rfl
@[simp] theorem State.unlock_pending (s : State) (ch : Nat) : (s.unlock ch).pending = s.pending := by rfl
@[simp] theorem State.produce_role (s : State) (f r : Nat) (x : Record) : (s.produce f r x).dev.role = s.dev.role := by simp only [State.produce]; (repeat' split) <;> rfl
@[simp] theorem State.produce_time (s : State) (f r : Nat) (x : Record) : (s.produce f r x).dev.time = s.dev.time := by simp only [State.produce]; (repeat' split) <;> rfl
@[simp] theorem State.produce_fab (s : State) (f r : Nat) (x : Record) : (s.produce f r x).dev.fab = s.dev.fab := by simp only [State.produce]; (repeat' split) <;> rfl
@[simp] theorem State.produce_pans (s : State) (f r : Nat) (x : Record) : (s.produce f r x).dev.pans = s.dev.pans := by simp only [State.produce]; (repeat' split) <;> rfl
@[simp] theorem State.produce_dle (s : State) (f r : Nat) (x : Record) : (s.produce f r x).dev.dle = s.dev.dle := by simp only [State.produce]; (repeat' split) <;> rfl
@[simp] theorem State.produce_mem (s : State) (f r : Nat) (x : Record) : (s.produce f r x).dev.mem = s.dev.mem := by simp only [State.produce]; (repeat' split) <;> rfl
@[simp] theorem State.produce_arb (s : State) (f r : Nat) (x : Record) : (s.produce f r x).dev.arb = s.dev.arb := by simp only [State.produce]; (repeat' split) <;> rfl
@[simp] theorem State.produce_ws (s : State) (f r : Nat) (x : Record) : (s.produce f r x).dev.ws = s.dev.ws := by simp only [State.produce]; (repeat' split) <;> rfl
@[simp] theorem State.produce_lnk (s : State) (f r : Nat) (x : Record) : (s.produce f r x).dev.lnk = s.dev.lnk := by simp only [State.produce]; (repeat' split) <;> rfl
@[simp] theorem State.produce_pcie (s : State) (f r : Nat) (x : Record) : (s.produce f r x).dev.pcie = s.dev.pcie := by simp only [State.produce]; (repeat' split) <;> rfl
@[simp] theorem State.produce_chk (s : State) (f r : Nat) (x : Record) : (s.produce f r x).dev.chk = s.dev.chk := by simp only [State.produce]; (repeat' split) <;> rfl
@[simp] theorem State.produce_sec (s : State) (f r : Nat) (x : Record) : (s.produce f r x).dev.sec = s.dev.sec := by simp only [State.produce]; (repeat' split) <;> rfl
@[simp] theorem State.produce_nv (s : State) (f r : Nat) (x : Record) : (s.produce f r x).dev.nv = s.dev.nv := by simp only [State.produce]; (repeat' split) <;> rfl
@[simp] theorem State.produce_rst (s : State) (f r : Nat) (x : Record) : (s.produce f r x).dev.rst = s.dev.rst := by simp only [State.produce]; (repeat' split) <;> rfl
@[simp] theorem State.produce_hk (s : State) (f r : Nat) (x : Record) : (s.produce f r x).dev.hk = s.dev.hk := by simp only [State.produce]; (repeat' split) <;> rfl
@[simp] theorem State.produce_cn (s : State) (f r : Nat) (x : Record) : (s.produce f r x).dev.cn = s.dev.cn := by simp only [State.produce]; (repeat' split) <;> rfl
@[simp] theorem State.produce_snap (s : State) (f r : Nat) (x : Record) : (s.produce f r x).snap = s.snap := by simp only [State.produce]; (repeat' split) <;> rfl
@[simp] theorem State.produce_snapTick (s : State) (f r : Nat) (x : Record) : (s.produce f r x).snapTick = s.snapTick := by simp only [State.produce]; (repeat' split) <;> rfl
@[simp] theorem State.produce_hold (s : State) (f r : Nat) (x : Record) : (s.produce f r x).hold = s.hold := by simp only [State.produce]; (repeat' split) <;> rfl
@[simp] theorem State.produce_holdExpired (s : State) (f r : Nat) (x : Record) : (s.produce f r x).holdExpired = s.holdExpired := by simp only [State.produce]; (repeat' split) <;> rfl
@[simp] theorem State.produce_latches (s : State) (f r : Nat) (x : Record) : (s.produce f r x).latches = s.latches := by simp only [State.produce]; (repeat' split) <;> rfl
@[simp] theorem State.produce_out (s : State) (f r : Nat) (x : Record) : (s.produce f r x).out = s.out := by simp only [State.produce]; (repeat' split) <;> rfl
@[simp] theorem State.produce_freeCtr (s : State) (f r : Nat) (x : Record) : (s.produce f r x).freeCtr = s.freeCtr := by simp only [State.produce]; (repeat' split) <;> rfl
@[simp] theorem State.produce_begun (s : State) (f r : Nat) (x : Record) : (s.produce f r x).begun = s.begun := by simp only [State.produce]; (repeat' split) <;> rfl
@[simp] theorem State.produce_pending (s : State) (f r : Nat) (x : Record) : (s.produce f r x).pending = s.pending := by simp only [State.produce]; (repeat' split) <;> rfl
@[simp] theorem State.reply_role (s : State) (p : Rep) (st d : Nat) (rel fin : Bool) (w0 w1 : Nat) (pl : List Byte) (tx tk : Bool) : (s.reply p st d rel fin w0 w1 pl tx tk).dev.role = s.dev.role := by simp only [State.reply, State.produce_role]; split <;> rfl
@[simp] theorem State.reply_time (s : State) (p : Rep) (st d : Nat) (rel fin : Bool) (w0 w1 : Nat) (pl : List Byte) (tx tk : Bool) : (s.reply p st d rel fin w0 w1 pl tx tk).dev.time = s.dev.time := by simp only [State.reply, State.produce_time]; split <;> rfl
@[simp] theorem State.reply_fab (s : State) (p : Rep) (st d : Nat) (rel fin : Bool) (w0 w1 : Nat) (pl : List Byte) (tx tk : Bool) : (s.reply p st d rel fin w0 w1 pl tx tk).dev.fab = s.dev.fab := by simp only [State.reply, State.produce_fab]; split <;> rfl
@[simp] theorem State.reply_pans (s : State) (p : Rep) (st d : Nat) (rel fin : Bool) (w0 w1 : Nat) (pl : List Byte) (tx tk : Bool) : (s.reply p st d rel fin w0 w1 pl tx tk).dev.pans = s.dev.pans := by simp only [State.reply, State.produce_pans]; split <;> rfl
@[simp] theorem State.reply_dle (s : State) (p : Rep) (st d : Nat) (rel fin : Bool) (w0 w1 : Nat) (pl : List Byte) (tx tk : Bool) : (s.reply p st d rel fin w0 w1 pl tx tk).dev.dle = s.dev.dle := by simp only [State.reply, State.produce_dle]; split <;> rfl
@[simp] theorem State.reply_mem (s : State) (p : Rep) (st d : Nat) (rel fin : Bool) (w0 w1 : Nat) (pl : List Byte) (tx tk : Bool) : (s.reply p st d rel fin w0 w1 pl tx tk).dev.mem = s.dev.mem := by simp only [State.reply, State.produce_mem]; split <;> rfl
@[simp] theorem State.reply_arb (s : State) (p : Rep) (st d : Nat) (rel fin : Bool) (w0 w1 : Nat) (pl : List Byte) (tx tk : Bool) : (s.reply p st d rel fin w0 w1 pl tx tk).dev.arb = s.dev.arb := by simp only [State.reply, State.produce_arb]; split <;> rfl
@[simp] theorem State.reply_ws (s : State) (p : Rep) (st d : Nat) (rel fin : Bool) (w0 w1 : Nat) (pl : List Byte) (tx tk : Bool) : (s.reply p st d rel fin w0 w1 pl tx tk).dev.ws = s.dev.ws := by simp only [State.reply, State.produce_ws]; split <;> rfl
@[simp] theorem State.reply_lnk (s : State) (p : Rep) (st d : Nat) (rel fin : Bool) (w0 w1 : Nat) (pl : List Byte) (tx tk : Bool) : (s.reply p st d rel fin w0 w1 pl tx tk).dev.lnk = s.dev.lnk := by simp only [State.reply, State.produce_lnk]; split <;> rfl
@[simp] theorem State.reply_pcie (s : State) (p : Rep) (st d : Nat) (rel fin : Bool) (w0 w1 : Nat) (pl : List Byte) (tx tk : Bool) : (s.reply p st d rel fin w0 w1 pl tx tk).dev.pcie = s.dev.pcie := by simp only [State.reply, State.produce_pcie]; split <;> rfl
@[simp] theorem State.reply_chk (s : State) (p : Rep) (st d : Nat) (rel fin : Bool) (w0 w1 : Nat) (pl : List Byte) (tx tk : Bool) : (s.reply p st d rel fin w0 w1 pl tx tk).dev.chk = s.dev.chk := by simp only [State.reply, State.produce_chk]; split <;> rfl
@[simp] theorem State.reply_sec (s : State) (p : Rep) (st d : Nat) (rel fin : Bool) (w0 w1 : Nat) (pl : List Byte) (tx tk : Bool) : (s.reply p st d rel fin w0 w1 pl tx tk).dev.sec = s.dev.sec := by simp only [State.reply, State.produce_sec]; split <;> rfl
@[simp] theorem State.reply_nv (s : State) (p : Rep) (st d : Nat) (rel fin : Bool) (w0 w1 : Nat) (pl : List Byte) (tx tk : Bool) : (s.reply p st d rel fin w0 w1 pl tx tk).dev.nv = s.dev.nv := by simp only [State.reply, State.produce_nv]; split <;> rfl
@[simp] theorem State.reply_rst (s : State) (p : Rep) (st d : Nat) (rel fin : Bool) (w0 w1 : Nat) (pl : List Byte) (tx tk : Bool) : (s.reply p st d rel fin w0 w1 pl tx tk).dev.rst = s.dev.rst := by simp only [State.reply, State.produce_rst]; split <;> rfl
@[simp] theorem State.reply_hk (s : State) (p : Rep) (st d : Nat) (rel fin : Bool) (w0 w1 : Nat) (pl : List Byte) (tx tk : Bool) : (s.reply p st d rel fin w0 w1 pl tx tk).dev.hk = s.dev.hk := by simp only [State.reply, State.produce_hk]; split <;> rfl
@[simp] theorem State.reply_cn (s : State) (p : Rep) (st d : Nat) (rel fin : Bool) (w0 w1 : Nat) (pl : List Byte) (tx tk : Bool) : (s.reply p st d rel fin w0 w1 pl tx tk).dev.cn = s.dev.cn := by simp only [State.reply, State.produce_cn]; split <;> rfl
@[simp] theorem State.reply_snap (s : State) (p : Rep) (st d : Nat) (rel fin : Bool) (w0 w1 : Nat) (pl : List Byte) (tx tk : Bool) : (s.reply p st d rel fin w0 w1 pl tx tk).snap = s.snap := by simp only [State.reply, State.produce_snap]; split <;> rfl
@[simp] theorem State.reply_snapTick (s : State) (p : Rep) (st d : Nat) (rel fin : Bool) (w0 w1 : Nat) (pl : List Byte) (tx tk : Bool) : (s.reply p st d rel fin w0 w1 pl tx tk).snapTick = s.snapTick := by simp only [State.reply, State.produce_snapTick]; split <;> rfl
@[simp] theorem State.reply_hold (s : State) (p : Rep) (st d : Nat) (rel fin : Bool) (w0 w1 : Nat) (pl : List Byte) (tx tk : Bool) : (s.reply p st d rel fin w0 w1 pl tx tk).hold = s.hold := by simp only [State.reply, State.produce_hold]; split <;> rfl
@[simp] theorem State.reply_holdExpired (s : State) (p : Rep) (st d : Nat) (rel fin : Bool) (w0 w1 : Nat) (pl : List Byte) (tx tk : Bool) : (s.reply p st d rel fin w0 w1 pl tx tk).holdExpired = s.holdExpired := by simp only [State.reply, State.produce_holdExpired]; split <;> rfl
@[simp] theorem State.reply_latches (s : State) (p : Rep) (st d : Nat) (rel fin : Bool) (w0 w1 : Nat) (pl : List Byte) (tx tk : Bool) : (s.reply p st d rel fin w0 w1 pl tx tk).latches = s.latches := by simp only [State.reply, State.produce_latches]; split <;> rfl
@[simp] theorem State.reply_out (s : State) (p : Rep) (st d : Nat) (rel fin : Bool) (w0 w1 : Nat) (pl : List Byte) (tx tk : Bool) : (s.reply p st d rel fin w0 w1 pl tx tk).out = s.out := by simp only [State.reply, State.produce_out]; split <;> rfl
@[simp] theorem State.reply_freeCtr (s : State) (p : Rep) (st d : Nat) (rel fin : Bool) (w0 w1 : Nat) (pl : List Byte) (tx tk : Bool) : (s.reply p st d rel fin w0 w1 pl tx tk).freeCtr = s.freeCtr := by simp only [State.reply, State.produce_freeCtr]; split <;> rfl
@[simp] theorem State.reply_begun (s : State) (p : Rep) (st d : Nat) (rel fin : Bool) (w0 w1 : Nat) (pl : List Byte) (tx tk : Bool) : (s.reply p st d rel fin w0 w1 pl tx tk).begun = s.begun := by simp only [State.reply, State.produce_begun]; split <;> rfl
@[simp] theorem State.reply_pending (s : State) (p : Rep) (st d : Nat) (rel fin : Bool) (w0 w1 : Nat) (pl : List Byte) (tx tk : Bool) : (s.reply p st d rel fin w0 w1 pl tx tk).pending = s.pending := by simp only [State.reply, State.produce_pending]; split <;> rfl
@[simp] theorem State.hostOut_role (s : State) (f : Nat) (a : W64) (b : List Byte) : (s.hostOut f a b).dev.role = s.dev.role := by unfold State.hostOut; split <;> rfl
@[simp] theorem State.hostOut_time (s : State) (f : Nat) (a : W64) (b : List Byte) : (s.hostOut f a b).dev.time = s.dev.time := by unfold State.hostOut; split <;> rfl
@[simp] theorem State.hostOut_fab (s : State) (f : Nat) (a : W64) (b : List Byte) : (s.hostOut f a b).dev.fab = s.dev.fab := by unfold State.hostOut; split <;> rfl
@[simp] theorem State.hostOut_pans (s : State) (f : Nat) (a : W64) (b : List Byte) : (s.hostOut f a b).dev.pans = s.dev.pans := by unfold State.hostOut; split <;> rfl
@[simp] theorem State.hostOut_dle (s : State) (f : Nat) (a : W64) (b : List Byte) : (s.hostOut f a b).dev.dle = s.dev.dle := by unfold State.hostOut; split <;> rfl
@[simp] theorem State.hostOut_mem (s : State) (f : Nat) (a : W64) (b : List Byte) : (s.hostOut f a b).dev.mem = s.dev.mem := by unfold State.hostOut; split <;> rfl
@[simp] theorem State.hostOut_arb (s : State) (f : Nat) (a : W64) (b : List Byte) : (s.hostOut f a b).dev.arb = s.dev.arb := by unfold State.hostOut; split <;> rfl
@[simp] theorem State.hostOut_ws (s : State) (f : Nat) (a : W64) (b : List Byte) : (s.hostOut f a b).dev.ws = s.dev.ws := by unfold State.hostOut; split <;> rfl
@[simp] theorem State.hostOut_lnk (s : State) (f : Nat) (a : W64) (b : List Byte) : (s.hostOut f a b).dev.lnk = s.dev.lnk := by unfold State.hostOut; split <;> rfl
@[simp] theorem State.hostOut_chk (s : State) (f : Nat) (a : W64) (b : List Byte) : (s.hostOut f a b).dev.chk = s.dev.chk := by unfold State.hostOut; split <;> rfl
@[simp] theorem State.hostOut_sec (s : State) (f : Nat) (a : W64) (b : List Byte) : (s.hostOut f a b).dev.sec = s.dev.sec := by unfold State.hostOut; split <;> rfl
@[simp] theorem State.hostOut_nv (s : State) (f : Nat) (a : W64) (b : List Byte) : (s.hostOut f a b).dev.nv = s.dev.nv := by unfold State.hostOut; split <;> rfl
@[simp] theorem State.hostOut_rst (s : State) (f : Nat) (a : W64) (b : List Byte) : (s.hostOut f a b).dev.rst = s.dev.rst := by unfold State.hostOut; split <;> rfl
@[simp] theorem State.hostOut_hk (s : State) (f : Nat) (a : W64) (b : List Byte) : (s.hostOut f a b).dev.hk = s.dev.hk := by unfold State.hostOut; split <;> rfl
@[simp] theorem State.hostOut_cn (s : State) (f : Nat) (a : W64) (b : List Byte) : (s.hostOut f a b).dev.cn = s.dev.cn := by unfold State.hostOut; split <;> rfl
@[simp] theorem State.hostOut_snap (s : State) (f : Nat) (a : W64) (b : List Byte) : (s.hostOut f a b).snap = s.snap := by unfold State.hostOut; split <;> rfl
@[simp] theorem State.hostOut_snapTick (s : State) (f : Nat) (a : W64) (b : List Byte) : (s.hostOut f a b).snapTick = s.snapTick := by unfold State.hostOut; split <;> rfl
@[simp] theorem State.hostOut_hold (s : State) (f : Nat) (a : W64) (b : List Byte) : (s.hostOut f a b).hold = s.hold := by unfold State.hostOut; split <;> rfl
@[simp] theorem State.hostOut_holdExpired (s : State) (f : Nat) (a : W64) (b : List Byte) : (s.hostOut f a b).holdExpired = s.holdExpired := by unfold State.hostOut; split <;> rfl
@[simp] theorem State.hostOut_latches (s : State) (f : Nat) (a : W64) (b : List Byte) : (s.hostOut f a b).latches = s.latches := by unfold State.hostOut; split <;> rfl
@[simp] theorem State.hostOut_freeCtr (s : State) (f : Nat) (a : W64) (b : List Byte) : (s.hostOut f a b).freeCtr = s.freeCtr := by unfold State.hostOut; split <;> rfl
@[simp] theorem State.hostOut_begun (s : State) (f : Nat) (a : W64) (b : List Byte) : (s.hostOut f a b).begun = s.begun := by unfold State.hostOut; split <;> rfl
@[simp] theorem State.hostOut_pending (s : State) (f : Nat) (a : W64) (b : List Byte) : (s.hostOut f a b).pending = s.pending := by unfold State.hostOut; split <;> rfl
@[simp] theorem State.flushOuts_role (s : State) (f : Nat) : (s.flushOuts f).dev.role = s.dev.role := by 
  simp only [State.flushOuts]
  split
  · exact State.each_leaves (fun t => t.dev.role) _ (fun t e => State.hostOut_role t _ _ _) _ _
  · rfl
@[simp] theorem State.flushOuts_time (s : State) (f : Nat) : (s.flushOuts f).dev.time = s.dev.time := by 
  simp only [State.flushOuts]
  split
  · exact State.each_leaves (fun t => t.dev.time) _ (fun t e => State.hostOut_time t _ _ _) _ _
  · rfl
@[simp] theorem State.flushOuts_fab (s : State) (f : Nat) : (s.flushOuts f).dev.fab = s.dev.fab := by 
  simp only [State.flushOuts]
  split
  · exact State.each_leaves (fun t => t.dev.fab) _ (fun t e => State.hostOut_fab t _ _ _) _ _
  · rfl
@[simp] theorem State.flushOuts_pans (s : State) (f : Nat) : (s.flushOuts f).dev.pans = s.dev.pans := by 
  simp only [State.flushOuts]
  split
  · exact State.each_leaves (fun t => t.dev.pans) _ (fun t e => State.hostOut_pans t _ _ _) _ _
  · rfl
@[simp] theorem State.flushOuts_dle (s : State) (f : Nat) : (s.flushOuts f).dev.dle = s.dev.dle := by 
  simp only [State.flushOuts]
  split
  · exact State.each_leaves (fun t => t.dev.dle) _ (fun t e => State.hostOut_dle t _ _ _) _ _
  · rfl
@[simp] theorem State.flushOuts_mem (s : State) (f : Nat) : (s.flushOuts f).dev.mem = s.dev.mem := by 
  simp only [State.flushOuts]
  split
  · exact State.each_leaves (fun t => t.dev.mem) _ (fun t e => State.hostOut_mem t _ _ _) _ _
  · rfl
@[simp] theorem State.flushOuts_arb (s : State) (f : Nat) : (s.flushOuts f).dev.arb = s.dev.arb := by 
  simp only [State.flushOuts]
  split
  · exact State.each_leaves (fun t => t.dev.arb) _ (fun t e => State.hostOut_arb t _ _ _) _ _
  · rfl
@[simp] theorem State.flushOuts_ws (s : State) (f : Nat) : (s.flushOuts f).dev.ws = s.dev.ws := by 
  simp only [State.flushOuts]
  split
  · exact State.each_leaves (fun t => t.dev.ws) _ (fun t e => State.hostOut_ws t _ _ _) _ _
  · rfl
@[simp] theorem State.flushOuts_lnk (s : State) (f : Nat) : (s.flushOuts f).dev.lnk = s.dev.lnk := by 
  simp only [State.flushOuts]
  split
  · exact State.each_leaves (fun t => t.dev.lnk) _ (fun t e => State.hostOut_lnk t _ _ _) _ _
  · rfl
@[simp] theorem State.flushOuts_chk (s : State) (f : Nat) : (s.flushOuts f).dev.chk = s.dev.chk := by 
  simp only [State.flushOuts]
  split
  · exact State.each_leaves (fun t => t.dev.chk) _ (fun t e => State.hostOut_chk t _ _ _) _ _
  · rfl
@[simp] theorem State.flushOuts_sec (s : State) (f : Nat) : (s.flushOuts f).dev.sec = s.dev.sec := by 
  simp only [State.flushOuts]
  split
  · exact State.each_leaves (fun t => t.dev.sec) _ (fun t e => State.hostOut_sec t _ _ _) _ _
  · rfl
@[simp] theorem State.flushOuts_nv (s : State) (f : Nat) : (s.flushOuts f).dev.nv = s.dev.nv := by 
  simp only [State.flushOuts]
  split
  · exact State.each_leaves (fun t => t.dev.nv) _ (fun t e => State.hostOut_nv t _ _ _) _ _
  · rfl
@[simp] theorem State.flushOuts_rst (s : State) (f : Nat) : (s.flushOuts f).dev.rst = s.dev.rst := by 
  simp only [State.flushOuts]
  split
  · exact State.each_leaves (fun t => t.dev.rst) _ (fun t e => State.hostOut_rst t _ _ _) _ _
  · rfl
@[simp] theorem State.flushOuts_hk (s : State) (f : Nat) : (s.flushOuts f).dev.hk = s.dev.hk := by 
  simp only [State.flushOuts]
  split
  · exact State.each_leaves (fun t => t.dev.hk) _ (fun t e => State.hostOut_hk t _ _ _) _ _
  · rfl
@[simp] theorem State.flushOuts_cn (s : State) (f : Nat) : (s.flushOuts f).dev.cn = s.dev.cn := by 
  simp only [State.flushOuts]
  split
  · exact State.each_leaves (fun t => t.dev.cn) _ (fun t e => State.hostOut_cn t _ _ _) _ _
  · rfl
@[simp] theorem State.flushOuts_snap (s : State) (f : Nat) : (s.flushOuts f).snap = s.snap := by 
  simp only [State.flushOuts]
  split
  · exact State.each_leaves (fun t => t.snap) _ (fun t e => State.hostOut_snap t _ _ _) _ _
  · rfl
@[simp] theorem State.flushOuts_snapTick (s : State) (f : Nat) : (s.flushOuts f).snapTick = s.snapTick := by 
  simp only [State.flushOuts]
  split
  · exact State.each_leaves (fun t => t.snapTick) _ (fun t e => State.hostOut_snapTick t _ _ _) _ _
  · rfl
@[simp] theorem State.flushOuts_hold (s : State) (f : Nat) : (s.flushOuts f).hold = s.hold := by 
  simp only [State.flushOuts]
  split
  · exact State.each_leaves (fun t => t.hold) _ (fun t e => State.hostOut_hold t _ _ _) _ _
  · rfl
@[simp] theorem State.flushOuts_holdExpired (s : State) (f : Nat) : (s.flushOuts f).holdExpired = s.holdExpired := by 
  simp only [State.flushOuts]
  split
  · exact State.each_leaves (fun t => t.holdExpired) _ (fun t e => State.hostOut_holdExpired t _ _ _) _ _
  · rfl
@[simp] theorem State.flushOuts_latches (s : State) (f : Nat) : (s.flushOuts f).latches = s.latches := by 
  simp only [State.flushOuts]
  split
  · exact State.each_leaves (fun t => t.latches) _ (fun t e => State.hostOut_latches t _ _ _) _ _
  · rfl
@[simp] theorem State.flushOuts_freeCtr (s : State) (f : Nat) : (s.flushOuts f).freeCtr = s.freeCtr := by 
  simp only [State.flushOuts]
  split
  · exact State.each_leaves (fun t => t.freeCtr) _ (fun t e => State.hostOut_freeCtr t _ _ _) _ _
  · rfl
@[simp] theorem State.flushOuts_begun (s : State) (f : Nat) : (s.flushOuts f).begun = s.begun := by 
  simp only [State.flushOuts]
  split
  · exact State.each_leaves (fun t => t.begun) _ (fun t e => State.hostOut_begun t _ _ _) _ _
  · rfl
@[simp] theorem State.flushOuts_pending (s : State) (f : Nat) : (s.flushOuts f).pending = s.pending := by 
  simp only [State.flushOuts]
  split
  · exact State.each_leaves (fun t => t.pending) _ (fun t e => State.hostOut_pending t _ _ _) _ _
  · rfl
@[simp] theorem State.passCycles_role (s : State) (n : Nat) : (s.passCycles n).dev.role = s.dev.role := by unfold State.passCycles State.beginReverify State.beginCycle; dsimp only; (repeat' split) <;> rfl
@[simp] theorem State.passCycles_fab (s : State) (n : Nat) : (s.passCycles n).dev.fab = s.dev.fab := by unfold State.passCycles State.beginReverify State.beginCycle; dsimp only; (repeat' split) <;> rfl
@[simp] theorem State.passCycles_pans (s : State) (n : Nat) : (s.passCycles n).dev.pans = s.dev.pans := by unfold State.passCycles State.beginReverify State.beginCycle; dsimp only; (repeat' split) <;> rfl
@[simp] theorem State.passCycles_dle (s : State) (n : Nat) : (s.passCycles n).dev.dle = s.dev.dle := by unfold State.passCycles State.beginReverify State.beginCycle; dsimp only; (repeat' split) <;> rfl
@[simp] theorem State.passCycles_mem (s : State) (n : Nat) : (s.passCycles n).dev.mem = s.dev.mem := by unfold State.passCycles State.beginReverify State.beginCycle; dsimp only; (repeat' split) <;> rfl
@[simp] theorem State.passCycles_arb (s : State) (n : Nat) : (s.passCycles n).dev.arb = s.dev.arb := by unfold State.passCycles State.beginReverify State.beginCycle; dsimp only; (repeat' split) <;> rfl
@[simp] theorem State.passCycles_ws (s : State) (n : Nat) : (s.passCycles n).dev.ws = s.dev.ws := by unfold State.passCycles State.beginReverify State.beginCycle; dsimp only; (repeat' split) <;> rfl
@[simp] theorem State.passCycles_lnk (s : State) (n : Nat) : (s.passCycles n).dev.lnk = s.dev.lnk := by unfold State.passCycles State.beginReverify State.beginCycle; dsimp only; (repeat' split) <;> rfl
@[simp] theorem State.passCycles_pcie (s : State) (n : Nat) : (s.passCycles n).dev.pcie = s.dev.pcie := by unfold State.passCycles State.beginReverify State.beginCycle; dsimp only; (repeat' split) <;> rfl
@[simp] theorem State.passCycles_srv (s : State) (n : Nat) : (s.passCycles n).dev.srv = s.dev.srv := by unfold State.passCycles State.beginReverify State.beginCycle; dsimp only; (repeat' split) <;> rfl
@[simp] theorem State.passCycles_chk (s : State) (n : Nat) : (s.passCycles n).dev.chk = s.dev.chk := by unfold State.passCycles State.beginReverify State.beginCycle; dsimp only; (repeat' split) <;> rfl
@[simp] theorem State.passCycles_sec (s : State) (n : Nat) : (s.passCycles n).dev.sec = s.dev.sec := by unfold State.passCycles State.beginReverify State.beginCycle; dsimp only; (repeat' split) <;> rfl
@[simp] theorem State.passCycles_nv (s : State) (n : Nat) : (s.passCycles n).dev.nv = s.dev.nv := by unfold State.passCycles State.beginReverify State.beginCycle; dsimp only; (repeat' split) <;> rfl
@[simp] theorem State.passCycles_rst (s : State) (n : Nat) : (s.passCycles n).dev.rst = s.dev.rst := by unfold State.passCycles State.beginReverify State.beginCycle; dsimp only; (repeat' split) <;> rfl
@[simp] theorem State.passCycles_snap (s : State) (n : Nat) : (s.passCycles n).snap = s.snap := by unfold State.passCycles State.beginReverify State.beginCycle; dsimp only; (repeat' split) <;> rfl
@[simp] theorem State.passCycles_snapTick (s : State) (n : Nat) : (s.passCycles n).snapTick = s.snapTick := by unfold State.passCycles State.beginReverify State.beginCycle; dsimp only; (repeat' split) <;> rfl
@[simp] theorem State.passCycles_hold (s : State) (n : Nat) : (s.passCycles n).hold = s.hold := by unfold State.passCycles State.beginReverify State.beginCycle; dsimp only; (repeat' split) <;> rfl
@[simp] theorem State.passCycles_holdExpired (s : State) (n : Nat) : (s.passCycles n).holdExpired = s.holdExpired := by unfold State.passCycles State.beginReverify State.beginCycle; dsimp only; (repeat' split) <;> rfl
@[simp] theorem State.passCycles_latches (s : State) (n : Nat) : (s.passCycles n).latches = s.latches := by unfold State.passCycles State.beginReverify State.beginCycle; dsimp only; (repeat' split) <;> rfl
@[simp] theorem State.passCycles_out (s : State) (n : Nat) : (s.passCycles n).out = s.out := by unfold State.passCycles State.beginReverify State.beginCycle; dsimp only; (repeat' split) <;> rfl
@[simp] theorem State.passCycles_freeCtr (s : State) (n : Nat) : (s.passCycles n).freeCtr = s.freeCtr := by unfold State.passCycles State.beginReverify State.beginCycle; dsimp only; (repeat' split) <;> rfl
@[simp] theorem State.passCycles_pending (s : State) (n : Nat) : (s.passCycles n).pending = s.pending := by unfold State.passCycles State.beginReverify State.beginCycle; dsimp only; (repeat' split) <;> rfl

end Sys2Proof.Machine
end

