-- ==== Sys2Proof/Tests/Slice0.lean ====
section
/-! SUPPORT. The model's own tests: ill-formed commands that the checks refuse, small states that meet the statements'
hypotheses, and single steps on them. -/

namespace Sys2Proof.Machine

/-- The state with these commands waiting. -/
def State.queued (s : State) (l : List Instr) : State := { s with pending := l }

/-- The state in which this host command alone is due. -/
def State.dueOf (s : State) (c : Cmd) : State := s.updSrv (fun v => { v with due := [c] })

end Sys2Proof.Machine

namespace Sys2Proof.Tests

open Sys2Proof Sys2Proof.Machine

set_option maxRecDepth 20000

/-- The head of a slice, alone in it. -/
def asHead : State := State.reset.updRole (fun r => { r with assigned := true, slice := 1, role := 1, position := 0 })

/-- A layer package at position 1, package 5, whose timing parent is package 0 behind port 0. -/
def asFollower : State :=
  (State.reset.updRole (fun r => { r with assigned := true, slice := 1, role := 2, pkg := 5, position := 1, parent := some 0,
                                          head := some 0 })).updPort 0 (fun p => { p with peer := some (0, 0, 0) })

/-- A package in no slice whose ticks run. -/
def running : State := State.reset.updTime (fun t => { t with st := .run })

/-- A host that answers: the PCIe link is up and PF0 may write. -/
def hosted : State := (State.reset.updPcie (fun p => { p with linkUp := true })).updFnCfg 0 (fun c => { c with bme := true })

/-- A record of a NOP. -/
def record0 : Record :=
  { op := 0x7F, status := 0, released := true, final := true, text := false, tokens := false, detail := 0, ch := 0, state := 0,
    tag := 0, tick := 0, word0 := 0, word1 := 0, payload := [] }

/-- A marker with no announcement. -/
def marker0 : Marker :=
  { hop := 0, slice := 1, tick := 100, master := 0, period := 10, newPeriod := 0, stretch := 0, newStretch := none, effective := 0 }

/-- A packet with these bytes, the rest 0. -/
def packetOf (l : List (Nat × Byte)) : List Byte := (List.range 256).map (fun i => (Tab.find l i).getD 0)

/-- A NOP of channel 0, its reads at an end. -/
def cmd0 : Cmd :=
  { ch := 0, fn := 0, op := 0x7F, seq := 1, tag := 0, packet := packetOf [(0, 0x7F), (8, 1), (0xF8, 1)], tick := 0, needs := [],
    desc := none, stops := [], input := [], descFailed := false, inputFailed := false, fetched := false, late := false, refusal := none }

/-- A package whose functions answer: link up, power-up step 7 ended. -/
def barred : State := hosted.updRst (fun r => { r with step := 8 })

/-- A minimal image header in service. -/
def hdr0 : ImgHdr := { imageId := 1, pages := 1, vocab := 4, slots := 256, lmMac := 1, positions := 1, kvBlocks := 8 }

/-- A head whose engine runs, with 8 KV blocks and tenant 0 enabled. -/
def served : State :=
  (((asHead.updDle (fun d => { d with online := 15 })).updWs (fun w => { w with img := some hdr0, loaded := true })).updTenant 0 (fun t => { t with enable := true })).updSrv
    (fun v => { v with kvTotal := 8 })

/-- A descriptor: VALID, MAX_NEW 1, MAX_CONTEXT 128, TOP_P and REP_PENALTY 1.0. -/
def desc0 : List Byte :=
  (List.range 128).map (fun i => (Tab.find [(0, (1 : Byte)), (4, 1), (8, 128), (0x1E, 0x80), (0x1F, 0x3F), (0x26, 0x80), (0x27, 0x3F)] i).getD 0)

/-- An OPEN of channel 0 with no input and no START. -/
def cmdOpen : Cmd := { cmd0 with op := 1, desc := some desc0 }

/-- An IDLE stream of channel 0. -/
def stream0 : Stream := newStream 0 0 1 0 {} [1]

def withStream : State := served.setStream stream0

/-- A generation of it. -/
def gen0 : Gen := newGen .normal (cmd0.repTo 0) 0 0 1 false false 1

def withGen : State := withStream.updGen 0 id |>.updStream 0 (fun t => { t with gen := some gen0 })

/-- Blocks parked in place. -/
def park0 : Park :=
  { copying := none, ttl := 5, p := 0, expired := false, epochFreed := false, inPlace := true, blocks := [], resuming := none,
    restored := false, incomplete := none, order := 0 }

/-- A position of stream 0 in flight. -/
def flight0 : Flight :=
  { ch := 0, stream := 1, index := 0, epoch := 0, block := 0, slot := 0, entered := 0, provisional := false, needLogits := false,
    passTick := none, arrived := false, hidden := [], logits := none, passes := [], clamped := false, slips := 0, dropped := false,
    failed := none }

/-- A package in FIELD, no slice. -/
def inField : State := State.reset.updNv (fun n => { n with lc := .field })

/-- A payload of one empty page, pending. -/
def payload0 : Payload := { imageId := 1, epoch := 1, own := true, position := 1, pending := true, pages := [(0, [])], phys := [7] }

/-- A package in FIELD with a staged payload. -/
def staging : State := inField.updWs (fun w => { w with staged := some payload0, stage := 1 })

/-- An install at a package that is not the head. -/
def run0 : ImgRun := newRun .install none 0 false 0

/-- A head with a layer package in its slice. -/
def withMembers : State :=
  asHead.updLnk (fun l => { l with members := [⟨0, 1, 0, 0, true, none, 16, {}, 0⟩, ⟨5, 2, 1, 0, true, none, 16, {}, 0⟩] })


/-- Position 0 of stream 1, its attention half to run in tick 0. -/
def work0 : Work := workOfEntry ⟨1, 0, 0, 0, 0, false, false, none, false, false, 0xFFFF, []⟩ 0

/-- A package with these positions. -/
def atWork (l : List Work) : State := running.updFab (fun b => { b with works := l })

/-- Layer slot 0's record with nothing set. -/
def layer0 : LayerRec := {}

/-- A configuration in COMPUTE mode. -/
def computing : ArrCfg := { mode := .compute }

/-- Array a of pan p holds a payload, with this vector on it. -/
def ready (p a : Nat) (c : ArrCfg) (v : Option RunVec) : State :=
  State.reset.updArr p a (fun x => { x with cfg := c, valid := true, run := v })

/-- A vector with no sums and a check sum of 0. -/
def vec0 : RunVec :=
  { slot := 0, stream := 1, index := 0, vec := 0, ring := 0, cfg := computing, sums := [], y := 0, adds := [], tick := 0, clamped := [],
    checked := false, invalid := false, last := 0, scale := 0, poison := false }

/-- An event of a wide group with no bit-column. -/
def event0 : BtnEvent :=
  { arr := 0, group := 0, plane := 0, mask := [], cfg := { computing with wide := true }, ring := 0, slot := 0, stream := 1, index := 0,
    vec := 0, replay := false, enter := 0 }

/-- An accumulation of one column. -/
def acc0 : SumAcc := { slot := 0, stream := 1, index := 0, vec := 0, cols := [5], cover := [], scale := 0, poison := false, clamped := false }

/-- An entry of router 2111's control plane: from NORTH to LOCAL's neighbour, every slot from 0. -/
def hop0 : HopEntry := { start := 0, len := 1, period := 0, count := 0, inp := 1, out := 32, op := 0, valid := true }

/-- Router 2111's control-plane entries. -/
def hopped (l : List HopEntry) : State := State.reset.updFab (fun b => { b with hops := [(6335, l)] })

/-- A flit of input port 1. -/
def flit0 : Flit :=
  { inp := 1, words := List.replicate 8 1, sparse := false, poison := false, ecc := 0, amax := false, slot := 0, stream := 1, index := 0,
    vec := 0, col := 0, scale := 0 }

/-- A control frame of this type and these flags, for the tick's first position, with its CRC. -/
def frameOf (ty fl : Nat) : List Byte :=
  let b := [BitVec.ofNat 8 ty, BitVec.ofNat 8 fl] ++ List.replicate 26 0
  b ++ leBytes 4 (crc32c b).toNat

/-- A tier-2 matrix of 1 by 1. -/
def mat1 : MatDesc := { rows := 1, cols := 1, fmt := 0, place := 0, input := 0, name := 3, sect := 0 }

/-- A layer of one head of 64 elements. -/
def layer1 : LayerRec := { layer0 with headDim := 64, kvHeads := 1, mats := [mat1] }

/-- An online DLE with that layer in slot 0. -/
def engined : State := (State.reset.updDle (fun d => { d with online := 1 })).updWs (fun w => { w with layers := [layer1] })

/-- The bundle entry of position 0 of stream 1. -/
def entry0 : BundleEntry := work0.toEntry

/-- Port 5 is UP. -/
def linked : State := State.reset.updPort 5 (fun x => { x with state := 2 })

/-- A link frame of this type and flag byte with no payload, SEQ 0, from package 0 to package 0. -/
def linkFrame (ty fl : Nat) : List Byte :=
  let h := [BitVec.ofNat 8 ty, BitVec.ofNat 8 fl] ++ List.replicate 14 0
  padFrame (h ++ leBytes 4 (crc32c h).toNat)

/-- A SLICE_SET of these flags, this number of members and this period. -/
def cmdSlice (flags n period : Nat) : Cmd :=
  { cmd0 with op := 0x30, packet := packetOf [(0x19, BitVec.ofNat 8 flags), (0x1A, BitVec.ofNat 8 n), (0x1C, BitVec.ofNat 8 period)] }

/-- One entry of a member list, its parent none. -/
def memberBytes (pkg role position : Nat) : List Byte := leBytes 2 pkg ++ leBytes 1 role ++ [0] ++ leBytes 2 position ++ leBytes 2 0xFFFF

/-- A plan of one package, which answers. -/
def planAlone : SliceFacts := { list := none, links := [], elsewhere := [], silent := [] }

/-- A head in FIELD with a layer package and a spare. -/
def serving : State :=
  (withMembers.updNv (fun n => { n with lc := .field })).updLnk (fun l => { l with members := l.members ++ [⟨9, 3, 0xFFFF, 0, true, none, 16, {}, 0⟩] })

/-- Facts of a re-rig whose spare holds the copy, over links between packages 0 and 9. -/
def gone0 : RerigFacts := { holds := true, epoch := 0, linkOnly := false, links := [⟨0, 0, 9, 100⟩, ⟨9, 0, 0, 100⟩], members := [] }

/-- The suspension for member 5 since tick 0. -/
def rerig0 : Rerig :=
  { pkg := 5, spare := none, phase := 1, reply := none, since := 0, position := 1, start := false, links := [], linkOnly := false, epoch := 0 }

/-- A head whose layer package is lost. -/
def losing : State :=
  serving.updLnk (fun l => { l with members := l.members.map (fun m => if m.pkg = 5 then { m with lost := some 1, inRun := false } else m),
                                    rerig := some rerig0 })

/-- A grant to the first requester of class 5 that never waited. -/
def who5 : Grant := ⟨{ cls := 5, inst := 0 }, 0, 0, false, none⟩

/-- A resource whose unit 0 a requester of this class holds. -/
def holding (cls : Nat) : Arb := { Arb.reset 0 with held := [(0, { who5 with who := { cls, inst := 0 } })] }

/-- Pan 32 is under verification, its payload on spare 0. -/
def verifying : State :=
  (State.reset.updFab (fun b => { b with verBusy := true, verRunPan := 32, verSpare := some 0 })).updPan 32 (fun q => { q with busy := true })
/-- States and operands that meet the hypotheses of StepRunsFrontCommand, clause by clause. -/
theorem witness_StepRunsFrontCommand :
    ((State.reset.queued [.nop 3, .warmReset]).pending = Instr.nop 3 :: [Instr.warmReset]) :=
  by decide

/-- States and operands that meet the hypotheses of EmptyQueuePassesACycle, clause by clause. -/
theorem witness_EmptyQueuePassesACycle :
    (State.reset.pending = []) :=
  by decide

/-- States and operands that meet the hypotheses of EachStepConsumesOneCommand, clause by clause. -/
theorem witness_EachStepConsumesOneCommand :
    (∃ t, step (State.reset.queued [.lateCompletion, .nop 3]) = .next t ∧ t.pending = [Instr.nop 3]) :=
  ⟨_, rfl, rfl⟩

/-- States and operands that meet the hypotheses of QueueStaysWellFormed, clause by clause. -/
theorem witness_QueueStaysWellFormed :
    ((State.reset.queued [.lateCompletion, .nop 3]).queueWf) ∧
    (∃ t, step (State.reset.queued [.lateCompletion, .nop 3]) = .next t) :=
  And.intro ((by intro c h; simp [State.queued] at h; rcases h with rfl | rfl <;> rfl)) (⟨_, rfl⟩)

/-- States and operands that meet the hypotheses of StoresStayCanonical, clause by clause. -/
theorem witness_StoresStayCanonical :
    ((State.reset.updSrv (fun v => { v with window := [(3, 1#8), (9, 0x80#8)] })).storesWf) ∧
    (∃ t, step (State.reset.queued [.lateCompletion]) = .next t) :=
  And.intro (⟨rfl, rfl⟩) (⟨_, rfl⟩)

/-- States and operands that meet the hypotheses of TickStartStop, clause by clause. -/
theorem witness_TickStartStop :
    (State.reset.dev.time.st = .stopped ∧ State.reset.dev.master = true) ∧
    (asFollower.dev.time.st = .stopped ∧ asFollower.dev.master = false) ∧
    (running.dev.time.st ≠ .stopped) :=
  And.intro (by decide) (And.intro (by decide) (by decide))

/-- States and operands that meet the hypotheses of TickPeriodChange, clause by clause. -/
theorem witness_TickPeriodChange :
    (State.reset.dev.master = true ∧ 4 ≤ 64 ∧ 64 ≤ 64 ∧ State.reset.dev.time.minPeriod ≤ 64 ∧ State.reset.dev.time.pend = none) ∧
    (let s := State.reset.updTime (fun t => { t with minPeriod := 10 }); s.dev.master = true ∧ 9 ≤ 64 ∧ (9 < 4 ∨ 9 < s.dev.time.minPeriod ∨ s.dev.time.changePending = true)) ∧
    (State.reset.dev.master = true ∧ 3 ≤ 64 ∧ (3 < 4 ∨ 3 < State.reset.dev.time.minPeriod ∨ State.reset.dev.time.changePending = true)) ∧
    (asFollower.dev.master = false ∨ 64 < 65) ∧
    (let s := State.reset.updTime (fun t => { t with tick := 17, pend := some ⟨17, some 12, none, false⟩ }); s.dev.time.pend = some ⟨17, some 12, none, false⟩ ∧ 17 ≤ s.tick ∧ s.dev.largestStretch = (none : Option Nat).getD s.dev.time.stretch) ∧
    (let s := State.reset.updTime (fun t => { t with tick := 16, pend := some ⟨17, some 12, none, false⟩ }); s.dev.time.pend = some ⟨17, some 12, none, false⟩ ∧ s.tick < 17) :=
  And.intro (by decide) (And.intro (by decide) (And.intro (by decide) (And.intro (by decide) (And.intro (by decide) (by decide)))))

/-- States and operands that meet the hypotheses of FollowerMarkers, clause by clause. -/
theorem witness_FollowerMarkers :
    (let s := asFollower.updTime (fun t => { t with st := .run }); s.dev.master = false ∧ s.dev.fromParent 0 = true ∧ s.dev.time.st = .run ∧ marker0.effective = 0 ∧ (-12 : Int).natAbs ≤ 12) ∧
    (let s := asFollower.updTime (fun t => { t with st := .run }); s.dev.master = false ∧ s.dev.fromParent 0 = true ∧ s.dev.time.st = .run ∧ 12 < (13 : Int).natAbs) ∧
    (let s := asFollower.updTime (fun t => { t with st := .sync }); s.dev.master = false ∧ s.dev.fromParent 0 = true ∧ s.dev.time.st = .sync ∧ s.dev.time.synced = false ∧ marker0.effective = 0) ∧
    (let s := asFollower.updTime (fun t => { t with st := .run, missRun := 2 }); s.dev.master = false ∧ s.dev.time.st = .run ∧ s.dev.time.markerHere = false ∧ 2 ≤ s.dev.time.missRun) ∧
    (let s := asFollower.updTime (fun t => { t with st := .free, freeTicks := 32 }); s.dev.time.st = .free ∧ 32 ≤ s.dev.time.freeTicks) :=
  And.intro (by decide) (And.intro (by decide) (And.intro (by decide) (And.intro (by decide) (by decide))))

/-- States and operands that meet the hypotheses of PtmDialogs, clause by clause. -/
theorem witness_PtmDialogs :
    (3 ≤ (State.reset.updTime (fun t => { t with ptmMisses := 3 })).dev.time.ptmMisses) ∧
    (State.reset.dev.time.ptmMisses < 3) :=
  And.intro (by decide) (by decide)

/-- States and operands that meet the hypotheses of ReplyRingWrites, clause by clause. -/
theorem witness_ReplyRingWrites :
    (let s := hosted.updRing 0 0 (fun g => { g with en := true, wq := [record0] }); (s.dev.ring 0 0).wq = record0 :: [] ∧ s.dev.earlier record0.tick = false ∧ s.dev.canWrite 0 = true) ∧
    ((State.reset.dev.ring 0 63).wq = []) ∧
    (let s := hosted.updRing 0 63 (fun g => { g with en := true, backlog := [record0] }); (s.dev.ring 0 63).en = true ∧ s.dev.canWrite 0 = true) :=
  And.intro (by decide) (And.intro (by decide) (by decide))

/-- States and operands that meet the hypotheses of RingControl, clause by clause. -/
theorem witness_RingControl :
    (let s := State.reset.updRing 31 63 (fun g => { g with size := 16 }); (s.dev.ring 31 63).en = false ∧ 4 ≤ (s.dev.ring 31 63).size ∧ (s.dev.ring 31 63).size ≤ 16) ∧
    (let s := State.reset.updRing 0 0 (fun g => { g with en := true }); (s.dev.ring 0 0).en = true ∧ 4 ≤ (s.dev.ring 0 0).size ∧ (s.dev.ring 0 0).size ≤ 16) ∧
    (let s := State.reset.updRing 0 0 (fun g => { g with prod := 1, cons := 0xFFFFFFFF }); (1 - (s.dev.ring 0 0).cons).toNat ≤ ((s.dev.ring 0 0).prod - (s.dev.ring 0 0).cons).toNat) ∧
    (((State.reset.dev.ring 0 0).prod - (State.reset.dev.ring 0 0).cons).toNat < ((1 : W32) - (State.reset.dev.ring 0 0).cons).toNat) ∧
    (let v : W32 := 0x40000000; (∀ g < 32, g ≠ 0 → (State.reset.dev.fn g).count = 0 ∨ v.toNat / 65536 % 32768 = 0 ∨ (State.reset.dev.fn g).base + (State.reset.dev.fn g).count ≤ v.toNat % 16384 ∨ v.toNat % 16384 + v.toNat / 65536 % 32768 ≤ (State.reset.dev.fn g).base) ∧ State.reset.dev.hasStreams 0 = false ∧ v.toNat % 16384 + v.toNat / 65536 % 32768 ≤ 16384) ∧
    (let v : W32 := 0x40000001; 16384 < v.toNat % 16384 + v.toNat / 65536 % 32768) ∧
    (let v : W32 := 0x00010000; (0 : Nat) ≠ 1 ∧ 0 < (State.reset.dev.fn 0).count ∧ 0 < v.toNat / 65536 % 32768 ∧ v.toNat % 16384 < (State.reset.dev.fn 0).base + (State.reset.dev.fn 0).count ∧ (State.reset.dev.fn 0).base < v.toNat % 16384 + v.toNat / 65536 % 32768) :=
  And.intro (by decide) (And.intro (by decide) (And.intro (by decide) (And.intro (by decide) (And.intro (by decide) (And.intro (by decide) (by decide))))))

/-- States and operands that meet the hypotheses of HostMessagesAndEvents, clause by clause. -/
theorem witness_HostMessagesAndEvents :
    ((State.reset.dev.msix 0 63).pending = false) ∧
    (let s := hosted.updMsix 0 63 (fun m => { m with pending := true }); (s.dev.msix 0 63).pending = true ∧ s.dev.canWrite 0 = true ∧ (s.dev.fnCfg 0).fnMask = false) ∧
    (State.reset.dev.pcie.evtEn = false ∧ 6 ≤ State.reset.dev.pcie.evtSize.toNat ∧ State.reset.dev.pcie.evtSize.toNat ≤ 16) ∧
    ((State.reset.dev.pcie.evtProd - State.reset.dev.pcie.evtCons).toNat < ((1 : W32) - State.reset.dev.pcie.evtCons).toNat) ∧
    (((0 : W32) - State.reset.dev.pcie.evtCons).toNat ≤ (State.reset.dev.pcie.evtProd - State.reset.dev.pcie.evtCons).toNat) ∧
    (State.reset.dev.rst.perstLow = false ∧ State.reset.dev.rst.furl = false) :=
  And.intro (by decide) (And.intro (by decide) (And.intro (by decide) (And.intro (by decide) (And.intro (by decide) (by decide)))))

/-- States and operands that meet the hypotheses of SlotWriteOutsideWindowFaults, clause by clause. -/
theorem witness_SlotWriteOutsideWindowFaults :
    (4194304 < 4194304 + ([0] : List Byte).length) ∧
    (4194303 + ([0] : List Byte).length ≤ 4194304) ∧
    (bar0Size 31 < 65533 + 4 ∧ 65532 + 4 ≤ bar0Size 31) ∧
    (4194304 < 4194301 + 4 ∧ 4194300 + 4 ≤ 4194304 ∧ barred.dev.barUp 0 = true ∧ State.reset.dev.barUp 0 = false) :=
  And.intro (by decide) (And.intro (by decide) (And.intro (by decide) (by decide)))

/-- States and operands that meet the hypotheses of SlotWriteStoresItsBytes, clause by clause. -/
theorem witness_SlotWriteStoresItsBytes :
    (255 + ([7] : List Byte).length ≤ 4194304 ∧ ([7] : List Byte) ≠ [] ∧ 255 % 256 + ([7] : List Byte).length ≤ 256 ∧ 0 = barred.dev.slotChannel 0 (255 / 256) ∧ barred.dev.barUp 0 = true ∧ (barred.dev.fn 0).flrBusy = false ∧ (barred.dev.fn 0).owns 0 = true ∧ barred.dev.srv.busy.contains 0 = false ∧ Memory.writeBytes barred.dev.srv.window (256 * 0 + 255 % 256) [7] = [(255, 7)]) ∧
    (let s := barred.updSrv (fun v => { v with window := [(8, 1)] }); let w := Memory.writeBytes s.dev.srv.window (256 * 0 + 0xF8 % 256) [1, 0, 0, 0, 0, 0, 0, 0]; 0xF8 % 256 + 8 = 256 ∧ Srv.sealOk { s.dev.srv with window := w } 0 = true) ∧
    (let s := barred.updSrv (fun v => { v with busy := [16383] }); s.dev.barUp 0 = true ∧ s.dev.srv.busy.contains (s.dev.slotChannel 0 (4194303 / 256)) = true) ∧
    (State.reset.dev.barUp 0 = false) :=
  And.intro (by decide) (And.intro (by decide) (And.intro (by decide) (by decide)))

/-- States and operands that meet the hypotheses of HostReadsReachTheirCommand, clause by clause. -/
theorem witness_HostReadsReachTheirCommand :
    (let c := { cmd0 with op := 2, needs := [.input] }; (State.reset.updSrv (fun v => { v with waiting := [c] })).dev.srv.waiting = c :: [] ∧ c.needs = [.input]) ∧
    (let c := { cmd0 with op := 4, needs := [.desc] }; (State.reset.updSrv (fun v => { v with waiting := [c] })).dev.srv.waiting = c :: [] ∧ c.needs = [.desc] ∧ hasStops (sliceAt [0x41] 0 128) = false ∧ hosted.dev.canWrite 0 = true ∧ (hosted.dev.fn 0).flrBusy = false ∧ ((State.reset.updFn 0 (fun n => { n with flrBusy := true })).dev.fn 0).flrBusy = true) ∧
    (hasStops (sliceAt (List.replicate 64 0 ++ [8, 0, 1, 0]) 0 128) = true) ∧
    (let c := { cmd0 with needs := [.stops], desc := some desc0 }; (State.reset.updSrv (fun v => { v with waiting := [c] })).dev.srv.waiting = c :: [] ∧ c.needs = [.stops] ∧ c.desc = some desc0) :=
  And.intro (by decide) (And.intro (by decide) (And.intro (by decide) (by decide)))

/-- States and operands that meet the hypotheses of ReplyGoesToRingOrBacklog, clause by clause. -/
theorem witness_ReplyGoesToRingOrBacklog :
    (let s := hosted.updRing 0 0 (fun g => { g with en := true }); (s.dev.fn 0).flrBusy = false ∧ (s.dev.isHead && s.dev.chk.isRetired 0 0) = false ∧ (s.dev.ring 0 0).en = true ∧ 0 < (s.dev.ring 0 0).free ∧ (s.dev.ring 0 0).backlog = [] ∧ s.dev.canWrite 0 = true) ∧
    ((State.reset.dev.fn 0).flrBusy = false ∧ (State.reset.dev.isHead && State.reset.dev.chk.isRetired 0 0) = false ∧ (State.reset.dev.ring 0 0).en = false) ∧
    (((State.reset.updFn 0 (fun n => { n with flrBusy := true })).dev.fn 0).flrBusy = true) :=
  And.intro (by decide) (And.intro (by decide) (by decide))

/-- States and operands that meet the hypotheses of BoundaryClassesInOrder, clause by clause. -/
theorem witness_BoundaryClassesInOrder :
    (State.reset.dev.srv.phase = 0) ∧
    (let s := State.reset.updSrv (fun v => { v with phase := 1, due := [{ cmd0 with op := 4 }] }); s.dev.srv.phase = 1 ∧ ∃ c ∈ s.dev.srv.due, opClass c.op ≤ 2) ∧
    (let s := State.reset.updSrv (fun v => { v with phase := 2, due := [{ cmd0 with op := 3 }] }); s.dev.srv.phase = 2 ∧ ∃ c ∈ s.dev.srv.due, opClass c.op ≤ 3) ∧
    (let s := State.reset.updSrv (fun v => { v with phase := 2, due := [cmd0] }); s.dev.srv.phase = 2 ∧ ∀ c ∈ s.dev.srv.due, 3 < opClass c.op) :=
  And.intro (by decide) (And.intro (by decide) (And.intro (by decide) (by decide)))

/-- States and operands that meet the hypotheses of StreamCommandEffects, clause by clause. -/
theorem witness_StreamCommandEffects :
    (let s := served.dueOf { cmdOpen with ch := 16383 }; s.dev.srv.due = { cmdOpen with ch := 16383 } :: [] ∧ s.dev.ws.img.isSome = true ∧ (s.dev.encoder && cmdOpen.start) = false ∧ cmdOpen.flagsOk = true ∧ s.dev.stream 16383 = none ∧ (match s.cmdDesc cmdOpen with | .ok d => (match s.inputTokens cmdOpen d 0 with | .ok toks => toks == [] | .error _ => false) | .error _ => false) = true ∧ cmdOpen.start = false) ∧
    (let c := { cmdOpen with packet := packetOf [(0x24, 3)] }; let s := served.dueOf c; s.dev.ws.img.isSome = true ∧ (s.dev.encoder && c.start) = false ∧ c.flagsOk = true ∧ s.dev.stream 0 = none ∧ (match s.cmdDesc c with | .ok d => (match s.inputTokens c d 0 with | .ok toks => toks == [] | .error _ => false) | .error _ => false) = true ∧ c.start = true) ∧
    (let s := withStream.dueOf cmdOpen; s.dev.stream 0 = some stream0 ∧ s.dev.ws.img.isSome = true ∧ (match s.cmdDesc cmdOpen with | .ok _ => true | .error _ => false) = true ∧ cmdOpen.flagsOk = true) ∧
    (let s := withStream.dueOf { cmd0 with op := 2 }; s.dev.ws.img.isSome = true ∧ (s.dev.encoder && ({ cmd0 with op := 2 } : Cmd).start) = false ∧ ({ cmd0 with op := 2 } : Cmd).flagsOk = true ∧ s.dev.stream 0 = some stream0 ∧ stream0.ready = true ∧ (match s.inputTokens { cmd0 with op := 2 } stream0.desc stream0.hist.length with | .ok toks => toks == [] | .error _ => false) = true) ∧
    (let c := { cmd0 with op := 2, packet := packetOf [(0x24, 3)] }; let s := withStream.dueOf c; c.start = true ∧ c.flagsOk = true ∧ s.dev.encoder = false ∧ (match s.inputTokens c stream0.desc stream0.hist.length with | .ok toks => toks == [] | .error _ => false) = true) ∧
    ((withGen.dueOf { cmd0 with op := 2 }).dev.stream 0 = some { stream0 with gen := some gen0 } ∧ ({ stream0 with gen := some gen0 } : Stream).ready = false) ∧
    ((withStream.dueOf { cmd0 with op := 4 }).dev.stream 0 = some stream0 ∧ stream0.gen = none) ∧
    ((withGen.dueOf { cmd0 with op := 4 }).dev.stream 0 = some { stream0 with gen := some gen0 }) ∧
    (let s := served.dueOf { cmdOpen with op := 4 }; s.dev.stream 0 = none ∧ (match s.cmdDesc { cmdOpen with op := 4 } with | .ok _ => true | .error _ => false) = true) ∧
    (let s := withStream.dueOf { cmdOpen with op := 0x10 }; s.dev.stream 0 = some stream0 ∧ (match s.cmdDesc { cmdOpen with op := 0x10 } with | .ok d => !stream0.desc.fixedDiffers d | .error _ => false) = true) ∧
    (let s := withStream.dueOf { cmdOpen with op := 0x10, desc := some (desc0.set 0 9) }; s.dev.stream 0 = some stream0 ∧ (match s.cmdDesc { cmdOpen with op := 0x10, desc := some (desc0.set 0 9) } with | .ok d => stream0.desc.fixedDiffers d | .error _ => false) = true) :=
  And.intro (by decide) (And.intro (by decide) (And.intro (by decide) (And.intro (by decide) (And.intro (by decide) (And.intro (by decide) (And.intro (by decide) (And.intro (by decide) (And.intro (by decide) (And.intro (by decide) (by decide))))))))))

/-- States and operands that meet the hypotheses of GenerationCommandEffects, clause by clause. -/
theorem witness_GenerationCommandEffects :
    (let s := withStream.dueOf { cmd0 with op := 3 }; s.dev.srv.due = { cmd0 with op := 3 } :: [] ∧ s.dev.ws.img.isSome = true ∧ (s.dev.encoder && ({ cmd0 with op := 3 } : Cmd).start) = false ∧ ({ cmd0 with op := 3 } : Cmd).flagsOk = true ∧ s.dev.stream 0 = some stream0 ∧ stream0.ready = true ∧ maxNewOf (({ cmd0 with op := 3 } : Cmd).at 0x18 4) stream0.desc = some (0, false) ∧ (bitAt (({ cmd0 with op := 3 } : Cmd).at 0x1C 1) 0 && stream0.desc.parkTtl == 0) = false) ∧
    (let c := { cmd0 with op := 5, packet := packetOf [(0x18, 7)] }; let s := withStream.dueOf c; s.dev.ws.img.isSome = true ∧ c.flagsOk = true ∧ s.dev.stream 0 = some stream0 ∧ stream0.ready = true ∧ (7 : Nat) = (if c.at 0x18 4 = 0 then stream0.desc.parkTtl else c.at 0x18 4) ∧ s.dev.srv.flights.any (fun f => f.stream == stream0.id) = false) ∧
    (let c := { cmd0 with op := 5, packet := packetOf [(0x18, 7)] }; let s := (withStream.updSrv (fun v => { v with flights := [flight0] })).dueOf c; s.dev.stream 0 = some stream0 ∧ s.dev.srv.flights.any (fun f => f.stream == stream0.id) = true) ∧
    (({ park0 with expired := true } : Park).expired = true ∧ ({ park0 with epochFreed := true } : Park).epochFreed = true ∧ (withStream.updStream 0 (fun t => { t with st := .parked, park := some { park0 with expired := true } })).dev.stream 0 = some { stream0 with st := .parked, park := some { park0 with expired := true } }) ∧
    (let s := (withStream.updStream 0 (fun t => { t with st := .parked, park := some park0 })).dueOf { cmd0 with op := 6 }; s.dev.stream 0 = some { stream0 with st := .parked, park := some park0 } ∧ park0.resuming = none ∧ park0.expired = false ∧ park0.epochFreed = false ∧ ({ cmd0 with op := 6 } : Cmd).start = false) ∧
    (let c := { cmdOpen with op := 8 }; let s := (served.updWs (fun w => { w with img := some { hdr0 with flags := 8 } })).dueOf c; s.dev.encoder = true ∧ s.dev.stream 0 = none ∧ (match s.cmdDesc c with | .ok d => (match s.inputTokens c d 0 with | .ok toks => toks == [] && (s.dev.tenant d.tenant).enable | .error _ => false) | .error _ => false) = true ∧ s.dev.embedBytes ≤ c.at 0x30 4 ∧ c.flagsOk = true) :=
  And.intro (by decide) (And.intro (by decide) (And.intro (by decide) (And.intro (by decide) (And.intro (by decide) (by decide)))))

/-- States and operands that meet the hypotheses of ParkedStreams, clause by clause. -/
theorem witness_ParkedStreams :
    (let p := { park0 with copying := some (cmd0.repTo 0) }; (withStream.updStream 0 (fun t => { t with st := .parked, park := some p })).dev.stream 0 = some { stream0 with st := .parked, park := some p } ∧ p.copying = some (cmd0.repTo 0) ∧ (cmd0.repTo 0).op ≠ 0 ∧ State.reset.dev.srv.moves 0 p = true ∧ State.reset.dev.srv.moves 0 { p with blocks := [(0, 1)] } = false) ∧
    (let s := (withStream.updStream 0 (fun t => { t with st := .parked, park := some park0 })).updTime (fun t => { t with tick := 5 }); s.dev.stream 0 = some { stream0 with st := .parked, park := some park0 } ∧ park0.copying = none ∧ park0.resuming = none ∧ park0.expired = false ∧ park0.p + park0.ttl ≤ s.tick) ∧
    ((State.reset.updTime (fun t => { t with tick := 4 })).tick < park0.p + park0.ttl) ∧
    (let p := { park0 with restored := true, resuming := some (cmd0.repTo 0, false, 0, 1) }; let s := withStream.updStream 0 (fun t => { t with st := .parked, park := some p }); s.dev.stream 0 = some { stream0 with st := .parked, park := some p } ∧ p.restored = true ∧ p.incomplete = none ∧ stream0.rebuild = none ∧ s.dev.srv.moves 0 p = true ∧ s.dev.srv.restoreOrder.head? ≠ some 0) :=
  And.intro (by decide) (And.intro (by decide) (And.intro (by decide) (by decide)))

/-- States and operands that meet the hypotheses of BudgetsAndQueuedGenerations, clause by clause. -/
theorem witness_BudgetsAndQueuedGenerations :
    (let s := (State.reset.updTenant 63 (fun t => { t with start := some 0, window := 10, counted := 7, budget := 3 })).updTime (fun t => { t with tick := 10 }); (s.dev.tenant 63).start = some 0 ∧ 0 + (s.dev.tenant 63).window ≤ s.tick) ∧
    (let s := (State.reset.updTenant 0 (fun t => { t with start := some 0, window := 10 })).updTime (fun t => { t with tick := 9 }); (s.dev.tenant 0).start = some 0 ∧ s.tick < 0 + (s.dev.tenant 0).window) ∧
    (withGen.dev.stream 0 = some { stream0 with gen := some gen0 } ∧ gen0.admitted = none) ∧
    ((withGen.testGen 0 true).1 = .admitted) ∧
    (((withGen.updSrv (fun v => { v with util := 0 })).testGen 0 true).1 = .queue) ∧
    (((withGen.updTenant 0 (fun t => { t with enable := false })).testGen 0 true).1 = .refuse 5) ∧
    (((withGen.updStream 0 (fun t => { t with desc := { t.desc with firstDeadline := 1 } })).testGen 0 true).1 = .expire) :=
  And.intro (by decide) (And.intro (by decide) (And.intro (by decide) (And.intro (by decide +kernel) (And.intro (by decide +kernel) (And.intro (by decide +kernel) (by decide +kernel))))))

/-- States and operands that meet the hypotheses of SamplingAndCommits, clause by clause. -/
theorem witness_SamplingAndCommits :
    (let s := withGen.updSrv (fun v => { v with flights := [{ flight0 with needLogits := true, passTick := some 0 }] }); s.dev.inPass 0 0 = none ∧ s.dev.stream 0 = some { stream0 with gen := some gen0 } ∧ 0 - gen0.stepAt = gen0.verified) ∧
    (let s := (withGen.updSrv (fun v => { v with flights := [{ flight0 with needLogits := true, passTick := some 0 }] })).updTime (fun t => { t with tick := 27 }); s.dev.inPass 0 0 = some { flight0 with needLogits := true, passTick := some 0 }) ∧
    (stepToken [2, 0, 1, 0] {} [1] 1 none = (0, false)) ∧
    (stepToken [2, 0, 1, 0] {} [1] 1 (some 0) = (0, true)) ∧
    (let s := ((withGen.updWs (fun w => { w with img := some { hdr0 with draftTicks := 1 } })).updStream 0 (fun t => { t with st := .decode, k := 1, desc := { t.desc with draftMax := 1 } })).updGen 0 (fun g => { g with stepFrom := some 0 }) |>.updTime (fun t => { t with tick := 1 }); (match s.dev.stream 0 with | some t => t.st == .decode && decide (0 + s.dev.hdr.draftTicks * (0 + 1) ≤ s.tick) && decide (0 < s.dev.wantDraft t) | none => false) = true) ∧
    (let s := withStream.dueOf { cmd0 with op := 4 }; ∃ c ∈ s.dev.srv.due, c.ch = 0 ∧ opClass c.op ≤ 2) ∧
    (let s := withStream.updSrv (fun v => { v with flights := [flight0] }); s.dev.srv.due = [] ∧ s.dev.srv.flight 0 0 = some flight0 ∧ s.dev.committable flight0 = true ∧ (s.commitPosition flight0).dev.srv.flight 0 1 = none) ∧
    (let s := withGen.updSrv (fun v => { v with failing := [(1, 0, 3, 0)] }); s.dev.srv.failing.find? (fun e => e.1 == 1 && e.2.1 == 0) = some (1, 0, 3, 0) ∧ (s.dev.srv.streams.find? (fun e => e.2.id == 1)).isSome = true ∧ stream0.attempts = (0, 0) ∧ ({ stream0 with attempts := (0, 3) } : Stream).attempts = (0, 3)) :=
  And.intro (by decide) (And.intro (by decide +kernel) (And.intro (by decide +kernel) (And.intro (by decide +kernel) (And.intro (by decide +kernel) (And.intro (by decide) (And.intro (by decide +kernel) (by decide)))))))

/-- States and operands that meet the hypotheses of TenantsQueriesAttestations, clause by clause. -/
theorem witness_TenantsQueriesAttestations :
    (let c := { cmd0 with op := 0x11, packet := packetOf [(0x18, 63), (0x19, 1), (0x1A, 1), (0x1C, 1), (0x2C, 63)] }; c.at 0x18 1 ≤ 63 ∧ c.at 0x19 1 ≤ 1 ∧ c.at 0x1A 1 ≠ 0 ∧ (1 : Nat) = (if c.at 0x1C 4 = 0 then 100000 else c.at 0x1C 4) ∧ (State.reset.dev.tenant (c.at 0x18 1)).scope = BitVec.ofNat 32 (c.at 0x2C 4)) ∧
    (let c := { cmd0 with op := 0x50, packet := packetOf [(0x18, 2), (0x30, 96)] }; served.queryRefusal c = none ∧ (served.queryRecords [] c).2 = 64 ∧ 32 + 64 ≤ c.at 0x30 4) ∧
    (let c := { cmd0 with op := 0x51, packet := packetOf [(0x40, 0xF8), (0x41, 0x23)] }; State.reset.dev.nv.lc.attests = true ∧ 9208 ≤ c.at 0x40 4 ∧ State.reset.dev.sec.left = 0 ∧ State.reset.dev.sec.reserving = false ∧ State.reset.dev.sec.nvFault = false ∧ State.reset.dev.sec.exhausted = false ∧ State.reset.dev.sec.attNext < 2 ^ 30 ∧ State.reset.dev.sec.waiting = [] ∧ 0 < (State.reset.updSec (fun x => { x with left := 1 })).dev.sec.left) ∧
    ((State.reset.updSec (fun x => { x with reserving := true })).dev.sec.reserving = true) :=
  And.intro (by decide) (And.intro (by decide) (And.intro (by decide) (by decide)))

/-- States and operands that meet the hypotheses of ImageCommandsBegin, clause by clause. -/
theorem witness_ImageCommandsBegin :
    ((State.reset.updNv (fun n => { n with lc := .retired })).dev.imageRefusal .install = some 0x13 ∧ (State.reset.updNv (fun n => { n with lc := .retired })).dev.imageRefusal .tack = some 0x13 ∧ ({ cmd0 with op := 0x20 } : Cmd).at 0x24 1 ≤ 1) ∧
    (let s := inField.dueOf { cmd0 with op := 0x20 }; s.dev.srv.due = { cmd0 with op := 0x20 } :: [] ∧ s.dev.imageRefusal .install = none ∧ s.dev.imageRefusal .stage = none ∧ s.dev.imageRefusal .verify = none ∧ ({ cmd0 with op := 0x20 } : Cmd).at 0x24 1 ≤ 1) ∧
    (1 < ({ cmd0 with packet := packetOf [(0x24, 2)] } : Cmd).at 0x24 1) ∧
    (let c := { cmd0 with op := 0x22, packet := packetOf [(0x18, 2)] }; staging.dev.imageRefusal .tack = none ∧ c.at 0x18 1 = 2) ∧
    (({ cmd0 with op := 0x22 } : Cmd).at 0x18 1 = 0 ∧ ({ cmd0 with packet := packetOf [(0x18, 1)] } : Cmd).at 0x18 1 = 1 ∧ staging.dev.ws.mixOk = false ∧ 2 < ({ cmd0 with packet := packetOf [(0x18, 3)] } : Cmd).at 0x18 1) :=
  And.intro (by decide) (And.intro (by decide) (And.intro (by decide) (And.intro (by decide) (by decide))))

/-- States and operands that meet the hypotheses of ImagePagesAndReports, clause by clause. -/
theorem witness_ImagePagesAndReports :
    (let r := { run0 with next := 1, hdr := some { hdr0 with pages := 9, listPages := 3 } }; let b := sliceAt [] 0 1; (asFollower.dev.takePage r 1 b).2 = 0 ∧ 1 + 1 ≠ ((asFollower.dev.takePage r 1 b).1.hdr.getD {}).pages ∧ (asFollower.dev.takePage r 1 b).1.reply = r.reply ∧ r.pageAt = none) ∧
    (let r := { run0 with next := 1, reply := some (cmd0.repTo 0), hdr := some { hdr0 with pages := 9, listPages := 3 } }; let b := sliceAt [] 0 1; r.reply.isSome = true ∧ (asHead.dev.takePage r 1 b).2 = 0 ∧ (asHead.dev.takePage r 1 b).1.reply = r.reply ∧ r.listMode = false ∧ ({ r with listMode := true } : ImgRun).pageAt = none) ∧
    ((1 : Nat) ≠ 0 ∧ 1 ≠ run0.next ∧ run0.next = 0 ∧ run0.commitSent = false) ∧
    (let s := withMembers; run0.writeSent = false ∧ s.dev.reporters.contains 0 = true ∧ (∃ q ∈ s.dev.reporters, q ∉ run0.verified ++ [0])) ∧
    (∀ q ∈ asFollower.dev.reporters, q ∈ run0.verified ++ asFollower.dev.reporters) ∧
    (run0.op = .install ∧ { run0 with result := some 0 }.result = some 0 ∧ State.reset.dev.ws.store.any (·.pending) = false ∧ run0.reply = none) ∧
    (let r := { run0 with writeSent := true }; r.commitSent = false ∧ State.reset.dev.reporters.contains 0 = true ∧ (∀ q ∈ State.reset.dev.reporters, q ∈ r.written ++ [0])) ∧
    ((∃ q ∈ withMembers.dev.reporters, q ∉ run0.written ++ [0])) :=
  And.intro (by decide) (And.intro (by decide) (And.intro (by decide) (And.intro (by decide) (And.intro (by decide) (And.intro (by decide) (And.intro (by decide) (by decide)))))))

/-- States and operands that meet the hypotheses of ImageCommitAndLoad, clause by clause. -/
theorem witness_ImageCommitAndLoad :
    (let s := State.reset.updWs (fun w => { w with run := some run0 }); s.dev.ws.run = some run0 ∧ run0.op = .install ∧ run0.reply = none ∧ s.dev.role.position = 0xFFFF) ∧
    (let s := (asFollower.updWs (fun w => { w with run := some run0, store := [payload0] })); s.dev.ws.store.any (·.pending) = true) ∧
    (let r := { newRun .stage none 0 false 0 with result := some 0 }; r.op = .stage ∧ r.reply = none ∧ r.result = some 0) ∧
    (let s := asFollower.updWs (fun w => { w with state := 4, commitDue := true, store := [payload0] }); s.dev.ws.run = none ∧ s.dev.isHead = false ∧ s.dev.ws.state = 4) ∧
    (let s := withMembers.updWs (fun w => { w with commitDue := true }); s.dev.ws.run = none ∧ s.dev.isHead = true ∧ s.dev.reporters.contains 5 = true ∧ (s.updWs (fun w => { w with commitWritten := [5] })).dev.allWritten = false ∧ (s.updWs (fun w => { w with commitWritten := [0, 5] })).dev.allWritten = true) ∧
    (let r := { run0 with reply := some (cmd0.repTo 0) }; r.reply.isSome = true ∧ r.commitSent = false) ∧
    (let s := (asFollower.updWs (fun w => { w with copy := some { payload0 with pending := false } })); s.dev.ws.run = none ∧ ((s.dev.payloadFor none).map (·.2)) = some false) ∧
    (let s := (asFollower.updWs (fun w => { w with store := [{ payload0 with pending := false }] })); s.dev.ws.run = none ∧ s.dev.payloadFor none = some ({ payload0 with pending := false }, true) ∧ { payload0 with pending := false }.pages.any (fun e => e.1 == 0) = true) ∧
    (let s := State.reset.updRole (fun r => { r with role := 4 }); (s.dev.role.role = 3 ∨ s.dev.role.role = 4) ∧ (0 : Nat) = 0) ∧
    (let s := asFollower.updWs (fun w => { w with store := [{ payload0 with pending := false }] }); (9 : Nat) ≠ s.dev.role.pkg.toNat ∧ s.dev.role.assigned = true ∧ s.dev.role.position = 1 ∧ s.dev.ws.sends = some { payload0 with pending := false } ∧ s.dev.role.role ≠ 1) ∧
    (asHead.dev.isHead = true ∧ asHead.dev.role.role = 1 ∧ asHead.dev.role.position ≠ 1) :=
  And.intro (by decide) (And.intro (by decide) (And.intro (by decide) (And.intro (by decide) (And.intro (by decide) (And.intro (by decide) (And.intro (by decide) (And.intro (by decide) (And.intro (by decide) (And.intro (by decide) (by decide))))))))))

/-- States and operands that meet the hypotheses of TackPhases, clause by clause. -/
theorem witness_TackPhases :
    (let k : Tack := ⟨2, none, 5, 0, none, 0⟩; let s := (State.reset.updWs (fun w => { w with tack := some k })).updTime (fun t => { t with tick := 5 }); s.dev.ws.tack = some k ∧ s.dev.admittedGens = [] ∧ k.drainLimit ≠ 0 ∧ k.collected + k.drainLimit ≤ s.tick) ∧
    ((withGen.updGen 0 (fun g => { g with admitted := some 0 })).dev.admittedGens ≠ []) ∧
    ((State.reset.updTime (fun t => { t with tick := 4 })).tick < (⟨2, none, 5, 0, none, 0⟩ : Tack).collected + (⟨2, none, 5, 0, none, 0⟩ : Tack).drainLimit) ∧
    (State.reset.dev.ws.drains.isNone) ∧
    (let s := ((State.reset.updFab (fun f => { f with markerSeen := some (0, 1) })).updWs (fun w => { w with staged := some payload0 })).updTime (fun t => { t with tick := 1 }); s.dev.fab.markerSeen = some (0, 1) ∧ 0 < s.tick ∧ s.dev.time.cycle = 0 ∧ s.dev.ws.epoch < 1 ∧ s.dev.ws.state ≠ 5 ∧ (∀ w ∈ s.dev.fab.works, 1 ≤ w.epoch) ∧ s.dev.lastStamped = true) ∧
    ((State.reset.updFab (fun f => { f with markerSeen := some (0, 1) })).tick ≤ 0) ∧
    (let s := State.reset.updWs (fun w => { w with staged := some payload0, state := 5 }); s.dev.ws.state = 5 ∧ s.dev.time.cycle = 0 ∧ s.tick % max 1 s.dev.fab.frame = 0) ∧
    (State.reset.dev.ws.state ≠ 5) ∧
    (let s := (asFollower.updWs (fun w => { w with commitDue := true, staged := some { payload0 with pending := false } })); s.dev.ws.tack.isNone ∧ s.dev.ws.store.any (·.pending) = false ∧ s.dev.ws.commitDue = true ∧ s.dev.isHead = false) ∧
    ((asHead.updWs (fun w => { w with commitDue := true, staged := some { payload0 with pending := false } })).dev.isHead = true) ∧
    (let s := State.reset.updWs (fun w => { w with stage := 1 }); s.dev.ws.commitDue = false ∧ s.dev.role.position = 0xFFFF ∧ s.dev.ws.stage ≠ 0 ∧ s.dev.isHead = false) ∧
    (let k : Tack := ⟨0, some (cmd0.repTo 0), 0, 0, some 3, 0⟩; State.reset.dev.ws.commitDue = false ∧ State.reset.dev.ws.stage = 0 ∧ k.marker.isSome = true ∧ k.reply = some (cmd0.repTo 0)) :=
  And.intro (by decide) (And.intro (by decide) (And.intro (by decide) (And.intro (by decide) (And.intro (by decide) (And.intro (by decide) (And.intro (by decide) (And.intro (by decide) (And.intro (by decide) (And.intro (by decide) (And.intro (by decide) (by decide)))))))))))

/-- States and operands that meet the hypotheses of ClampMonitor, clause by clause. -/
theorem witness_ClampMonitor :
    (let s := State.reset.updTime (fun t => { t with tick := 1024 }); Sparse.wf ClampSlot.reset s.dev.fab.clamps = true ∧ s.tick % 1024 = 0 ∧ s.dev.fab.windowTick < s.tick) ∧
    ((State.reset.updTime (fun t => { t with tick := 1023 })).tick % 1024 ≠ 0) ∧
    (let s := State.reset.updClamp 15 (fun c => { c with actionDue := some (2, 1) }); (s.dev.clamp 15).actionDue = some (2, 1) ∧ s.tick < 1) ∧
    (let s := (State.reset.updClamp 15 (fun c => { c with actionDue := some (2, 0) })); (s.dev.clamp 15).actionDue = some (2, 0) ∧ 0 ≤ s.tick ∧ s.dev.ws.copy = none) ∧
    (let s := ((State.reset.updClamp 0 (fun c => { c with actionDue := some (2, 0) })).updWs (fun w => { w with copy := some payload0 })); s.dev.ws.copy.isSome = true) ∧
    (let s := (State.reset.updClamp 0 (fun c => { c with actionDue := some (1, 0) })); (s.dev.clamp 0).actionDue = some (1, 0) ∧ 0 ≤ s.tick) ∧
    (let s := (State.reset.updClamp 0 (fun c => { c with copying := true })); (s.dev.clamp 0).copying = true ∧ s.dev.ws.state ≠ 5 ∧ (s.dev.clamp 1).copying = false ∧ s.dev.ws.store.find? (fun p => p.own && !p.pending && decide (p.epoch = s.dev.ws.epoch)) = none) ∧
    ((State.reset.updWs (fun w => { w with store := [{ payload0 with pending := false, epoch := 0 }] })).dev.ws.store.find? (fun p => p.own && !p.pending && decide (p.epoch = 0)) = some { payload0 with pending := false, epoch := 0 }) :=
  And.intro (by decide) (And.intro (by decide) (And.intro (by decide) (And.intro (by decide) (And.intro (by decide) (And.intro (by decide) (And.intro (by decide) (by decide)))))))

/-- States and operands that meet the hypotheses of SlipsAndReplays, clause by clause. -/
theorem witness_SlipsAndReplays :
    (∀ x ∈ State.reset.dev.fab.prefetches, x.landed = true ∧ x.poison = false) ∧
    (let s := State.reset.updFab (fun b => { b with prefetches := [⟨7, 1, 0, 0, 4096, 64, 0, true, true⟩] }); (∀ x ∈ s.dev.fab.prefetches, x.landed = true) ∧ (∃ x ∈ s.dev.fab.prefetches, (x.pan == 7 && x.stream == 1 && x.index == 0) = true ∧ x.poison = true)) ∧
    (let s := State.reset.updFab (fun b => { b with prefetches := [⟨7, 1, 0, 0, 4096, 64, 0, false, false⟩] }); ∃ x ∈ s.dev.fab.prefetches, (x.pan == 7 && x.stream == 1 && x.index == 0) = true ∧ x.landed = false) ∧
    (let s := atWork [work0, { work0 with index := 1 }, { work0 with stream := 2 }]; (s.dev.fab.works.map (fun w => (w.stream, w.index))).Nodup ∧ (s.dev.fab.works.filter (fun w => w.stream == 1 && decide (0 ≤ w.index) && !w.slipped && decide (w.half < 2))).length = 2) ∧
    (((atWork []).dev.fab.works.filter (fun w => w.stream == 1 && decide (0 ≤ w.index) && !w.slipped && decide (w.half < 2))).length = 0) ∧
    (((atWork [work0]).updDle (fun d => { d with attnOut := [(1, 0, [0x3F80])] })).dev.dle.attnOut.find? (fun e => e.1 == 1 && e.2.1 == 0) = some (1, 0, [0x3F80])) ∧
    (State.reset.dev.dle.attnOut.find? (fun e => e.1 == 1 && e.2.1 == 0) = none) ∧
    (State.reset.dev.ws.layer 0 = none) ∧
    (let s := (atWork [{ work0 with slipped := true }]).updWs (fun w => { w with layers := [{ layer0 with slipSlots := 1 }] }); s.dev.ws.layer 0 = some { layer0 with slipSlots := 1 } ∧ Sparse.get (fun _ => 0) s.dev.fab.slipUsed 0 < 1 ∧ s.dev.fab.slipOrder s.tick = [{ work0 with slipped := true }] ∧ s.dev.takesPair 0 { work0 with slipped := true } = false) ∧
    (let s := (atWork []).updWs (fun w => { w with layers := [{ layer0 with slipSlots := 0 }] }); s.dev.ws.layer 0 = some { layer0 with slipSlots := 0 } ∧ 0 ≤ Sparse.get (fun _ => 0) s.dev.fab.slipUsed 0) ∧
    (let s := (ready 32 7 { computing with wide := true } none).updWs (fun w => { w with layers := [{ layer0 with slipSlots := 1 }] }); s.dev.takesPair 0 { work0 with slipped := true, replaying := true } = true ∧ ({ layer0 with slipSlots := 1 } : LayerRec).replayPairs ≤ Sparse.get (fun _ => 0) s.dev.fab.pairsUsed 0) ∧
    ((atWork []).dev.fab.work 1 0 = none) ∧
    ((atWork [work0]).dev.fab.work 1 0 = some work0 ∧ work0.clamped = false) ∧
    (let w := { work0 with clamped := true, replays := 2 }; (atWork [w]).dev.fab.work 1 0 = some w ∧ w.clamped = true ∧ w.slipped = false ∧ w.replays < 3) ∧
    (let w := { work0 with clamped := true, replays := 3 }; (atWork [w]).dev.fab.work 1 0 = some w ∧ w.clamped = true ∧ w.slipped = false ∧ 3 ≤ w.replays) :=
  And.intro (by decide) (And.intro (by decide) (And.intro (by decide) (And.intro (by decide) (And.intro (by decide) (And.intro (by decide) (And.intro (by decide) (And.intro (by decide) (And.intro (by decide) (And.intro (by decide) (And.intro (by decide) (And.intro (by decide) (And.intro (by decide) (And.intro (by decide) (by decide))))))))))))))

/-- States and operands that meet the hypotheses of VectorsOnArrays, clause by clause. -/
theorem witness_VectorsOnArrays :
    ((39 : Nat) < 40 ∧ 40 ≤ (40 : Nat)) ∧
    ((State.reset.arr 32 7).cfg.mode ≠ .compute) ∧
    (let s := ready 32 7 computing none; (s.arr 32 7).cfg.mode = .compute ∧ (s.arr 32 7).valid = true ∧ exec (.arrayVectorComplete 32 7) s = .next s ∧ s = s.eccPan 32 1 0 0 ∧ s.dev.fab.replays 0 1 0 = false) ∧
    (let s := (ready 32 7 computing none).updArr 32 7 (fun x => { x with valid := false }); (s.arr 32 7).cfg.mode = .compute ∧ (s.arr 32 7).valid = false ∧ exec (.arrayVectorComplete 32 7) s = .next s ∧ s = s.eccPan 32 1 0 0) ∧
    ((atWork [{ work0 with replaySlot := some 0 }]).dev.fab.replays 0 1 0 = true) ∧
    (State.reset.arr 0 0 |>.run.isNone) ∧
    (let s := ready 32 7 computing (some vec0); (s.arr 32 7).run = some vec0 ∧ ((s.arrive 32 vec0.last).arr 32 7).run = some vec0) ∧
    ((State.reset.arr 0 0).done.find? (fun v => v.tagged 0 1 0 0 && !v.checked) = none) ∧
    ((State.reset.updPan 0 (fun q => { q with queue := [event0] })).waits 0 0 0 1 0 0 = true) ∧
    (let s := ready 32 7 computing (some vec0); (s.arr 32 7).run = some vec0 ∧ (s.arr 32 7).done = [] ∧ vec0.checked = false ∧ (s.pan 32).canaryDue ≠ some 7 ∧ (s.pan 32).queue = [] ∧ (s.pan 32).spots = [] ∧ (s.pan 32).coming = []) ∧
    (let v : RunVec := { vec0 with cfg := { computing with groupEn := 1 } }; (State.reset.rowCheck 32 7 v false).1 = 0 ∧ 0 ≤ (State.reset.rowCheck 32 7 v false).2) ∧
    (let v : RunVec := { vec0 with cfg := { computing with groupEn := 1 }, y := 0x7FFFFFFF }; (State.reset.rowCheck 32 7 v false).2 < ((State.reset.rowCheck 32 7 v false).1 : Int)) :=
  And.intro (by decide) (And.intro (by decide) (And.intro (by refine ⟨by decide +kernel, by decide +kernel, congrArg Host.Outcome.next (show Sys2Proof.Machine.stepArrayVectorComplete 32 7 _ = _ by decide +kernel), by decide +kernel, by decide +kernel⟩) (And.intro (by refine ⟨by decide +kernel, by decide +kernel, congrArg Host.Outcome.next (show Sys2Proof.Machine.stepArrayVectorComplete 32 7 _ = _ by decide +kernel), by decide +kernel⟩) (And.intro (by decide) (And.intro (by decide) (And.intro (by decide) (And.intro (by decide) (And.intro (by decide) (And.intro (by decide) (And.intro (by decide +kernel) (by decide +kernel)))))))))))

/-- States and operands that meet the hypotheses of BitternAndCorrection, clause by clause. -/
theorem witness_BitternAndCorrection :
    ((State.reset.pan 0).queue = [] ∧ (State.reset.pan 0).coming = [] ∧ ((State.reset.arriveNext 0).pan 0).queue = []) ∧
    (let s := State.reset.updPan 0 (fun q => { q with coming := [event0] }); ((s.arriveNext 0).pan 0).queue = [event0]) ∧
    (let s := State.reset.updPan 2111 (fun q => { q with queue := [event0], unitsUsed := 127 }); ((s.arriveNext 2111).pan 2111).queue = [event0] ∧ s.dev.fab.resEff < ((s.arriveNext 2111).pan 2111).unitsUsed + 2 ∧ event0.cfg.wide = true) ∧
    (let s := State.reset.updPan 0 (fun q => { q with queue := [event0], unitsUsed := 126 }); ((s.arriveNext 0).pan 0).queue = [event0] ∧ ((s.arriveNext 0).pan 0).unitsUsed + 2 ≤ s.dev.fab.resEff ∧ event0.cfg.wide = true) ∧
    (let u := (State.reset.updPan 0 (fun q => { q with accs := [acc0] })).each ((State.reset.updPan 0 (fun q => { q with accs := [acc0] })).dev.pans.map (·.1)) (fun s q => s.closeVector q 0 1 0 0); (u.pan 0).accs.find? (fun a => a.slot == 0 && a.stream == 1 && a.index == 0 && a.vec == 0) = some acc0 ∧ acc0.poison = false ∧ acc0.clamped = false ∧ (u.eccPan 0 1 0 0).dev.vecClamped 0 1 0 0 [] = false ∧ (u.eccPan 0 1 0 0).dev.parts 0 1 0 0 = []) ∧
    (let s := (ready 0 0 computing (some vec0)).updFab (fun b => { b with windowTick := 5 }); s.dev.parts 0 1 0 0 ≠ [] ∧ ∀ r ∈ s.dev.parts 0 1 0 0, r.tick < s.dev.fab.windowTick) ∧
    (let s := State.reset.updPan 0 (fun q => { q with accs := [{ acc0 with clamped := true, poison := true }] }); (s.pan 0).accs.find? (fun a => a.slot == 0 && a.stream == 1 && a.index == 0 && a.vec == 0) = some { acc0 with clamped := true, poison := true }) ∧
    ((State.reset.each (State.reset.dev.pans.map (·.1)) (fun s q => s.closeVector q 0 1 0 0)).pan 0 |>.accs.isEmpty) :=
  And.intro (by decide) (And.intro (by decide) (And.intro (by decide) (And.intro (by decide) (And.intro (by decide) (And.intro (by decide) (And.intro (by decide) (by decide)))))))

/-- States and operands that meet the hypotheses of ArrayChecks, clause by clause. -/
theorem witness_ArrayChecks :
    ((State.reset.updFab (fun b => { b with nSpot := 1 })).dev.fab.spotTurn 0 1 = false) ∧
    (State.reset.dev.fab.spotTurn State.reset.tick 7 = true ∧ (State.reset.arr 2111 7).cfg.mode ≠ .compute) ∧
    (let s := ready 32 7 computing none; s.dev.fab.spotTurn s.tick 7 = true ∧ (s.arr 32 7).cfg.mode = .compute ∧ (s.arr 32 7).done = [] ∧ (s.arr 32 7).since = []) ∧
    (let s := (ready 32 7 computing none).updArr 32 7 (fun x => { x with done := [vec0] }); ((s.arr 32 7).done.filter (fun v => v.tick == s.tick)).take 1 = [vec0] ∧ (s.arr 32 7).cfg.mode = .compute ∧ vec0.clamped = [] ∧ s.waits 32 7 0 1 0 0 = false) ∧
    (let s := (ready 0 0 computing none).updPan 0 (fun q => { q with queue := [event0] }); s.waits 0 0 vec0.slot vec0.stream vec0.index vec0.vec = true) ∧
    (({ vec0 with clamped := [(0, 1)] } : RunVec).clamped ≠ [] ∧ (ready 0 0 computing none).waits 0 0 0 1 0 0 = false) ∧
    (((1 : W32).toInt - (0 : W32).toInt).natAbs = 1 ∧ fpFloor (spotTol 0 computing (fun _ => 0)) < 1 ∧ 0 ≤ fpFloor (spotTol 6 computing (fun _ => 0))) ∧
    (State.reset.dev.chk.canaryEn = true ∧ (State.reset.tick + 1024) % 1024 = 0 ∧ (State.reset.pan 1024).canaryDue = none ∧ (State.reset.tick + 1) % 1024 ≠ 0) ∧
    (let s := (ready 0 0 computing none).updArr 0 0 (fun x => { x with done := [vec0] }); (s.arr 0 0).done.find? (fun v => v.tick == s.tick) = some vec0) ∧
    (let v : RunVec := { vec0 with cfg := { computing with groupEn := 1 } }; (State.reset.rowCheck 0 0 v true).2 < ((State.reset.rowCheck 0 0 v true).1 : Int)) ∧
    (let v : RunVec := { vec0 with cfg := { computing with groupEn := 1 }, y := BitVec.ofInt 32 (2 * (State.reset.rowCheck 0 0 { vec0 with cfg := { computing with groupEn := 1 } } true).2) }; ((State.reset.rowCheck 0 0 v true).1 : Int) ≤ (State.reset.rowCheck 0 0 v true).2) :=
  And.intro (by decide) (And.intro (by decide) (And.intro (by decide) (And.intro (by decide) (And.intro (by decide) (And.intro (by decide) (And.intro (by decide +kernel) (And.intro (by decide) (And.intro (by decide) (And.intro (by decide +kernel) (by decide +kernel))))))))))

/-- States and operands that meet the hypotheses of RetirementAndDenial, clause by clause. -/
theorem witness_RetirementAndDenial :
    (∀ kind, ∀ e ∈ State.reset.dev.chk.toRetire, ¬ (e.1 = kind ∧ e.2.1 = 0)) ∧
    (let s := State.reset.updChk (fun c => { c with toRetire := [(2, 32, 0x01)] }); s.dev.chk.toRetire.find? (fun e => e.1 == 2 && e.2.1 == 32) = some (2, 32, 0x01) ∧ s.dev.chk.isRetired 2 32 = false ∧ (s.pan 32).role = .active ∧ (s.pan 32).vacateTo = none) ∧
    (State.reset.dev.freeSpare 32 = some 0) ∧
    ((State.reset.pan 2111).role = .spareIdle ∧ ((State.reset.updPan 32 (fun q => { q with role := .retired })).pan 32).role = .retired) ∧
    (let x := State.reset.updArr 32 7 (fun a => { a with excluded := true, cfg := computing }); 7 ∈ (x.pan 32).mask ∧ (x.pan 32).role ≠ .spareIdle ∧ (x.decideVacate 32 false).1 = some 0) ∧
    ((7 : Nat) ∉ (State.reset.pan 32).mask) ∧
    (let s := State.reset.each (List.range 16) (fun s i => s.updIsl i (fun x => { x with st := .dark })); (s.pan 32).role = .active ∧ (s.pan 32).vacateTo = none ∧ s.dev.freeSpare 32 = none) ∧
    (let s := State.reset.updChk (fun c => { c with toRetire := [(4, 3, 0x06)] }); s.dev.chk.toRetire.find? (fun e => e.1 == 4 && e.2.1 == 3) = some (4, 3, 0x06) ∧ s.dev.chk.isRetired 4 3 = false) ∧
    ((State.reset.updChk (fun c => { c with retired := [(4, 3)] })).dev.chk.isRetired 4 3 = true) ∧
    (let s := State.reset.updPan 32 (fun x => { x with vacateTo := some (0, 2) }); (s.pan 32).vacateTo = some (0, 2) ∧ s.tick < 2) ∧
    (let s := (State.reset.updPan 32 (fun x => { x with vacateTo := some (0, 2) })).updTime (fun t => { t with tick := 2 }); (s.pan 32).vacateTo = some (0, 2) ∧ 2 ≤ s.tick ∧ s.tick % max 1 s.dev.fab.frame = 0) ∧
    ((63 : Nat) < 64 ∧ 64 ≤ 64 ∧ fieldAt (0x00A00000 : W32).toNat 20 4 ≤ 10 ∧ 10 < fieldAt (0x00B00000 : W32).toNat 20 4) ∧
    (State.reset.dev.awake = true ∧ (State.reset.updRst (fun r => { r with furl := true })).dev.awake = false) :=
  And.intro ((by intro _ e h; cases h)) (And.intro (by decide) (And.intro (by decide +kernel) (And.intro (by decide) (And.intro (by decide +kernel) (And.intro (by decide) (And.intro (by decide +kernel) (And.intro (by decide) (And.intro (by decide) (And.intro (by decide) (And.intro (by decide) (And.intro (by decide) (by decide))))))))))))

/-- States and operands that meet the hypotheses of RouterFlitsAndControlFrames, clause by clause. -/
theorem witness_RouterFlitsAndControlFrames :
    ((State.reset.dev.fab.entries .control 0).filter (fun e => e.covers 0) = []) ∧
    (let s := hopped [hop0]; (s.dev.fab.entries .control 2111).filter (fun e => e.covers 0) = [hop0] ∧ [flit0].filter (fun x => x.inp == hop0.inp) ≠ []) ∧
    (let e := { hop0 with out := 16 }; let s := (State.reset.updFab (fun b => { b with hops := [(2112, [e])] })); ((s.eccFlits 0 [flit0]).2.dev.fab.entries .sum 0).filter (fun e => e.covers 0) = [e] ∧ (s.eccFlits 0 [flit0]).1.filter (fun x => x.inp == e.inp) ≠ []) ∧
    (let a := { hop0 with op := 1 }; let b := { hop0 with op := 1, inp := 3 }; let f := [flit0, { flit0 with inp := 3 }]; a.inp < b.inp ∧ (f.filter (fun z => z.inp == a.inp)).length = (f.filter (fun z => z.inp == b.inp)).length ∧ (∀ z ∈ f, z.sparse = false)) ∧
    (let a := { hop0 with op := 2 }; let b := { hop0 with op := 2, inp := 3 }; let f := [{ flit0 with amax := true }, { flit0 with inp := 3, amax := true }]; a.inp < b.inp ∧ (f.filter (fun z => z.inp == a.inp)).length = (f.filter (fun z => z.inp == b.inp)).length ∧ (∀ z ∈ f, z.amax = true)) ∧
    (2 ≤ [hop0, { hop0 with inp := 3 }].length ∧ hop0.op ≠ 1 ∧ hop0.op ≠ 2) ∧
    (State.reset.dev.fab.tagged (leAt [0, 0, 0] 8 4) = none ∧ ([0, 0, 0] : List Byte).length < 4) ∧
    ((atWork [work0]).dev.fab.tagged (leAt (frameOf 2 4) 8 4) = some work0 ∧ crc32c ((frameOf 2 4).take 28) = BitVec.ofNat 32 (leAt (frameOf 2 4) 28 4) ∧ leAt (frameOf 2 4) 0 1 = 2 ∧ bitAt (leAt (frameOf 2 4) 1 1) 2 = true ∧ leAt (frameOf 2 4) 4 2 = 0) ∧
    (crc32c ((frameOf 3 1).take 28) = BitVec.ofNat 32 (leAt (frameOf 3 1) 28 4) ∧ leAt (frameOf 3 1) 0 1 = 3 ∧ leAt (frameOf 3 1) 1 1 = 1) ∧
    (crc32c ((frameOf 3 6).take 28) = BitVec.ofNat 32 (leAt (frameOf 3 6) 28 4) ∧ leAt (frameOf 3 6) 1 1 = 6) ∧
    (crc32c ((frameOf 4 4).take 28) = BitVec.ofNat 32 (leAt (frameOf 4 4) 28 4) ∧ leAt (frameOf 4 4) 0 1 = 4 ∧ bitAt (leAt (frameOf 4 4) 1 1) 2 = true) ∧
    (crc32c ((frameOf 6 0).take 28) = BitVec.ofNat 32 (leAt (frameOf 6 0) 28 4) ∧ leAt (frameOf 6 0) 0 1 = 6 ∧ work0.slipped = false) ∧
    (crc32c ((frameOf 1 0).take 28) = BitVec.ofNat 32 (leAt (frameOf 1 0) 28 4) ∧ leAt (frameOf 1 0) 0 1 = 1) :=
  And.intro (by decide) (And.intro (by decide) (And.intro (by decide) (And.intro (by decide) (And.intro (by decide) (And.intro (by decide) (And.intro (by decide) (And.intro (by decide +kernel) (And.intro (by decide +kernel) (And.intro (by decide +kernel) (And.intro (by decide +kernel) (And.intro (by decide +kernel) (by decide +kernel))))))))))))

/-- States and operands that meet the hypotheses of PanProgramEntries, clause by clause. -/
theorem witness_PanProgramEntries :
    (allFinite [0x3F800000, 0x00000001, 0xFF7FFFFF] = true ∧ allFinite [0x7F800000] = false ∧ allFinite [0x7FC00000] = false) ∧
    ((State.reset.updPan 7 (fun q => { q with amaxes := [(⟨0, 1, 0, 0⟩, 0x3F800000, false)] })).pan 7 |>.amaxes.find? (fun e => e.1 == ⟨0, 1, 0, 0⟩) |>.isSome) ∧
    ((State.reset.pan 7).amaxes.find? (fun e => e.1 == ⟨0, 1, 0, 0⟩) = none ∧ State.reset.dev.fab.work 1 0 = none ∧ (asFollower.dev.kvWork 1 0).isNone) ∧
    ((atWork [work0]).dev.kvWork 1 0 = some work0 ∧ work0.rebuild = false) ∧
    (let w := { work0 with rebuild := true }; (atWork [w]).dev.kvWork 1 0 = some w ∧ w.rebuild = true ∧ (atWork [w]).dev.role.position = w.target) ∧
    (let w := { work0 with rebuild := true, target := 3 }; (atWork [w]).dev.kvWork 1 0 = some w ∧ (atWork [w]).dev.role.position ≠ w.target) ∧
    (({ layer0 with rots := [(0, 0, 1)] } : LayerRec).rots[0]? = some (0, 0, 1) ∧ layer0.rots[0]? = none) ∧
    ((residualOne 0 0x3F800000).2 = false ∧ (residualOne 255 0x7F7FFFFF).2 = true) ∧
    (let s := (ready 32 7 computing none).updArr 32 7 (fun x => { x with done := [vec0] }); (s.arr 32 7).done.find? (fun v => v.stream == 1 && v.index == 0 && !v.checked) = some vec0) ∧
    ((State.reset.arr 32 7).done.find? (fun v => v.stream == 1 && v.index == 0 && !v.checked) = none) :=
  And.intro (by decide) (And.intro (by decide) (And.intro (by decide) (And.intro (by decide) (And.intro (by decide) (And.intro (by decide) (And.intro (by decide) (And.intro (by decide +kernel) (And.intro (by decide) (by decide)))))))))

/-- States and operands that meet the hypotheses of LayerEngine, clause by clause. -/
theorem witness_LayerEngine :
    (State.reset.dev.ws.layer 0 = none ∧ State.reset.dev.dle.onlineCount = 0 ∧ State.reset.dev.descOf 0 3 = none ∧ State.reset.dev.dle.attnWait = []) ∧
    (let s := engined.updDle (fun d => { d with attnWait := [(2, 0)] }); s.dev.dle.attnWait ≠ [] ∧ (1, 0) ∉ s.dev.dle.attnWait ∧ (2, 0) ∈ s.dev.dle.attnWait) ∧
    (let s := engined; s.dev.ws.layer 0 = some layer1 ∧ s.dev.dle.onlineCount ≠ 0 ∧ layer1.headDim ≠ 0 ∧ bitAt (s.dev.ws.img.getD {}).flags 3 = false) ∧
    ((engined.dev.headAttention layer1 0 [(0, 0)] 0 (List.replicate 64 0)).isSome = true ∧ (engined.dev.headAttention layer1 0 [(0, 0)] 0 (List.replicate 64 0x7F800000)).isSome = false) ∧
    ((0 : Nat) ∉ engined.dev.fab.poisonBlocks ∧ (0 : Nat) ∈ (engined.updFab (fun b => { b with poisonBlocks := [0] })).dev.fab.poisonBlocks) ∧
    (engined.dev.descOf 0 3 = some mat1 ∧ mat1.place ≠ 1 ∧ mat1.place ≠ 2 ∧ (engined.dev.clamp 0).placed ≠ .dle ∧ engined.dev.dleOutputs 0 mat1 [] [] = none) ∧
    (let s := engined.updClamp 0 (fun c => { c with placed := .dle }); (s.dev.clamp 0).placed = .dle ∧ s.dev.dleOutputs 0 mat1 [(32, 7)] [] = some [] ∧ s.dev.dle.onlineCount ≠ 0) :=
  And.intro (by decide) (And.intro (by decide) (And.intro (by decide) (And.intro (by decide +kernel) (And.intro (by decide) (And.intro (by decide) (by decide))))))

/-- States and operands that meet the hypotheses of BundlesAndVerdicts, clause by clause. -/
theorem witness_BundlesAndVerdicts :
    (State.reset.dev.isHead = false ∧ State.reset.dev.role.position = 0xFFFF) ∧
    (asFollower.dev.isHead = false ∧ asFollower.dev.role.position ≠ 0xFFFF ∧ asFollower.tick ≤ 0 + 1 ∧ 0 + 1 < (asFollower.updTime (fun t => { t with tick := 2 })).tick) ∧
    (asHead.dev.isHead = true ∧ asHead.dev.srv.flights = [] ∧ entry0.noPos = false) ∧
    (let s := asHead.updSrv (fun v => { v with flights := [flight0] }); s.dev.srv.flights.find? (fun f => f.stream == entry0.stream && f.index == entry0.index && f.epoch == entry0.epoch && !f.arrived) = some flight0 ∧ entry0.poison = false ∧ flight0.dropped = false) ∧
    (let s := asHead.updSrv (fun v => { v with flights := [flight0] }); s.dev.srv.flights.find? (fun f => f.stream == 1 && f.index == 0 && !(f.passes.any (fun p => p.1 == 5)) && f.failed.isNone) = some flight0 ∧ s.dev.srv.flights.any (fun f => f.stream == 1 && f.index == 0 && !f.dropped) = true) ∧
    ((work0.entry).result = 0 ∧ ({ work0 with result := 1 } : Work).entry.result ≠ 0 ∧ ({ work0 with result := 2 } : Work).entry.result = 2) :=
  And.intro (by decide) (And.intro (by decide) (And.intro (by decide) (And.intro (by decide) (And.intro (by decide) (by decide)))))

/-- States and operands that meet the hypotheses of MixtureOfExperts, clause by clause. -/
theorem witness_MixtureOfExperts :
    ((atWork [work0]).dev.fab.works = [work0] ∧ work0.stream = 1 ∧ work0.index = 0 ∧ allFinite [0x7FC00000] = false ∧ (atWork [work0]).dev.dle.outOf (fun y => y == 0) 7 1 0 = none) ∧
    (allFinite [0x3F800000, 0] = true ∧ topK 1 [0x3F800000, 0] = [0] ∧ ((((atWork [work0]).updWs (fun w => { w with layers := [{ layer0 with expertSlots := 1 }] })).dev.ws.layer 0).getD {}).expertSlots = 1 ∧ Sparse.get (fun _ => 0) (atWork [work0]).dev.fab.expertUsed 0 = 0) ∧
    (Sparse.get (fun _ => 0) ((atWork [work0]).updFab (fun b => { b with expertUsed := [(0, 1)] })).dev.fab.expertUsed 0 = 1) ∧
    (allFinite [fpAdd (fpSum []) 0x3F800000] = true ∧ (residualOne 0 (fpAdd (fpSum []) 0x3F800000)).2 = false ∧ allFinite [fpAdd (fpSum []) 0x7F800000] = false) :=
  And.intro (by decide) (And.intro (by decide +kernel) (And.intro (by decide) (by decide +kernel)))

/-- States and operands that meet the hypotheses of PortTraining, clause by clause. -/
theorem witness_PortTraining :
    ((State.reset.updRst (fun r => { r with step := 10 })).dev.chk.denies 5 5 = false ∧ (State.reset.dev.port 5).en = true ∧ (State.reset.dev.port 5).state ≠ 4) ∧
    ((State.reset.dev.port 5).state ≠ 1) ∧
    (let s := State.reset.updPort 5 (fun x => { x with state := 1 }); (s.dev.port 5).state = 1 ∧ (s.dev.port 5).peer = none) ∧
    (let s := State.reset.updPort 5 (fun x => { x with state := 1, peer := some (0, 1, 2) }); (s.dev.port 5).state = 1 ∧ (s.dev.port 5).peer = some (0, 1, 2)) ∧
    ((State.reset.dev.port 5).up = false ∧ (linked.dev.port 5).up = true ∧ (linked.dev.port 5).margining = false ∧ ((linked.updPort 5 (fun x => { x with margining := true, marginLane := 8 })).dev.port 5).marginLane = 8) ∧
    (((linked.updPort 5 (fun x => { x with faults := [(8, 0)] })).dev.port 5).faults = [(8, 0)] ∧ 0 ≤ 0 + 999 ∧ (linked.dev.port 5).retired.getLsbD 8 = false) ∧
    (((linked.updPort 5 (fun x => { x with retired := 0x100 })).dev.port 5).retired.getLsbD 8 = true) :=
  And.intro (by decide) (And.intro (by decide) (And.intro (by decide) (And.intro (by decide) (And.intro (by decide) (And.intro (by decide) (by decide))))))

/-- States and operands that meet the hypotheses of FramesAndRetry, clause by clause. -/
theorem witness_FramesAndRetry :
    ((State.reset.dev.port 0).up = false) ∧
    ((linked.dev.port 5).up = true ∧ ((linked.countFec 5 [] false).dev.port 5).rxSeq = 0 ∧ ((linked.countFec 5 [] false).dev.port 5).discard = false) ∧
    (frameLen (linkFrame 8 0) = 0 ∧ 20 ≤ (linkFrame 8 0).length ∧ crc32c ((linkFrame 8 0).take 16) = BitVec.ofNat 32 (leAt (linkFrame 8 0) 16 4) ∧ fieldAt (leAt (linkFrame 8 0) 10 2) 0 12 = 0) ∧
    (leAt (linkFrame 8 0) 0 1 = 8 ∧ bitAt (leAt (linkFrame 8 0) 1 1) 5 = false ∧ leAt (linkFrame 8 0) 7 1 = 0 ∧ fieldAt (leAt (linkFrame 8 0) 2 2) 0 12 = 0) ∧
    (leAt (linkFrame 0x0C 0) 0 1 = 0x0C ∧ bitAt (leAt (linkFrame 8 0x20) 1 1) 5 = true ∧ fieldAt (leAt (linkFrame 8 0) 10 2) 0 12 ≠ 1) ∧
    ((linked.updLnk (fun l => { l with accept := 1 })).dev.lnk.accept.getLsbD 0 = true ∧ linked.dev.lnk.accept.getLsbD 255 = false ∧ asFollower.dev.role.pkg.toNat ≠ 0 ∧ State.reset.dev.role.pkg.toNat = 0) ∧
    (∀ f ∈ (State.reset.dev.port 0).replay, f.1 ≠ 0) ∧
    ((State.reset.dev.port 0).txSeq.toNat = 0) ∧
    (let s := linked.updPort 5 (fun x => { x with replay := [(4095, []), (0, [])] }); findIdx1 (fun (f : Nat × List Byte) => f.1 == 0) (s.dev.port 5).replay 0 = some (1, (0, []))) ∧
    (let s := linked.updPort 5 (fun x => { x with naks := 8 }); 8 ≤ (s.dev.port 5).naks ∧ (linked.dev.port 5).naks < 8) ∧
    (State.reset.dev.lnk.route 7 = 0 ∧ (let s := linked.updLnk (fun l => { l with bank0 := [(7, 0xD0000000)] }); bitAt (s.dev.lnk.route 7).toNat 31 = true ∧ fieldAt (s.dev.lnk.route 7).toNat 28 3 = 5) ∧ (State.reset.dev.port 5).waiting = []) :=
  And.intro (by decide) (And.intro (by decide) (And.intro (by decide +kernel) (And.intro (by decide +kernel) (And.intro (by decide +kernel) (And.intro (by decide) (And.intro ((by intro f h; cases h)) (And.intro (by decide) (And.intro (by decide) (And.intro (by decide) (by decide))))))))))

/-- States and operands that meet the hypotheses of RoutesAndShares, clause by clause. -/
theorem witness_RoutesAndShares :
    ((0x88000FFF#32).getLsbD 31 = true ∧ fieldAt (0x88000FFF#32).toNat 0 12 = 4095 ∧ 4095 ∉ State.reset.dev.lnk.headIds ∧ 4095 ∉ State.reset.dev.lnk.pf0Ids ∧ (0x08000FFF#32).getLsbD 31 = false) ∧
    (4095 ∈ (State.reset.updLnk (fun l => { l with headIds := [4095] })).dev.lnk.headIds) ∧
    (asFollower.dev.role.assigned = true ∧ asFollower.dev.role.head ≠ some 1 ∧ asFollower.dev.role.head = some 0) ∧
    (State.reset.dev.lnk.switchTick = none) ∧
    (let s := State.reset.updLnk (fun l => { l with switchTick := some 0 }); s.dev.lnk.switchTick = some 0 ∧ 0 ≤ s.tick) ∧
    (let s := State.reset.updLnk (fun l => { l with switchTick := some 1 }); s.dev.lnk.switchTick = some 1 ∧ s.tick < 1) ∧
    (((List.range 4).map (fun i => fieldAt (State.reset.dev.port 5).held0.toNat (8 * i) 8) ++ (List.range 3).map (fun i => fieldAt (0x0005050A#32).toNat (8 * i) 8)) = [40, 20, 10, 10, 10, 5, 5] ∧ [40, 20, 10, 10, 10, 5, 5].sum = 100) ∧
    (((List.range 4).map (fun i => fieldAt (State.reset.dev.port 5).held0.toNat (8 * i) 8) ++ (List.range 3).map (fun i => fieldAt (0x00000514#32).toNat (8 * i) 8)) = [40, 20, 10, 10, 20, 5, 0]) :=
  And.intro (by decide) (And.intro (by decide) (And.intro (by decide) (And.intro (by decide) (And.intro (by decide) (And.intro (by decide) (And.intro (by decide) (by decide)))))))

/-- States and operands that meet the hypotheses of SliceCommands, clause by clause. -/
theorem witness_SliceCommands :
    ((State.reset.dueOf { cmd0 with op := 0x30 }).dev.inService = false) ∧
    (let s := inField; s.dev.inService = true ∧ (s.dev.isHead && s.dev.sliceBusy) = false ∧ (cmdSlice 0 1 10).at 0x19 1 = 0 ∧ (cmdSlice 0 1 10).at 0x1A 2 = 1 ∧ (cmdSlice 0 1 10).at 0x1C 1 = 10) ∧
    ((cmdSlice 2 1 10).at 0x19 1 = 2 ∧ (cmdSlice 1 1 10).at 0x19 1 = 1 ∧ (cmdSlice 0 0 10).at 0x1A 2 = 0 ∧ (cmdSlice 0 1 65).at 0x1C 1 = 65 ∧ (cmdSlice 0 1 3).at 0x1C 1 = 3) ∧
    (withStream.dev.isHead = true ∧ withStream.dev.sliceBusy = true) ∧
    (parseMembers (memberBytes 0 1 0) 1 = some [memberOf 0 1 0 0xFFFF] ∧ checkPlan planAlone [memberOf 0 1 0 0xFFFF] = none ∧ (memberOf 0 1 0 0xFFFF).role = 1) ∧
    (parseMembers (memberBytes 0 2 0) 1 = none ∧ checkPlan { planAlone with silent := [0] } [memberOf 0 1 0 0xFFFF] = some (stDEGRADED, 0x26)) ∧
    ((inField.updChk (fun c => { c with retired := [(0, 0)] })).dev.pkgRetired = true ∧ inField.dev.pkgRetired = false) ∧
    (let s := serving; s.dev.inService = true ∧ s.dev.isHead = true ∧ s.dev.lnk.members.find? (fun m => m.pkg == 5) = some ⟨5, 2, 1, 0, true, none, 16, {}, 0⟩ ∧ s.dev.lnk.rerig = none ∧ ∀ m ∈ s.dev.lnk.members, m.pkg ≠ 6) ∧
    (let s := serving; s.dev.lnk.covering 1 = none ∧ s.dev.rerigRefusal 5 none gone0 = some (stDEGRADED, 0x27) ∧ s.dev.rerigRefusal 5 (some 9) gone0 = none ∧ s.dev.lnk.members.any (fun x => x.pkg == 9 && x.position == 0xFFFF && x.lost.isNone) = true) ∧
    (let s := (inField.updRole (fun r => { r with assigned := true, role := 3, pkg := 9, head := some 0 })).updWs (fun w => { w with duties := [{ payload0 with position := 0 }] }); s.dev.isHead = false ∧ s.dev.inService = true ∧ s.dev.role.head = some 0 ∧ s.dev.role.pkg.toNat = 9) ∧
    (let l := [memberOf 0 1 0 0xFFFF, memberOf 9 3 0xFFFF 0]; (inField.updLnk (fun k => { k with members := l })).dev.rerigRefusal 0 (some 9) gone0 = none ∧ (inField.updLnk (fun k => { k with members := l })).dev.rerigRefusal 0 (some 9) { gone0 with holds := false } = some (stDEGRADED, 0x27)) ∧
    (let r := rerigOf 5 (some 9) 1 0 none gone0 false; ({ r with phase := 2 } : Rerig).phase = 2) ∧
    (let c := { cmd0 with op := 0x32, packet := packetOf [(0x18, 9), (0x1A, 1), (0x1B, 1)] }; c.at 0x18 2 = 9 ∧ c.at 0x1A 1 = 1 ∧ c.ranges = [(0, 0)] ∧ serving.dev.lnk.pipeline.length = 2 ∧ serving.dev.lnk.duties.find? (fun x => x.spare == 9) = none) ∧
    ((∃ x ∈ ({ spare := 9, kind := 1, ranges := [(0, 0)], done := [] } : Duty).positions 2, x ∉ ([] : List Nat)) ∧ ({ spare := 9, kind := 0, ranges := [], done := [] } : Duty).positions 2 = []) ∧
    (let c := { cmd0 with op := 0x32, packet := packetOf [(0x18, 9), (0x1A, 1), (0x1B, 1), (0x22, 2)] }; ∃ r ∈ c.ranges, r.2 < r.1 ∨ 2 ≤ r.2) ∧
    (serving.dev.lnk.members.any (fun m => m.pkg == 5 && m.position == 0xFFFF && m.lost.isNone) = false) :=
  And.intro (by decide) (And.intro (by decide) (And.intro (by decide) (And.intro (by decide) (And.intro (by decide) (And.intro (by decide) (And.intro (by decide) (And.intro (by decide) (And.intro (by decide +kernel) (And.intro (by decide) (And.intro (by decide +kernel) (And.intro (by decide) (And.intro (by decide) (And.intro (by decide +kernel) (And.intro (by decide) (by decide)))))))))))))))

/-- States and operands that meet the hypotheses of LostMembers, clause by clause. -/
theorem witness_LostMembers :
    (serving.dev.isHead = true ∧ serving.dev.lnk.members.find? (fun m => m.pkg == 5) = some ⟨5, 2, 1, 0, true, none, 16, {}, 0⟩) ∧
    (serving.dev.lnk.members.find? (fun m => m.pkg == 0) = some ⟨0, 1, 0, 0, true, none, 16, {}, 0⟩) ∧
    (asFollower.dev.isHead = false ∧ asFollower.dev.role.assigned = true ∧ 3 ≤ (asFollower.updLnk (fun l => { l with missed := 3 })).dev.lnk.missed ∧ State.reset.dev.role.assigned = false) ∧
    (let s := losing; s.dev.lnk.members.find? (fun m => m.pkg == 5 && m.lost.isSome) = some ⟨5, 2, 1, 0, false, some 1, 16, {}, 0⟩ ∧ s.dev.lnk.rerig = some rerig0 ∧ s.dev.isHead = true ∧ rerig0.phase = 1 ∧ rerig0.pkg = 5 ∧ s.dev.waitOver rerig0 = false) ∧
    ((losing.updLnk (fun l => { l with members := l.members.map (fun x => if x.pkg = 5 then { x with lost := none, inRun := true, missed := 0 } else x) })).dev.lnk.members.find? (fun x => x.lost.isSome && x.position != 0xFFFF) = none) ∧
    (let s := losing.updLnk (fun l => { l with members := l.members ++ [⟨7, 2, 2, 0, false, some 1, 16, {}, 0⟩] }); (s.updLnk (fun l => { l with members := l.members.map (fun x => if x.pkg = 5 then { x with lost := none, inRun := true, missed := 0 } else x) })).dev.lnk.members.find? (fun x => x.lost.isSome && x.position != 0xFFFF) = some ⟨7, 2, 2, 0, false, some 1, 16, {}, 0⟩) ∧
    (∀ m ∈ serving.dev.lnk.members, m.pkg = 5 → m.lost = none) ∧
    (let s := (losing.updLnk (fun l => { l with auto := true })).updTime (fun t => { t with tick := 1000000 }); s.dev.lnk.auto = true ∧ s.dev.waitOver rerig0 = true ∧ (s.dev.rerigRefusal 5 (s.dev.lnk.covering 1) gone0).isSome = true) ∧
    (let s := losing.updLnk (fun l => { l with duties := [{ spare := 9, kind := 1, ranges := [(1, 1)], done := [1] }] }); s.dev.lnk.covering 1 = some 9 ∧ s.dev.rerigRefusal 5 (some 9) gone0 = none) ∧
    ((withStream.dev.stream 0) = some stream0 ∧ stream0.rebuild = none) ∧
    (let t := { stream0 with rebuild := some (1, []) }; let s := withStream.setStream t; s.dev.stream 0 = some t ∧ rangeSum ([] : List (Nat × Nat)) = 0 ∧ s.dev.srv.waitsShared t = false ∧ t.st ≠ .parked ∧ 0 < rangeSum [(0, 64)]) ∧
    (asHead.dev.isHead = true ∧ 5 ≠ asHead.dev.role.pkg.toNat ∧ State.reset.dev.stream 0 = none) ∧
    (let s := serving.updLnk (fun l => { l with auto := true, members := [] }); s.dev.isHead = true ∧ s.dev.lnk.rerig = none ∧ gone0.linkOnly = false ∧ hopsFit [] s.dev.lnk.members = true ∧ allReach [] s.dev.lnk.members = true) :=
  And.intro (by decide) (And.intro (by decide) (And.intro (by decide) (And.intro (by decide) (And.intro (by decide) (And.intro (by decide) (And.intro (by decide) (And.intro (by decide) (And.intro (by decide +kernel) (And.intro (by decide) (And.intro (by decide) (And.intro (by decide) (by decide))))))))))))

/-- States and operands that meet the hypotheses of MarginTestAndRetire, clause by clause. -/
theorem witness_MarginTestAndRetire :
    (State.reset.dev.nv.lc ≠ .field ∧ State.reset.dev.inService = false ∧ inField.dev.nv.lc = .field ∧ inField.dev.inService = true) ∧
    (let c := { cmd0 with op := 0x40, packet := packetOf [(0x1A, 1), (0x1C, 3)] }; unitOf c true = some (4, 3) ∧ inField.dev.knows (c.at 0x18 2) = true ∧ (c.at 0x18 2 == inField.dev.role.pkg.toNat) = true) ∧
    (let c := { cmd0 with op := 0x40, packet := packetOf [(0x1A, 1), (0x1C, 4)] }; unitOf c true = none ∧ unitOf { c with packet := packetOf [(0x1A, 3)] } true = none ∧ unitOf { c with packet := packetOf [(0x1A, 4)] } false = some (0, 0)) ∧
    (let c := { cmd0 with op := 0x41, packet := packetOf [(0x18, 5)] }; (serving.dev.knows (c.at 0x18 2)) = true ∧ (c.at 0x18 2 == serving.dev.role.pkg.toNat) = false ∧ unitOf c false = some (2, 0) ∧ serving.dev.knows 6 = false) ∧
    (inField.dev.marginRefused 4 3 = true ∧ (inField.updTime (fun t => { t with st := .run })).dev.marginRefused 4 3 = false ∧ inField.dev.chk.isRetired 4 3 = false) ∧
    ((inField.updChk (fun c => { c with retired := [(4, 3)] })).dev.chk.isRetired 4 3 = true ∧ inField.dev.atLimit 4 3 = false) :=
  And.intro (by decide) (And.intro (by decide) (And.intro (by decide) (And.intro (by decide) (And.intro (by decide) (by decide)))))

/-- States and operands that meet the hypotheses of ArbitratedEdge, clause by clause. -/
theorem witness_ArbitratedEdge :
    (({ Arb.reset 0 with resetting := true } : Arb).resetting = true ∧ (State.reset.dev.arbiter 0).resetting = false ∧ Tab.find (State.reset.dev.arbiter 0).held 0 = none ∧ Tab.find (State.reset.dev.arbiter 4).held (State.reset.dev.arbiter 4).engine = none) ∧
    (let a := holding 5; ordinaryReq who5.who = true ∧ a.rank who5.who < a.rank { cls := 2, inst := 0 } ∧ a.rank { cls := 5, inst := 1 } ≤ a.rank who5.who ∧ Tab.find a.held 0 = some who5) ∧
    (let a := holding 2; ordinaryReq { cls := 2, inst := 0 } = false ∧ a.rank { cls := 2, inst := 0 } = 4 ∧ a.rank { cls := 0, inst := 0 } = 5) ∧
    (let a := { holding 5 with queue := [(0, { who5 with losses := 1 })] }; a.queue.find? (fun e => e.1 == 0 && e.2.who == who5.who && !e.2.waits) = some (0, { who5 with losses := 1 })) ∧
    ((holding 5).resetting = false ∧ (holding 5).choose false 0 = none ∧ ({ holding 5 with held := [], queue := [(0, { who5 with waits := true })] } : Arb).choose false 0 = some { who5 with waits := true }) ∧
    (((State.reset.updArb 2 (fun _ => holding 7)).dev.arbiter 2).held ≠ [] ∧ ((State.reset.updArb 3 (fun _ => holding 5)).dev.arbiter 3).held ≠ [] ∧ Tab.find (holding 7).held 0 = some { who5 with who := { cls := 7, inst := 0 } }) ∧
    ((State.reset.updFab (fun b => { b with prefetches := [⟨0, 1, 0, 0, 0, 64, 0, false, false⟩] })).dev.fab.fetching 0 0 (Pan.island 0) = some ⟨0, 1, 0, 0, 0, 64, 0, false, false⟩ ∧ State.reset.dev.fab.fetching 0 0 0 = none) ∧
    (let a := { holding 5 with held := [], resetting := true, queue := [(1, { who5 with waits := true })] }; ((State.reset.updArb 1 (fun _ => a)).dev.arbiter 1).resetting = true ∧ a.queue = [(1, { who5 with waits := true })]) :=
  And.intro (by decide) (And.intro (by decide) (And.intro (by decide) (And.intro (by decide) (And.intro (by decide) (And.intro (by decide) (And.intro (by decide) (by decide)))))))

/-- States and operands that meet the hypotheses of FunctionResets, clause by clause. -/
theorem witness_FunctionResets :
    ((1 : Nat) ≤ 31 ∧ 31 < 32) ∧
    ((State.reset.dev.fn 31).flrBusy = false) ∧
    (let s := State.reset.updFn 31 (fun n => { n with flrBusy := true }); (s.dev.fn 31).flrBusy = true ∧ (s.dev.fn 0).flrBusy = false) ∧
    (let s := State.reset.updFn 0 (fun n => { n with flrBusy := true }); (s.dev.fn 0).flrBusy = true) :=
  And.intro (by decide) (And.intro (by decide) (And.intro (by decide) (by decide)))

/-- States and operands that meet the hypotheses of BusMasterAndLink, clause by clause. -/
theorem witness_BusMasterAndLink :
    ((31 : Nat) < 32 ∧ 32 ≤ 32) ∧
    (hosted.dev.canWrite 0 = true ∧ State.reset.dev.canWrite 31 = false) ∧
    (State.reset.dev.rst.perstLow = false ∧ State.reset.dev.rst.furl = false ∧ (State.reset.updRst (fun r => { r with perstLow := true })).dev.rst.perstLow = true) ∧
    ((State.reset.each (List.range 32) State.stopFn).dev.srv.streams = []) :=
  And.intro (by decide) (And.intro (by decide) (And.intro (by decide) (by decide)))

/-- States and operands that meet the hypotheses of RegisterAccess, clause by clause. -/
theorem witness_RegisterAccess :
    (bar0Size 0 < 0x3FFFFFD + 4 ∧ bar0Size 31 < 0xFFFD + 4 ∧ 0x3FFFFFC + 4 ≤ bar0Size 0 ∧ 0xFFFC + 4 ≤ bar0Size 31 ∧ 4194304 < 4194301 + 4 ∧ 4194300 + 4 ≤ 4194304) ∧
    (State.reset.dev.barUp 0 = false ∧ barred.dev.barUp 0 = true ∧ (0x3FFFFFC : Nat) % 4 = 0) ∧
    (State.reset.hold = none) ∧
    (({ State.reset with hold := some ⟨State.reset.snap, 0, 0⟩ } : State).hold.isSome = true ∧ State.reset.tick < 0 + 100 ∧ 0 + 100 ≤ (State.reset.updTime (fun t => { t with tick := 100 })).tick) ∧
    (State.reset.dev.cn.auxOk = true ∧ (14 : Nat) < 15 ∧ (State.reset.updCn (fun c => { c with auxOk := false })).dev.cn.auxOk = false) :=
  And.intro (by decide) (And.intro (by decide) (And.intro (by decide) (And.intro (by decide) (by decide))))

/-- States and operands that meet the hypotheses of TrimAndVerification, clause by clause. -/
theorem witness_TrimAndVerification :
    (regionHash (State.reset.dev.ws.regionCopy.getD State.reset.dev.ws.region) = State.reset.dev.nv.tableHash) ∧
    (let s := State.reset.updNv (fun n => { n with tableHash := [1] }); regionHash (s.dev.ws.regionCopy.getD s.dev.ws.region) ≠ s.dev.nv.tableHash) ∧
    (State.reset.dev.verifyRefusal 2111 = some 3 ∧ (2112 : Nat) ≤ 2112) ∧
    ((State.reset.updTime (fun t => { t with st := .run })).dev.verifyRefusal 32 = none ∧ (State.reset.updTime (fun t => { t with st := .run })).dev.freeSpare 32 = some 0) ∧
    (State.reset.dev.fab.verBusy = false) ∧
    (let s := verifying; s.dev.fab.verBusy = true ∧ s.dev.fab.verRunPan = BitVec.ofNat 12 32 ∧ (s.pan 32).busy = true ∧ (s.pan 32).vacateTo = none ∧ s.dev.fab.verSpare = some 0) ∧
    ((verifying.each (List.range 8) (fun s a => s.setQf 32 a 115)).dev.fab.verSpare = some 0) ∧
    (State.reset.dev.nv.lc = .provisioned ∧ inField.dev.nv.lc ≠ .manufacture ∧ inField.dev.nv.lc ≠ .service) ∧
    (let s := State.reset.updNv (fun n => { n with lc := .manufacture }); s.dev.nv.lc = .manufacture ∧ ((s.each [] (State.calibrateArray · 2 [] ·)).updWs (fun w => { w with calPts := Nat.lor w.calPts 4, calLadder := 64 })).dev.ws.calPts ≠ 0 ∧ s.dev.ws.calPts = 0) :=
  And.intro (by decide) (And.intro (by decide) (And.intro (by decide) (And.intro (by decide +kernel) (And.intro (by decide) (And.intro (by decide) (And.intro (by decide) (And.intro (by decide) (by decide))))))))

/-- States and operands that meet the hypotheses of DigitalAccess, clause by clause. -/
theorem witness_DigitalAccess :
    ((2111 : Nat) < 2112 ∧ (7 : Nat) < 8 ∧ (1023 : Nat) < 1024 ∧ (State.reset.pan 2111).digRun = none ∧ inField.dev.nv.lc ≠ .manufacture ∧ inField.dev.nv.lc ≠ .service) ∧
    ((State.reset.updNv (fun n => { n with lc := .service })).dev.nv.lc = .service ∧ (State.reset.updNv (fun n => { n with lc := .manufacture })).dev.nv.lc = .manufacture) ∧
    (let s := State.reset.updPan 0 (fun q => { q with digRun := some (false, 7, 1023, []) }); (s.pan 0).digRun = some (false, 7, 1023, [])) ∧
    (let s := State.reset.updPan 0 (fun q => { (q.updArr 7 (fun x => { x with cfg := { x.cfg with mode := .digital } })) with digRun := some (true, 7, 1023, [1]) }); (s.pan 0).digRun = some (true, 7, 1023, [1]) ∧ ((s.updPan 0 (fun q => { q with digRun := none, digDone := true })).arr 0 7).mode = .digital) ∧
    (let s := State.reset.updPan 0 (fun q => { q with digRun := some (true, 7, 1023, [1]) }); ((s.updPan 0 (fun q => { q with digRun := none, digDone := true })).arr 0 7).mode ≠ .digital) :=
  And.intro (by decide) (And.intro (by decide) (And.intro (by decide) (And.intro (by decide) (by decide))))

/-- States and operands that meet the hypotheses of ResultFifo, clause by clause. -/
theorem witness_ResultFifo :
    ((63 : Nat) < 64 ∧ State.reset.dev.hk.reverifies 63 = false ∧ State.reset.dev.hk.mask.getLsbD 63 = false) ∧
    (let s := State.reset.updHk (fun h => { h with running := some true, trigChan := 63, fifo := List.replicate 64 ⟨false, false, false, 0, 0⟩, chans := [(63, { Chan.reset 63 with stale := false })] }); s.dev.hk.running = some true ∧ s.dev.hk.trigChan.toNat = 63 ∧ (s.dev.chan 63).stale = false ∧ 64 ≤ s.dev.hk.fifo.length) ∧
    (let s := State.reset.updHk (fun h => { h with mask := 1, round := 1 }); s.dev.hk.reverifies 0 = false ∧ s.dev.hk.mask.getLsbD 0 = true ∧ s.dev.hk.fifo.length < 64) ∧
    ((let s := State.reset.updHk (fun h => { h with fifo := [⟨true, true, false, 63, 0⟩] }); let t := s.beginCycle; t.dev.hk.fifo.filter (fun x => decide (x ∈ t.begun.dev.hk.fifo)) = [⟨true, true, false, 63, 0⟩]) ∧ State.reset.dev.hk.fifo = []) :=
  And.intro (by decide) (And.intro (by decide) (And.intro (by decide) (by decide)))

/-- States and operands that meet the hypotheses of RoundsTriggersAndReef, clause by clause. -/
theorem witness_RoundsTriggersAndReef :
    (State.reset.dev.hk.trigEn = false ∧ (State.reset.updHk (fun h => { h with trigEn := true })).dev.hk.trigEn = true ∧ State.reset.dev.hk.running = none) ∧
    ((64 : Nat) ≤ 64 ∧ State.reset.dev.hk.running ≠ some true) ∧
    (State.reset.dev.role.head = none ∧ State.reset.laneShares.dev.hk.frac = 16 ∧ State.reset.laneShares.dev.hk.stretch = 0 ∧ State.reset.laneShares.dev.roundPower ≤ reefLimit State.reset.laneShares.dev.hk.reef) ∧
    (reefLimit 0 < 65000001 ∧ reefLimit 1 ≤ 65000000 ∧ 60937499 < reefLimit 1) ∧
    (asFollower.dev.role.head = some 0 ∧ asFollower.dev.isHead = false) ∧
    ((8 : Nat) ≤ 8 ∧ 8 ≤ 16 ∧ 16 < 17) :=
  And.intro (by decide) (And.intro (by decide) (And.intro (by decide) (And.intro (by decide) (And.intro (by decide) (by decide)))))

/-- States and operands that meet the hypotheses of KeysAndFirmware, clause by clause. -/
theorem witness_KeysAndFirmware :
    ((State.reset.dev.nv.keyRefusal true 0 [] = some 2) ∧ (State.reset.dev.nv.keyRefusal false 0 (beBytes4 2 ++ beBytes4 7 ++ beBytes4 4) = none) ∧ ((State.reset.updNv (fun n => { n with keys := [(7, ⟨1, []⟩)] })).dev.nv.keyRefusal true 7 [] = none)) ∧
    ((State.reset.updNv (fun n => { n with lc := .retired })).dev.nv.lc = .retired ∧ State.reset.dev.nv.lc ≠ .retired ∧ State.reset.dev.sec.fwBusy = false ∧ ([[]] : List (List Byte)).length ≠ 3) ∧
    (0 < State.reset.dev.nv.svn.length ∧ State.reset.dev.nv.lc ≠ .manufacture ∧ (State.reset.updNv (fun n => { n with lc := .manufacture })).dev.nv.lc = .manufacture) :=
  And.intro (by decide) (And.intro (by decide) (by decide))

/-- States and operands that meet the hypotheses of LifeCycleTransitions, clause by clause. -/
theorem witness_LifeCycleTransitions :
    (lcOf 0 = none ∧ State.reset.dev.sec.lcPending = none ∧ (State.reset.updNv (fun n => { n with lc := .manufacture })).dev.nv.lc = .manufacture ∧ lcOf 7 = some .retired ∧ lcStep .retired .field = false ∧ lcStep .manufacture .provisioned = false ∧ lcStep .provisioned .retired = true) ∧
    ((!(asHead.dev.role.assigned || asHead.dev.ws.run.isSome || asHead.dev.ws.tack.isSome || asHead.dev.sec.fwBusy || asHead.dev.sec.lcPending.isSome)) = false) ∧
    ((!(State.reset.dev.role.assigned || State.reset.dev.ws.run.isSome || State.reset.dev.ws.tack.isSome || State.reset.dev.sec.fwBusy || State.reset.dev.sec.lcPending.isSome)) = true) ∧
    (State.reset.dev.nv.lc = .provisioned ∧ lcStep .provisioned .field = true ∧ (∀ i, i < 8 → (State.reset.dev.nv.key i).state ≠ 1)) ∧
    (∃ i, i < 8 ∧ ((State.reset.updNv (fun n => { n with keys := [(7, ⟨1, []⟩)] })).dev.nv.key i).state = 1) ∧
    (inField.dev.nv.lc ≠ .provisioned ∧ lcOf 4 = some .service ∧ lcStep .field .service = true ∧ (TokenRead.ok [] ≠ .none)) :=
  And.intro (by decide) (And.intro (by decide) (And.intro (by decide) (And.intro (by decide) (And.intro (by decide) (by decide)))))

/-- States and operands that meet the hypotheses of ResetReach, clause by clause. -/
theorem witness_ResetReach :
    ((0x15A : Nat) % 256 = 0x5A ∧ 0x5B % 256 ≠ 0x5A) ∧
    ((State.reset.updRst (fun r => { r with furl := true })).dev.rst.furl = true ∧ State.reset.dev.rst.furl = false ∧ State.reset.dev.cn.auxOk = true ∧ State.reset.dev.rst.running = true ∧ State.reset.dev.rst.warmSeq = false) ∧
    (let s := State.reset.updRst (fun r => { r with ready := true }); s.dev.rst.furl = false ∧ s.dev.cn.auxOk = true ∧ s.dev.cn.holdCode = 0 ∧ s.dev.rst.running = false) ∧
    ((State.reset.updCn (fun c => { c with onOsc := true })).dev.cn.onOsc = true ∧ State.reset.dev.cn.onOsc = false ∧ State.reset.dev.cn.tripped = false) ∧
    ((State.reset.updCn (fun c => { c with tripped := true })).dev.cn.tripped = true ∧ (1359 : Int) < 1360) ∧
    (let s := State.reset.updRst (fun r => { r with locked := 0x1FFFF }); s.dev.rst.locked.getLsbD (pllBit (.mem 2)) = true ∧ s.dev.rst.locked.getLsbD (pllBit (.lnk 5)) = true ∧ (∀ m, PllDomain.lnk 5 ≠ .mem m) ∧ State.reset.dev.rst.locked.getLsbD 0 = false) ∧
    (State.reset.dev.rst.perstLow = false ∧ (State.reset.updRst (fun r => { r with perstLow := true })).dev.rst.perstLow = true) ∧
    (let t := State.reset.updRst (fun r => { r with warmSeq := true }); t.dev.rst.running = true ∧ t.dev.rst.warmSeq = true ∧ State.reset.dev.rst.wdogRuns = false ∧ (State.reset.updRst (fun r => { r with wdogRuns := true })).dev.rst.wdogRuns = true) ∧
    (inField.dev.nv.lc = .field ∧ State.reset.dev.nv.lc ≠ .field ∧ State.reset.dev.nv.lc ≠ .service ∧ (State.reset.updCn (fun c => { c with auxOk := false })).dev.cn.auxOk = false) :=
  And.intro (by decide) (And.intro (by decide) (And.intro (by decide) (And.intro (by decide) (And.intro (by decide) (And.intro (⟨by decide, by decide, (by intro m h; cases h), by decide⟩) (And.intro (by decide) (And.intro (by decide) (by decide))))))))

/-- States and operands that meet the hypotheses of PowerUpAndSelfTest, clause by clause. -/
theorem witness_PowerUpAndSelfTest :
    (State.reset.dev.rst.step = 1 ∧ State.reset.dev.cn.auxOk = true ∧ State.reset.dev.rst.furl = false ∧ State.reset.dev.cn.holdCode = 0 ∧ State.reset.dev.rst.step.toNat < 5) ∧
    ((State.reset.updRst (fun r => { r with step := 5 })).dev.rst.step.toNat = 5 ∧ (State.reset.updRst (fun r => { r with step := 0 })).dev.rst.step = 0) ∧
    (let s := State.reset.updRst (fun r => { r with step := 5 }); s.dev.rst.step = 5 ∧ s.dev.rst.perstLow = false ∧ s.dev.rst.furl = false ∧ s.dev.cn.holdCode = 0 ∧ s.dev.cn.auxOk = true ∧ s.dev.rst.warmSeq = false ∧ s.bootChain.1 = none) ∧
    ((State.reset.updNv (fun n => { n with svn := [0, 0, 1] })).bootChain.1 = some 3) ∧
    ((State.reset.dev.nv.lcSlots.any (fun e => nvValid e.2)) = true ∧ ((State.reset.updNv (fun n => { n with lcSlots := [] })).dev.nv.lcSlots.any (fun e => nvValid e.2)) = false) ∧
    (State.reset.dev.rst.busy = false ∧ State.reset.dev.bistAllowed = false ∧ (State.reset.updNv (fun n => { n with lc := .service })).dev.bistAllowed = true) ∧
    ((State.reset.updRst (fun r => { r with busy := true })).dev.rst.busy = true) :=
  And.intro (by decide) (And.intro (by decide) (And.intro (by decide) (And.intro (by decide) (And.intro (by decide +kernel) (And.intro (by decide) (by decide))))))

/-- States and operands that meet the hypotheses of FurlTripsAndIslands, clause by clause. -/
theorem witness_FurlTripsAndIslands :
    (State.reset.dev.awake = true ∧ (State.reset.updRst (fun r => { r with furl := true })).dev.awake = false) ∧
    (let s := State.reset.updRst (fun r => { r with furl := true }); (s.dev.rst.furl && s.dev.cn.auxOk && !s.dev.cn.tripped && !s.dev.cn.vinFault) = true ∧ State.reset.dev.rst.furl = false) ∧
    (State.reset.dev.cn.auxOk = true ∧ State.reset.dev.cn.tripped = false ∧ State.reset.dev.cn.vinFault = false) ∧
    ((State.reset.updCn (fun c => { c with tripped := true, vinFault := true })).dev.cn.tripped = true) ∧
    (((State.reset.updCn (fun c => { c with ibiEn := 1 })).dev.cn.ibiEn.getLsbD 0) = true ∧ (State.reset.updCn (fun c => { c with ibiEn := 1 })).dev.cn.ibiEn.getLsbD 1 = false) ∧
    (((State.reset.updIsl 15 (fun x => { x with st := .furlingRetain })).dev.isl 15).st = .furlingRetain ∧ ((State.reset.updIsl 15 (fun x => { x with st := .furlingDark })).dev.isl 15).st = .furlingDark) ∧
    (((State.reset.updIsl 15 (fun x => { x with st := .unfurling false })).dev.isl 15).st = .unfurling false ∧ ((State.reset.updIsl 0 (fun x => { x with st := .unfurling true })).dev.isl 0).st = .unfurling true) ∧
    ((State.reset.dev.isl 15).st = .up) :=
  And.intro (by decide) (And.intro (by decide) (And.intro (by decide) (And.intro (by decide) (And.intro (by decide) (And.intro (by decide) (And.intro (by decide) (by decide)))))))

/-- States and operands that meet the hypotheses of CrowsNest, clause by clause. -/
theorem witness_CrowsNest :
    ((State.reset.updCn (fun c => { c with rtcDue := true })).dev.cn.rtcDue = true ∧ State.reset.dev.cn.subFrac + 32768 * 61036 ≥ 2000000000 ∧ State.reset.dev.cn.subFrac + 32768 * 61035 < 2000000000 ∧ 32768 * 61036 < 4000000000) ∧
    (State.reset.dev.cn.auxOk = true ∧ fieldAt (8#32).toNat 0 4 ≤ 8 ∧ 8 < fieldAt (9#32).toNat 0 4) ∧
    ((State.reset.updCn (fun c => { c with auxOk := false })).dev.cn.auxOk = false) ∧
    ((63 : Nat) < 64 ∧ (Sparse.get TripRec.reset State.reset.dev.nv.trips 63).kind = 0) :=
  And.intro (by decide) (And.intro (by decide) (And.intro (by decide) (by decide)))

/-- States and operands that meet the hypotheses of TickBoundary, clause by clause. -/
theorem witness_TickBoundary :
    ((State.reset.updRst (fun r => { r with furl := true })).dev.awake = false ∧ State.reset.dev.awake = true ∧ State.reset.dev.time.runs = false ∧ running.dev.awake = true ∧ running.dev.time.runs = true) ∧
    ((((running.passTick.arriveAll.closeWorks.dropWaits.closeHead.countVerdicts.closeTick).openTick.capture).upd Dev.newTick).closeWindows.goesDown.isNone) ∧
    (((((running.updSec (fun x => { x with lcPending := some (.field, false) })).passTick.arriveAll.closeWorks.dropWaits.closeHead.countVerdicts.closeTick).openTick.capture).upd Dev.newTick).closeWindows.goesDown.isSome) ∧
    (State.reset.passTick.goesDown.isNone ∧ (State.reset.updHk (fun h => { h with furlDue := true })).passTick.goesDown.isSome) ∧
    ((State.reset.updSec (fun x => { x with lcPending := some (.field, false) })).dev.sec.lcPending.isSome = true ∧ State.reset.dev.sec.lcPending.isNone ∧ State.reset.dev.hk.furlDue = false ∧ State.reset.dev.role.assigned = false ∧ State.reset.dev.time.st = .stopped ∧ asHead.dev.role.assigned = true) :=
  And.intro (by decide) (And.intro (by decide +kernel) (And.intro (by decide +kernel) (And.intro (by decide +kernel) (by decide))))

/-! Ill-formed commands, one for each check: the check refuses it, and admits its neighbour in range. -/

theorem test_wf_hosts : Instr.wf (.openCmd 16384) = false ∧ Instr.wf (.openCmd 16383) = true ∧ Instr.wf (.pendRead 32) = false ∧
    Instr.wf (.pendRead 31) = true ∧ Instr.wf (.flrVf 0) = false ∧ Instr.wf (.commandSlotWrite 0 4194303 [1, 2]) = false ∧
    Instr.wf (.commandSlotWrite 0 4194303 [1]) = true ∧ Instr.wf (.registerWrite 1 65533 [0, 0, 0, 0]) = false ∧
    Instr.wf (.lowWordRead 1 false 65533 4) = false ∧ Instr.wf (.lowWordRead 1 false 65532 4) = true ∧ Instr.wf (.lowWordRead 0 true 4194303 2) = false ∧ Instr.wf (.atomicOp 0 6) = false ∧
    Instr.wf (.msixUnmask 0 64) = false ∧ Instr.wf (.descriptorFetchComplete 0 (.ok [])) = false := by decide

theorem test_wf_fabric : Instr.wf (.canary 2112) = false ∧ Instr.wf (.canary 2111) = true ∧ Instr.wf (.arrayVectorComplete 0 8) = false ∧
    Instr.wf (.vector 0 0 40 0 0 0 0 0) = false ∧ Instr.wf (.vector 0 0 39 15 0 0 0 0) = true ∧ Instr.wf (.slipSlot 16) = false ∧
    Instr.wf (.controlFrameReceive 0 0 (List.replicate 33 0)) = false ∧ Instr.wf (.controlFrameReceive 0 0 (List.replicate 32 0)) = true ∧
    Instr.wf (.flitForward 0 .control 0 [{ flit0 with words := [] }]) = false ∧ Instr.wf (.ringLoad 0 0 [1] 0) = false ∧
    Instr.wf (.stampFail 4294967296 0) = false ∧ Instr.wf (.panDigRead 0 0 1024) = false ∧ Instr.wf (.verifyRequest 4096) = false ∧
    Instr.wf (.call 0 0 0 0 (.rowSum 8) 0) = false ∧ Instr.wf (.moeDispatch (.route 16 0 [])) = false := by decide

theorem test_wf_slices : Instr.wf (.memberLossReport 4096) = false ∧ Instr.wf (.memberLossReport 4095) = true ∧
    Instr.wf (.linkAck 6 0) = false ∧ Instr.wf (.linkAck 5 4096) = false ∧ Instr.wf (.linkAck 5 4095) = true ∧
    Instr.wf (.laneMargining 0 9 0 0) = false ∧ Instr.wf (.frameReceive 0 [1] [] false) = false ∧
    Instr.wf (.tickMarkerReceive 0 { marker0 with period := 3 } 0) = false ∧ Instr.wf (.tickMarkerReceive 0 marker0 0) = true ∧
    Instr.wf (.spareDutyCopy 0 65536 0 0 []) = false ∧ Instr.wf (.imageAbort 256) = false ∧ Instr.wf (.imagePageReceive .install 0 (.ok [1])) = false ∧
    Instr.wf (.headFractionUpdate 0 17 {}) = false ∧ Instr.wf (.arbRequest 5 0 ⟨0, 0⟩ 0 none) = false ∧ Instr.wf (.arbRequest 0 0 ⟨9, 0⟩ 0 none) = false := by
  decide

theorem test_wf_system : Instr.wf (.islandUnfurl 16) = false ∧ Instr.wf (.keyRevoke 8) = false ∧ Instr.wf (.keyRevoke 7) = true ∧
    Instr.wf (.thermalTrip 16 0) = false ∧ Instr.wf (.unitRetireDecision 16 0) = false ∧ Instr.wf (.hkConversionComplete 0 32768 false false []) = false ∧
    Instr.wf (.hkConversionComplete 63 (-32768) false false []) = true ∧ Instr.wf (.fwUpdate (some [[], []]) false) = false ∧
    Instr.wf (.bistRequest 8 0 0) = false ∧ Instr.wf (.rstCtrlWarm 4294967296) = false ∧ Instr.wf (.tickPeriodWrite 128) = false ∧
    Instr.wf (.pcieLinkUp 8 0 false false) = false ∧ Instr.wf (.factoryCalibration 3 0 [] [] false false) = false := by decide

/-! The spec's worked examples. -/

/-- 02 Table 2-4: the plane values of one Q2 column over four rows. -/
theorem test_q2_planes :
    [(2, 1, 2), (0, 0, 0), (3, 2, 2), (1, 0, 1), (1, 0, 1), (2, 1, 1), (2, 1, 1), (2, 0, 1)].map
      (fun (t : Nat × Nat × Nat) => planeValue .q2 (fun c => if c = 0 then t.2.2 else t.2.1) t.1 0) = [2, 0, 3, -1, -1, 0, 0, -4] := by decide

/-- 02 "One Q2 column over four rows": weights 3, -1, 1, -3 on activations 5, -3, 100, -128 give 502. -/
theorem test_q2_exact : ([(5, (1, 1)), (-3, (0, 1)), (100, (1, 0)), (-128, (0, 0))].map
    (fun (t : Int × Nat × Nat) => t.1 * weightAt .q2 (fun c => if c = 0 then t.2.2 else t.2.1) 0)).sum = 502 := by decide

/-- The same example: amax 12.7 gives the scale 0.10009765625, and 502 scales to 0.98142624. -/
theorem test_q2_scale : scaleWord 0x414B3333 127 = 0x3DCD ∧ scaleSum 502 0x3CA0 0x3DCD = 0x3F7B3EC0 := by decide +kernel

/-- 03 "A saturated count in a wide group": 70 counts read 63 flagged, and the plane value 112 reads 84. -/
theorem test_wide_saturation : convert true 70 0 = (63, true) ∧ convert true 63 0 = (63, false) ∧ convert true 64 0 = (63, true) ∧ convert false 63 127 = (63, false) ∧ convert false 63 128 = (63, true) ∧
    planeValue .q2 (fun c => if c = 0 then 51 else 70) 90 0 = 112 ∧ planeValue .q2 (fun c => if c = 0 then 51 else 63) 90 0 = 84 := by decide

/-- 11 R337: the tolerance of a narrow Q2 column with all shifts 0 is 9,518 at K = 8. -/
theorem test_spot_tolerance : fpToIntRne (spotTol 8 computing (fun _ => 0)) = 9518 := by decide +kernel

/-- 05 "Backoff on one DRAM channel" and R155's longest backoff. -/
theorem test_backoff : [0, 1, 2, 10, 11].map backoffCycles = [8, 16, 32, 8192, 8192] := by decide

/-- 06 "Island 3 heating under load": v at 72, 76 and 80 degrees, in 1/256 tap, from +3, +5, +9. -/
theorem test_trim_slope : [1152, 1216, 1280].map (tapValue 3 5 9) = [1459, 1561, 1664] := by decide

/-- CRC-32C of "123456789", and SHA-256 of "abc" (the algorithms' published check values). -/
theorem test_crc32c : crc32c ([49, 50, 51, 52, 53, 54, 55, 56, 57].map (BitVec.ofNat 8)) = 0xE3069283 := by decide +kernel

theorem test_sha256 : (sha256 [0x61, 0x62, 0x63]).take 4 = [0xBA, 0x78, 0x16, 0xBF] := by decide +kernel

/-! Single steps. -/

/-- The state that a step answers, when it answers one. -/
def after (s : State) : State := match step s with
  | .next t => t
  | .fault _ => s
  | .refused _ => s

theorem test_no_word_spells_a_command : decodeTableWord 32 0x1234 = none ∧ State.reset.withFetchWord 32 0x1234 = State.reset := by decide +kernel

theorem test_idle_cycle : (after (running)).dev.time.cycle = 1 ∧ (after State.reset).dev.time.cycle = 0 := by decide

/-- 05 Table 5-6: START at a package in no slice runs its ticks; a boundary then opens tick 1 and captures it (01 R35). -/
theorem test_time_start : (after (State.reset.queued [.timeStart])).dev.time.st = .run := by decide
theorem test_tick_boundary : (after (running.queued [.tickBoundary])).dev.time.tick = 1 ∧ (after (running.queued [.tickBoundary])).snapTick = 1 := by
  decide +kernel

/-- 05 R142: a period below the image's minimum is refused. -/
theorem test_period_refused : (after ((State.reset.updTime (fun t => { t with minPeriod := 10 })).queued [.tickPeriodWrite 9])).dev.time.periodRefused = true := by decide

/-- 12 R372: an AtomicOp is an unsupported request. -/
theorem test_atomic : (after (State.reset.queued [.atomicOp 0 0])).out = [.unsupported 0] := by decide

/-- 08 R265: an FLR of VF 31 marks it busy. -/
theorem test_flr_vf : ((after (State.reset.queued [.flrVf 31])).dev.fn 31).flrBusy = true := by decide +kernel

/-- 15 R435: a read of an empty FIFO changes nothing of it. -/
theorem test_fifo_empty : (after (State.reset.queued [.hkFifoDataRead])).dev.hk.fifo = [] := by decide

/-- 14 R405: 0x5A starts a warm reset, which counts in WARM_REG; 0x5B does nothing. -/
theorem test_rst_ctrl_warm :
    Sparse.get (fun _ => 0) (after (State.reset.queued [.rstCtrlWarm 0x5A])).dev.cn.counts 4 = 1 ∧
    Sparse.get (fun _ => 0) (after (State.reset.queued [.rstCtrlWarm 0x5B])).dev.cn.counts 4 = 0 := by
  decide +kernel

/-- A slot write past the window faults (12 R370). -/
theorem test_slot_write_outside : step (State.reset.queued [.commandSlotWrite 0 4194304 [1]]) = .fault .outsideBar := rfl

/-- 03 R98: outside MANUFACTURE and SERVICE a PAN_DIG GO is denied. -/
theorem test_pan_dig_denied : ((after (inField.queued [.panDigRead 32 7 1023])).pan 32).digDenied = true := by decide +kernel

/-- 10 R310: an ACK names the frames that it releases; one of a port that is down changes nothing. -/
theorem test_link_ack_down : (after (State.reset.queued [.linkAck 0 1])).dev.lnk = State.reset.dev.lnk := by decide +kernel

end Sys2Proof.Tests
end

section
/-! PROOF. Sampling at the head, draft proposals, commits and failed stamps: one lemma per case of each step, and O23 from them
(01 R30; 09 R275, R278; 11 R348, R349). -/

namespace Sys2Proof.Machine

theorem exec_lmHeadPassComplete (ch index : Nat) (z : List W32) (s : State) :
    exec (.lmHeadPassComplete ch index z) s = .next (stepLmHeadPassComplete ch index z s) := rfl
theorem exec_draftProposal (ch : Nat) (z : List W32) (s : State) :
    exec (.draftProposal ch z) s = .next (stepDraftProposal ch z s) := rfl
theorem exec_positionCommit (ch index : Nat) (s : State) :
    exec (.positionCommit ch index) s = .next (stepPositionCommit ch index s) := rfl
theorem exec_stampFail (stream index : Nat) (s : State) :
    exec (.stampFail stream index) s = .next (stepStampFail stream index s) := rfl

/-- What LM_HEAD_PASS_COMPLETE takes out of the pass: the DLE's logits are spent, and the flight notes the tick (01 R30). -/
def State.leavePass (s : State) (f : Flight) (index : Nat) : State :=
  (s.updDle (fun d => d.dropOut (fun _ => true) 9 f.stream index)).updSrv (fun v =>
    { v with flights := v.flights.map (fun x => if x = f then { x with logits := some s.tick } else x) })

section LmHead
variable {s : State} {ch index : Nat} {z : List W32} {f : Flight} {t : Stream} {g : Gen} {tok : Nat}

theorem stepLmHeadPassComplete_of_accepted (hf : s.dev.inPass ch index = some f) (ht : s.dev.stream ch = some t)
    (hg : t.gen = some g) (hj : index - g.stepAt = g.verified)
    (hk : stepToken ((s.dev.dle.outOf (fun _ => true) 9 f.stream index).getD z) t.desc (t.hist ++ g.sampled.map (·.2.1)) (index + 1)
      (g.inFlight[g.verified]?) = (tok, true)) :
    stepLmHeadPassComplete ch index z s = (((s.leavePass f index).updGen ch (fun h => { h with
      sampled := h.sampled ++ [(index + 1, tok, true)], generated := h.generated + 1, verified := h.verified + 1 })).updSrv
      (fun v => { v with accepted := v.accepted + 1 })) := by
  simp only [stepLmHeadPassComplete, hf, ht, hg, hj, hk, if_true]
  rfl

theorem stepLmHeadPassComplete_of_ended (hf : s.dev.inPass ch index = some f) (ht : s.dev.stream ch = some t)
    (hg : t.gen = some g) (hj : index - g.stepAt = g.verified)
    (hk : stepToken ((s.dev.dle.outOf (fun _ => true) 9 f.stream index).getD z) t.desc (t.hist ++ g.sampled.map (·.2.1)) (index + 1)
      (g.inFlight[g.verified]?) = (tok, false)) {w : State}
    (hw : w = (s.leavePass f index).updGen ch (fun h => { h with
      sampled := h.sampled ++ [(index + 1, tok, false)], generated := h.generated + 1, verified := 9 })) :
    stepLmHeadPassComplete ch index z s =
      (w.dropFrom ch (index + 1)).updStream ch (fun x => w.dev.adapt x g.inFlight.length g.verified) := by
  subst hw
  simp only [stepLmHeadPassComplete, hf, ht, hg, hj, hk, if_true, Bool.false_eq_true, if_false]
  rfl

theorem stepLmHeadPassComplete_of_not_inPass (hf : s.dev.inPass ch index = none) : stepLmHeadPassComplete ch index z s = s := by
  simp only [stepLmHeadPassComplete, hf]

theorem stepDraftProposal_of_due {k : Nat} (ht : s.dev.stream ch = some t) (hg : t.gen = some g) (hd : t.st = .decode)
    (hk : g.stepFrom = some k) (hdue : k + s.dev.hdr.draftTicks * (g.proposals.length + 1) ≤ s.tick)
    (hw : g.proposals.length < s.dev.wantDraft t) :
    stepDraftProposal ch z s = (s.updGen ch (fun h => { h with proposals := h.proposals ++ [argmax z] })).updSrv
      (fun v => { v with proposed := v.proposed + 1 }) := by
  simp only [stepDraftProposal, ht, hg, hd, hk, hdue, hw, beq_self_eq_true, decide_true, Bool.and_self, if_true]
end LmHead

section Commit
variable {s : State} {ch index : Nat} {f : Flight}

theorem stepPositionCommit_of_withheld (h : ∃ c ∈ s.dev.srv.due, c.ch = ch ∧ opClass c.op ≤ 2) :
    stepPositionCommit ch index s = s := by
  refine if_pos ?_
  simpa [List.any_eq_true] using h

theorem stepPositionCommit_of_free (h : ∀ c ∈ s.dev.srv.due, c.ch = ch → 2 < opClass c.op) :
    stepPositionCommit ch index s = s.commitFrom ch index := by
  refine if_neg ?_
  simpa [List.any_eq_true] using h

/-- A position that is in flight and may commit, with none in flight behind it, commits alone. -/
theorem State.commitRun_single {n : Nat} (hf : s.dev.srv.flight ch index = some f) (hc : s.dev.committable f = true)
    (hnext : (s.commitPosition f).dev.srv.flight ch (index + 1) = none) :
    State.commitRun ch (n + 1) index s = (1, s.commitPosition f) := by
  have rest : State.commitRun ch n (index + 1) (s.commitPosition f) = (0, s.commitPosition f) := by
    cases n with
    | zero => rfl
    | succ n => simp only [State.commitRun, hnext]
  simp only [State.commitRun, hf, hc, if_true, rest]

theorem Srv.flights_length_ne_zero_of_flight {v : Srv} (hf : v.flight ch index = some f) : v.flights.length ≠ 0 :=
  Nat.ne_of_gt (List.length_pos_of_mem (List.mem_of_find?_eq_some hf))

theorem State.commitFrom_single (hf : s.dev.srv.flight ch index = some f) (hc : s.dev.committable f = true)
    (hnext : (s.commitPosition f).dev.srv.flight ch (index + 1) = none) :
    s.commitFrom ch index = ((s.commitPosition f).deliver ch (index + 1)).insertBlocks ch index 1 f.epoch := by
  obtain ⟨n, hn⟩ := Nat.exists_eq_succ_of_ne_zero (Srv.flights_length_ne_zero_of_flight hf)
  simp only [State.commitFrom, hn, Nat.succ_eq_add_one, State.commitRun_single hf hc hnext, hf, Nat.one_ne_zero, if_false]
end Commit

/-- The failed stamps without those of a position: STAMP_FAIL has acted on it (11 R349). -/
def State.takeFailing (s : State) (stream index : Nat) : State :=
  s.updSrv (fun v => { v with failing := v.failing.filter (fun e => !(e.1 == stream && e.2.1 == index)) })

/-- Where a failure at an index cuts the stream's work: in a decode step at the step's start (11 Table 11-4). -/
def Stream.cutAt (t : Stream) (index : Nat) : Nat := if t.st == .decode then min index (t.hist.length - 1) else index

/-- The failures of an index in a row, this one counted (11 R349). -/
def Stream.triesAt (t : Stream) (index : Nat) : Nat := if t.attempts.1 = index then t.attempts.2 + 1 else 1

/-- The stream's positions in flight from an index on whose work counts. -/
def Srv.lostFrom (v : Srv) (ch cut : Nat) : List Flight :=
  v.flights.filter (fun f => f.ch == ch && decide (cut ≤ f.index) && !f.dropped)

section StampFail
variable {s : State} {stream index key : Nat} {t : Stream} {g : Gen} {e : Nat × Nat × Nat × Nat}

theorem stepStampFail_of_failing (he : s.dev.srv.failing.find? (fun e => e.1 == stream && e.2.1 == index) = some e) :
    stepStampFail stream index s = s.failStamp stream index e.2.2.1 := by
  simp only [stepStampFail, he]

/-- A failed stamp of a generating stream: CLAMPED_STRICT and POISONED end the generation, as does the fourth failure; any other
result sends the work in again (11 R345, R349). -/
theorem State.failStamp_of_gen (hk : s.dev.srv.streams.find? (fun e => e.2.id == stream) = some (key, t)) (hg : t.gen = some g)
    (result : Nat) {d : State} (hd : d = (s.takeFailing stream index).dropFrom key (t.cutAt index)) :
    s.failStamp stream index result =
      (if result = 4 then d.endGen key stCLAMPED 0
       else if result = 3 ∨ 4 ≤ t.triesAt index then d.endGen key stPOISONED 0
       else ((d.updStream key (fun x => { x with attempts := (index, t.triesAt index) })).reenter key (t.cutAt index)).updChk
         (fun c => { c with replays := wrapInc c.replays (s.dev.srv.lostFrom key (t.cutAt index)).length })) := by
  have hk' : (s.takeFailing stream index).dev.srv.streams.find? (fun e => e.2.id == stream) = some (key, t) := hk
  simp only [State.takeFailing] at hk'
  subst hd
  simp only [State.failStamp, hk', hg]
  rfl
end StampFail

end Sys2Proof.Machine

open Sys2Proof Sys2Proof.Machine

/-- Settles O23: each step's own lemma, for the position that leaves the pass, the proposal, the commit and the failed stamp. -/
theorem samplingAndCommits : Obligations.SamplingAndCommits := by
  intro s ch index stream z t g
  refine ⟨?_, fun hf => ?_, fun k ht hg hd hk hdue hw => ?_, fun h => ?_, fun h f hf hc hnext => ?_, ?_⟩
  · rintro f u tok y hf ht hg hj rfl rfl
    refine ⟨fun hk => ?_, fun w hk hw => ?_⟩
    · rw [exec_lmHeadPassComplete, stepLmHeadPassComplete_of_accepted hf ht hg hj hk]; rfl
    · rw [exec_lmHeadPassComplete, stepLmHeadPassComplete_of_ended hf ht hg hj hk hw]
  · rw [exec_lmHeadPassComplete, stepLmHeadPassComplete_of_not_inPass hf]
  · rw [exec_draftProposal, stepDraftProposal_of_due ht hg hd hk hdue hw]
  · rw [exec_positionCommit, stepPositionCommit_of_withheld h]
  · rw [exec_positionCommit, stepPositionCommit_of_free h, State.commitFrom_single hf hc hnext]
  · rintro e key cut u he hk hg rfl rfl
    have acts := (exec_stampFail stream index s).trans (congrArg _ ((stepStampFail_of_failing he).trans
      (State.failStamp_of_gen hk hg e.2.2.1 rfl)))
    refine ⟨fun h3 => ?_, fun h4 => ?_, fun n h3 h4 hn hlt => ?_, fun h3 h4 ha => ?_⟩
    · rw [acts, if_neg (by omega), if_pos (.inl h3)]; rfl
    · rw [acts, if_pos h4]; rfl
    · have again : ¬ (e.2.2.1 = 3 ∨ 4 ≤ t.triesAt index) := by
        rintro (h | h)
        · exact h3 h
        · exact absurd h (by rw [Stream.triesAt, ← hn]; omega)
      rw [acts, if_neg h4, if_neg again, hn]; rfl
    · have fourth : 4 ≤ t.triesAt index := by simp [Stream.triesAt, ha]
      rw [acts, if_neg h4, if_pos (.inr fourth)]; rfl
end

section
/-! PROOF. Register and snapshot accesses: one lemma per condition of each access command, and O49 from them (01 R37 to R42; 12
R370). -/

namespace Sys2Proof.Machine

section Faults
variable {s : State} {f off len : Nat} {data : List Byte}

theorem exec_registerWrite_of_outside (h : bar0Size f < off + data.length) :
    exec (.registerWrite f off data) s = .fault .outsideBar := if_pos h

theorem exec_registerWrite_of_inside (h : off + data.length ≤ bar0Size f) :
    exec (.registerWrite f off data) s = .next (stepRegisterWrite f off data s) := if_neg (Nat.not_lt.mpr h)

theorem exec_lowWordRead_of_outside {slots : Bool} (h : (if slots then 4194304 else bar0Size f) < off + len) :
    exec (.lowWordRead f slots off len) s = .fault .outsideBar := if_pos h

theorem exec_lowWordRead_of_inside {slots : Bool} (h : off + len ≤ (if slots then 4194304 else bar0Size f)) :
    exec (.lowWordRead f slots off len) s = .next (stepLowWordRead f slots off len s) := if_neg (Nat.not_lt.mpr h)
end Faults

section Write
variable {s : State} {f off : Nat} {data : List Byte}

theorem stepRegisterWrite_of_barDown (h : s.dev.barUp f = false) : stepRegisterWrite f off data s = s.emit (.unsupported f) := by
  simp only [stepRegisterWrite, h, Bool.not_false, if_true]

theorem stepRegisterWrite_of_unaligned (h : s.dev.barUp f = true) (ho : off % 4 ≠ 0) : stepRegisterWrite f off data s = s := by
  simp only [stepRegisterWrite, h, Bool.not_true, Bool.false_eq_true, if_false, if_pos ho]

/-- An aligned write is carried out word by word in ascending order (01 R42). -/
theorem stepRegisterWrite_of_aligned (h : s.dev.barUp f = true) (ho : off % 4 = 0) :
    stepRegisterWrite f off data s = s.each (List.range (data.length / 4))
      (fun s i => s.writeAt f (off + 4 * i) (BitVec.ofNat 32 (leAt data (4 * i) 4))) := by
  simp only [stepRegisterWrite, h, Bool.not_true, Bool.false_eq_true, if_false, ho, ne_eq, not_true_eq_false]

/-- A write narrower than a word holds no whole word: it is discarded. -/
theorem stepRegisterWrite_of_narrow (h : s.dev.barUp f = true) (hn : data.length < 4) : stepRegisterWrite f off data s = s := by
  by_cases ho : off % 4 = 0
  · rw [stepRegisterWrite_of_aligned h ho, Nat.div_eq_of_lt hn]; rfl
  · exact stepRegisterWrite_of_unaligned h ho
end Write

section Read
variable {s t : State} {f off len : Nat} {ws : List W32}

theorem stepLowWordRead_of_barDown (slots : Bool) (h : s.dev.barUp f = false) :
    stepLowWordRead f slots off len s = s.emit (.unsupported f) := by
  simp only [stepLowWordRead, h, Bool.not_false, if_true]

theorem stepLowWordRead_slots (h : s.dev.barUp f = true) :
    stepLowWordRead f true off len s = s.emit (.readBytes (s.dev.slotBytes f off len)) := by
  simp only [stepLowWordRead, h, Bool.not_true, Bool.false_eq_true, if_false, if_true]

/-- A read of BAR0 of 32 bits or wider at a multiple of 4 answers its words in ascending order (01 R42). -/
theorem stepLowWordRead_words (h : s.dev.barUp f = true)
    (hr : (ws, t) = State.readWords f ((off % 4 + len + 3) / 4) (off - off % 4) s) (hk : off % 4 = 0) (hl : 4 ≤ len) :
    stepLowWordRead f false off len s = t.each ws (fun t v => t.emit (.readData v)) := by
  simp only [stepLowWordRead, h, Bool.not_true, Bool.false_eq_true, if_false, ← hr]
  exact if_pos ⟨hk, hl⟩

/-- Any other read of BAR0 answers the addressed bytes of the registers that it covers (01 R42). -/
theorem stepLowWordRead_bytes (h : s.dev.barUp f = true)
    (hr : (ws, t) = State.readWords f ((off % 4 + len + 3) / 4) (off - off % 4) s) (hk : off % 4 ≠ 0 ∨ len < 4) :
    stepLowWordRead f false off len s = t.emit (.readBytes (sliceAt (ws.flatMap (fun v => leBytes 4 v.toNat)) (off % 4) len)) := by
  simp only [stepLowWordRead, h, Bool.not_true, Bool.false_eq_true, if_false, ← hr]
  exact if_neg (by omega)

theorem State.readWords_zero (f a : Nat) (s : State) : State.readWords f 0 a s = ([], s) := rfl

theorem State.readWords_succ (f n a : Nat) (s : State) : State.readWords f (n + 1) a s =
    ((s.readAt f a).1 :: (State.readWords f n (a + 4) (s.readAt f a).2).1, (State.readWords f n (a + 4) (s.readAt f a).2).2) := rfl
end Read

section Hold
variable {s : State} {h : Hold}

theorem stepSnapHold_of_none (hh : s.hold = none) : stepSnapHold s = { s with hold := some ⟨s.snap, s.snapTick, s.tick⟩ } := by
  simp only [stepSnapHold, hh]

theorem stepSnapHold_of_held (hh : s.hold = some h) : stepSnapHold s = s := by
  simp only [stepSnapHold, hh]

theorem stepSnapHoldExpiry_of_none (hh : s.hold = none) : stepSnapHoldExpiry s = s := by
  simp only [stepSnapHoldExpiry, hh]

theorem stepSnapHoldExpiry_of_over (hh : s.hold = some h) (ho : h.setAt + 100 ≤ s.tick) :
    stepSnapHoldExpiry s = { s with hold := none, holdExpired := true } := by
  simp only [stepSnapHoldExpiry, hh, if_pos ho]

theorem stepSnapHoldExpiry_of_young (hh : s.hold = some h) (ho : s.tick < h.setAt + 100) : stepSnapHoldExpiry s = s := by
  simp only [stepSnapHoldExpiry, hh, if_neg (Nat.not_le.mpr ho)]
end Hold

section Mgmt
variable {s : State} {blk off : Nat} (len : Nat)

theorem stepMgmtTsRead_of_valid (ha : s.dev.cn.auxOk = true) (hb : blk < 15) (ho : off % 4 = 0) :
    stepMgmtTsRead blk off len s = s.emit (.mgmt s.snapTick (tsBytes s.snap s.snapTick blk off len)) := by
  simp only [stepMgmtTsRead, ha, hb, ho, decide_true, Bool.and_self, if_true]

theorem stepMgmtTsRead_of_invalid (h : s.dev.cn.auxOk = false ∨ 15 ≤ blk ∨ off % 4 ≠ 0) : stepMgmtTsRead blk off len s = s := by
  refine if_neg ?_
  simp only [Bool.and_eq_true, decide_eq_true_eq]
  rintro ⟨⟨ha, hb⟩, ho⟩
  rcases h with h | h | h
  · simp [ha] at h
  · omega
  · exact h ho
end Mgmt

end Sys2Proof.Machine

open Sys2Proof Sys2Proof.Machine

/-- Settles O49: the fault or the next state of each access, from the lemma for its conditions. -/
theorem registerAccess : Obligations.RegisterAccess := by
  intro s f off blk len data
  refine ⟨exec_registerWrite_of_outside, exec_lowWordRead_of_outside (slots := false), exec_lowWordRead_of_outside (slots := true),
    fun hin => ⟨fun hb => ?_, fun hb h => ?_, fun hb ho => ?_⟩, fun slots hin hb => ?_, fun hin hb => ?_,
    fun k ws t hin hb hk hr => ⟨fun h0 hl => ?_, fun hk' => ?_⟩,
    fun n a => ⟨State.readWords_zero f a s, State.readWords_succ f n a s⟩,
    fun hh => ⟨congrArg _ (stepSnapHold_of_none hh), congrArg _ (stepSnapHoldExpiry_of_none hh)⟩, rfl,
    fun h hh => ⟨congrArg _ (stepSnapHold_of_held hh), fun ho => congrArg _ (stepSnapHoldExpiry_of_over hh ho),
      fun ho => congrArg _ (stepSnapHoldExpiry_of_young hh ho)⟩,
    fun ha hb ho => congrArg _ (stepMgmtTsRead_of_valid len ha hb ho), fun h => congrArg _ (stepMgmtTsRead_of_invalid len h)⟩
  · rw [exec_registerWrite_of_inside hin, stepRegisterWrite_of_barDown hb]
  · rw [exec_registerWrite_of_inside hin]
    rcases h with ho | hn
    · rw [stepRegisterWrite_of_unaligned hb ho]
    · rw [stepRegisterWrite_of_narrow hb hn]
  · rw [exec_registerWrite_of_inside hin, stepRegisterWrite_of_aligned hb ho]
    rfl
  · rw [exec_lowWordRead_of_inside hin, stepLowWordRead_of_barDown slots hb]
  · rw [exec_lowWordRead_of_inside (slots := true) hin, stepLowWordRead_slots hb]
    simp only [Dev.slotBytes, Bool.or_eq_true, decide_eq_true_eq]
  · subst hk
    rw [exec_lowWordRead_of_inside (slots := false) hin, stepLowWordRead_words hb hr h0 hl]
  · subst hk
    rw [exec_lowWordRead_of_inside (slots := false) hin, stepLowWordRead_bytes hb hr hk']
end

section
/-! PROOF. What the end of a tick leaves as it is: the tick number and the command window. One lemma per operation that the end of a
tick runs, in the order in which the model defines them (05 R142, R144). -/

namespace Sys2Proof.Machine

/-- The tick number and the command window: what nothing that ends a tick touches. -/
def State.tickWindow (s : State) : Nat × Mem := (s.dev.time.tick, s.dev.srv.window)

section Updates
variable (s : State)

@[simp] theorem State.updFab_tickWindow (f : Fab → Fab) : (s.updFab f).tickWindow = s.tickWindow := rfl
@[simp] theorem State.updDle_tickWindow (f : Dle → Dle) : (s.updDle f).tickWindow = s.tickWindow := rfl
@[simp] theorem State.updWs_tickWindow (f : Ws → Ws) : (s.updWs f).tickWindow = s.tickWindow := rfl
@[simp] theorem State.updLnk_tickWindow (f : Lnk → Lnk) : (s.updLnk f).tickWindow = s.tickWindow := rfl
@[simp] theorem State.updChk_tickWindow (f : Chk → Chk) : (s.updChk f).tickWindow = s.tickWindow := rfl
@[simp] theorem State.updHk_tickWindow (f : Hk → Hk) : (s.updHk f).tickWindow = s.tickWindow := rfl
@[simp] theorem State.updCn_tickWindow (f : Cn → Cn) : (s.updCn f).tickWindow = s.tickWindow := rfl
@[simp] theorem State.updPan_tickWindow (p : Nat) (f : Pan → Pan) : (s.updPan p f).tickWindow = s.tickWindow := rfl
@[simp] theorem State.updPort_tickWindow (p : Nat) (f : Port → Port) : (s.updPort p f).tickWindow = s.tickWindow := rfl
@[simp] theorem State.emit_tickWindow (o : Out) : (s.emit o).tickWindow = s.tickWindow := rfl
@[simp] theorem State.updTime_tickWindow {f : Time → Time} (h : (f s.dev.time).tick = s.dev.time.tick) :
    (s.updTime f).tickWindow = s.tickWindow := congrArg (·, s.dev.srv.window) h
@[simp] theorem State.updSrv_tickWindow {f : Srv → Srv} (h : (f s.dev.srv).window = s.dev.srv.window) :
    (s.updSrv f).tickWindow = s.tickWindow := congrArg (s.dev.time.tick, ·) h
@[simp] theorem State.updRing_tickWindow (n r : Nat) (f : Ring → Ring) : (s.updRing n r f).tickWindow = s.tickWindow := rfl
@[simp] theorem State.updStream_tickWindow (ch : Nat) (f : Stream → Stream) : (s.updStream ch f).tickWindow = s.tickWindow := rfl
@[simp] theorem State.delStream_tickWindow (ch : Nat) : (s.delStream ch).tickWindow = s.tickWindow := rfl

@[simp] theorem State.ite_tickWindow {c : Prop} [Decidable c] (t : State) :
    (if c then s else t).tickWindow = if c then s.tickWindow else t.tickWindow := apply_ite _ _ _ _

theorem State.each_tickWindow {α : Type} {f : State → α → State} (h : ∀ s a, (f s a).tickWindow = s.tickWindow) (l : List α) :
    (s.each l f).tickWindow = s.tickWindow := State.each_leaves _ f h l s
end Updates

section Checks
variable (s : State)

@[simp] theorem State.logEvent_tickWindow (code kind unit a b : Nat) : (s.logEvent code kind unit a b).tickWindow = s.tickWindow := by
  simp [State.tickWindow]

@[simp] theorem State.failWork_tickWindow (stream index result cause kind unit : Nat) :
    (s.failWork stream index result cause kind unit).tickWindow = s.tickWindow := rfl

@[simp] theorem State.numericFault_tickWindow (stream index : Nat) : (s.numericFault stream index).tickWindow = s.tickWindow := by
  simp [State.numericFault]

@[simp] theorem State.failEvent_tickWindow (kind unit cause : Nat) : (s.failEvent kind unit cause).tickWindow = s.tickWindow := by
  simp [State.failEvent]

@[simp] theorem State.updWork_tickWindow (stream index : Nat) (f : Work → Work) : (s.updWork stream index f).tickWindow = s.tickWindow :=
  rfl

@[simp] theorem State.poisonWork_tickWindow (stream index result : Nat) : (s.poisonWork stream index result).tickWindow = s.tickWindow := by
  simp [State.poisonWork]
end Checks

section PassArrive
variable (s : State)

@[simp] theorem State.beginReverify_tickWindow : s.beginReverify.tickWindow = s.tickWindow := by simp [State.beginReverify]
@[simp] theorem State.beginCycle_tickWindow : s.beginCycle.tickWindow = s.tickWindow := rfl

@[simp] theorem State.passCycles_tickWindow (n : Nat) : (s.passCycles n).tickWindow = s.tickWindow := by simp [State.passCycles]

@[simp] theorem State.passTick_tickWindow : s.passTick.tickWindow = s.tickWindow := by simp [State.passTick]

@[simp] theorem State.enqueue_tickWindow (p : Nat) (e : BtnEvent) : (s.enqueue p e).tickWindow = s.tickWindow := by
  simp [State.enqueue, State.overflow]

@[simp] theorem State.arrive_tickWindow (p limit : Nat) : (s.arrive p limit).tickWindow = s.tickWindow := by
  simp [State.arrive, State.each_tickWindow]

@[simp] theorem State.arriveAll_tickWindow : s.arriveAll.tickWindow = s.tickWindow :=
  s.each_tickWindow (fun t p => t.arrive_tickWindow p _) _
end PassArrive

section Links
variable (s : State)

@[simp] theorem State.putOut_tickWindow (p vl : Nat) (hdr payload : List Byte) : (s.putOut p vl hdr payload).tickWindow = s.tickWindow := by
  simp [State.putOut, State.sendRaw]

@[simp] theorem State.drainPort_tickWindow (p n : Nat) : (State.drainPort p n s).tickWindow = s.tickWindow := by
  induction n generalizing s with
  | zero => rfl
  | succ n ih =>
    simp only [State.drainPort]
    (repeat' split) <;> simp [ih]

@[simp] theorem State.transmit_tickWindow (p vl : Nat) (hdr payload : List Byte) : (s.transmit p vl hdr payload).tickWindow = s.tickWindow := by
  simp [State.transmit, State.drain]

@[simp] theorem State.sendMsg_tickWindow (type dst : Nat) (poison : Bool) (tag : Nat) (payload : List Byte) :
    (s.sendMsg type dst poison tag payload).tickWindow = s.tickWindow := by
  simp [State.sendMsg, State.dropRoute, State.each_tickWindow]

@[simp] theorem State.sendBundle_tickWindow (b : Bundle) : (s.sendBundle b).tickWindow = s.tickWindow := by
  simp only [State.sendBundle]
  split <;> simp
end Links

section Works
variable (s : State)

@[simp] theorem State.sendExpert_tickWindow (w : Work) : (s.sendExpert w).tickWindow = s.tickWindow := by
  unfold State.sendExpert
  split <;> rfl

@[simp] theorem State.noteLeft_tickWindow (left : List Work) : (s.noteLeft left).tickWindow = s.tickWindow := rfl

@[simp] theorem State.closeWorks_tickWindow : s.closeWorks.tickWindow = s.tickWindow := by
  simp [State.closeWorks, State.each_tickWindow]
end Works

section Attention
variable (s : State)

@[simp] theorem State.dleWork_tickWindow (macs : Nat) : (s.dleWork macs).tickWindow = s.tickWindow := rfl

@[simp] theorem State.dleNumeric_tickWindow (stream index : Nat) : (s.dleNumeric stream index).tickWindow = s.tickWindow := by
  simp [State.dleNumeric]

@[simp] theorem State.dleFault_tickWindow (stream index cluster : Nat) (f : DleFault) :
    (s.dleFault stream index cluster f).tickWindow = s.tickWindow := by
  cases f <;> simp [State.dleFault]

@[simp] theorem State.runAttention_tickWindow (j : AttnJob) : (s.runAttention j).tickWindow = s.tickWindow := by
  unfold State.runAttention
  split
  · rfl
  · cases j.fault <;> simp

@[simp] theorem State.serveHeld_tickWindow : s.serveHeld.tickWindow = s.tickWindow := by
  simp [State.serveHeld, State.each_tickWindow]

@[simp] theorem State.dropWaits_tickWindow : s.dropWaits.tickWindow = s.tickWindow := by simp [State.dropWaits]
end Attention

section Streams
variable (s : State)

@[simp] theorem State.unlock_tickWindow (ch : Nat) : (s.unlock ch).tickWindow = s.tickWindow := rfl

@[simp] theorem State.produce_tickWindow (f ring : Nat) (r : Record) : (s.produce f ring r).tickWindow = s.tickWindow := by
  simp [State.produce]

@[simp] theorem State.reply_tickWindow (p : Rep) (st d : Nat) (rel fin : Bool) (w0 w1 : Nat) (pl : List Byte) (tx tk : Bool) :
    (s.reply p st d rel fin w0 w1 pl tx tk).tickWindow = s.tickWindow := by
  simp [State.reply]

@[simp] theorem State.freeStream_tickWindow (ch : Nat) : (s.freeStream ch).tickWindow = s.tickWindow := by
  unfold State.freeStream
  split <;> rfl

@[simp] theorem State.expirePark_tickWindow (ch : Nat) : (s.expirePark ch).tickWindow = s.tickWindow := by simp [State.expirePark]

@[simp] theorem State.freeOneCached_tickWindow : s.freeOneCached.tickWindow = s.tickWindow := by
  unfold State.freeOneCached
  split <;> rfl

@[simp] theorem State.reclaim_tickWindow (n k : Nat) : (State.reclaim n k s).tickWindow = s.tickWindow := by
  induction k generalizing s with
  | zero => rfl
  | succ k ih =>
    simp only [State.reclaim]
    (repeat' split) <;> simp [ih]

@[simp] theorem State.reclaimFor_tickWindow (n : Nat) : (s.reclaimFor n).tickWindow = s.tickWindow := by simp [State.reclaimFor]

@[simp] theorem State.rehash_tickWindow (ch : Nat) : (s.rehash ch).tickWindow = s.tickWindow := rfl

@[simp] theorem State.admitGen_tickWindow (ch : Nat) : (s.admitGen ch).tickWindow = s.tickWindow := by
  unfold State.admitGen
  split
  · rfl
  · split <;> simp

@[simp] theorem State.testGen_tickWindow (ch : Nat) (queued : Bool) : (s.testGen ch queued).2.tickWindow = s.tickWindow := by
  unfold State.testGen
  (repeat' split) <;> simp

theorem State.tickWindow_of_testGen {ch : Nat} {queued : Bool} {v : Verdict} {t : State} (e : s.testGen ch queued = (v, t)) :
    t.tickWindow = s.tickWindow := by
  rw [← State.testGen_tickWindow s ch queued, e]

@[simp] theorem State.dropWork_tickWindow (ch : Nat) : (s.dropWork ch).tickWindow = s.tickWindow := rfl
@[simp] theorem State.addMark_tickWindow (stream n : Nat) : (s.addMark stream n).tickWindow = s.tickWindow := rfl
@[simp] theorem State.dropFrom_tickWindow (ch index : Nat) : (s.dropFrom ch index).tickWindow = s.tickWindow := rfl
@[simp] theorem State.countRefusal_tickWindow (tn : Nat) : (s.countRefusal tn).tickWindow = s.tickWindow := rfl

@[simp] theorem State.endGen_tickWindow (ch status detail : Nat) : (s.endGen ch status detail).tickWindow = s.tickWindow := by
  unfold State.endGen
  split
  · rfl
  · split <;> simp

@[simp] theorem State.reprefillOr_tickWindow (rep : Rep) (start : Bool) (maxNew status detail : Nat) :
    (s.reprefillOr rep start maxNew status detail).tickWindow = s.tickWindow := by
  unfold State.reprefillOr
  split
  · rfl
  next t _ =>
    dsimp only
    split
    · split
      next e => simp [State.tickWindow_of_testGen _ e]
      next e => simp [State.tickWindow_of_testGen _ e]
      next e => simp [State.tickWindow_of_testGen _ e]
    · simp

@[simp] theorem State.rebuildGen_tickWindow (ch : Nat) : (s.rebuildGen ch).tickWindow = s.tickWindow := by
  unfold State.rebuildGen
  split
  · rfl
  · split <;> simp
end Streams

section Head
variable (s : State)

@[simp] theorem State.sendHeadBundle_tickWindow (tack : Bool) : (s.sendHeadBundle tack).tickWindow = s.tickWindow := by
  simp [State.sendHeadBundle]

@[simp] theorem State.tackStream_tickWindow (t : Stream) : (s.tackStream t).tickWindow = s.tickWindow := by
  unfold State.tackStream
  (repeat' split) <;> simp

@[simp] theorem State.shrinkPool_tickWindow : s.shrinkPool.tickWindow = s.tickWindow := by simp [State.shrinkPool]

@[simp] theorem State.keepOldKv_tickWindow : s.keepOldKv.tickWindow = s.tickWindow := rfl

@[simp] theorem State.tackMarker_tickWindow : s.tackMarker.tickWindow = s.tickWindow := by
  unfold State.tackMarker
  split
  next k p _ _ =>
    extract_lets m e s1 s2 s3 s4
    have pool : s2.tickWindow = s.tickWindow := rfl
    have streams : s3.tickWindow = s2.tickWindow := by
      show (if k.policy = 1 then s2.keepOldKv else s2.each _ State.tackStream).tickWindow = _
      simp [State.each_tickWindow]
    have hashes : s4.tickWindow = s3.tickWindow := s3.each_tickWindow State.rehash_tickWindow _
    rw [State.shrinkPool_tickWindow, State.updWs_tickWindow, hashes, streams, pool]
  · rfl

@[simp] theorem State.closeHead_tickWindow : s.closeHead.tickWindow = s.tickWindow := by simp [State.closeHead]
end Head

section Members
variable (s : State)

@[simp] theorem State.tellMembers_tickWindow (type : Nat) (words : List Nat) : (s.tellMembers type words).tickWindow = s.tickWindow :=
  s.each_tickWindow (fun t p => t.emit_tickWindow (.message p type words)) _

@[simp] theorem State.endImage_tickWindow (code state : Nat) : (s.endImage code state).tickWindow = s.tickWindow := by
  unfold State.endImage
  split
  · rfl
  next r _ => cases r.reply <;> simp [State.setResult]

@[simp] theorem State.wearPages_tickWindow (pages : List Nat) : (s.wearPages pages).tickWindow = s.tickWindow := by
  simp [State.wearPages, State.each_tickWindow]

@[simp] theorem State.dropRun_tickWindow : s.dropRun.tickWindow = s.tickWindow := by simp [State.dropRun, State.writeDirectory]

@[simp] theorem State.abortImage_tickWindow (code : Nat) : (s.abortImage code).tickWindow = s.tickWindow := by
  unfold State.abortImage
  split <;> simp

@[simp] theorem State.noteLost_tickWindow (pkg cause : Nat) : (s.noteLost pkg cause).tickWindow = s.tickWindow := by
  unfold State.noteLost
  split <;> simp

@[simp] theorem State.countVerdicts_tickWindow : s.countVerdicts.tickWindow = s.tickWindow := by
  unfold State.countVerdicts
  extract_lets l n heads counts s1 s2
  have counted : s1.tickWindow = s.tickWindow := rfl
  have lost : s2.tickWindow = s1.tickWindow := by
    show (if _ then _ else _ : State).tickWindow = _
    cases s1.dev.lnk.pipeline.getLast? <;> simp
  simp [State.each_tickWindow, lost, counted]

@[simp] theorem State.lockSync_tickWindow : s.lockSync.tickWindow = s.tickWindow := by simp [State.lockSync]

@[simp] theorem State.closeTick_tickWindow : s.closeTick.tickWindow = s.tickWindow := by simp [State.closeTick]
end Members

end Sys2Proof.Machine
end

section
/-! PROOF. The tick boundary: what opens the next tick, what ends a boundary early, FURL, and O60 (05 R144; 13 R401; 15 R423). -/

namespace Sys2Proof.Machine

/-- R144 step 1 before the next tick opens: all that the tick that ends still does. -/
def State.endTick (s : State) : State := s.passTick.arriveAll.closeWorks.dropWaits.closeHead.countVerdicts.closeTick

/-- The next tick, its snapshot captured and its counts fresh, once the windows that end have closed (R144 step 2). -/
def State.afterWindows (s : State) : State := ((s.endTick.openTick.capture).upd Dev.newTick).closeWindows

section Opening
variable (s : State)

theorem State.endTick_tickWindow : s.endTick.tickWindow = s.tickWindow := by simp [State.endTick]

theorem State.endTick_tick : s.endTick.dev.time.tick = s.dev.time.tick := congrArg Prod.fst s.endTick_tickWindow

theorem State.endTick_window : s.endTick.dev.srv.window = s.dev.srv.window := congrArg Prod.snd s.endTick_tickWindow

theorem State.endTick_pending : s.endTick.pending = s.pending :=
  have keeps : s.Keeps s.endTick :=
    State.closeTick_keeps (State.countVerdicts_keeps (State.closeHead_keeps (State.dropWaits_keeps (State.closeWorks_keeps
      (State.arriveAll_keeps (State.passTick_keeps (.refl s)))))))
  keeps.1

theorem State.openTick_tick : s.openTick.dev.time.tick = s.dev.time.tick + 1 := rfl
theorem State.openTick_cycle : s.openTick.dev.time.cycle = 0 := rfl
theorem State.openTick_tickLast : s.openTick.dev.cn.tickLast = s.dev.time.tick + 1 := rfl
theorem State.openTick_sinceTick : s.openTick.dev.cn.sinceTick = 0 := rfl
theorem State.openTick_window : s.openTick.dev.srv.window = s.dev.srv.window := rfl
theorem State.openTick_pending : s.openTick.pending = s.pending := rfl
theorem State.capture_snap : s.capture.snap = s.dev := rfl
theorem State.capture_snapTick : s.capture.snapTick = s.dev.time.tick := rfl
end Opening

section GoesDown
variable {s : State}

theorem State.goesDown_of_lcPending (h : s.dev.sec.lcPending.isSome = true) : s.goesDown = some (s.warmFrom 9) := if_pos h

theorem State.goesDown_of_nothing_due (hl : s.dev.sec.lcPending = none) (hf : s.dev.hk.furlDue = false) : s.goesDown = none := by
  simp only [State.goesDown, hl, hf, Option.isSome_none, Bool.false_eq_true, Bool.false_and, if_false]

theorem State.applyFurl_of_free (hd : s.dev.hk.furlDue = true) (hr : s.dev.role.assigned = false) (ht : s.dev.time.st = .stopped) :
    s.applyFurl = s.enterFurl := by
  simp only [State.applyFurl, hd, hr, ht, Bool.not_true, Bool.not_false, Bool.false_eq_true, if_false, beq_self_eq_true,
    Bool.and_self, if_true]

theorem State.applyFurl_of_refused (hd : s.dev.hk.furlDue = true) (h : s.dev.role.assigned = true ∨ s.dev.time.st ≠ .stopped) :
    s.applyFurl = s.updHk (fun h => { h with furlDue := false, refused := true, reason := 3 }) := by
  have serving : ¬ (!s.dev.role.assigned && s.dev.time.st == .stopped) = true := by
    rw [Bool.and_eq_true, Bool.not_eq_true', beq_iff_eq]
    rintro ⟨hr, ht⟩
    exact h.elim (fun ha => by simp [ha] at hr) (fun hn => hn ht)
  simp only [State.applyFurl, hd, Bool.not_true, Bool.false_eq_true, if_false, if_neg serving]
end GoesDown

section Boundary
variable {s t : State}

theorem exec_tickBoundary : exec .tickBoundary s = .next (stepTickBoundary s) := rfl

theorem stepTickBoundary_of_not_awake (h : s.dev.awake = false) : stepTickBoundary s = s := by
  simp only [stepTickBoundary, h, Bool.not_false, if_true]

theorem stepTickBoundary_of_running (ha : s.dev.awake = true) (hr : s.dev.time.runs = true) : stepTickBoundary s = s.runBoundary := by
  simp only [stepTickBoundary, ha, hr, Bool.not_true, Bool.false_eq_true, if_false, if_true]

theorem stepTickBoundary_of_idle (ha : s.dev.awake = true) (hr : s.dev.time.runs = false) : stepTickBoundary s = s.idleBoundary := by
  simp only [stepTickBoundary, ha, hr, Bool.not_true, Bool.false_eq_true, if_false]

theorem State.runBoundary_of_down (h : s.afterWindows.goesDown = some t) : s.runBoundary = t := by
  unfold State.runBoundary
  extract_lets k ended captured closed
  have down : closed.goesDown = some t := h
  simp only [down]

theorem State.runBoundary_of_up (h : s.afterWindows.goesDown = none) :
    s.runBoundary = (((((s.afterWindows.applyFurl.applyFabric.applyRest).sendStamps
      s.dev.time.tick).decideStretch).sendMarker).admitWaiting).messages.collectAll := by
  unfold State.runBoundary
  extract_lets k ended captured closed
  have up : closed.goesDown = none := h
  simp only [up]
  rfl

theorem State.idleBoundary_of_down (h : s.passTick.goesDown = some t) : s.idleBoundary = t := by
  simp only [State.idleBoundary, h]

theorem State.idleBoundary_of_up (h : s.passTick.goesDown = none) :
    s.idleBoundary = s.passTick.applyFurl.applyFabric.applyRest.messages.collectAll := by
  simp only [State.idleBoundary, h]
end Boundary

end Sys2Proof.Machine

open Sys2Proof Sys2Proof.Machine

/-- Settles O60: the tick that ends keeps its number, the queue and the window; the boundary's steps then follow in their order. -/
theorem tickBoundary : Obligations.TickBoundary := by
  intro s u v
  refine ⟨fun ha => exec_tickBoundary.trans (congrArg _ (stepTickBoundary_of_not_awake ha)), ?_, ?_,
    State.goesDown_of_lcPending, State.goesDown_of_nothing_due, fun hd => ⟨State.applyFurl_of_free hd, State.applyFurl_of_refused hd⟩, ?_⟩
  · intro ha hr hu hv
    have opened : u = s.endTick.openTick := hu
    have closed : v = s.afterWindows := by rw [hv, opened, State.afterWindows]
    have tick : u.dev.time.tick = s.dev.time.tick + 1 := by rw [opened, State.openTick_tick, State.endTick_tick]
    refine ⟨tick, ?_, ?_, ?_, u.capture_snap, tick, ?_, ?_, fun hup => ?_, fun t hdown => ?_⟩
    · rw [opened, State.openTick_cycle]
    · rw [opened, State.openTick_tickLast, State.endTick_tick]
    · rw [opened, State.openTick_sinceTick]
    · rw [opened, State.openTick_pending, State.endTick_pending]
    · rw [opened, State.openTick_window, State.endTick_window]
    · rw [exec_tickBoundary, stepTickBoundary_of_running ha hr, State.runBoundary_of_up (closed ▸ hup), closed]
    · rw [exec_tickBoundary, stepTickBoundary_of_running ha hr, State.runBoundary_of_down (closed ▸ hdown)]
  · rintro ha hr rfl
    refine ⟨congrArg Prod.fst s.passTick_tickWindow, State.passCycles_snap _ _, State.passCycles_snapTick _ _,
      fun hup => ?_, fun t hdown => ?_⟩
    · rw [exec_tickBoundary, stepTickBoundary_of_idle ha hr, State.idleBoundary_of_up hup]
    · rw [exec_tickBoundary, stepTickBoundary_of_idle ha hr, State.idleBoundary_of_down hdown]
  · rintro t rfl
    exact ⟨rfl, rfl, rfl, rfl, rfl, rfl, rfl, rfl, rfl, rfl, rfl⟩
end

section
/-! PROOF. The bittern path's served events and a vector's last correction: one lemma per case of each step, and O32 from them
(02 R56; 04 R99, R100, R103, R105, R107). -/

namespace Sys2Proof.Machine

theorem exec_bitternEventServe (p : Nat) (s : State) : exec (.bitternEventServe p) s = .next (stepBitternEventServe p s) := rfl
theorem exec_correctLast (p scaleArr slot stream index vec ecc : Nat) (s : State) :
    exec (.correctLast p scaleArr slot stream index vec ecc) s = .next (stepCorrectLast p scaleArr slot stream index vec ecc s) := rfl

section Serve
variable {s : State} {p : Nat} {e : BtnEvent} {rest : List BtnEvent}

theorem State.arriveNext_of_nothing_awaited (h : (s.pan p).queue ≠ [] ∨ (s.pan p).coming = []) : s.arriveNext p = s := by
  unfold State.arriveNext
  split
  next hq hc =>
    rcases h with h | h
    · exact absurd hq h
    · exact absurd (hc.symm.trans h) (List.cons_ne_nil _ _)
  next => rfl

theorem stepBitternEventServe_of_empty (hq : ((s.arriveNext p).pan p).queue = []) : stepBitternEventServe p s = s.arriveNext p := by
  simp only [stepBitternEventServe, hq]

/-- The units of the bittern reservation that an event costs (04 R102). -/
def BtnEvent.cost (e : BtnEvent) : Nat := if e.cfg.wide then 2 else 1

/-- An event's addends join its vector: to the columns with the group shift, to Y without (04 R100). -/
def RunVec.addEvent (v : RunVec) (adds : List (Nat × Int × Int)) : RunVec :=
  { v with adds := v.adds ++ adds.map (fun x => (x.1, BitVec.ofInt 32 x.2.1)), y := v.y + BitVec.ofInt 32 ((adds.map (·.2.2)).sum) }

/-- The event at the head of a pan's queue leaves it, paid and counted, and its vector takes its addends. -/
def State.payEvent (s : State) (p : Nat) (e : BtnEvent) (rest : List BtnEvent) (adds : List (Nat × Int × Int)) : State :=
  s.updPan p (fun q => ({ q with queue := rest, unitsUsed := q.unitsUsed + e.cost, served := q.served + 1 }).updArr e.arr
    (fun a => a.updVec e.slot e.stream e.index e.vec (·.addEvent adds)))

theorem stepBitternEventServe_of_spent (hq : ((s.arriveNext p).pan p).queue = e :: rest)
    (hs : (s.arriveNext p).dev.fab.resEff < ((s.arriveNext p).pan p).unitsUsed + e.cost) :
    stepBitternEventServe p s = (s.arriveNext p).updPan p (fun q => { q with ovfSpent := true }) := by
  simp only [stepBitternEventServe, hq]
  exact if_pos hs

theorem stepBitternEventServe_of_paid {u : State} {adds : List (Nat × Int × Int)} (hu : u = s.arriveNext p)
    (hq : (u.pan p).queue = e :: rest) (hs : (u.pan p).unitsUsed + e.cost ≤ u.dev.fab.resEff)
    (ha : adds = eventAddends (u.pan p) (u.arr p e.arr).cells ((u.pan p).segment e.ring) e) :
    stepBitternEventServe p s = ((u.payEvent p e rest adds).emit
      (.flits p .sum 4 (sparseFlits e (adds.map (fun x => (x.1, x.2.1)))))).judge p e.arr e.slot e.stream e.index e.vec := by
  subst hu ha
  simp only [stepBitternEventServe, hq]
  exact if_neg (Nat.not_lt.mpr hs)
end Serve

/-- The vector's events that wait overflow in every pan (04 R103). -/
def State.closeEvents (s : State) (slot stream index vec : Nat) : State :=
  s.each (s.dev.pans.map (·.1)) (fun s q => s.closeVector q slot stream index vec)

/-- An accumulation at a destination pan is the vector's. -/
def SumAcc.isOf (slot stream index vec : Nat) (a : SumAcc) : Bool :=
  a.slot == slot && a.stream == stream && a.index == index && a.vec == vec

/-- The vector has parts in this package, and the last accumulate of every one fell before the clamp window (04 R107; entry 110). -/
def Dev.partsClosed (d : Dev) (slot stream index vec : Nat) : Bool :=
  !((d.parts slot stream index vec).map (·.tick)).isEmpty &&
    decide (((d.parts slot stream index vec).map (·.tick)).foldl max 0 < d.fab.windowTick)

theorem foldl_max_lt_iff {n : Nat} (l : List Nat) : ∀ m, l.foldl max m < n ↔ m < n ∧ ∀ x ∈ l, x < n := by
  induction l with
  | nil => simp
  | cons x l ih => intro m; rw [List.foldl_cons, ih, Nat.max_lt, List.forall_mem_cons, and_assoc]

theorem Dev.partsClosed_iff {d : Dev} {slot stream index vec : Nat} : d.partsClosed slot stream index vec = true ↔
    d.parts slot stream index vec ≠ [] ∧ ∀ r ∈ d.parts slot stream index vec, r.tick < d.fab.windowTick := by
  simp only [Dev.partsClosed, Bool.and_eq_true, Bool.not_eq_true', List.isEmpty_eq_false_iff, decide_eq_true_eq, foldl_max_lt_iff,
    ne_eq, List.map_eq_nil_iff, List.forall_mem_map]
  refine and_congr_right fun hne => and_iff_right_of_imp fun h => ?_
  obtain ⟨r, hr⟩ := List.exists_mem_of_ne_nil _ hne
  exact Nat.zero_lt_of_lt (h r hr)

/-- The destination ends an accumulation, keeps its scaled columns, and the clamp monitor counts the output vector (04 R107). -/
def State.endSum (s : State) (p slot stream index vec : Nat) (out : List W32) (clam closed : Bool) : State :=
  (s.updPan p (fun q => { q with accs := q.accs.filter (fun a => !a.isOf slot stream index vec), work := out,
                                 clampedOut := if clam then q.clampedOut + 1 else q.clampedOut })).updClamp slot (·.count clam closed)

section CorrectLast
variable {s : State} {p scaleArr slot stream index vec ecc : Nat}

theorem stepCorrectLast_of_none (h : ((s.closeEvents slot stream index vec).pan p).accs.find? (·.isOf slot stream index vec) = none) :
    stepCorrectLast p scaleArr slot stream index vec ecc s = s.closeEvents slot stream index vec := by
  simp only [State.closeEvents, SumAcc.isOf] at h
  simp only [stepCorrectLast, h]
  rfl

theorem stepCorrectLast_of_some {acc : SumAcc} {x v w : State} {out : List W32} {clam : Bool}
    (h : ((s.closeEvents slot stream index vec).pan p).accs.find? (·.isOf slot stream index vec) = some acc)
    (hx : x = (s.closeEvents slot stream index vec).eccPan p stream index ecc)
    (hclam : clam = (acc.clamped || x.dev.vecClamped slot stream index vec acc.cover))
    (hout : out = (acc.cols.zipIdx).map (fun e => scaleSum e.1 ((x.pan p).colScale scaleArr e.2) acc.scale))
    (hv : v = x.endSum p slot stream index vec out clam (x.dev.partsClosed slot stream index vec))
    (hw : w = if clam then v.updWork stream index (fun w => { w with clamped := true, clampSlot := some slot }) else v) :
    stepCorrectLast p scaleArr slot stream index vec ecc s =
      (if acc.poison then w.poisonWork stream index 1 else w).emit (.panResult p out) := by
  subst hx hclam hout hv hw
  simp only [State.closeEvents, SumAcc.isOf] at h
  simp only [stepCorrectLast, h]
  rfl
end CorrectLast

end Sys2Proof.Machine

open Sys2Proof Sys2Proof.Machine

/-- Settles O32: the event's three cases, and the last correction from its accumulation, whose closed window is the model's own. -/
theorem bitternAndCorrection : Obligations.BitternAndCorrection := by
  intro s p scaleArr slot stream index vec ecc
  refine ⟨State.arriveNext_of_nothing_awaited, ?_, ?_⟩
  · rintro u rfl
    refine ⟨fun hq => ?_, ?_⟩
    · rw [exec_bitternEventServe, stepBitternEventServe_of_empty hq]
    · rintro e rest cost hq rfl
      refine ⟨fun hs => ?_, fun adds hs ha => ?_⟩
      · rw [exec_bitternEventServe, stepBitternEventServe_of_spent hq hs]
      · rw [exec_bitternEventServe, stepBitternEventServe_of_paid rfl hq hs ha]
        rfl
  · rintro u rfl isIt
    refine ⟨fun h => ?_, ?_⟩
    · rw [exec_correctLast, stepCorrectLast_of_none h]
      rfl
    · rintro acc x v w out clam closed h hx hclam hclosed hout hv hfree hmark
      have window : closed = x.dev.partsClosed slot stream index vec := by rw [Bool.eq_iff_iff, hclosed, Dev.partsClosed_iff]
      have counted : v = x.endSum p slot stream index vec out clam (x.dev.partsClosed slot stream index vec) := by rw [hv, window]; rfl
      have marked : w = if clam then v.updWork stream index (fun w => { w with clamped := true, clampSlot := some slot }) else v := by
        cases clam
        · exact hfree rfl
        · exact hmark rfl
      have ends := (exec_correctLast ..).trans (congrArg _ (stepCorrectLast_of_some h hx hclam hout counted marked))
      refine ⟨fun hp => ?_, fun hp => ?_⟩ <;> rw [ends, hp] <;> rfl
end

section
/-! PROOF. The pan program's entries: what a pan SRAM read leaves, one lemma per entry, and O36 from them (02 R52, R57, R58, R61, R65,
R70; 05 R127, R129, R141). -/

namespace Sys2Proof.Machine

section Self
variable {α : Type} [DecidableEq α] {d : Nat → α} {k : Nat} {v : α}

/-- Reading what was just written needs no canonical form where the value is not the default. -/
theorem Sparse.get_set_self_of_ne (hv : v ≠ d k) (m : List (Nat × α)) : Sparse.get d (Sparse.set d m k v) k = v := by
  induction m with
  | nil => simp [Sparse.set, Sparse.get, hv]
  | cons e r ih =>
    obtain ⟨j, w⟩ := e
    simp only [Sparse.set, hv, if_false]
    split
    · simp [Sparse.get]
    · split
      · simp [Sparse.get]
      next hne => simp [Sparse.get, Ne.symm hne, ih]
end Self

theorem State.pan_updPan_self_of_ne {s : State} {p : Nat} {f : Pan → Pan} (h : f (s.pan p) ≠ Pan.reset p) :
    (s.updPan p f).pan p = f (s.pan p) := Sparse.get_set_self_of_ne h _

theorem satInc_ne_zero {n : Nat} (hn : 0 < n) (c : BitVec n) : satInc c ≠ 0 := by
  have wide : 1 < 2 ^ n := Nat.one_lt_two_pow (Nat.ne_of_gt hn)
  have small : min (2 ^ n - 1) (c.toNat + 1) < 2 ^ n := by omega
  intro h
  have zero := congrArg BitVec.toNat h
  rw [satInc, BitVec.toNat_ofNat, Nat.mod_eq_of_lt small] at zero
  simp at zero
  omega

section Frames
variable (s : State)

@[simp] theorem State.failWork_pans (stream index result cause kind unit : Nat) :
    (s.failWork stream index result cause kind unit).dev.pans = s.dev.pans := rfl

@[simp] theorem State.failEvent_pans (kind unit cause : Nat) : (s.failEvent kind unit cause).dev.pans = s.dev.pans := by
  simp only [State.failEvent]
  split <;> rfl

@[simp] theorem State.poisonWork_pans (stream index result : Nat) : (s.poisonWork stream index result).dev.pans = s.dev.pans := by
  simp only [State.poisonWork, State.failWork_pans, State.logEvent_pans]
  rfl

/-- A pan SRAM read, whatever its errors, leaves the pan's FP32 residual parts. -/
theorem State.eccPan_resid (p stream index ecc : Nat) : ((s.eccPan p stream index ecc).pan p).resid = (s.pan p).resid := by
  unfold State.eccPan
  split
  · rfl
  · split
    · have counted : satInc (s.pan p).sramCE ≠ 0 := satInc_ne_zero (by decide) _
      rw [State.pan_updPan_self_of_ne fun h => counted (congrArg Pan.sramCE h)]
    · extract_lets u
      have seen : (u.pan p).resid = (s.pan p).resid := by
        rw [State.pan_updPan_self_of_ne fun h => Bool.noConfusion (congrArg Pan.ueSeen h)]
      rw [← seen]
      simp only [State.pan, Dev.pan, State.poisonWork_pans, State.failEvent_pans, State.logEvent_pans]

theorem State.eccPan_residualOf (p stream index ecc st i base : Nat) :
    ((s.eccPan p stream index ecc).pan p).residualOf st i base = (s.pan p).residualOf st i base := by
  simp only [Pan.residualOf, State.eccPan_resid]
end Frames

/-- The lane cycles of an entry over n elements: one per 32 begun (05 R127). -/
def State.countLanes (s : State) (p n : Nat) : State := s.updPan p (fun q => { q with vcoreBusy := wrapInc q.vcoreBusy (ceilDiv n 32) })

theorem exec_call (p slot st i : Nat) (op : PanOp) (ecc : Nat) (s : State) : exec (.call p slot st i op ecc) s =
    .next (((s.eccPan p st i ecc).runPanOp p slot st i op).countLanes p ((s.pan p).opSize st i op)) := rfl
theorem exec_kvWriteComplete (st i : Nat) (s : State) : exec (.kvWriteComplete st i) s = .next (stepKvWriteComplete st i s) := rfl

/-- A position's part of the layer's result stands from an element on. -/
def Work.putOut (w : Work) (base : Nat) (vals : List W32) : Work :=
  { w with outRes := (w.outRes ++ List.replicate (base + vals.length - w.outRes.length) 0).take base ++ vals ++
      (w.outRes ++ List.replicate (base + vals.length - w.outRes.length) 0).drop (base + vals.length) }

/-- A pan drops the FP32 residual part that it keeps for a position from an element on. -/
def State.dropResidual (s : State) (p st i base : Nat) : State :=
  s.updPan p (fun q => { q with resid := q.resid.filter (fun e => !(e.1 == st && e.2.1 == i && e.2.2.1 == base)) })

section Entries
variable {x : State} {p slot st i base : Nat} {xs : List W32}

theorem State.runPanOp_amax (root vec : Nat) : x.runPanOp p slot st i (.amax root vec xs) =
    (x.emit (.flits p .control 4 [x.controlFlit p 2 (if !allFinite xs then 4 else 0) root slot st i vec (amaxOf xs)])).takeAmax p
      ⟨slot, st, i, vec⟩ (amaxOf xs) (!allFinite xs) := rfl

/-- The amax that the exchange of a vector agreed on, else the elements' own (05 R141). -/
def Pan.amaxFor (q : Pan) (t : VecTag) (xs : List W32) : W32 :=
  match q.amaxes.find? (fun e => e.1 == t) with
  | some e => e.2.1
  | none => amaxOf xs

theorem Pan.eq_amaxFor {q : Pan} {t : VecTag} {a : W32} (hs : ∀ e, q.amaxes.find? (fun e => e.1 == t) = some e → a = e.2.1)
    (hn : q.amaxes.find? (fun e => e.1 == t) = none → a = amaxOf xs) : a = q.amaxFor t xs := by
  unfold Pan.amaxFor
  split
  next e h => exact hs e h
  next h => exact hn h

/-- The elements of a vector at point q, rounded to A8 with this amax (02 R52, R70). -/
def Dev.roundA8 (d : Dev) (slot st i q base : Nat) (amax : W32) (xs : List W32) : List Int :=
  (xs.zipIdx).map (fun e => quantOne 127 (scaleWord amax 127)
    (if bitAt ((d.ws.layer slot).getD {}).srMask q then
      some (srDraw (d.ws.img.getD {}).srSeed st (0x10 + q) ((d.ws.layer slot).getD {}).layer i (base + e.2)) else none) e.1)

theorem State.runPanOp_quantA8_of_finite {q vec : Nat} {a : W32} {qs : List Int} (ha : a = (x.pan p).amaxFor ⟨slot, st, i, vec⟩ xs)
    (hq : qs = x.dev.roundA8 slot st i q base a xs) (hf : allFinite (a :: xs) = true) :
    x.runPanOp p slot st i (.quantA8 q base vec xs) =
      (x.updPan p (fun y => { y with work := qs.map (BitVec.ofInt 32) })).emit (.segment p (qs.map byteOfInt) (scaleWord a 127)) := by
  subst hq ha
  exact if_pos hf

theorem State.runPanOp_quantA8_of_not_finite {q vec : Nat} {a : W32} (ha : a = (x.pan p).amaxFor ⟨slot, st, i, vec⟩ xs)
    (hf : allFinite (a :: xs) = false) : x.runPanOp p slot st i (.quantA8 q base vec xs) = x.numericFault st i := by
  subst ha
  exact if_neg (Bool.not_eq_true _ ▸ hf)

/-- An entry that rounds or rotates takes no element that is not finite (02 R53). -/
theorem State.runPanOp_of_not_finite {op : PanOp} {use run n : Nat} {heads : Nat} {isQ : Bool}
    (hop : op ∈ [.quantKV use run xs, .rakeFull n xs, .rakeHead isQ heads xs, .expertOut base xs]) (hf : allFinite xs = false) :
    x.runPanOp p slot st i op = x.numericFault st i := by
  have fault : ¬ allFinite xs = true := Bool.not_eq_true _ ▸ hf
  simp only [List.mem_cons, List.not_mem_nil, or_false] at hop
  rcases hop with rfl | rfl | rfl | rfl <;> exact if_neg fault

theorem State.runPanOp_quantKV_of_no_work {use run : Nat} (hf : allFinite xs = true) (hw : x.dev.kvWork st i = none) :
    x.runPanOp p slot st i (.quantKV use run xs) = x := by
  simp only [State.runPanOp, hf, hw, if_true]

theorem State.runPanOp_quantKV_of_own {use run : Nat} {w : Work} (hf : allFinite xs = true) (hw : x.dev.kvWork st i = some w)
    (hown : w.rebuild = false ∨ x.dev.role.position = w.target) :
    x.runPanOp p slot st i (.quantKV use run xs) = x.storeKv slot use run w ((x.dev.ws.layer slot).getD {}) xs := by
  have own : ¬ (w.rebuild && x.dev.role.position != w.target) = true := by
    rcases hown with h | h <;> simp [h]
  simp only [State.runPanOp, hf, hw, if_true, if_neg own]

theorem State.runPanOp_quantKV_of_rebuild_elsewhere {use run : Nat} {w : Work} (hf : allFinite xs = true)
    (hw : x.dev.kvWork st i = some w) (hr : w.rebuild = true) (ht : x.dev.role.position ≠ w.target) :
    x.runPanOp p slot st i (.quantKV use run xs) = x := by
  have elsewhere : (w.rebuild && x.dev.role.position != w.target) = true := by simp [hr, ht]
  simp only [State.runPanOp, hf, hw, if_true, elsewhere]

theorem State.runPanOp_rakeFull_of_some {n : Nat} {r : Nat × Nat × Nat} (hf : allFinite xs = true)
    (hr : ((x.dev.ws.layer slot).getD {}).rots[n]? = some r) : x.runPanOp p slot st i (.rakeFull n xs) =
      x.panOut p (rotate ((((x.dev.ws.layer slot).getD {}).seeds.drop r.2.1).take r.2.2) xs) := by
  simp only [State.runPanOp, hf, hr, if_true]

theorem State.runPanOp_rakeFull_of_none {n : Nat} (hf : allFinite xs = true)
    (hr : ((x.dev.ws.layer slot).getD {}).rots[n]? = none) : x.runPanOp p slot st i (.rakeFull n xs) = x.panOut p xs := by
  simp only [State.runPanOp, hf, hr, if_true]

theorem State.runPanOp_rakeHead {isQ : Bool} {heads : Nat} {ys : List W32} (hf : allFinite xs = true)
    (hy : ys = rotateHeads ((x.dev.ws.layer slot).getD {}).kSeeds heads ((x.dev.ws.layer slot).getD {}).headDim xs) :
    x.runPanOp p slot st i (.rakeHead isQ heads xs) =
      x.panOut p (if isQ then ys.map (fun y => bf16To32 (fp32ToBf16 y)) else ys) := by
  subst hy
  simp only [State.runPanOp, hf, if_true]

/-- The residual that came with a position, or that the layer before left, from an element on (02 R57). -/
def Fab.residualAt (b : Fab) (st i base n : Nat) : List W32 :=
  match b.work st i with
  | some w => ((if w.outRes.length ≤ base then w.residual else w.outRes).drop base).take n
  | none => []

theorem Fab.eq_residualAt {b : Fab} {n : Nat} {start : List W32} (hn : b.work st i = none → start = [])
    (hs : ∀ w, b.work st i = some w → start = ((if w.outRes.length ≤ base then w.residual else w.outRes).drop base).take n) :
    start = b.residualAt st i base n := by
  unfold Fab.residualAt
  split
  next w h => exact hs w h
  next h => exact hn h

theorem State.runPanOp_residualAdd {start old : List W32} (hs : start = x.dev.fab.residualAt st i base xs.length)
    (ho : old = ((x.pan p).residualOf st i base).getD (start ++ List.replicate (xs.length - start.length) 0)) :
    x.runPanOp p slot st i (.residualAdd base xs) =
      (x.updPan p (fun q => { q with resid := q.resid.filter (fun e => !(e.1 == st && e.2.1 == i && e.2.2.1 == base)) ++
        [(st, i, base, List.zipWith fpAdd old xs)] })).panOut p (List.zipWith fpAdd old xs) := by
  subst hs ho
  rfl

section Round
variable {rs : List (W16 × Bool)} {vals : List W32} {u : State}

/-- The layer's result rounded stochastically, each element with whether it grows infinite (02 R70). -/
def Dev.roundResidual (d : Dev) (slot st i base : Nat) (xs : List W32) : List (W16 × Bool) :=
  (xs.zipIdx).map (fun e => residualOne (srDraw (d.ws.img.getD {}).srSeed st 0x03 ((d.ws.layer slot).getD {}).layer i (base + e.2)) e.1)

/-- The layer's rounded result leaves the pan, which keeps its FP32 part no longer (02 R57). -/
def State.leaveResidual (s : State) (p st i base : Nat) (vals : List W32) : State :=
  ((s.dropResidual p st i base).updWork st i (·.putOut base vals)).panOut p vals

theorem any_snd_eq_false (h : ∀ r ∈ rs, r.2 = false) : rs.any (·.2) = false :=
  List.any_eq_false.mpr fun r hmem => by rw [h r hmem]; exact Bool.false_ne_true

theorem State.runPanOp_residualRound (hx : xs = ((x.pan p).residualOf st i base).getD []) (hf : allFinite xs = true)
    (hrs : rs = x.dev.roundResidual slot st i base xs) (hu : u = x.leaveResidual p st i base (rs.map (fun r => bf16To32 r.1))) :
    x.runPanOp p slot st i (.residualRound base) = if rs.any (·.2) then u.numericFault st i else u := by
  subst hx hrs hu
  exact if_pos hf

theorem State.runPanOp_residualRound_of_not_finite (hx : xs = ((x.pan p).residualOf st i base).getD []) (hf : allFinite xs = false) :
    x.runPanOp p slot st i (.residualRound base) = x.numericFault st i := by
  subst hx
  exact if_neg (Bool.not_eq_true _ ▸ hf)
end Round

theorem State.runPanOp_expertOut {vals : List W32} (hf : allFinite xs = true) (hv : vals = xs.map (fun x => bf16To32 (fp32ToBf16 x))) :
    x.runPanOp p slot st i (.expertOut base xs) = (x.updWork st i (·.putOut base vals)).panOut p vals := by
  subst hv
  exact if_pos hf

theorem State.runPanOp_rowSum_of_some {a : Nat} {v : RunVec}
    (hv : (x.arr p a).done.find? (fun v => v.stream == st && v.index == i && !v.checked) = some v) :
    x.runPanOp p slot st i (.rowSum a) = x.judge p a v.slot st i v.vec := by
  simp only [State.runPanOp, hv]

theorem State.runPanOp_rowSum_of_none {a : Nat}
    (hv : (x.arr p a).done.find? (fun v => v.stream == st && v.index == i && !v.checked) = none) :
    x.runPanOp p slot st i (.rowSum a) = x := by
  simp only [State.runPanOp, hv]
end Entries

/-- A CALL over n elements: the entry's effect after the read, and its lane cycles. -/
theorem exec_call_of_size {s t : State} {p slot st i ecc n : Nat} {op : PanOp} {busy : Nat → State → State}
    (hb : ∀ n t, busy n t = t.updPan p (fun q => { q with vcoreBusy := wrapInc q.vcoreBusy (ceilDiv n 32) }))
    (hn : (s.pan p).opSize st i op = n) (ht : (s.eccPan p st i ecc).runPanOp p slot st i op = t) :
    exec (.call p slot st i op ecc) s = .next (busy n t) := by
  rw [exec_call, ht, hn, hb]
  rfl

end Sys2Proof.Machine

open Sys2Proof Sys2Proof.Machine

/-- Settles O36: each entry's effect by its own lemma, on the state that the pan SRAM read leaves. -/
theorem panProgramEntries : Obligations.PanProgramEntries := by
  rintro s x p slot st i ecc base xs busy l seed rfl rfl rfl hb
  refine ⟨?_, ?_, ?_, ?_, ?_, ?_, ?_, ?_, ?_, ?_, ?_, ?_⟩
  · rintro root vec v rfl
    refine ⟨fun hf => ?_, fun hf => ?_⟩ <;> refine exec_call_of_size hb rfl ?_ <;> rw [State.runPanOp_amax, hf] <;> rfl
  · rintro q vec amax qs hs hn hq
    have agreed := Pan.eq_amaxFor hs hn
    exact ⟨fun hf => exec_call_of_size hb rfl (State.runPanOp_quantA8_of_finite agreed hq hf),
      fun hf => exec_call_of_size hb rfl (State.runPanOp_quantA8_of_not_finite agreed hf)⟩
  · rintro use run hf
    refine ⟨fun hw => exec_call_of_size hb rfl (State.runPanOp_quantKV_of_no_work hf hw),
      fun w hw => ⟨fun hown => ?_, fun hr ht => ?_⟩⟩
    · exact exec_call_of_size hb rfl (State.runPanOp_quantKV_of_own hf hw hown)
    · exact exec_call_of_size hb rfl (State.runPanOp_quantKV_of_rebuild_elsewhere hf hw hr ht)
  · rintro n hf
    exact ⟨fun r hr => exec_call_of_size hb rfl (State.runPanOp_rakeFull_of_some hf hr),
      fun hr => exec_call_of_size hb rfl (State.runPanOp_rakeFull_of_none hf hr)⟩
  · rintro heads ys hf hy
    exact ⟨exec_call_of_size hb rfl (State.runPanOp_rakeHead hf hy), exec_call_of_size hb rfl (State.runPanOp_rakeHead hf hy)⟩
  · rintro start old hn hs ho
    exact exec_call_of_size hb rfl (State.runPanOp_residualAdd (Fab.eq_residualAt hn hs) ho)
  · rintro rs vals u hx hrs rfl hu
    have kept : xs = (((s.eccPan p st i ecc).pan p).residualOf st i base).getD [] := by rw [hx, State.eccPan_residualOf]
    have size : (s.pan p).opSize st i (.residualRound base) = xs.length := congrArg List.length hx.symm
    refine ⟨fun hf hr => exec_call_of_size hb size ?_, fun hf hr => exec_call_of_size hb size ?_,
      fun hf => exec_call_of_size hb size (State.runPanOp_residualRound_of_not_finite kept hf)⟩
    · rw [State.runPanOp_residualRound kept hf hrs hu, any_snd_eq_false hr, if_neg Bool.false_ne_true]
    · rw [State.runPanOp_residualRound kept hf hrs hu, if_pos (List.any_eq_true.mpr hr)]
  · rintro vals hf hv
    exact exec_call_of_size hb rfl (State.runPanOp_expertOut hf hv)
  · exact fun a => ⟨fun v hv => exec_call_of_size hb rfl (State.runPanOp_rowSum_of_some hv),
      fun hv => exec_call_of_size hb rfl (State.runPanOp_rowSum_of_none hv)⟩
  · exact fun n => exec_call_of_size hb rfl rfl
  · rintro op use run n heads isQ hf hop
    have size : (s.pan p).opSize st i op = xs.length := by
      simp only [List.mem_cons, List.not_mem_nil, or_false] at hop
      rcases hop with rfl | rfl | rfl | rfl <;> rfl
    exact exec_call_of_size hb size (State.runPanOp_of_not_finite hop hf)
  · rintro mine hm
    obtain rfl : mine = fun h => h.stream == st && h.index == i && !h.provisional := funext hm
    exact exec_kvWriteComplete ..
end

section
/-! PROOF. Mixture of experts: what the router does with each position, the experts' work and the return, and O39 from them
(02 R53, R70; 04 R114; 09 R302). -/

namespace Sys2Proof.Machine

theorem exec_moeDispatch_route (slot k : Nat) (scores : List (Nat × Nat × List W32)) (s : State) :
    exec (.moeDispatch (.route slot k scores)) s = .next (s.routeMoe slot k scores) := rfl
theorem exec_moeDispatch_run (e : Nat) (ps : List (Nat × Nat × W32 × List W32)) (s : State) :
    exec (.moeDispatch (.run e ps)) s = .next (s.runExpert e ps) := rfl
theorem exec_moeReturn (layer stream index : Nat) (outs : List (W32 × List W16)) (residual : List W32) (s : State) :
    exec (.moeReturn layer stream index outs residual) s = .next (stepMoeReturn layer stream index outs residual s) := rfl

/-- Positions in this tick that an expert has taken. -/
def Fab.usedOf (b : Fab) (e : Nat) : Nat := Sparse.get (fun _ => 0) b.expertUsed e

/-- Each of these experts counts one position more. -/
def Fab.useExperts (b : Fab) (es : List Nat) : Fab :=
  { b with expertUsed := es.foldl (fun m e => Sparse.set (fun _ => 0) m e (Sparse.get (fun _ => 0) m e + 1)) b.expertUsed }

/-- What a position is sent to its experts with: the softmax of its chosen scores (09 R302). -/
def sentTo (es : List Nat) (x : Nat × Nat × List W32) : List (Nat × Nat × Nat × W32) :=
  (es.zip (softmax32 (es.map (fun e => x.2.2.getD e 0)))).map (fun e => (e.1, x.1, x.2.1, e.2))

/-- The router's turn of one position: stream, index and gate scores (09 R302). -/
def routeOne (limit k : Nat) (acc : State × List (Nat × Nat × Nat × W32)) (x : Nat × Nat × List W32) :
    State × List (Nat × Nat × Nat × W32) :=
  if !allFinite x.2.2 then (acc.1.numericFault x.1 x.2.1, acc.2)
  else if (topK k x.2.2).any (fun e => decide (limit ≤ acc.1.dev.fab.usedOf e)) then (acc.1.slipWorks x.1 x.2.1 .other, acc.2)
  else ((acc.1.updFab (·.useExperts (topK k x.2.2))).updWork x.1 x.2.1 (fun w => { w with half := 1, tick := acc.1.tick }),
    acc.2 ++ sentTo (topK k x.2.2) x)

section RouteOne
variable {limit k : Nat} {t : State} {l : List (Nat × Nat × Nat × W32)} {x : Nat × Nat × List W32}

theorem routeOne_of_not_finite (hf : allFinite x.2.2 = false) : routeOne limit k (t, l) x = (t.numericFault x.1 x.2.1, l) := by
  simp only [routeOne, hf, Bool.not_false, if_true]

theorem routeOne_of_full (hf : allFinite x.2.2 = true) (he : ∃ e ∈ topK k x.2.2, limit ≤ t.dev.fab.usedOf e) :
    routeOne limit k (t, l) x = (t.slipWorks x.1 x.2.1 .other, l) := by
  have full : (topK k x.2.2).any (fun e => decide (limit ≤ t.dev.fab.usedOf e)) = true := by simpa using he
  simp only [routeOne, hf, full, Bool.not_true, Bool.false_eq_true, if_false, if_true]

theorem routeOne_of_free (hf : allFinite x.2.2 = true) (he : ∀ e ∈ topK k x.2.2, t.dev.fab.usedOf e < limit) :
    routeOne limit k (t, l) x =
      ((t.updFab (·.useExperts (topK k x.2.2))).updWork x.1 x.2.1 (fun w => { w with half := 1, tick := t.tick }),
        l ++ sentTo (topK k x.2.2) x) := by
  have free : (topK k x.2.2).any (fun e => decide (limit ≤ t.dev.fab.usedOf e)) = false := by simpa using he
  simp only [routeOne, hf, free, Bool.not_true, Bool.false_eq_true, if_false]
end RouteOne

/-- The router's positions in bundle order, each with the scores that its DLE formed, else those given (04 R114). -/
def Dev.moeOrder (d : Dev) (slot : Nat) (scores : List (Nat × Nat × List W32)) : List (Nat × Nat × List W32) :=
  d.fab.works.filterMap (fun w => (scores.find? (fun x => x.1 == w.stream && x.2.1 == w.index)).map (fun x =>
    (x.1, x.2.1, (d.dle.outOf (fun y => y == slot) 7 x.1 x.2.1).getD x.2.2)))

/-- What the router's positions leave, taken in turn: the state, and all that is sent to experts. -/
def State.routeAll (s : State) (slot k : Nat) (scores : List (Nat × Nat × List W32)) : State × List (Nat × Nat × Nat × W32) :=
  (s.dev.moeOrder slot scores).foldl (routeOne ((s.dev.ws.layer slot).getD {}).expertSlots k)
    (s.each (s.dev.moeOrder slot scores) (fun s x => s.updDle (fun d => d.dropOut (fun y => y == slot) 7 x.1 x.2.1)), [])

theorem State.routeMoe_eq (s : State) (slot k : Nat) (scores : List (Nat × Nat × List W32)) :
    s.routeMoe slot k scores = (s.routeAll slot k scores).1.each
      (List.range (((s.dev.moeOrder slot scores).map (fun x => x.2.2.length)).foldl max 0))
      (fun t e => t.emit (.moe e (((s.routeAll slot k scores).2.filter (fun x => x.1 == e)).map (·.2)))) := rfl

section Return
variable {s : State} {layer stream index : Nat} {outs : List (W32 × List W16)} {residual : List W32}

/-- The weighted outputs of the experts and the residual, added in FP32 (09 R302; entry 85). -/
def moeSums (outs : List (W32 × List W16)) (residual : List W32) : List W32 :=
  (residual.zipIdx).map (fun (r : W32 × Nat) => fpAdd (fpSum (outs.map (fun o => fpMul o.1 (bf16To32 (o.2.getD r.2 0))))) r.1)

/-- The sums rounded stochastically under the MoE layer's number, each with whether it exceeds BF16 (02 R70). -/
def moeRounded (seed : W64) (layer stream index : Nat) (sums : List W32) : List (W16 × Bool) :=
  (sums.zipIdx).map (fun x => residualOne (srDraw seed stream 0x03 layer index x.2) x.1)

/-- A position's own step begins with this residual (09 R302). -/
def State.beginOwn (s : State) (stream index : Nat) (residual : List W32) : State :=
  s.updWork stream index (fun w => { w with residual, half := 0, tick := s.tick, attnDone := false, outRes := [] })

variable {sums : List W32} {rs : List (W16 × Bool)} {u : State}

theorem stepMoeReturn_of_sound (hs : sums = moeSums outs residual) (hrs : rs = moeRounded s.dev.hdr.srSeed layer stream index sums)
    (hu : u = s.beginOwn stream index (rs.map (fun r => bf16To32 r.1))) (hf : allFinite sums = true) (hr : ∀ r ∈ rs, r.2 = false) :
    stepMoeReturn layer stream index outs residual s = u := by
  have sound : ¬ (!allFinite sums || rs.any (·.2)) = true := by rw [hf, any_snd_eq_false hr]; exact Bool.false_ne_true
  subst hs hrs hu
  exact if_neg sound

theorem stepMoeReturn_of_fault (hs : sums = moeSums outs residual) (hrs : rs = moeRounded s.dev.hdr.srSeed layer stream index sums)
    (hu : u = s.beginOwn stream index (rs.map (fun r => bf16To32 r.1))) (h : allFinite sums = false ∨ ∃ r ∈ rs, r.2 = true) :
    stepMoeReturn layer stream index outs residual s = u.numericFault stream index := by
  have fault : (!allFinite sums || rs.any (·.2)) = true := by simpa using h
  subst hs hrs hu
  exact if_pos fault
end Return

end Sys2Proof.Machine

open Sys2Proof Sys2Proof.Machine

/-- Settles O39: any step that answers as the statement says is the router's own turn of a position; the return's fault is decided by
its sums and their rounding. -/
theorem mixtureOfExperts : Obligations.MixtureOfExperts := by
  intro s slot k layer stream index e ps outs residual
  refine ⟨?_, exec_moeDispatch_run .., ?_⟩
  · rintro scores ordered n u step rfl rfl rfl hfault hslip hsend
    have turn : step = routeOne ((s.dev.ws.layer slot).getD {}).expertSlots k := by
      funext ⟨t, l⟩ x
      cases hf : allFinite x.2.2
      case false => rw [hfault t l x hf, routeOne_of_not_finite hf]
      case true =>
        by_cases he : ∃ e ∈ topK k x.2.2, ((s.dev.ws.layer slot).getD {}).expertSlots ≤ t.dev.fab.usedOf e
        · rw [hslip t l x hf he, routeOne_of_full hf he]
        · have free : ∀ e ∈ topK k x.2.2, t.dev.fab.usedOf e < ((s.dev.ws.layer slot).getD {}).expertSlots := by simpa using he
          rw [hsend t l x hf free, routeOne_of_free hf free]
          rfl
    rw [exec_moeDispatch_route, State.routeMoe_eq, turn]
    rfl
  · rintro sums rs u hs hrs hu
    exact ⟨fun hf hr => (exec_moeReturn ..).trans (congrArg _ (stepMoeReturn_of_sound hs hrs hu hf hr)),
      fun h => (exec_moeReturn ..).trans (congrArg _ (stepMoeReturn_of_fault hs hrs hu h))⟩
end

section
/-! PROOF. The digital access of a pan: one lemma per case of a GO and of the access's end, and O51 from them (03 R93, R97, R98). -/

namespace Sys2Proof.Machine

theorem exec_panDigRead (p a row : Nat) (s : State) : exec (.panDigRead p a row) s = .next (stepPanDigRead p a row s) := rfl
theorem exec_panDigWrite (p a row : Nat) (s : State) : exec (.panDigWrite p a row) s = .next (stepPanDigWrite p a row s) := rfl
theorem exec_panDigComplete (p : Nat) (s : State) : exec (.panDigComplete p) s = .next (stepPanDigComplete p s) := rfl

theorem digIn_iff {p a row : Nat} : digIn p a row = true ↔ p < 2112 ∧ a < 8 ∧ row < 1024 := by simp [digIn, and_assoc]

theorem Dev.digAllowed_iff {d : Dev} : d.digAllowed = true ↔ d.nv.lc = .manufacture ∨ d.nv.lc = .service := by simp [Dev.digAllowed]

/-- The control fields hold what a GO write named. -/
def Pan.nameDig (q : Pan) (write : Bool) (a row : Nat) : Pan :=
  { q with digOp := write, digArr := BitVec.ofNat 3 a, digRow := BitVec.ofNat 10 row }

section Go
variable {s : State} {p a row : Nat} {write : Bool}

theorem State.digGo_of_busy (h : (s.pan p).digRun ≠ none) : s.digGo p write a row = s := if_pos (Option.isSome_iff_ne_none.mpr h)

theorem State.digGo_of_allowed (h : (s.pan p).digRun = none) (hl : s.dev.nv.lc = .manufacture ∨ s.dev.nv.lc = .service) (ha : a < 8)
    (hr : row < 1024) : s.digGo p write a row = s.updPan p (fun q => { q.nameDig write a row with
      digRun := some (write, a, row, if write then Memory.readBytes q.digData 0 64 else []) }) := by
  simp only [State.digGo, h, Dev.digAllowed_iff.mpr hl, Nat.mod_eq_of_lt ha, Nat.mod_eq_of_lt hr]
  rfl

theorem State.digGo_of_denied (h : (s.pan p).digRun = none) (hl : ¬ (s.dev.nv.lc = .manufacture ∨ s.dev.nv.lc = .service)) :
    s.digGo p write a row = s.updPan p (fun q => { q.nameDig write a row with digDenied := true, digDone := true }) := by
  simp only [State.digGo, h, Bool.eq_false_iff.mpr (mt Dev.digAllowed_iff.mp hl)]
  rfl

/-- A denied GO shows in DENIED and DONE, starts no access and leaves the data registers (03 R98). -/
theorem State.digGo_denied_pan (h : (s.pan p).digRun = none) (hl : ¬ (s.dev.nv.lc = .manufacture ∨ s.dev.nv.lc = .service)) :
    ((s.digGo p write a row).pan p).digDenied = true ∧ ((s.digGo p write a row).pan p).digDone = true ∧
      ((s.digGo p write a row).pan p).digRun = none ∧ ((s.digGo p write a row).pan p).digData = (s.pan p).digData := by
  rw [State.digGo_of_denied h hl, State.pan_updPan_self_of_ne fun e => Bool.noConfusion (congrArg Pan.digDenied e)]
  exact ⟨rfl, rfl, h, rfl⟩
end Go

section Complete
variable {s : State} {p a row : Nat} {write : Bool} {data : List Byte}

theorem stepPanDigComplete_of_none (h : (s.pan p).digRun = none) : stepPanDigComplete p s = s := by simp only [stepPanDigComplete, h]

theorem stepPanDigComplete_of_read (h : (s.pan p).digRun = some (false, a, row, data)) :
    stepPanDigComplete p s = (s.updPan p (fun q => { q with digRun := none, digDone := true })).updPan p (fun q =>
      { q with digData := Memory.writeBytes q.digData 0 (Memory.readBytes (q.arr a).cells (64 * row) 64) }) := by
  simp only [stepPanDigComplete, h]
  rfl

theorem stepPanDigComplete_of_write {u : State} (h : (s.pan p).digRun = some (true, a, row, data))
    (hu : u = s.updPan p (fun q => { q with digRun := none, digDone := true })) :
    stepPanDigComplete p s = if (u.arr p a).mode = .digital
      then u.updArr p a (fun x => { x with cells := Memory.writeBytes x.cells (64 * row) data })
      else u.updArr p a (fun x => { x with wrDiscard := true }) := by
  subst hu
  simp only [stepPanDigComplete, h, beq_iff_eq]
  rfl
end Complete

end Sys2Proof.Machine

open Sys2Proof Sys2Proof.Machine

/-- Settles O51: a GO that names a row is the access's own start or denial; the access ends as its operation and the array's mode say. -/
theorem digitalAccess : Obligations.DigitalAccess := by
  intro s p a row
  refine ⟨fun hp ha hr idle => ?_, fun h => ?_, fun idle => ?_, ?_⟩
  · have go : digIn p a row = true := digIn_iff.mpr ⟨hp, ha, hr⟩
    have reads : stepPanDigRead p a row s = s.digGo p false a row := if_pos go
    have writes : stepPanDigWrite p a row s = s.digGo p true a row := if_pos go
    refine ⟨fun served => ?_, fun hm hs => ?_⟩
    · rw [exec_panDigRead, exec_panDigWrite, reads, writes, State.digGo_of_allowed idle served ha hr,
        State.digGo_of_allowed idle served ha hr]
      exact ⟨rfl, rfl⟩
    · have denied : ¬ (s.dev.nv.lc = .manufacture ∨ s.dev.nv.lc = .service) := not_or.mpr ⟨hm, hs⟩
      rw [exec_panDigRead, exec_panDigWrite, reads, writes]
      refine ⟨by rw [State.digGo_of_denied idle denied]; rfl, by rw [State.digGo_of_denied idle denied]; rfl, ?_⟩
      rintro t (h | h) <;> injection h with h <;> exact h ▸ State.digGo_denied_pan idle denied
  · have still (write : Bool) : (if digIn p a row then s.digGo p write a row else s) = s := by
      split
      next named =>
        obtain ⟨hp, ha, hr⟩ := digIn_iff.mp named
        have busy := ((h.resolve_left (Nat.not_le.mpr hp)).resolve_left (Nat.not_le.mpr ha)).resolve_left (Nat.not_le.mpr hr)
        exact State.digGo_of_busy busy
      next => rfl
    exact ⟨congrArg _ (still false), congrArg _ (still true)⟩
  · rw [exec_panDigComplete, stepPanDigComplete_of_none idle]
  · rintro write x r data u running rfl
    refine ⟨?_, ?_, ?_⟩
    · rintro rfl
      rw [exec_panDigComplete, stepPanDigComplete_of_read running]
    · rintro rfl digital
      rw [exec_panDigComplete, stepPanDigComplete_of_write running rfl, if_pos digital]
    · rintro rfl other
      rw [exec_panDigComplete, stepPanDigComplete_of_write running rfl, if_neg other]
end

section
/-! PROOF. Vectors on the arrays: input segments, a vector's start, its completion and its row-sum judgement, and O31 from them
(03 R77, R82, R83, R85, R94; 04 R99; 11 R335). -/

namespace Sys2Proof.Machine

theorem exec_ringLoad (p ring : Nat) (acts : List Byte) (scale : W16) (s : State) :
    exec (.ringLoad p ring acts scale) s = .next (stepRingLoad p ring acts scale s) := rfl
theorem exec_vector (p a ring slot stream index vec ecc : Nat) (s : State) :
    exec (.vector p a ring slot stream index vec ecc) s = .next (stepVector p a ring slot stream index vec ecc s) := rfl
theorem exec_arrayVectorComplete (p a : Nat) (s : State) :
    exec (.arrayVectorComplete p a) s = .next (stepArrayVectorComplete p a s) := rfl

theorem stepRingLoad_of_slot {p ring : Nat} {acts : List Byte} {scale : W16} {s : State} (h : ring < 40) :
    stepRingLoad p ring acts scale s = s.updPan p (fun q => { q with
      ring := Tab.put q.ring ring { scale }, sram := Memory.writeBytes q.sram (0x10000 + 1024 * ring) (sliceAt acts 0 1024) }) := if_pos h

theorem stepRingLoad_of_no_slot {p ring : Nat} {acts : List Byte} {scale : W16} {s : State} (h : 40 ≤ ring) :
    stepRingLoad p ring acts scale s = s := if_neg (Nat.not_lt.mpr h)

section Vector

/-- The configuration that a vector of a position runs in: a strict replay's in narrow groups (04 R109). -/
def State.vectorCfg (u : State) (p a slot stream index : Nat) : ArrCfg :=
  if u.dev.fab.replays slot stream index then { (u.arr p a).cfg with wide := false } else (u.arr p a).cfg

/-- What the planes of a vector give under the taps in force, one free value per conversion (03 R85, 06 R179). -/
def State.fullPlanes (u : State) (p a ring : Nat) (c : ArrCfg) : List PlaneOut :=
  arrayPlanes (u.arr p a).cells c ((u.pan p).segment ring)
    (fun g b col => (u.pan p).convError a c.wide (u.freeCtr + 512 * (8 * g + b) + col) g col)

/-- A plane whose counts all read 0 (03 R94). -/
def PlaneOut.blank (o : PlaneOut) : PlaneOut := { o with codes := List.replicate 512 (0, false) }

/-- The planes of a vector as its array reads them: blank with VALID 0. -/
def State.vectorPlanes (u : State) (p a ring : Nat) (c : ArrCfg) : List PlaneOut :=
  if (u.arr p a).valid then u.fullPlanes p a ring c else (u.fullPlanes p a ring c).map PlaneOut.blank

theorem filter_flagged_blank (l : List PlaneOut) : (l.map PlaneOut.blank).filter (fun o => o.codes.any (·.2)) = [] := by
  have quiet (o : PlaneOut) : o.blank.codes.any (·.2) = false := by rw [PlaneOut.blank, List.any_replicate]; rfl
  rw [List.filter_map, List.filter_eq_nil_iff.mpr fun o _ => by simp only [Function.comp, quiet, Bool.false_eq_true, not_false_iff]]
  rfl

/-- The vector stands on the array, and its saturated conversions count on the side of the tick's end on which they fall. -/
def State.startVector (u : State) (p a : Nat) (v : RunVec) (planes : List PlaneOut) (start limit : Nat) : State :=
  ({ u with freeCtr := u.freeCtr + 4096 * groupCount v.cfg.wide }).updArr p a (fun x => { x with
    run := some v, computeInvalid := x.computeInvalid || !x.valid,
    satCnt := wrapInc x.satCnt (planes.map (PlaneOut.flagged · start limit false)).sum,
    satGroup := x.satGroup ||| satMask planes start limit false,
    satLate := (x.satLate.1 ||| satMask planes start limit true, x.satLate.2 + (planes.map (PlaneOut.flagged · start limit true)).sum) })

/-- The events of a vector's planes, each at its accumulate cycle (04 R99). -/
def State.vectorEvents (u : State) (a : Nat) (v : RunVec) (planes : List PlaneOut) (start : Nat) : List BtnEvent :=
  (planes.filter (fun o => o.codes.any (·.2))).map (fun o => {
    arr := a, group := o.g, plane := o.b, mask := (List.range 512).filter (fun n => (o.codes.getD n (0, false)).2), cfg := v.cfg,
    ring := v.ring, slot := v.slot, stream := v.stream, index := v.index, vec := v.vec,
    replay := u.dev.fab.replays v.slot v.stream v.index, enter := u.dev.cycleKey (start + 64 * o.g + 8 * o.b + 9) })

variable {s u : State} {p a ring slot stream index vec ecc start limit : Nat} {c : ArrCfg} {planes : List PlaneOut} {v : RunVec}

theorem stepVector_of_not_compute (h : (s.arr p a).cfg.mode ≠ .compute) : stepVector p a ring slot stream index vec ecc s = s :=
  if_pos (bne_iff_ne.mpr h)

theorem stepVector_of_compute (hm : (s.arr p a).cfg.mode = .compute)
    (hu : u = (stepArrayVectorComplete p a s).eccPan p stream index ecc) (hc : c = u.vectorCfg p a slot stream index)
    (hp : planes = u.vectorPlanes p a ring c) (hs : start = u.dev.time.cycle) (hl : limit = 2000 * u.dev.time.inForce - 4)
    (hv : v = { slot, stream, index, vec, ring, cfg := c, last := u.dev.cycleKey (start + 64 * groupCount c.wide + 1),
                scale := (u.pan p).segScale ring,
                sums := (List.range c.fmt.cols).map (fun j => columnSum c.fmt ((u.pan p).groupShift a c.wide j) planes j),
                y := checkSum c.fmt planes, adds := [], tick := u.tick, clamped := [], checked := false,
                invalid := !(u.arr p a).valid, poison := decide (2 ≤ ecc) }) :
    stepVector p a ring slot stream index vec ecc s =
      (if (u.arr p a).valid then u.startVector p a v planes start limit
        else (u.startVector p a v planes start limit).failWork stream index 1 0 1 (8 * p + a)).updPan p (fun q =>
          { q with coming := q.coming ++ u.vectorEvents a v planes start }) := by
  unfold stepVector
  rw [if_neg (Bool.eq_false_iff.mp (bne_eq_false_iff_eq.mpr hm)), ← hu]
  subst hv hl hs hp hc
  simp only [State.vectorPlanes]
  cases h : (u.arr p a).valid <;> rfl
end Vector

section Reads
variable {s : State} {p a : Nat}

/-- A pan with an array that is not as after reset is not as after reset either: it reads back what is written. -/
theorem State.pan_updPan_self_of_arrs {f : Pan → Pan} (h : (f (s.pan p)).arrs ≠ []) : (s.updPan p f).pan p = f (s.pan p) :=
  State.pan_updPan_self_of_ne fun e => h (congrArg Pan.arrs e)

theorem State.pan_updPan_ne {q : Nat} {f : Pan → Pan} (h : q ≠ p) : (s.updPan p f).pan q = s.pan q := Sparse.get_upd_ne _ h

theorem Sparse.ne_nil_of_get_ne {α : Type} {d : Nat → α} {m : List (Nat × α)} {k : Nat} (h : Sparse.get d m k ≠ d k) : m ≠ [] := by
  rintro rfl
  exact h rfl

theorem Pan.arr_updArr_self_of_ne {q : Pan} {f : Arr → Arr} (h : f (q.arr a) ≠ Arr.reset a) : (q.updArr a f).arr a = f (q.arr a) :=
  Sparse.get_set_self_of_ne h _

theorem State.pan_updArr_self_of_ne {f : Arr → Arr} (h : f (s.arr p a) ≠ Arr.reset a) :
    (s.updArr p a f).pan p = (s.pan p).updArr a f :=
  State.pan_updPan_self_of_arrs (Sparse.ne_nil_of_get_ne (d := Arr.reset) (k := a) fun e => h ((Pan.arr_updArr_self_of_ne h).symm.trans e))

theorem State.arr_updArr_self_of_ne {f : Arr → Arr} (h : f (s.arr p a) ≠ Arr.reset a) : (s.updArr p a f).arr p a = f (s.arr p a) := by
  rw [State.arr, State.pan_updArr_self_of_ne h, Pan.arr_updArr_self_of_ne h, State.arr]

theorem Arr.ne_reset_of_done {x : Arr} (h : x.done ≠ []) : x ≠ Arr.reset a := fun e => h (congrArg Arr.done e)
theorem Arr.ne_reset_of_run {x : Arr} (h : x.run ≠ none) : x ≠ Arr.reset a := fun e => h (congrArg Arr.run e)

theorem State.arrs_ne_nil_of_ne (h : s.arr p a ≠ Arr.reset a) : (s.pan p).arrs ≠ [] := Sparse.ne_nil_of_get_ne h
end Reads

section Complete

/-- A vector is done in a tick: it counts, waits for the tick's checks, and its position waits for the content check (03 R83). -/
def Arr.complete (x : Arr) (v : RunVec) (tick : Nat) : Arr :=
  { x with run := none, vecCnt := x.vecCnt + 1, done := x.done ++ [{ v with tick }],
           scrub := if x.since.isEmpty then tick else x.scrub,
           since := if (v.stream, v.index) ∈ x.since then x.since else x.since ++ [(v.stream, v.index)] }

/-- A vector is done and its sums leave for the sum plane (05 R139). -/
def State.sendVector (s : State) (p a : Nat) (v : RunVec) (tick : Nat) : State :=
  (s.updArr p a (·.complete v tick)).emit (.flits p .sum 4 (denseFlits v v.sums))

variable {s : State} {p a : Nat} {v w : RunVec}

theorem stepArrayVectorComplete_of_none (h : (s.arr p a).run = none) : stepArrayVectorComplete p a s = s := by
  simp only [stepArrayVectorComplete, h]

theorem stepArrayVectorComplete_of_some (h : (s.arr p a).run = some v) (hw : ((s.arrive p v.last).arr p a).run = some w) :
    stepArrayVectorComplete p a s =
      ((s.arrive p v.last).sendVector p a w s.tick).judge p a w.slot w.stream w.index w.vec := by
  simp only [stepArrayVectorComplete, h, hw, Option.getD_some, State.sendVector, Arr.complete, List.contains_iff_mem]
end Complete

section Judge

/-- A vector of an array is judged. -/
def State.markChecked (s : State) (p a slot stream index vec : Nat) : State :=
  s.updArr p a (fun x => x.updVec slot stream index vec (fun v => { v with checked := true }))

/-- A failed row-sum check counts in its pan and in the package (11 R364). -/
def State.countRowsum (s : State) (p : Nat) : State :=
  (s.updPan p (fun q => { q with rowsumFails := q.rowsumFails + 1 })).updChk (fun c => { c with rowsum := c.rowsum + 1 })

/-- A vector of an array fails the row-sum check by d beyond tol: both counts, the log and the position (11 R335, R352). -/
def State.rowsumFailure (s : State) (p a stream index d : Nat) (tol : Int) : State :=
  ((s.countRowsum p).arrayFailure p a 0x01 1 (min d 0xFFFFFFFF) tol.toNat).failWork stream index 1 0x01 1 (8 * p + a)

variable {s : State} {p a slot stream index vec : Nat} {v : RunVec}

theorem State.judge_of_none (h : (s.arr p a).done.find? (fun v => v.tagged slot stream index vec && !v.checked) = none) :
    s.judge p a slot stream index vec = s := by
  simp only [State.judge, h]

theorem State.judge_of_waits (h : s.waits p a slot stream index vec = true) : s.judge p a slot stream index vec = s := by
  unfold State.judge
  split
  · rfl
  · rw [if_pos h]

/-- A pan drops the spot comparisons that wait. -/
def State.dropSpots (s : State) (p : Nat) : State := s.updPan p (fun q => { q with spots := [] })

theorem State.settleSpots_of_no_spots (h : (s.pan p).spots = []) : s.settleSpots p a slot stream index vec = s.dropSpots p := by
  have same : s.updPan p (fun q => { q with
      spots := q.spots.filter (fun e => !(e.1 == a && decide (e.2.1 = ⟨slot, stream, index, vec⟩))) }) = s.dropSpots p := by
    have emptied : (Sparse.get Pan.reset s.dev.pans p).spots = [] := h
    simp only [State.dropSpots, State.updPan, Sparse.upd, emptied, List.filter_nil]
  simp only [State.settleSpots, same, h, List.filter_nil]
  split <;> rfl

/-- The judgement of a vector with no spot waiting and no canary due is the row-sum check alone (11 R335). -/
theorem State.judge_of_due {u : State} (hv : (s.arr p a).done.find? (fun v => v.tagged slot stream index vec && !v.checked) = some v)
    (hw : s.waits p a slot stream index vec = false) (hs : (s.pan p).spots = []) (hc : (s.pan p).canaryDue ≠ some a)
    (hu : u = (s.dropSpots p).markChecked p a slot stream index vec) :
    s.judge p a slot stream index vec = if (u.rowCheck p a v false).2 < ((u.rowCheck p a v false).1 : Int)
      then u.rowsumFailure p a stream index (u.rowCheck p a v false).1 (u.rowCheck p a v false).2 else u := by
  have busy : s.arr p a ≠ Arr.reset a := Arr.ne_reset_of_done fun e => by simp [e] at hv
  have quiet : ((s.dropSpots p).pan p).canaryDue ≠ some a := by
    rwa [State.dropSpots, State.pan_updPan_self_of_arrs (State.arrs_ne_nil_of_ne busy)]
  subst hu
  simp only [State.judge, hv, hw, Bool.false_eq_true, if_false, State.settleSpots_of_no_spots hs, if_neg quiet]
  rfl
end Judge

section Failure
variable {s : State} {p a : Nat}

theorem State.logEvent_chk (code kind unit a b : Nat) : ∃ e : LogEntry, e.code = code ∧ (s.logEvent code kind unit a b).dev.chk =
    { s.dev.chk with log := Sparse.set LogEntry.reset s.dev.chk.log (s.dev.chk.logProd.toNat % 4096) e, logProd := s.dev.chk.logProd + 1 } := by
  simp only [State.logEvent, State.mirrorEvent_chk]
  (repeat' split) <;> exact ⟨_, rfl, rfl⟩

theorem State.mem_mirrorEvent_out {o : Out} (h : o ∈ s.out) (e : LogEntry) : o ∈ (s.mirrorEvent e).out := by
  simp only [State.mirrorEvent]
  (repeat' split) <;> simp [h]

theorem State.mem_logEvent_out {o : Out} (h : o ∈ s.out) (code kind unit a b : Nat) : o ∈ (s.logEvent code kind unit a b).out := by
  unfold State.logEvent
  refine State.mem_mirrorEvent_out ?_ _
  (repeat' split) <;> exact h

/-- A failure event changes the lists of events and retirements alone (11 R351). -/
theorem State.failEvent_eq (kind unit cause : Nat) : ∃ events toRetire,
    s.failEvent kind unit cause = s.updChk (fun c => { c with events, toRetire }) := by
  unfold State.failEvent
  extract_lets
  split
  · exact ⟨s.dev.chk.events, s.dev.chk.toRetire, rfl⟩
  · exact ⟨_, _, rfl⟩

section Array
variable {code lastCause arg0 arg1 : Nat}

/-- What a pan keeps of its last failure (11 R364). -/
def Pan.noteFailure (q : Pan) (a lastCause tick : Nat) : Pan :=
  { q with lastArr := BitVec.ofNat 3 a, lastCause := BitVec.ofNat 3 lastCause, lastTick := BitVec.ofNat 20 tick }

/-- A failed check of an array: the pan's last failure, the log, and else the lists of events and retirements alone (11 R352). -/
theorem State.arrayFailure_eq (s : State) (p a code lastCause arg0 arg1 : Nat) : ∃ events toRetire,
    s.arrayFailure p a code lastCause arg0 arg1 = ((s.updPan p (·.noteFailure a lastCause s.tick)).logEvent code 1 (8 * p + a) arg0 arg1).updChk
      (fun c => { c with events, toRetire }) :=
  State.failEvent_eq ..

theorem State.arrayFailure_pans : (s.arrayFailure p a code lastCause arg0 arg1).dev.pans =
    (s.updPan p (·.noteFailure a lastCause s.tick)).dev.pans := by
  rw [State.arrayFailure, State.failEvent_pans, State.logEvent_pans]
  rfl

theorem State.arrayFailure_pan (h : (s.pan p).arrs ≠ []) :
    (s.arrayFailure p a code lastCause arg0 arg1).pan p = (s.pan p).noteFailure a lastCause s.tick := by
  rw [State.pan, Dev.pan, State.arrayFailure_pans]
  exact State.pan_updPan_self_of_arrs h

theorem State.arrayFailure_pan_ne {q : Nat} (h : q ≠ p) : (s.arrayFailure p a code lastCause arg0 arg1).pan q = s.pan q := by
  rw [State.pan, Dev.pan, State.arrayFailure_pans]
  exact State.pan_updPan_ne h

theorem State.arrayFailure_fab : (s.arrayFailure p a code lastCause arg0 arg1).dev.fab = s.dev.fab := by
  obtain ⟨_, _, e⟩ := s.arrayFailure_eq p a code lastCause arg0 arg1
  rw [e, State.updChk_fab, State.logEvent_fab, State.updPan_fab]

theorem State.arrayFailure_rowsum : (s.arrayFailure p a code lastCause arg0 arg1).dev.chk.rowsum = s.dev.chk.rowsum := by
  obtain ⟨_, _, e⟩ := s.arrayFailure_eq p a code lastCause arg0 arg1
  obtain ⟨_, -, logged⟩ := (s.updPan p (·.noteFailure a lastCause s.tick)).logEvent_chk code 1 (8 * p + a) arg0 arg1
  rw [e, State.updChk_chk, logged]
  rfl

/-- The log's next entry holds the code of the array's failure; an entry of code 0 would be one never written. -/
theorem State.arrayFailure_log (h : code ≠ 0) : (Sparse.get LogEntry.reset (s.arrayFailure p a code lastCause arg0 arg1).dev.chk.log
    (s.dev.chk.logProd.toNat % 4096)).code = code := by
  obtain ⟨_, _, e⟩ := s.arrayFailure_eq p a code lastCause arg0 arg1
  obtain ⟨entry, rfl, logged⟩ := (s.updPan p (·.noteFailure a lastCause s.tick)).logEvent_chk code 1 (8 * p + a) arg0 arg1
  have written : entry ≠ LogEntry.reset (s.dev.chk.logProd.toNat % 4096) := fun h' => h (congrArg LogEntry.code h')
  rw [e, State.updChk_chk, logged]
  exact congrArg LogEntry.code (Sparse.get_set_self_of_ne written _)

theorem State.mem_arrayFailure_out {o : Out} (h : o ∈ s.out) : o ∈ (s.arrayFailure p a code lastCause arg0 arg1).out := by
  obtain ⟨_, _, e⟩ := s.arrayFailure_eq p a code lastCause arg0 arg1
  rw [e]
  exact State.mem_logEvent_out (s := s.updPan p (·.noteFailure a lastCause s.tick)) h ..
end Array

section RowSum
variable {stream index d : Nat} {tol : Int}

theorem State.failWork_pan (result cause kind unit q : Nat) : (s.failWork stream index result cause kind unit).pan q = s.pan q := rfl
theorem State.failWork_chk (result cause kind unit : Nat) : (s.failWork stream index result cause kind unit).dev.chk = s.dev.chk := rfl
theorem State.failWork_out (result cause kind unit : Nat) : (s.failWork stream index result cause kind unit).out = s.out := rfl

theorem State.countRowsum_pan (h : (s.pan p).arrs ≠ []) :
    (s.countRowsum p).pan p = { s.pan p with rowsumFails := (s.pan p).rowsumFails + 1 } :=
  State.pan_updPan_self_of_arrs (f := fun q => { q with rowsumFails := q.rowsumFails + 1 }) h

theorem State.countRowsum_pan_ne {q : Nat} (h : q ≠ p) : (s.countRowsum p).pan q = s.pan q :=
  State.pan_updPan_ne (f := fun q => { q with rowsumFails := q.rowsumFails + 1 }) h

theorem State.countRowsum_rowsum : (s.countRowsum p).dev.chk.rowsum = s.dev.chk.rowsum + 1 := rfl

theorem State.rowsumFailure_pan (h : (s.pan p).arrs ≠ []) : (s.rowsumFailure p a stream index d tol).pan p =
    { s.pan p with rowsumFails := (s.pan p).rowsumFails + 1 }.noteFailure a 1 s.tick := by
  have counted := State.countRowsum_pan h
  rw [State.rowsumFailure, State.failWork_pan, State.arrayFailure_pan (by rwa [counted]), counted]
  rfl

theorem State.rowsumFailure_arr (h : (s.pan p).arrs ≠ []) : (s.rowsumFailure p a stream index d tol).arr p a = s.arr p a := by
  rw [State.arr, State.rowsumFailure_pan h]
  rfl

theorem State.rowsumFailure_pan_ne {q : Nat} (h : q ≠ p) : (s.rowsumFailure p a stream index d tol).pan q = s.pan q := by
  rw [State.rowsumFailure, State.failWork_pan, State.arrayFailure_pan_ne h, State.countRowsum_pan_ne h]

theorem State.rowsumFailure_rowsum : (s.rowsumFailure p a stream index d tol).dev.chk.rowsum = s.dev.chk.rowsum + 1 := by
  rw [State.rowsumFailure, State.failWork_chk, State.arrayFailure_rowsum, State.countRowsum_rowsum]

theorem State.rowsumFailure_log : (Sparse.get LogEntry.reset (s.rowsumFailure p a stream index d tol).dev.chk.log
    (s.dev.chk.logProd.toNat % 4096)).code = 0x01 := by
  rw [State.rowsumFailure, State.failWork_chk]
  exact State.arrayFailure_log (s := s.countRowsum p) (by decide)

theorem State.rowsumFailure_fab : (s.rowsumFailure p a stream index d tol).dev.fab =
    (s.failWork stream index 1 0x01 1 (8 * p + a)).dev.fab := by
  rw [State.rowsumFailure, State.failWork, State.failWork, State.updWork, State.updWork, State.updFab_fab, State.updFab_fab,
    State.arrayFailure_fab]
  rfl

theorem State.mem_rowsumFailure_out {o : Out} (h : o ∈ s.out) : o ∈ (s.rowsumFailure p a stream index d tol).out := by
  rw [State.rowsumFailure, State.failWork_out]
  exact State.mem_arrayFailure_out (s := s.countRowsum p) h
end RowSum
end Failure

section Plain

/-- A pan drops the events whose cycle is yet to come. -/
def State.dropComing (s : State) (p : Nat) : State := s.updPan p (fun q => { q with coming := [] })

/-- A vector is done and judged within TOL, where no event of it, no spot comparison and no canary waits. -/
def State.finishVector (s : State) (p a : Nat) (v : RunVec) : State :=
  (((s.dropComing p).sendVector p a v s.tick).dropSpots p).markChecked p a v.slot v.stream v.index v.vec

variable {s : State} {p a : Nat} {v : RunVec}

theorem State.arrive_of_nothing_coming (h : (s.pan p).coming = []) (limit : Nat) : s.arrive p limit = s.dropComing p := by
  have nothing : (Sparse.get Pan.reset s.dev.pans p).coming = [] := h
  simp only [State.arrive, State.dropComing, State.updPan, Sparse.upd, h, nothing, List.filter_nil]
  rfl

theorem State.rowCheck_congr {u : State} (hk : u.dev.chk.k = s.dev.chk.k) (hm : (u.pan p).sram = (s.pan p).sram) (planted : Bool) :
    u.rowCheck p a v planted = s.rowCheck p a v planted := by
  simp only [State.rowCheck, rowSumProduct, Pan.rowSumOf, Pan.segment, hk, hm]

theorem Arr.ne_reset_of_complete {x : Arr} {tick : Nat} : x.complete v tick ≠ Arr.reset a := Arr.ne_reset_of_done (by simp [Arr.complete])

theorem Arr.updVec_of_complete {x : Arr} {tick : Nat} (h : x.done = []) :
    (x.complete v tick).updVec v.slot v.stream v.index v.vec (fun v => { v with checked := true }) =
      { x.complete v tick with done := [{ v with tick, checked := true }] } := by
  simp [Arr.complete, Arr.updVec, RunVec.tagged, h]

theorem State.finishVector_pan_ne {q : Nat} (h : q ≠ p) : (s.finishVector p a v).pan q = s.pan q :=
  (State.pan_updPan_ne h).trans ((State.pan_updPan_ne h).trans ((State.pan_updPan_ne h).trans (State.pan_updPan_ne h)))

theorem State.finishVector_chk : (s.finishVector p a v).dev.chk = s.dev.chk := rfl
theorem State.finishVector_fab : (s.finishVector p a v).dev.fab = s.dev.fab := rfl
theorem State.finishVector_pending : (s.finishVector p a v).pending = s.pending := rfl
theorem State.finishVector_out : (s.finishVector p a v).out = s.out ++ [Out.flits p .sum 4 (denseFlits v v.sums)] := rfl

section Running
variable (hr : (s.arr p a).run = some v)
include hr

theorem State.dropComing_pan : (s.dropComing p).pan p = { s.pan p with coming := [] } :=
  State.pan_updPan_self_of_arrs (State.arrs_ne_nil_of_ne (Arr.ne_reset_of_run (hr ▸ Option.some_ne_none v)))

theorem State.dropComing_arr : (s.dropComing p).arr p a = s.arr p a := by
  rw [State.arr, State.dropComing_pan hr]
  rfl

theorem State.sendVector_pan : ((s.dropComing p).sendVector p a v s.tick).pan p =
    { s.pan p with coming := [] }.updArr a (·.complete v s.tick) :=
  (State.pan_updArr_self_of_ne Arr.ne_reset_of_complete).trans (by rw [State.dropComing_pan hr])

theorem State.sendVector_arr : ((s.dropComing p).sendVector p a v s.tick).arr p a = (s.arr p a).complete v s.tick :=
  (State.arr_updArr_self_of_ne Arr.ne_reset_of_complete).trans (by rw [State.dropComing_arr hr])

theorem State.dropSpots_pan : (((s.dropComing p).sendVector p a v s.tick).dropSpots p).pan p =
    { { s.pan p with coming := [] }.updArr a (·.complete v s.tick) with spots := [] } := by
  refine (State.pan_updPan_self_of_arrs (State.arrs_ne_nil_of_ne (a := a) ?_)).trans ?_
  · rw [State.sendVector_arr hr]
    exact Arr.ne_reset_of_complete
  · rw [State.sendVector_pan hr]

theorem State.dropSpots_arr : (((s.dropComing p).sendVector p a v s.tick).dropSpots p).arr p a = (s.arr p a).complete v s.tick := by
  rw [State.arr, State.dropSpots_pan hr, ← State.sendVector_arr hr, State.arr, State.sendVector_pan hr]
  rfl

theorem State.finishVector_pan : (s.finishVector p a v).pan p =
    ((((s.dropComing p).sendVector p a v s.tick).dropSpots p).pan p).updArr a
      (·.updVec v.slot v.stream v.index v.vec (fun v => { v with checked := true })) :=
  State.pan_updArr_self_of_ne (Arr.ne_reset_of_done (by simp [Arr.updVec, State.dropSpots_arr hr, Arr.complete]))

theorem State.finishVector_sram : ((s.finishVector p a v).pan p).sram = (s.pan p).sram := by
  rw [State.finishVector_pan hr, State.dropSpots_pan hr]
  rfl

theorem State.finishVector_rowsumFails : ((s.finishVector p a v).pan p).rowsumFails = (s.pan p).rowsumFails := by
  rw [State.finishVector_pan hr, State.dropSpots_pan hr]
  rfl

variable (hd : (s.arr p a).done = [])
include hd

theorem State.finishVector_arr : (s.finishVector p a v).arr p a =
    { (s.arr p a).complete v s.tick with done := [{ v with tick := s.tick, checked := true }] } := by
  have marked := congrArg (Arr.updVec · v.slot v.stream v.index v.vec (fun v => { v with checked := true })) (State.dropSpots_arr hr)
  rw [Arr.updVec_of_complete hd] at marked
  refine (State.arr_updArr_self_of_ne ?_).trans marked
  rw [marked]
  exact Arr.ne_reset_of_done (List.cons_ne_nil _ _)

theorem State.finishVector_arrs : ((s.finishVector p a v).pan p).arrs ≠ [] := by
  refine State.arrs_ne_nil_of_ne (a := a) (Arr.ne_reset_of_done ?_)
  rw [State.finishVector_arr hr hd]
  exact List.cons_ne_nil _ _

/-- ARRAY_VECTOR_COMPLETE of a vector that nothing else waits for: the row-sum check's verdict on the finished vector (11 R335). -/
theorem stepArrayVectorComplete_of_plain (hv : v.checked = false) (hc : (s.pan p).canaryDue ≠ some a) (hs : (s.pan p).spots = [])
    (hn : (s.pan p).coming = []) (hq : (s.pan p).queue.any (fun e => e.arr == a && e.of v.slot v.stream v.index v.vec) = false) :
    stepArrayVectorComplete p a s = if (s.rowCheck p a v false).2 < ((s.rowCheck p a v false).1 : Int)
      then (s.finishVector p a v).rowsumFailure p a v.stream v.index (s.rowCheck p a v false).1 (s.rowCheck p a v false).2
      else s.finishVector p a v := by
  have sent := State.sendVector_pan hr
  have waitsNot : ((s.dropComing p).sendVector p a v s.tick).waits p a v.slot v.stream v.index v.vec = false := by
    rw [State.waits, sent]
    simpa [Pan.updArr] using hq
  have due : (((s.dropComing p).sendVector p a v s.tick).arr p a).done.find?
      (fun x => x.tagged v.slot v.stream v.index v.vec && !x.checked) = some { v with tick := s.tick } := by
    simp [State.sendVector_arr hr, Arr.complete, hd, RunVec.tagged, hv]
  have check : (s.finishVector p a v).rowCheck p a { v with tick := s.tick } false = s.rowCheck p a { v with tick := s.tick } false :=
    State.rowCheck_congr (s := s) (u := s.finishVector p a v) rfl (State.finishVector_sram hr) false
  have runs : ((s.arrive p v.last).arr p a).run = some v := by rw [State.arrive_of_nothing_coming hn, State.dropComing_arr hr, hr]
  rw [stepArrayVectorComplete_of_some hr runs, State.arrive_of_nothing_coming hn,
    State.judge_of_due (u := s.finishVector p a v) due waitsNot (by rw [sent]; exact hs) (by rw [sent]; exact hc) rfl, check]
  rfl
end Running
end Plain

end Sys2Proof.Machine

open Sys2Proof Sys2Proof.Machine

/-- Settles O31: a vector's planes, sums and events are the model's own of the array that the completion leaves; a completion with
nothing waiting ends in the row-sum check's verdict. -/
theorem vectorsOnArrays : Obligations.VectorsOnArrays := by
  intro s p a ring slot stream index vec
  refine ⟨fun acts scale => ⟨fun h => ?_, fun h => ?_⟩, fun ecc h => ?_, ?_, fun h => ?_, ?_, State.judge_of_none,
    State.judge_of_waits, ?_⟩
  · rw [exec_ringLoad, stepRingLoad_of_slot h]
  · rw [exec_ringLoad, stepRingLoad_of_no_slot h]
  · rw [exec_vector, stepVector_of_not_compute h]
  · rintro ecc start limit u t c full planes flagged v late compute ⟨w, done, hu⟩ own narrow rfl valid invalid rfl hstart hlimit hlate hv ht
    injection done with done
    subst done
    have cfg : c = u.vectorCfg p a slot stream index := by
      unfold State.vectorCfg
      split
      next h => exact narrow h
      next h => exact own (Bool.eq_false_iff.mpr h)
    have read : planes = u.vectorPlanes p a ring c := by
      unfold State.vectorPlanes
      split
      next h => exact valid h
      next h => exact invalid (Bool.eq_false_iff.mpr h)
    have sides : late = fun l o => o.flagged start limit l := funext fun l => funext fun o => hlate l o
    have started : t = u.startVector p a v planes start limit := by
      subst sides hv
      exact ht
    have steps := (exec_vector ..).trans (congrArg _ (stepVector_of_compute compute hu cfg read hstart hlimit hv))
    refine ⟨fun h => ?_, fun h => ?_⟩
    · rw [steps, if_pos h, ← started, hv]
      rfl
    · have quiet : u.vectorEvents a v planes start = [] := by
        have blank : planes = (u.fullPlanes p a ring c).map PlaneOut.blank := invalid h
        rw [State.vectorEvents, blank, filter_flagged_blank, List.map_nil]
      rw [steps, if_neg (Bool.eq_false_iff.mp h), ← started, quiet]
      simp only [List.append_nil]
      rfl
  · rw [exec_arrayVectorComplete, stepArrayVectorComplete_of_none h]
  · rintro v w u running rfl hw
    rw [exec_arrayVectorComplete, stepArrayVectorComplete_of_some running hw]
    rfl
  · intro v running empty unchecked canary spots coming queue
    have verdict := stepArrayVectorComplete_of_plain running empty unchecked canary spots coming queue
    have arr := State.finishVector_arr running empty
    have sent : Out.flits p .sum 4 (denseFlits v v.sums) ∈ (s.finishVector p a v).out := by
      rw [State.finishVector_out]
      exact List.mem_append_right _ (List.mem_singleton_self _)
    refine ⟨_, exec_arrayVectorComplete .., ?_⟩
    by_cases beyond : (s.rowCheck p a v false).2 < ((s.rowCheck p a v false).1 : Int)
    · obtain ⟨pending, -⟩ := stepArrayVectorComplete_keeps (p := p) (a := a) (.refl s)
      have arrs := State.finishVector_arrs running empty
      rw [verdict, if_pos beyond] at pending ⊢
      rw [State.rowsumFailure_arr arrs, State.rowsumFailure_pan arrs, State.rowsumFailure_rowsum, State.rowsumFailure_fab, arr,
        ← State.finishVector_rowsumFails running]
      exact ⟨rfl, rfl, rfl, rfl, State.mem_rowsumFailure_out sent, pending,
        fun _ h => (State.rowsumFailure_pan_ne h).trans (State.finishVector_pan_ne h), fun h => absurd h (Int.not_le.mpr beyond),
        fun _ => ⟨rfl, rfl, rfl, State.rowsumFailure_log, rfl⟩⟩
    · rw [verdict, if_neg beyond, arr]
      exact ⟨rfl, rfl, rfl, rfl, sent, State.finishVector_pending, fun _ => State.finishVector_pan_ne,
        fun _ => ⟨State.finishVector_chk, State.finishVector_fab, State.finishVector_rowsumFails running⟩,
        fun h => absurd h beyond⟩
end

section
/-! PROOF. The layer clamp monitor: the close of a slot's window, the policy actions, the layer copy and RESTORE, and O29 from them
(04 R107, R108, R125). -/

namespace Sys2Proof.Machine

theorem exec_clampWindowClose (s : State) : exec .clampWindowClose s = .next (stepClampWindowClose s) := rfl
theorem exec_clampPolicyAction (slot : Nat) (s : State) : exec (.clampPolicyAction slot) s = .next (stepClampPolicyAction slot s) := rfl
theorem exec_dleLayerCopyComplete (slot : Nat) (verified : Bool) (s : State) :
    exec (.dleLayerCopyComplete slot verified) s = .next (stepDleLayerCopyComplete slot verified s) := rfl

section Slot

/-- The running window's share of CLAMPED vectors is above THRESH (04 R107). -/
def ClampSlot.exceeds (c : ClampSlot) : Bool := c.valid && decide (c.thresh.toNat * c.cntVec.toNat < c.cntClamped.toNat * 65536)

/-- The running counts move to the registers and start anew; HIGH is set, or keeps its value. -/
def ClampSlot.roll (high : Bool) (c : ClampSlot) : ClampSlot :=
  { c with vec := c.cntVec, clamped := c.cntClamped, cntVec := 0, cntClamped := 0, high := c.high || high }

/-- The slot may start its policy's action: it runs in its arrays, no action runs, and its policy has one (04 R108). -/
def ClampSlot.canStart (c : ClampSlot) : Bool :=
  c.actionDue.isNone && !c.copying && c.placed == .image && (c.policy == 1 || c.policy == 2)

/-- A slot's policy action is due 2 ticks after the tick k. -/
def ClampSlot.start (k : Nat) (c : ClampSlot) : ClampSlot := { c with actionDue := some (c.policy, k + 2), placed := .running }

/-- A slot after the window that closes in tick k. -/
def ClampSlot.close (k : Nat) (c : ClampSlot) : ClampSlot :=
  if c.exceeds then if c.canStart then (c.roll c.exceeds).start k else c.roll c.exceeds else c.roll c.exceeds

/-- What the close of a window in tick k makes of one slot. -/
def State.closeSlot (k : Nat) (s : State) (l : Nat) : State :=
  let c := s.dev.clamp l
  let t := s.updClamp l (·.roll c.exceeds)
  if c.exceeds then
    let t := t.logEvent 0x31 0 0 l c.cntClamped.toNat
    if c.canStart then t.updClamp l (·.start k) else t
  else t

section Close
variable (k : Nat) (c : ClampSlot)

theorem ClampSlot.close_counts : (c.close k).vec = c.cntVec ∧ (c.close k).clamped = c.cntClamped ∧ (c.close k).cntVec = 0 ∧
    (c.close k).cntClamped = 0 := by
  unfold ClampSlot.close
  (repeat' split) <;> exact ⟨rfl, rfl, rfl, rfl⟩

theorem ClampSlot.close_high : (c.close k).high = (c.high || c.exceeds) := by
  unfold ClampSlot.close
  (repeat' split) <;> rfl

theorem ClampSlot.close_action : ((c.close k).actionDue, (c.close k).placed) =
    if c.exceeds && c.canStart then (some (c.policy, k + 2), .running) else (c.actionDue, c.placed) := by
  unfold ClampSlot.close
  cases c.exceeds <;> cases c.canStart <;> rfl
end Close

variable {s : State} {k l m : Nat}

theorem State.updClamp_clamp_self {f : ClampSlot → ClampSlot} (h : Sparse.wf ClampSlot.reset s.dev.fab.clamps = true) :
    (s.updClamp l f).dev.clamp l = f (s.dev.clamp l) := Sparse.get_upd_self _ h

theorem State.updClamp_clamp_ne {f : ClampSlot → ClampSlot} (h : m ≠ l) : (s.updClamp l f).dev.clamp m = s.dev.clamp m :=
  Sparse.get_upd_ne _ h

@[simp] theorem State.logEvent_clamp (code kind unit a b : Nat) : (s.logEvent code kind unit a b).dev.clamp m = s.dev.clamp m := by
  rw [Dev.clamp, State.logEvent_fab, Dev.clamp]

theorem State.updClamp_wf {f : ClampSlot → ClampSlot} (h : Sparse.wf ClampSlot.reset s.dev.fab.clamps = true) :
    Sparse.wf ClampSlot.reset (s.updClamp l f).dev.fab.clamps = true := Sparse.wf_upd _ h

theorem State.closeSlot_wf (h : Sparse.wf ClampSlot.reset s.dev.fab.clamps = true) :
    Sparse.wf ClampSlot.reset (s.closeSlot k l).dev.fab.clamps = true := by
  unfold State.closeSlot
  extract_lets c t u
  have rolled : Sparse.wf ClampSlot.reset t.dev.fab.clamps = true := State.updClamp_wf h
  have logged : Sparse.wf ClampSlot.reset u.dev.fab.clamps = true := by rwa [State.logEvent_fab]
  split
  · split
    · exact State.updClamp_wf logged
    · exact logged
  · exact rolled

theorem State.closeSlot_clamp_self (h : Sparse.wf ClampSlot.reset s.dev.fab.clamps = true) :
    (s.closeSlot k l).dev.clamp l = (s.dev.clamp l).close k := by
  unfold State.closeSlot ClampSlot.close
  extract_lets c t u
  have rolled : t.dev.clamp l = c.roll c.exceeds := State.updClamp_clamp_self h
  have wf : Sparse.wf ClampSlot.reset u.dev.fab.clamps = true := by rw [State.logEvent_fab]; exact State.updClamp_wf h
  have logged : u.dev.clamp l = c.roll c.exceeds := by rwa [State.logEvent_clamp]
  rw [apply_ite (fun t : State => t.dev.clamp l), apply_ite (fun t : State => t.dev.clamp l), State.updClamp_clamp_self wf, logged, rolled]

theorem State.closeSlot_clamp_ne (h : m ≠ l) : (s.closeSlot k l).dev.clamp m = s.dev.clamp m := by
  unfold State.closeSlot
  extract_lets c t u
  have rolled : t.dev.clamp m = s.dev.clamp m := State.updClamp_clamp_ne h
  have logged : u.dev.clamp m = s.dev.clamp m := by rwa [State.logEvent_clamp]
  split
  · split
    · rwa [State.updClamp_clamp_ne h]
    · exact logged
  · exact rolled

/-- What the close of a slot leaves: the window's tick, the host side and the pans. -/
def State.besideClamps (s : State) : Nat × Srv × Sparse Pan := (s.dev.fab.windowTick, s.dev.srv, s.dev.pans)

theorem State.closeSlot_besideClamps : (s.closeSlot k l).besideClamps = s.besideClamps := by
  unfold State.closeSlot
  extract_lets c t u
  have logged : u.besideClamps = s.besideClamps := by
    simp only [State.besideClamps, u, State.logEvent_fab, State.logEvent_srv, State.logEvent_pans]
    rfl
  split
  · split
    · exact logged
    · exact logged
  · rfl
end Slot

section Window
variable {s : State} {k l : Nat} {ls : List Nat}

theorem State.each_closeSlot_clamp_of_not_mem (h : l ∉ ls) : (s.each ls (State.closeSlot k)).dev.clamp l = s.dev.clamp l := by
  induction ls generalizing s with
  | nil => rfl
  | cons a ls ih =>
    exact (ih (List.not_mem_of_not_mem_cons h)).trans (State.closeSlot_clamp_ne (List.ne_of_not_mem_cons h))

/-- Closing each of several slots once closes each of them as it was. -/
theorem State.each_closeSlot_clamp (h : Sparse.wf ClampSlot.reset s.dev.fab.clamps = true) (hn : ls.Nodup) (hl : l ∈ ls) :
    (s.each ls (State.closeSlot k)).dev.clamp l = (s.dev.clamp l).close k := by
  induction ls generalizing s with
  | nil => exact absurd hl List.not_mem_nil
  | cons a ls ih =>
    obtain ⟨hfirst, hrest⟩ := List.nodup_cons.mp hn
    rcases List.mem_cons.mp hl with rfl | hmem
    · exact (State.each_closeSlot_clamp_of_not_mem hfirst).trans (State.closeSlot_clamp_self h)
    · have hne : l ≠ a := ne_of_mem_of_not_mem hmem hfirst
      exact (ih (State.closeSlot_wf h) hrest hmem).trans (by rw [State.closeSlot_clamp_ne hne])

theorem stepClampWindowClose_of_end (h : s.tick % 1024 = 0) (hw : s.dev.fab.windowTick < s.tick) :
    stepClampWindowClose s = (s.updFab (fun b => { b with windowTick := s.tick })).each layerSlots (State.closeSlot s.tick) := by
  unfold stepClampWindowClose
  exact if_pos ⟨h, hw⟩

theorem stepClampWindowClose_of_not_end (h : s.tick % 1024 ≠ 0) : stepClampWindowClose s = s := if_neg fun e => h e.1

theorem stepClampWindowClose_besideClamps (h : s.tick % 1024 = 0) (hw : s.dev.fab.windowTick < s.tick) :
    (stepClampWindowClose s).besideClamps = (s.tick, s.dev.srv, s.dev.pans) := by
  rw [stepClampWindowClose_of_end h hw, State.each_leaves State.besideClamps _ fun _ _ => State.closeSlot_besideClamps]
  rfl

theorem stepClampWindowClose_clamp (h : s.tick % 1024 = 0) (hw : s.dev.fab.windowTick < s.tick)
    (hc : Sparse.wf ClampSlot.reset s.dev.fab.clamps = true) (hl : l < 16) :
    (stepClampWindowClose s).dev.clamp l = (s.dev.clamp l).close s.tick := by
  rw [stepClampWindowClose_of_end h hw]
  exact State.each_closeSlot_clamp (s := s.updFab (fun b => { b with windowTick := s.tick })) hc List.nodup_range (List.mem_range.mpr hl)
end Window

section Policy
variable {s : State} {slot k : Nat} {pol : BitVec 2}

theorem stepClampPolicyAction_of_waiting (h : (s.dev.clamp slot).actionDue = some (pol, k)) (hw : s.tick < k ∨ s.dev.ws.state = 5) :
    stepClampPolicyAction slot s = s := by
  simp only [stepClampPolicyAction, h]
  exact if_pos (by simpa using hw)

theorem State.not_waiting_of_due (hk : k ≤ s.tick) (hs : s.dev.ws.state ≠ 5) : ¬ (s.tick < k || s.dev.ws.state == 5) = true := by
  simpa using ⟨hk, hs⟩

theorem stepClampPolicyAction_of_dle (h : (s.dev.clamp slot).actionDue = some (2, k)) (hk : k ≤ s.tick) (hs : s.dev.ws.state ≠ 5) :
    stepClampPolicyAction slot s = if s.dev.ws.copy.isSome then s.updClamp slot (fun c => { c with actionDue := none, placed := .dle })
      else s.updClamp slot (fun c => { c with actionDue := none, copying := true }) := by
  simp only [stepClampPolicyAction, h]
  exact if_neg (State.not_waiting_of_due hk hs)

theorem stepClampPolicyAction_of_narrow {l : List (Nat × Nat)} (h : (s.dev.clamp slot).actionDue = some (1, k)) (hk : k ≤ s.tick)
    (hs : s.dev.ws.state ≠ 5) (hl : l = (s.dev.slotArrays slot).filter (fun pa => (s.arr pa.1 pa.2).cfg.wide)) :
    stepClampPolicyAction slot s = ((s.setWide l false).turnBank (some slot)).updClamp slot
      (fun c => { c with actionDue := none, placed := .narrow, narrowed := l }) := by
  subst hl
  simp only [stepClampPolicyAction, h]
  exact if_neg (State.not_waiting_of_due hk hs)
end Policy

section Copy
variable {s : State} {slot : Nat} {verified : Bool}

/-- The payload in service, as the weight store holds it: what a layer's copy is made of (04 R108). -/
def Ws.served (w : Ws) : Option Payload := w.store.find? (fun p => p.own && !p.pending && decide (p.epoch = w.epoch))

theorem stepDleLayerCopyComplete_of_no_copy (h : (s.dev.clamp slot).copying = false) : stepDleLayerCopyComplete slot verified s = s := by
  simp only [stepDleLayerCopyComplete, h, Bool.false_eq_true, if_false]

theorem stepDleLayerCopyComplete_of_good {p : Payload} (h : (s.dev.clamp slot).copying = true) (hp : s.dev.ws.served = some p) :
    stepDleLayerCopyComplete slot true s =
      (s.updWs (fun w => { w with layerCopy := Tab.put w.layerCopy slot { p with phys := [] } })).updClamp slot
        (fun c => { c with copying := false, placed := .dle }) := by
  unfold Ws.served at hp
  simp only [stepDleLayerCopyComplete, h, hp, if_true]

theorem stepDleLayerCopyComplete_of_bad (h : (s.dev.clamp slot).copying = true) (hb : verified = false ∨ s.dev.ws.served = none) :
    stepDleLayerCopyComplete slot verified s = s.updClamp slot (fun c => { c with copying := false, placed := .image }) := by
  have missing : (if verified then s.dev.ws.served else none) = none := by rcases hb with hb | hb <;> simp [hb]
  unfold Ws.served at missing
  simp only [stepDleLayerCopyComplete, h, missing, if_true]
end Copy

end Sys2Proof.Machine

open Sys2Proof Sys2Proof.Machine

/-- Settles O29: the close leaves each slot as its own close of what it counted; the actions and copies by their conditions. -/
theorem clampMonitor : Obligations.ClampMonitor := by
  intro s slot
  refine ⟨fun hc h hw => ?_, fun h => ?_, fun pol k h hw => ?_, fun k h hk hs hcopy => ?_, fun k h hk hs hcopy => ?_,
    fun k l h hk hs hl => ?_, fun p h hp => ?_, fun verified h hb => ?_, fun verified h => ?_, rfl⟩
  · have beside := stepClampWindowClose_besideClamps h hw
    refine ⟨_, exec_clampWindowClose s, congrArg Prod.fst beside, congrArg (·.2.1) beside, congrArg (·.2.2) beside, fun l hl => ?_⟩
    obtain ⟨hvec, hclamped, hcntVec, hcntClamped⟩ := (s.dev.clamp l).close_counts s.tick
    rw [stepClampWindowClose_clamp h hw hc hl]
    refine ⟨hvec, hclamped, hcntVec, hcntClamped, ?_⟩
    rintro c high rfl rfl
    refine ⟨ClampSlot.close_high .., ?_⟩
    rw [ClampSlot.close_action]
    simp only [ClampSlot.exceeds, ClampSlot.canStart, Bool.and_assoc]
  · rw [exec_clampWindowClose, stepClampWindowClose_of_not_end h]
  · rw [exec_clampPolicyAction, stepClampPolicyAction_of_waiting h hw]
  · rw [exec_clampPolicyAction, stepClampPolicyAction_of_dle h hk hs, if_pos hcopy]
  · rw [exec_clampPolicyAction, stepClampPolicyAction_of_dle h hk hs, hcopy]; rfl
  · rw [exec_clampPolicyAction, stepClampPolicyAction_of_narrow h hk hs hl]
  · rw [exec_dleLayerCopyComplete, stepDleLayerCopyComplete_of_good h hp]
  · rw [exec_dleLayerCopyComplete, stepDleLayerCopyComplete_of_bad h hb]
  · rw [exec_dleLayerCopyComplete, stepDleLayerCopyComplete_of_no_copy h]
end

section
/-! PROOF. The array checks: SPOT and a content failure leave the queue of commands, and the refutation of O33 (04 R111, R112; 11 R338,
R339). -/

namespace Sys2Proof.Machine

theorem exec_spot (p a eligible : Nat) (s : State) : exec (.spot p a eligible) s = .next (stepSpot p a eligible s) := rfl

theorem stepSpot_pending (p a eligible : Nat) (s : State) : (stepSpot p a eligible s).pending = s.pending :=
  (stepSpot_keeps (.refl s)).1

theorem State.contentFailure_pending (p a row : Nat) (s : State) : (s.contentFailure p a row).pending = s.pending :=
  (State.contentFailure_keeps (.refl s)).1

/-- A vector that an array has done in tick 0. -/
def doneVec : RunVec :=
  { slot := 0, stream := 1, index := 0, vec := 0, ring := 0, cfg := { mode := .compute }, last := 0, scale := 0, sums := [], y := 0,
    adds := [], tick := 0, clamped := [], checked := false, invalid := false, poison := false }

/-- Array 0 of pan 0 is in COMPUTE and has that vector done; no command waits. -/
def spotState : State := State.reset.updArr 0 0 (fun x => { x with cfg := { mode := .compute }, done := [doneVec] })

/-- The same state with a command that waits. -/
def spotStateQueued : State := { spotState with pending := [.tickBoundary] }

/-- The first word of the spot draw of array 0 of pan 0 in tick 0 (04 R111). -/
def spotDraw : Nat := (gen spotState.dev.fab.spotKeyInForce (BitVec.ofNat 64 (spotState.tick * 65536 + 0 * 8 + 0))).toNat

/-- A column that is not the drawn one. -/
def wrongColumn : Nat := spotDraw % doneVec.cfg.fmt.cols + 1

/-- With a vector drawn, and another column than the drawn one, the premise on the recompute's outcome says nothing. -/
theorem wrongColumn_ne (v : RunVec) (hv : [doneVec][spotDraw / 65536 % [doneVec].length]? = some v) :
    wrongColumn ≠ spotDraw % v.cfg.fmt.cols := by
  obtain rfl : v = doneVec := List.mem_singleton.mp (List.mem_of_getElem? hv)
  exact Nat.succ_ne_self _

end Sys2Proof.Machine

open Sys2Proof Sys2Proof.Machine

/-- Refutes O33: the column j is bound outside the premise that ties the state u before the rows to the recompute of the drawn column.
For another j nothing ties u to s: SPOT of an array with one vector done would have to answer from a state with a waiting command,
which SPOT does not make. -/
theorem not_arrayChecks : ¬ Obligations.ArrayChecks := by
  intro h
  obtain ⟨-, -, spot, -⟩ := h spotState 0 0 1
  have turn : spotState.dev.fab.spotTurn spotState.tick 0 = true := by decide
  have compute : (spotState.arr 0 0).cfg.mode = .compute := by decide
  have drawn : [doneVec] = ((spotState.arr 0 0).done.filter (fun v => v.tick == spotState.tick)).take 1 := by decide
  have queue : (stepSpot 0 0 1 spotState).pending = [] := stepSpot_pending 0 0 1 spotState
  obtain ⟨-, rows⟩ := spot spotDraw wrongColumn [doneVec] spotStateQueued turn compute drawn rfl
    (fun empty => absurd empty (List.cons_ne_nil _ _)) (fun v _ _ hv hj => absurd hj (wrongColumn_ne v hv))
  obtain ⟨right, wrong⟩ := rows (.inl (List.cons_ne_nil _ _))
  rw [exec_spot] at right wrong
  cases bad : badRow (spotStateQueued.pan 0) 0 (spotState.arr 0 0) with
  | none =>
    injection right bad with e
    rw [e] at queue
    exact List.cons_ne_nil _ _ queue
  | some row =>
    injection wrong row bad with e
    rw [e, State.contentFailure_pending] at queue
    exact List.cons_ne_nil _ _ queue
end

section
/-! PROOF. The digital layer engine: attention of a position, its faults, a matrix for the positions of a pass, and O37 from them
(04 R108, R114, R115, R117, R118, R122, R123; 11 R342, R344). -/

namespace Sys2Proof.Machine

theorem exec_dleAttention (st i slot : Nat) (blocks : List Nat) (len : Nat) (q : List W16) (fault : Option (Nat × DleFault)) (s : State) :
    exec (.dleAttention st i slot blocks len q fault) s = .next (stepDleAttention st i slot blocks len q fault s) := rfl
theorem exec_dleTier2Pass (slot name : Nat) (arrays : List (Nat × Nat)) (acts : List (Nat × Nat × W16 × List Byte))
    (fault : Option (Nat × DleFault)) (s : State) :
    exec (.dleTier2Pass slot name arrays acts fault) s = .next (stepDleTier2Pass slot name arrays acts fault s) := rfl

section Serving
variable {s : State} {j : AttnJob}

/-- A position that a return waited for is waited for no longer: its attention comes (04 R117). -/
def State.endWait (s : State) (st i : Nat) : State :=
  s.updDle (fun d => { d with attnWait := d.attnWait.filter (fun e => e != (st, i)) })

theorem State.serveHeld_of_waiting (h : s.dev.dle.attnWait ≠ []) : s.serveHeld = s :=
  if_neg (mt List.isEmpty_iff.mp h)

theorem State.serveHeld_of_none_waiting (h : s.dev.dle.attnWait = []) :
    s.serveHeld = (s.updDle (fun d => { d with attnHeld := [] })).each s.dev.dle.attnHeld State.runAttention :=
  if_pos (List.isEmpty_iff.mpr h)

theorem stepDleAttention_eq (j : AttnJob) (s : State) :
    stepDleAttention j.stream j.index j.slot j.blocks j.len j.q j.fault s =
      if s.dev.dle.attnWait = [] ∨ (j.stream, j.index) ∈ s.dev.dle.attnWait
      then ((s.endWait j.stream j.index).runAttention j).serveHeld
      else s.updDle (fun d => { d with attnHeld := d.attnHeld ++ [j] }) := by
  simp only [stepDleAttention, Bool.or_eq_true, List.isEmpty_iff, List.contains_iff_mem, State.endWait]
end Serving

section Faults
variable (s : State)

/-- A cluster's fault on a position, if there is one (04 R122). -/
def State.takeDleFault (s : State) (st i : Nat) : Option (Nat × DleFault) → State
  | some (c, f) => s.dleFault st i c f
  | none => s

/-- A cluster's fault on the positions of a pass: a corrected error counts once, any other takes each position (11 R342). -/
def State.takePassFault (s : State) (acts : List (Nat × Nat × W16 × List Byte)) : Option (Nat × DleFault) → State
  | some (c, .ce) => s.dleFault 0 0 c .ce
  | some (c, f) => s.each acts (fun t a => t.dleFault a.1 a.2.1 c f)
  | none => s

@[simp] theorem State.failWork_poisonBlocks (st i result cause kind unit : Nat) :
    (s.failWork st i result cause kind unit).dev.fab.poisonBlocks = s.dev.fab.poisonBlocks := rfl

@[simp] theorem State.failEvent_fab (kind unit cause : Nat) : (s.failEvent kind unit cause).dev.fab = s.dev.fab := by
  obtain ⟨_, _, e⟩ := s.failEvent_eq kind unit cause
  rw [e, State.updChk_fab]

@[simp] theorem State.dleNumeric_poisonBlocks (st i : Nat) : (s.dleNumeric st i).dev.fab.poisonBlocks = s.dev.fab.poisonBlocks := by
  simp [State.dleNumeric, State.numericFault]

@[simp] theorem State.poisonWork_poisonBlocks (st i result : Nat) :
    (s.poisonWork st i result).dev.fab.poisonBlocks = s.dev.fab.poisonBlocks := by
  simp only [State.poisonWork, State.failWork_poisonBlocks, State.logEvent_fab]
  rfl

@[simp] theorem State.takeDleFault_poisonBlocks (st i : Nat) (f : Option (Nat × DleFault)) :
    (s.takeDleFault st i f).dev.fab.poisonBlocks = s.dev.fab.poisonBlocks := by
  rcases f with _ | ⟨c, f⟩
  · rfl
  · cases f <;> simp [State.takeDleFault, State.dleFault]
end Faults

section Attention
variable {s : State} {j : AttnJob} {l : LayerRec}

/-- Tokens that a position attends to: up to its own in a decoder, the whole input in an encoder (04 R115, R116). -/
def Dev.attnSpan (d : Dev) (j : AttnJob) : Nat := if bitAt (d.ws.img.getD {}).flags 3 then j.len else j.index + 1

/-- The pool block and the slot in it of each token that a position attends to. -/
def AttnJob.context (j : AttnJob) (n : Nat) : List (Nat × Nat) := (List.range n).map (fun t => (j.blocks.getD (t / 64) 4194304, t % 64))

/-- The result of each query head of a position; none with a NaN score (04 R115). -/
def Dev.attnHeads (d : Dev) (l : LayerRec) (j : AttnJob) (n : Nat) : List (Option (List W16)) :=
  (List.range (j.q.length / l.headDim)).map (fun h => d.headAttention l j.slot (j.context n) (h * l.kvHeads / max 1 (j.q.length / l.headDim))
    (((j.q.map bf16To32).drop (h * l.headDim)).take l.headDim))

/-- MAC slots of a position's attention over n tokens whose heads hold `per` elements (04 Table 4-3). -/
def Dev.attnMacs (d : Dev) (n per : Nat) : Nat := n * ((if d.kvBits = 8 then per else per / 2) + per)

/-- The heads' results stand for return, counted with their MAC slots (04 R115, R126). -/
def State.keepAttention (s : State) (j : AttnJob) (l : LayerRec) (macs : Nat) (outs : List (Option (List W16))) : State :=
  (s.dleWork macs).updDle (fun d => { d with
    attnPos := d.attnPos + 1,
    attnOut := d.attnOut.filter (fun e => !(e.1 == j.stream && e.2.1 == j.index)) ++
      [(j.stream, j.index, outs.flatMap (fun o => o.getD (List.replicate l.headDim 0x7FC0)))] })

theorem State.runAttention_of_idle (h : s.dev.ws.layer j.slot = none ∨ s.dev.dle.onlineCount = 0) : s.runAttention j = s := by
  unfold State.runAttention
  split
  · rfl
  next l hl =>
    have offline := h.resolve_left (hl ▸ Option.some_ne_none l)
    exact if_pos (.inl offline)

/-- Attention of a position that a cluster computes: its results, a NaN score's numeric fault, the cluster's fault, then the context's
poison, which none of these changes (04 R115, R122; 11 R344). -/
theorem State.runAttention_of_online {n : Nat} {u v w : State} (hl : s.dev.ws.layer j.slot = some l) (hon : s.dev.dle.onlineCount ≠ 0)
    (hd : l.headDim ≠ 0) (hn : n = s.dev.attnSpan j)
    (hu : u = s.keepAttention j l (s.dev.attnMacs n (j.q.length / l.headDim * l.headDim)) (s.dev.attnHeads l j n))
    (hv : v = if (s.dev.attnHeads l j n).any Option.isNone then u.dleNumeric j.stream j.index else u)
    (hw : w = v.takeDleFault j.stream j.index j.fault) :
    s.runAttention j =
      if ∃ c ∈ j.context n, c.1 ∈ s.dev.fab.poisonBlocks then w.poisonWork j.stream j.index 3 else w := by
  have blocks : w.dev.fab.poisonBlocks = s.dev.fab.poisonBlocks := by
    rw [hw, State.takeDleFault_poisonBlocks, hv, apply_ite (fun t : State => t.dev.fab.poisonBlocks), State.dleNumeric_poisonBlocks, ite_self, hu]
    rfl
  have run : s.runAttention j =
      if (j.context n).any (fun c => w.dev.fab.poisonBlocks.contains c.1) then w.poisonWork j.stream j.index 3 else w := by
    unfold State.runAttention
    rw [hl]
    subst hw hv hu hn
    exact if_neg (not_or.mpr ⟨hon, hd⟩)
  simp only [run, blocks, List.any_eq_true, List.contains_iff_mem]
end Attention

section Outputs
variable {d : Dev} {slot : Nat} {m : MatDesc} {arrays : List (Nat × Nat)} {acts : List (Nat × Nat × W16 × List Byte)}

/-- What a matrix gives for each position of a pass. -/
def MatDesc.outputs (m : MatDesc) (slot : Nat) (acts : List (Nat × Nat × W16 × List Byte)) (f : W16 → List Byte → List W32) : List DleOut :=
  acts.map (fun a => ⟨slot, m.name, a.1, a.2.1, f a.2.2.1 a.2.2.2⟩)

theorem Dev.dleOutputs_of_place_one (h : m.place = 1) : d.dleOutputs slot m arrays acts =
    (Tab.find d.dle.mats m.sect).map (fun y => m.outputs slot acts (dleApply m y.bytes)) := if_pos h

theorem Dev.dleOutputs_of_place_two (h : m.place = 2) : d.dleOutputs slot m arrays acts =
    (Tab.find d.dle.tier2 m.sect).map (fun y => m.outputs slot acts (tier2Apply m (d.wideLayer slot)
      (fun k => sliceAt y.bytes (k * tier2Stride (fmtOf m.fmt)) (tier2Stride (fmtOf m.fmt))))) := by
  have other : m.place ≠ 1 := by omega
  exact (if_neg other).trans (if_pos h)

theorem Dev.dleOutputs_of_not_switched (h1 : m.place ≠ 1) (h2 : m.place ≠ 2) (h : (d.clamp slot).placed ≠ .dle ∨ arrays = []) :
    d.dleOutputs slot m arrays acts = none := by
  refine (if_neg h1).trans ((if_neg h2).trans (if_neg ?_))
  rintro ⟨placed, named⟩
  rcases h with h | h
  · exact h placed
  · simp [h] at named

theorem Dev.dleOutputs_of_switched (h1 : m.place ≠ 1) (h2 : m.place ≠ 2) (hp : (d.clamp slot).placed = .dle) (ha : arrays ≠ []) :
    d.dleOutputs slot m arrays acts = some (m.outputs slot acts (tier2Apply m (d.wideLayer slot)
      (fun k => (arrays[k]?.map (fun e => d.switchedBytes slot (fmtOf m.fmt) e.1 e.2)).getD []))) := by
  have named : (!arrays.isEmpty) = true := by simpa using ha
  refine (if_neg h1).trans ((if_neg h2).trans ((if_pos ⟨hp, named⟩).trans ?_))
  refine congrArg (fun src => some (m.outputs slot acts (tier2Apply m (d.wideLayer slot) src))) (funext fun k => ?_)
  cases arrays[k]? <;> rfl
end Outputs

section Pass
variable {s : State} {slot name : Nat} {m : MatDesc} {arrays : List (Nat × Nat)} {acts : List (Nat × Nat × W16 × List Byte)}
  {fault : Option (Nat × DleFault)} {outs : List DleOut}

/-- The outputs of a pass stand in place of earlier ones of the same positions, counted with their MAC slots (04 R118, R126). -/
def State.keepOutputs (s : State) (m : MatDesc) (n : Nat) (outs : List DleOut) : State :=
  (s.dleWork (m.rows * m.cols * n)).updDle (fun d => { d with
    tier2Passes := if m.place = 1 then d.tier2Passes else d.tier2Passes + 1,
    outs := d.outs.filter (fun e =>
      !outs.any (fun o => o.slot == e.slot && o.name == e.name && o.stream == e.stream && o.index == e.index)) ++ outs })

theorem stepDleTier2Pass_of_nothing (h : s.dev.descOf slot name = none ∨ s.dev.dle.onlineCount = 0) :
    stepDleTier2Pass slot name arrays acts fault s = s := by
  unfold stepDleTier2Pass
  split
  · rfl
  next m hm => rw [if_pos (h.resolve_left (hm ▸ Option.some_ne_none m))]

theorem stepDleTier2Pass_of_no_outputs (hm : s.dev.descOf slot name = some m) (h : s.dev.dleOutputs slot m arrays acts = none) :
    stepDleTier2Pass slot name arrays acts fault s = s := by
  simp only [stepDleTier2Pass, hm, h, ite_self]

theorem stepDleTier2Pass_of_outputs (hm : s.dev.descOf slot name = some m) (hon : s.dev.dle.onlineCount ≠ 0)
    (h : s.dev.dleOutputs slot m arrays acts = some outs) :
    stepDleTier2Pass slot name arrays acts fault s =
      ((s.keepOutputs m acts.length outs).each (outs.filter (fun o => !allFinite o.out)) (fun t o =>
        t.dleNumeric o.stream o.index)).takePassFault acts fault := by
  simp only [stepDleTier2Pass, hm, if_neg hon, h]
  rcases fault with _ | ⟨c, f⟩
  · rfl
  · cases f <;> rfl
end Pass

end Sys2Proof.Machine

open Sys2Proof Sys2Proof.Machine

/-- Settles O37: attention is the model's own of the job, run or held; a pass keeps the outputs of its matrix, then takes its faults. -/
theorem layerEngine : Obligations.LayerEngine := by
  intro s st i slot name len blocks q fault arrays acts j hj
  obtain ⟨rfl, rfl, rfl, rfl, rfl, rfl, rfl⟩ : st = j.stream ∧ i = j.index ∧ slot = j.slot ∧ blocks = j.blocks ∧ len = j.len ∧
      q = j.q ∧ fault = j.fault := by rw [hj]; exact ⟨rfl, rfl, rfl, rfl, rfl, rfl, rfl⟩
  have attention := (exec_dleAttention ..).trans (congrArg Host.Outcome.next (stepDleAttention_eq j s))
  refine ⟨fun hw hn => ?_, ?_, State.runAttention_of_idle, ?_, fun h => ?_, ?_⟩
  · rw [attention, if_neg (not_or.mpr ⟨hw, hn⟩)]
  · rintro u hw rfl
    rw [attention, if_pos hw]
    exact ⟨fun h => congrArg _ (State.serveHeld_of_waiting h), fun h => congrArg _ (State.serveHeld_of_none_waiting h)⟩
  · rintro l n ctx heads outs per u v w hl hon hd decoder encoder rfl rfl rfl rfl hu sound nan noFault residue ue ce
    have span : n = s.dev.attnSpan j := by
      unfold Dev.attnSpan
      split
      next h => exact encoder h
      next h => exact decoder (Bool.eq_false_iff.mpr h)
    have scored : v = if (s.dev.attnHeads l j n).any Option.isNone then u.dleNumeric j.stream j.index else u := by
      split
      next h => exact nan h
      next h => exact sound (Bool.eq_false_iff.mpr h)
    have faulted : w = v.takeDleFault j.stream j.index j.fault := by
      cases hf : j.fault with
      | none => exact noFault hf
      | some e =>
        obtain ⟨c, kind⟩ := e
        cases kind with
        | residue => exact residue c hf
        | ue => exact ue c hf
        | ce => exact ce c hf
    have run := State.runAttention_of_online hl hon hd span hu scored faulted
    exact ⟨fun h => run.trans (if_neg fun ⟨c, hc, hp⟩ => h c hc hp), fun h => run.trans (if_pos h)⟩
  · rw [exec_dleTier2Pass, stepDleTier2Pass_of_nothing h]
  · intro m out hm hout
    obtain rfl : out = m.outputs j.slot acts := funext hout
    refine ⟨Dev.dleOutputs_of_place_one, Dev.dleOutputs_of_place_two, Dev.dleOutputs_of_not_switched, Dev.dleOutputs_of_switched,
      fun h => ?_, ?_⟩
    · rw [exec_dleTier2Pass, stepDleTier2Pass_of_no_outputs hm h]
    · rintro outs u v h hon rfl rfl
      rw [exec_dleTier2Pass, stepDleTier2Pass_of_outputs hm hon h]
      refine ⟨fun hf => ?_, fun c hf => ?_, fun c hf => ?_, fun c hf => ?_⟩ <;> rw [hf] <;> rfl
end

section
/-! PROOF. The tick period: a write ignored, refused or taken, the change at its tick, and O8 from them (05 R142, R148; 00 R16). -/

namespace Sys2Proof.Machine

theorem exec_tickPeriodWrite (p : Nat) (s : State) : exec (.tickPeriodWrite p) s = .next (stepTickPeriodWrite p s) := rfl
theorem exec_periodChangeEffect (s : State) : exec .periodChangeEffect s = .next (stepPeriodChangeEffect s) := rfl

section Period
variable {s : State} {p : Nat}

theorem Time.changePending_of_none {t : Time} (h : t.pend = none) : t.changePending = false := by simp only [Time.changePending, h]

theorem stepTickPeriodWrite_of_ignored (h : s.dev.master = false ∨ 64 < p) : stepTickPeriodWrite p s = s :=
  if_pos (by simpa using h)

theorem stepTickPeriodWrite_of_not_ignored (hm : s.dev.master = true) (hp : p ≤ 64) : stepTickPeriodWrite p s =
    if p < max 4 s.dev.time.minPeriod ∨ s.dev.time.changePending = true then s.updTime (fun t => { t with periodRefused := true })
    else s.updTime (fun t => { t.decideChange (some p) none with period := p }) := by
  simp [stepTickPeriodWrite, hm, Nat.not_lt.mpr hp]

theorem stepTickPeriodWrite_of_refused (hm : s.dev.master = true) (hp : p ≤ 64)
    (h : p < 4 ∨ p < s.dev.time.minPeriod ∨ s.dev.time.changePending = true) :
    stepTickPeriodWrite p s = s.updTime (fun t => { t with periodRefused := true }) := by
  rw [stepTickPeriodWrite_of_not_ignored hm hp, if_pos ?_]
  rcases h with h | h | h
  · exact .inl (Nat.lt_of_lt_of_le h (Nat.le_max_left ..))
  · exact .inl (Nat.lt_of_lt_of_le h (Nat.le_max_right ..))
  · exact .inr h

theorem stepTickPeriodWrite_of_taken (hm : s.dev.master = true) (h4 : 4 ≤ p) (hp : p ≤ 64) (hmin : s.dev.time.minPeriod ≤ p)
    (hn : s.dev.time.pend = none) : stepTickPeriodWrite p s =
      s.updTime (fun t => { t with period := p, pend := some ⟨t.tick + 17, some p, none, false⟩ }) := by
  have legal : ¬ (p < max 4 s.dev.time.minPeriod ∨ s.dev.time.changePending = true) := by
    rintro (h | h)
    · exact Nat.not_le.mpr h (Nat.max_le.mpr ⟨h4, hmin⟩)
    · exact absurd h (by simp [Time.changePending_of_none hn])
  rw [stepTickPeriodWrite_of_not_ignored hm hp, if_neg legal]
  simp only [State.updTime, Time.decideChange, hn]
end Period

section Effect
variable {s : State} {c : PendChange}

/-- The announced period and stretch come into force, and no change is pending (05 R148). -/
def State.enforce (s : State) (c : PendChange) : State :=
  s.updTime (fun t => { t with inForce := c.period.getD t.inForce, stretch := c.stretch.getD t.stretch, pend := none })

theorem State.decideStretch_of_settled (h : s.dev.master = false ∨ s.dev.largestStretch = s.dev.time.stretch) : s.decideStretch = s :=
  if_neg (by rcases h with h | h <;> simp [h])

theorem stepPeriodChangeEffect_of_due (hc : s.dev.time.pend = some c) (ht : c.effective ≤ s.tick) :
    stepPeriodChangeEffect s = (s.enforce c).decideStretch := by
  simp only [stepPeriodChangeEffect, State.applyChange, hc, if_pos ht]
  rfl

theorem stepPeriodChangeEffect_of_early (hc : s.dev.time.pend = some c) (ht : s.tick < c.effective) : stepPeriodChangeEffect s = s := by
  simp only [stepPeriodChangeEffect, hc, if_neg (Nat.not_le.mpr ht)]
end Effect

end Sys2Proof.Machine

open Sys2Proof Sys2Proof.Machine

/-- Settles O8: a write of the period is ignored, refused or taken; a due change comes into force, and no stretch change is decided
where the largest request is the stretch then in force. -/
theorem tickPeriodChange : Obligations.TickPeriodChange := by
  intro s p
  refine ⟨fun hm h4 hp hmin hn => ?_, fun hm hp h => ?_, fun h => ?_, fun c hc ht settled => ?_, fun c hc ht => ?_⟩
  · rw [exec_tickPeriodWrite, stepTickPeriodWrite_of_taken hm h4 hp hmin hn]
  · rw [exec_tickPeriodWrite, stepTickPeriodWrite_of_refused hm hp h]
  · rw [exec_tickPeriodWrite, stepTickPeriodWrite_of_ignored h]
  · rw [exec_periodChangeEffect, stepPeriodChangeEffect_of_due hc ht, State.decideStretch_of_settled (s := s.enforce c) settled]
    rfl
  · rw [exec_periodChangeEffect, stepPeriodChangeEffect_of_early hc ht]
end

section
/-! PROOF. The arbitrated edge: what a request, a loss, a freed unit, a completed transfer and a bite leave, one lemma per case, and
O46 from them (05 R129, R152 to R157; 08 R240; 12 R374, R375). -/

namespace Sys2Proof.Machine

theorem exec_arbRequest (res unit : Nat) (who : Requester) (waited : Nat) (ch : Option Nat) (s : State) :
    exec (.arbRequest res unit who waited ch) s = .next (stepArbRequest res unit who waited ch s) := rfl
theorem exec_backoffExpiry (res unit : Nat) (who : Requester) (s : State) :
    exec (.backoffExpiry res unit who) s = .next (stepBackoffExpiry res unit who s) := rfl
theorem exec_arbTransferComplete (res unit bytes : Nat) (write : Bool) (data : List Byte) (ecc : Nat) (s : State) :
    exec (.arbTransferComplete res unit bytes write data ecc) s = .next (stepArbTransferComplete res unit bytes write data ecc s) := rfl
theorem exec_arbWatchdogBite (res unit : Nat) (s : State) :
    exec (.arbWatchdogBite res unit) s = .next (stepArbWatchdogBite res unit s) := rfl
theorem exec_biteResetEnd (res : Nat) (s : State) : exec (.biteResetEnd res) s = .next (stepBiteResetEnd res s) := rfl
theorem exec_completionTimeout (res unit : Nat) (s : State) :
    exec (.completionTimeout res unit) s = .next (stepCompletionTimeout res unit s) := rfl

/-- An update of an arbiter matters only by what it makes of the arbiter that stands. -/
theorem State.updArb_congr {s : State} {r : Nat} {f g : Arb → Arb} (h : f (s.dev.arbiter r) = g (s.dev.arbiter r)) :
    s.updArb r f = s.updArb r g := by
  have same : f (Sparse.get Arb.reset s.dev.arb r) = g (Sparse.get Arb.reset s.dev.arb r) := h
  simp only [State.updArb, Sparse.upd, same]

section Ask
variable {a : Arb} {pcie : Bool} {unit u : Nat} {g h : Grant}

/-- The unit that a request contests: the engine that the PCIe DMA's arbiter picks, else the one named (12 R374). -/
def Arb.target (a : Arb) (pcie : Bool) (unit : Nat) : Nat := if pcie then a.engine else unit

/-- A request revokes the grant of an ordinary holder of lower rank, and an emergency that of a privileged one (05 R152, R153). -/
def Arb.Revokes (a : Arb) (h g : Grant) : Prop :=
  (ordinaryReq h.who = true ∧ a.rank h.who < a.rank g.who) ∨ (ordinaryReq h.who = false ∧ a.rank h.who = 4 ∧ a.rank g.who = 5)

theorem Arb.ask_of_resetting (hr : a.resetting = true) :
    a.ask pcie unit g = { a with queue := a.queue ++ [(unit, { g with waits := true })] } := if_pos hr

theorem Arb.ask_of_free (hr : a.resetting = false) (hu : u = a.target pcie unit) (hf : Tab.find a.held u = none) :
    a.ask pcie unit g = a.grant u g := by
  subst hu
  simp only [Arb.target] at hf
  simp only [Arb.ask, hr, Bool.false_eq_true, if_false, hf]
  rfl

theorem Arb.ask_of_held (hr : a.resetting = false) (hu : u = a.target pcie unit) (hh : Tab.find a.held u = some h) :
    (a.Revokes h g → a.ask pcie unit g =
      (({ a with preempts := a.preempts + 1, held := Tab.del a.held u } : Arb).lose pcie u h (!ordinaryReq h.who)).grant u g) ∧
    (¬ a.Revokes h g → a.ask pcie unit g = a.lose pcie u g (!ordinaryReq g.who || pcie)) := by
  subst hu
  simp only [Arb.target] at hh ⊢
  simp only [Arb.ask, Arb.Revokes, hr, Bool.false_eq_true, if_false, hh]
  constructor
  · rintro (⟨ho, hlt⟩ | ⟨ho, h4, h5⟩)
    · simp only [ho, hlt, if_true, decide_true]
    · simp only [ho, h4, h5, Bool.false_eq_true, if_false, if_true, decide_true, Bool.and_self]
  · intro stays
    refine if_neg fun revokes => stays ?_
    split at revokes
    next ho => exact .inl ⟨ho, of_decide_eq_true revokes⟩
    next ho =>
      obtain ⟨h4, h5⟩ := Bool.and_eq_true_iff.mp revokes
      exact .inr ⟨Bool.eq_false_iff.mpr ho, of_decide_eq_true h4, of_decide_eq_true h5⟩

theorem Arb.not_revokes (hn : (ordinaryReq h.who = true ∧ a.rank g.who ≤ a.rank h.who) ∨
    (ordinaryReq h.who = false ∧ (a.rank h.who ≠ 4 ∨ a.rank g.who ≠ 5))) : ¬ a.Revokes h g := by
  rintro (⟨ho, hlt⟩ | ⟨ho, h4, h5⟩) <;> rcases hn with ⟨hp, hle⟩ | ⟨hp, hne⟩
  · omega
  · exact absurd ho (by simp [hp])
  · exact absurd ho (by simp [hp])
  · omega
end Ask

section Serve
variable {a : Arb} {pcie : Bool} {u : Nat}

theorem Arb.serveUnit_of_busy (h : a.resetting = true ∨ (Tab.find a.held u).isSome = true) : a.serveUnit pcie u = a :=
  if_pos (by simpa using h)

theorem Arb.serveUnit_of_none_waiting (hr : a.resetting = false) (hf : Tab.find a.held u = none) (hc : a.choose pcie u = none) :
    a.serveUnit pcie u = a := by
  simp [Arb.serveUnit, hr, hf, hc]

theorem Arb.serveUnit_of_chosen (hr : a.resetting = false) (hf : Tab.find a.held u = none) {w : Grant} (hc : a.choose pcie u = some w) :
    a.serveUnit pcie u = (a.drop pcie u w).grant u w := by
  simp [Arb.serveUnit, hr, hf, hc]
end Serve

section Backoff
variable {s : State} {res unit : Nat} {who : Requester}

theorem stepBackoffExpiry_of_none
    (h : (s.dev.arbiter res).queue.find? (fun e => e.1 == unit && e.2.who == who && !e.2.waits) = none) :
    stepBackoffExpiry res unit who s = s.updArb res (fun a => a) :=
  State.updArb_congr (by simp only [h])

theorem stepBackoffExpiry_of_some {e : Nat × Grant}
    (h : (s.dev.arbiter res).queue.find? (fun e => e.1 == unit && e.2.who == who && !e.2.waits) = some e) :
    stepBackoffExpiry res unit who s = s.updArb res (fun a =>
      ({ a with queue := a.queue.filter (fun x => !(x.1 == unit && x.2.who == who && !x.2.waits)) } : Arb).ask (res == 4) unit
        { e.2 with waited := e.2.waited + backoffCycles e.2.losses }) :=
  State.updArb_congr (by simp only [h])
end Backoff

section Transfer
variable {s : State} {res unit bytes ecc : Nat} {write : Bool} {data : List Byte} {h : Grant}

/-- A state that has the count of its resource and direction is the one that the count leaves. -/
theorem State.eq_countBytes {v x : State} {n : Nat} (wr : res < 3 → write = true → x = v.updMem res (fun m => { m with wr := wrapInc m.wr n }))
    (rd : res < 3 → write = false → x = v.updMem res (fun m => { m with rd := wrapInc m.rd n })) (other : res = 3 ∨ 4 < res → x = v)
    (pcieWr : res = 4 → write = true → x = v.updPcie (fun p => { p with wr := wrapInc p.wr n }))
    (pcieRd : res = 4 → write = false → x = v.updPcie (fun p => { p with rd := wrapInc p.rd n })) : x = v.countBytes res n write := by
  rw [State.countBytes]
  split
  next hm =>
    cases write
    · exact rd hm rfl
    · exact wr hm rfl
  next hm =>
    split
    next h4 =>
      cases write
      · exact pcieRd h4 rfl
      · exact pcieWr h4 rfl
    next h4 => exact other (by omega)

theorem State.eq_eccMem {x y : State} (ce : res < 3 → ecc = 1 → y = x.updMem res (fun m => { m with ce := satInc m.ce }))
    (ue : res < 3 → 2 ≤ ecc → y = (x.updMem res (fun m => { m with ue := satInc m.ue })).logEvent 0x10 8 res 5 0)
    (clean : 3 ≤ res ∨ ecc = 0 → y = x) : y = x.eccMem res ecc := by
  rw [State.eccMem]
  split
  next h => exact ce h.1 h.2
  next =>
    split
    next h => exact ue h.1 h.2
    next => exact clean (by omega)

@[simp] theorem State.countBytes_fab (n : Nat) : (s.countBytes res n write).dev.fab = s.dev.fab := by
  unfold State.countBytes
  repeat' split
  all_goals rfl

@[simp] theorem State.eccMem_fab : (s.eccMem res ecc).dev.fab = s.dev.fab := by
  unfold State.eccMem
  repeat' split
  · rfl
  · rw [State.logEvent_fab]; rfl
  · rfl

/-- The holder's transfer is at its end: its losses are forgotten, and the unit serves the next waiting request (05 R154, R155). -/
def State.endGrant (s : State) (res unit : Nat) (h : Grant) : State :=
  s.updArb res (fun a => (({ a with held := Tab.del a.held unit } : Arb).setLosses (lossKey (res == 4) unit) h.who 0).serveUnit (res == 4) unit)

/-- The bytes of the holder's transfer are counted, no more than its class's largest (05 Table 5-8, Table 5-14). -/
def State.counted (s : State) (res unit bytes : Nat) (write : Bool) (h : Grant) : State :=
  (s.endGrant res unit h).countBytes res (min bytes (grantMax h.who.cls)) write

@[simp] theorem State.counted_fab : (s.counted res unit bytes write h).dev.fab = s.dev.fab := State.countBytes_fab _

theorem stepArbTransferComplete_of_free (hn : Tab.find (s.dev.arbiter res).held unit = none) :
    stepArbTransferComplete res unit bytes write data ecc s = s := by
  simp only [stepArbTransferComplete, hn]

theorem stepArbTransferComplete_of_write (hh : Tab.find (s.dev.arbiter res).held unit = some h) :
    stepArbTransferComplete res unit bytes true data ecc s = s.counted res unit bytes true h := by
  simp only [stepArbTransferComplete, hh, if_true]
  rfl

theorem stepArbTransferComplete_of_read (hh : Tab.find (s.dev.arbiter res).held unit = some h)
    (hf : h.who.cls ≠ 5 ∨ s.dev.fab.fetching res unit h.who.inst = none) :
    stepArbTransferComplete res unit bytes false data ecc s = (s.counted res unit bytes false h).eccMem res ecc := by
  have lands : ((s.counted res unit bytes false h).eccMem res ecc).dev.fab = s.dev.fab := by rw [State.eccMem_fab, State.counted_fab]
  simp only [State.counted, State.endGrant] at lands
  simp only [stepArbTransferComplete, hh, Bool.false_eq_true, if_false, lands]
  rcases hf with hc | hn
  · split
    · rw [if_neg hc]; rfl
    · rfl
  · rw [hn]; rfl

theorem stepArbTransferComplete_of_prefetch (hh : Tab.find (s.dev.arbiter res).held unit = some h) (hc : h.who.cls = 5) {f : Prefetch}
    (hf : s.dev.fab.fetching res unit h.who.inst = some f) : stepArbTransferComplete res unit bytes false data ecc s =
      ((s.counted res unit bytes false h).eccMem res ecc).landPrefetch f data (decide (2 ≤ ecc)) := by
  have lands : ((s.counted res unit bytes false h).eccMem res ecc).dev.fab = s.dev.fab := by rw [State.eccMem_fab, State.counted_fab]
  simp only [State.counted, State.endGrant] at lands
  simp only [stepArbTransferComplete, hh, Bool.false_eq_true, if_false, lands, hf, if_pos hc]
  rfl
end Transfer

section Bite
variable {s : State} {res unit : Nat} {h : Grant}

theorem State.errorCompletion_of_fetch {c : Nat} (hc : h.ch = some c) (hr : res = 4) (hcls : h.who.cls = 7) :
    s.errorCompletion res unit h = (s.failFetch (fun x => x.ch == c)).emit (.errorCompletion res unit h.who) := by
  simp only [State.errorCompletion, hc, if_pos (And.intro hr hcls)]

theorem State.errorCompletion_of_other (hn : h.ch = none ∨ res ≠ 4 ∨ h.who.cls ≠ 7) :
    s.errorCompletion res unit h = s.emit (.errorCompletion res unit h.who) := by
  unfold State.errorCompletion
  split
  next c hc => rw [if_neg (by rcases hn with hn | hn | hn <;> simp_all)]
  · rfl

theorem State.eq_errorCompletion {t u : State}
    (fetch : ∀ c, h.ch = some c → res = 4 → h.who.cls = 7 → u = (t.failFetch (fun x => x.ch == c)).emit (.errorCompletion res unit h.who))
    (other : h.ch = none ∨ res ≠ 4 ∨ h.who.cls ≠ 7 → u = t.emit (.errorCompletion res unit h.who)) : u = t.errorCompletion res unit h := by
  by_cases reads : (∃ c, h.ch = some c) ∧ res = 4 ∧ h.who.cls = 7
  · obtain ⟨⟨c, hc⟩, hr, hcls⟩ := reads
    rw [fetch c hc hr hcls, State.errorCompletion_of_fetch hc hr hcls]
  · have others : h.ch = none ∨ res ≠ 4 ∨ h.who.cls ≠ 7 := by
      cases hc : h.ch with
      | none => exact .inl rfl
      | some c => exact .inr (Decidable.not_and_iff_or_not.mp fun both => reads ⟨⟨c, hc⟩, both⟩)
    rw [other others, State.errorCompletion_of_other others]

theorem stepArbWatchdogBite_of_free (hn : Tab.find (s.dev.arbiter res).held unit = none) : stepArbWatchdogBite res unit s = s := by
  simp only [stepArbWatchdogBite, hn]

theorem stepCompletionTimeout_of_free (hn : Tab.find (s.dev.arbiter res).held unit = none) : stepCompletionTimeout res unit s = s := by
  simp only [stepCompletionTimeout, hn]

theorem stepArbWatchdogBite_of_held (hh : Tab.find (s.dev.arbiter res).held unit = some h) : stepArbWatchdogBite res unit s =
    ((s.updArb res (fun b => { b with
      held := [], queue := b.queue ++ ((s.dev.arbiter res).held.filter (fun e => e.1 != unit)).map (fun e => (e.1, { e.2 with waits := true })),
      bites := b.bites + 1, resetting := true, logTick := BitVec.ofNat 20 s.tick, logInst := BitVec.ofNat 8 h.who.inst,
      logClass := BitVec.ofNat 4 h.who.cls })).errorCompletion res unit h).logEvent 0x30 (resUnit res).1 (resUnit res).2 res h.who.cls := by
  simp only [stepArbWatchdogBite, hh]

theorem stepCompletionTimeout_of_held (hh : Tab.find (s.dev.arbiter res).held unit = some h) : stepCompletionTimeout res unit s =
    ((s.updArb res (fun b => ({ b with held := Tab.del b.held unit } : Arb).serveUnit (res == 4) unit)).updPcie
      (fun p => { p with cplTimeout := p.cplTimeout + 1 })).errorCompletion res unit h := by
  simp only [stepCompletionTimeout, hh]

theorem stepBiteResetEnd_of_serving (hr : (s.dev.arbiter res).resetting = false) : stepBiteResetEnd res s = s := if_neg (by simp [hr])

theorem stepBiteResetEnd_of_resetting (hr : (s.dev.arbiter res).resetting = true) :
    stepBiteResetEnd res s = s.updArb res (fun a => a.restart (res == 4)) := if_pos hr
end Bite

section LoseRest
variable (a : Arb)

/-- Each of these requests has lost an arbitration and backs off (05 R155). -/
def Arb.loseAll (a : Arb) (l : List (Nat × Grant)) : Arb := l.foldl (fun a e => a.lose false e.1 e.2 false) a

/-- A request that the end of a bite's reset sends into backoff: an ordinary one that still waits (05 R155, R156). -/
def Arb.leftWaiting (e : Nat × Grant) : Bool := e.2.waits && ordinaryReq e.2.who

theorem Arb.loseRest_eq : a.loseRest =
    Arb.loseAll { a with queue := a.queue.filter (fun e => !Arb.leftWaiting e) } (a.queue.filter Arb.leftWaiting) := rfl

theorem Arb.loseAll_held (l : List (Nat × Grant)) : (a.loseAll l).held = a.held := by
  induction l generalizing a with
  | nil => rfl
  | cons e l ih => exact ih (a.lose false e.1 e.2 false)

theorem Arb.loseAll_queue_length (l : List (Nat × Grant)) : (a.loseAll l).queue.length = a.queue.length + l.length := by
  induction l generalizing a with
  | nil => rfl
  | cons e l ih =>
    have one : (a.lose false e.1 e.2 false).queue.length = a.queue.length + 1 := by simp [Arb.lose, Arb.setLosses]
    rw [List.length_cons]
    refine (ih _).trans ?_
    rw [one]
    omega

theorem Arb.loseAll_losses (l : List (Nat × Grant)) : (a.loseAll l).losses = a.losses + BitVec.ofNat 32 l.length := by
  induction l generalizing a with
  | nil => exact (BitVec.add_zero _).symm
  | cons e l ih =>
    have one : (a.lose false e.1 e.2 false).losses = a.losses + 1 := rfl
    refine (ih _).trans ?_
    rw [one, List.length_cons, BitVec.ofNat_add]
    ac_rfl

/-- A request of the queue stood there before, or backs off. -/
theorem Arb.mem_loseAll_queue {e : Nat × Grant} : ∀ (l : List (Nat × Grant)) (a : Arb), e ∈ (a.loseAll l).queue →
    e ∈ a.queue ∨ e.2.waits = false
  | [], _, h => .inl h
  | x :: l, a, h => by
    rcases Arb.mem_loseAll_queue l (a.lose false x.1 x.2 false) h with stood | waits
    · have parts : e ∈ a.queue ++ [(x.1, { x.2 with losses := a.lossesOf (lossKey false x.1) x.2.who + 1, waits := false })] := stood
      rcases List.mem_append.mp parts with old | new
      · exact .inl old
      · rw [List.mem_singleton.mp new]
        exact .inr rfl
    · exact .inr waits

theorem Arb.not_ordinary_of_mem_loseRest {e : Nat × Grant} (he : e ∈ a.loseRest.queue) (hw : e.2.waits = true) :
    ordinaryReq e.2.who = false := by
  rcases Arb.mem_loseAll_queue _ _ he with kept | off
  · have left := (List.mem_filter.mp kept).2
    simpa [hw] using left
  · exact absurd hw (by simp [off])

theorem Arb.loseRest_queue_length : a.loseRest.queue.length = a.queue.length := by
  rw [Arb.loseRest_eq, Arb.loseAll_queue_length]
  rw [← List.countP_eq_length_filter, ← List.countP_eq_length_filter, Nat.add_comm]
  have parts := List.length_eq_countP_add_countP (l := a.queue) Arb.leftWaiting
  refine (congrArg _ (List.countP_congr fun e _ => ?_)).trans parts.symm
  rw [Bool.not_eq_true', decide_eq_true_iff, Bool.not_eq_true]
end LoseRest

end Sys2Proof.Machine

open Sys2Proof Sys2Proof.Machine

/-- Settles O46: a request, a loss and a freed unit each by its case; a transfer ends by its direction and its requester; the requests
that a reset leaves waiting are counted as they are sent into backoff. -/
theorem arbitratedEdge : Obligations.ArbitratedEdge := by
  intro s res unit waited bytes ecc u who write pcie data ch a g ha hp hu hg
  have target : u = a.target pcie unit := by rw [hu, hp, Arb.target]; simp
  subst ha hp
  have asks : ∀ f : Arb → Arb, (s.dev.arbiter res).ask (res == 4) unit g = f (s.dev.arbiter res) →
      exec (.arbRequest res unit who waited ch) s = .next (s.updArb res f) := fun f h =>
    (exec_arbRequest ..).trans (congrArg _ (State.updArb_congr (by rw [← h, hg])))
  have asker : g.who = who := by rw [hg]
  have time : g.waited = waited := by rw [hg]
  refine ⟨fun hr => asks _ (Arb.ask_of_resetting hr), fun hr hf => asks _ ?_, fun h hr hh => ⟨fun rev => asks _ ?_, fun nrev => asks _ ?_⟩,
    fun h n => ⟨rfl, fun hn => by rw [hn]; rfl⟩, fun hn => ?_, fun e b he hb => ?_,
    ⟨Arb.serveUnit_of_busy, fun hr hf => ⟨Arb.serveUnit_of_none_waiting hr hf, fun w => Arb.serveUnit_of_chosen hr hf⟩⟩,
    fun hn => ⟨?_, ?_, ?_⟩, fun h hh => ⟨?_, fun fail fetch other => ?_⟩, fun hr => ?_, fun b hr hb => ⟨fun hp => ?_, fun hp => ?_⟩,
    fun e => Arb.not_ordinary_of_mem_loseRest _, fun k hk => ⟨Arb.loseRest_queue_length _, ?_, Arb.loseAll_held _ _⟩⟩
  · rw [Arb.ask_of_free hr target hf, Arb.grant, asker, time]
  · exact (Arb.ask_of_held hr target hh).1 (by rwa [Arb.Revokes, asker])
  · rw [(Arb.ask_of_held hr target hh).2 (Arb.not_revokes (by rwa [asker])), asker]
  · rw [exec_backoffExpiry, stepBackoffExpiry_of_none hn]
  · rw [exec_backoffExpiry, stepBackoffExpiry_of_some he, hb]
    exact congrArg _ (State.updArb_congr rfl)
  · rw [exec_arbTransferComplete, stepArbTransferComplete_of_free hn]
  · rw [exec_arbWatchdogBite, stepArbWatchdogBite_of_free hn]
  · rw [exec_completionTimeout, stepCompletionTimeout_of_free hn]
  · intro n v x y hv hnb wr rd none pw pr ce ue clean
    have ended : v = s.endGrant res unit h := hv.trans (State.updArb_congr rfl)
    have counted : x = s.counted res unit bytes write h := by
      rw [State.counted, ← ended, ← hnb]
      exact State.eq_countBytes wr rd none pw pr
    have checked : y = x.eccMem res ecc := State.eq_eccMem ce ue clean
    subst checked counted
    refine ⟨?_, ?_, ?_⟩
    · rintro rfl
      rw [exec_arbTransferComplete, stepArbTransferComplete_of_write hh]
    · rintro rfl hf
      rw [exec_arbTransferComplete, stepArbTransferComplete_of_read hh hf]
    · rintro f rfl hc hf
      rw [exec_arbTransferComplete, stepArbTransferComplete_of_prefetch hh hc hf]
      rfl
  · have errors : ∀ t, fail t = t.errorCompletion res unit h := fun t => State.eq_errorCompletion (fetch t) (other t)
    rw [exec_arbWatchdogBite, stepArbWatchdogBite_of_held hh, exec_completionTimeout, stepCompletionTimeout_of_held hh, errors, errors]
    exact ⟨rfl, rfl⟩
  · rw [exec_biteResetEnd, stepBiteResetEnd_of_serving hr]
  · rw [exec_biteResetEnd, stepBiteResetEnd_of_resetting hr, hp, hb]
    exact congrArg _ (State.updArb_congr rfl)
  · rw [exec_biteResetEnd, stepBiteResetEnd_of_resetting hr, hp, hb]
    exact congrArg _ (State.updArb_congr rfl)
  · rw [hk]
    exact Arb.loseAll_losses _ _
end

section
/-! PROOF. The model's stable sort: what it holds and how it is ordered. -/

namespace Sys2Proof.Machine

section Sorting
variable {α : Type} (key : α → Nat)

theorem insertKey_perm (x : α) (l : List α) : (insertKey key x l).Perm (x :: l) := by
  induction l with
  | nil => exact .refl _
  | cons y l ih =>
    unfold insertKey
    split
    · exact .refl _
    · exact (ih.cons y).trans (.swap ..)

theorem sortBy_perm (l : List α) : (sortBy key l).Perm l := by
  induction l with
  | nil => exact .refl _
  | cons x l ih => exact (insertKey_perm key x _).trans (ih.cons x)

theorem mem_sortBy {x : α} {l : List α} : x ∈ sortBy key l ↔ x ∈ l := (sortBy_perm key l).mem_iff

theorem insertKey_pairwise (x : α) {l : List α} (h : l.Pairwise (fun a b => key a ≤ key b)) :
    (insertKey key x l).Pairwise (fun a b => key a ≤ key b) := by
  induction l with
  | nil => exact List.pairwise_singleton _ _
  | cons y l ih =>
    obtain ⟨first, rest⟩ := List.pairwise_cons.mp h
    unfold insertKey
    split
    next le =>
      refine List.pairwise_cons.mpr ⟨fun z hz => ?_, h⟩
      rcases List.mem_cons.mp hz with rfl | later
      · exact le
      · exact Nat.le_trans le (first z later)
    next gt =>
      refine List.pairwise_cons.mpr ⟨fun z hz => ?_, ih rest⟩
      rcases List.mem_cons.mp ((insertKey_perm key x l).mem_iff.mp hz) with rfl | later
      · exact Nat.le_of_not_le gt
      · exact first z later

theorem sortBy_pairwise (l : List α) : (sortBy key l).Pairwise (fun a b => key a ≤ key b) := by
  induction l with
  | nil => exact .nil
  | cons x l ih => exact insertKey_pairwise key x ih
end Sorting

end Sys2Proof.Machine
end

section
/-! PROOF. Slips and replays: what one slip and a stream's slips leave, the slip slots, the replay of a clamped step, and O30 from
them (04 R109, R110, R117; 05 R157 to R160). -/

namespace Sys2Proof.Machine

theorem exec_deadline (p stream index : Nat) (s : State) : exec (.deadline p stream index) s = .next (stepDeadline p stream index s) := rfl
theorem exec_attnReturn (p stream index : Nat) (complete : Bool) (s : State) :
    exec (.attnReturn p stream index complete) s = .next (stepAttnReturn p stream index complete s) := rfl
theorem exec_slipSlot (slot : Nat) (s : State) : exec (.slipSlot slot) s = .next (stepSlipSlot slot s) := rfl
theorem exec_strictReplay (p stream index : Nat) (s : State) :
    exec (.strictReplay p stream index) s = .next (stepStrictReplay p stream index s) := rfl

/-- The prefetch takes its place in the list, and its island's KV stream asks at the channel of its address (05 R152, R157). -/
theorem exec_prefetch (p stream index res addr len dst : Nat) (s : State) :
    exec (.prefetch p stream index res addr len dst) s = .next (stepArbRequest res (memChannel addr) ⟨5, Pan.island p⟩ 0 none
      (s.updFab (fun b => { b with
        prefetches := b.prefetches.filter (fun x => !(x.pan == p && x.stream == stream && x.index == index && x.dst == dst)) ++
          [⟨p, stream, index, res, addr, len, dst, false, false⟩] }))) := rfl

section Deadline
variable {s : State} {p stream index : Nat}

/-- A prefetch of the pan for this position. -/
def Prefetch.isOf (p stream index : Nat) (x : Prefetch) : Bool := x.pan == p && x.stream == stream && x.index == index

/-- The position's prefetches are read and forgotten (05 R157). -/
def State.readPrefetches (s : State) (p stream index : Nat) : State :=
  s.updFab (fun b => { b with prefetches := b.prefetches.filter (fun x => !x.isOf p stream index) })

theorem stepDeadline_of_missing (h : ∃ x ∈ s.dev.fab.prefetches, x.isOf p stream index = true ∧ x.landed = false) :
    stepDeadline p stream index s = s.slip p stream index .prefetch := by
  refine if_neg ?_
  simpa [and_assoc, Prefetch.isOf] using h

theorem stepDeadline_of_landed (h : ∀ x ∈ s.dev.fab.prefetches, x.isOf p stream index = true → x.landed = true) :
    stepDeadline p stream index s =
      if (s.dev.fab.prefetches.filter (Prefetch.isOf p stream index)).any (·.poison)
      then (s.readPrefetches p stream index).poisonWork stream index 1 else s.readPrefetches p stream index := by
  refine if_pos ?_
  rw [List.all_eq_true]
  intro x hx
  obtain ⟨hm, hi⟩ := List.mem_filter.mp hx
  exact h x hm hi
end Deadline

section Slips

/-- The work slips in tick k: what is left of it moves to the next tick (05 R158). -/
def Work.slipNow (w : Work) (k : Nat) : Work := { w with slipped := true, slips := w.slips + 1, tick := k + 1, slipAt := k }

/-- The works that a test accepts slip in tick k. -/
def Fab.markSlipped (b : Fab) (test : Work → Bool) (k : Nat) : Fab :=
  { b with works := b.works.map (fun w => if test w = true then w.slipNow k else w) }

/-- n slips count, and the cause of the position itself where its own slip is among them (05 R158, Table 5-11). -/
def Fab.countSlips (b : Fab) (n : Nat) (own : Bool) (c : SlipCause) : Fab :=
  { b with
    slipCnt := b.slipCnt + BitVec.ofNat 32 n,
    slipStrict := if own && decide (c = .strict) then satInc b.slipStrict else b.slipStrict,
    slipLink := if own && decide (c = .link) then satInc b.slipLink else b.slipLink,
    slipAttn := if own && decide (c = .attn) then satInc b.slipAttn else b.slipAttn,
    slipPrefetch := if own && decide (c = .prefetch) then satInc b.slipPrefetch else b.slipPrefetch }

/-- Two works of one position. -/
def Work.same (w x : Work) : Bool := decide (x.stream = w.stream ∧ x.index = w.index)

theorem Fab.markSlipped_congr {b : Fab} {p q : Work → Bool} (h : ∀ w ∈ b.works, p w = q w) (k : Nat) :
    b.markSlipped p k = b.markSlipped q k := by
  have maps : b.works.map (fun w => if p w = true then w.slipNow k else w) = b.works.map (fun w => if q w = true then w.slipNow k else w) :=
    List.map_congr_left fun w hw => by rw [h w hw]
  rw [Fab.markSlipped, maps, Fab.markSlipped]

theorem Fab.markSlipped_none (b : Fab) (k : Nat) : b.markSlipped (fun _ => false) k = b := by simp [Fab.markSlipped]

/-- Works that two tests accept apart slip once each. -/
theorem Fab.markSlipped_markSlipped {b : Fab} {p q : Work → Bool} {k : Nat} (keeps : ∀ w : Work, q (w.slipNow k) = q w)
    (apart : ∀ w, p w = true → q w = false) : (b.markSlipped p k).markSlipped q k = b.markSlipped (fun w => p w || q w) k := by
  have once : ∀ w : Work, (if q (if p w = true then w.slipNow k else w) = true then (if p w = true then w.slipNow k else w).slipNow k
      else if p w = true then w.slipNow k else w) = if (p w || q w) = true then w.slipNow k else w := fun w => by
    cases hp : p w
    · simp
    · simp [keeps, apart w hp]
  simp [Fab.markSlipped, Function.comp_def, once]

theorem Fab.countSlips_zero (b : Fab) (c : SlipCause) : b.countSlips 0 false c = b := by simp [Fab.countSlips]

/-- Slips of two kinds count together, the position's own once. -/
theorem Fab.countSlips_countSlips (b : Fab) {m n : Nat} {own own' : Bool} (c : SlipCause) (once : own = true → own' = false) :
    (b.countSlips m own c).countSlips n own' c = b.countSlips (m + n) (own || own') c := by
  cases own
  · simp [Fab.countSlips, BitVec.ofNat_add, BitVec.add_assoc]
  · simp [Fab.countSlips, BitVec.ofNat_add, BitVec.add_assoc, once rfl]

/-- One position of a stream slips, with the cause where it is the position itself. -/
theorem State.slipOne_eq (s : State) (w : Work) (index : Nat) (c : SlipCause) : s.slipOne (if w.index = index then c else .other) w =
    s.updFab (fun b => (b.markSlipped w.same s.tick).countSlips 1 (w.index == index) c) := by
  have works : s.dev.fab.works.map (fun x => if x.stream = w.stream ∧ x.index = w.index then x.slipNow s.tick else x) =
      s.dev.fab.works.map (fun x => if w.same x = true then x.slipNow s.tick else x) :=
    List.map_congr_left fun x _ => by simp only [Work.same, decide_eq_true_eq]
  simp only [Work.slipNow] at works
  simp only [State.slipOne, State.updWork, State.updFab, Fab.markSlipped, Fab.countSlips, Work.slipNow, ← works]
  by_cases own : w.index = index
  · rw [if_pos own, beq_iff_eq.mpr own]
    cases c <;> rfl
  · rw [if_neg own, beq_eq_false_iff_ne.mpr own]
    rfl

variable {stream index : Nat}

/-- Works with an index each slip one after the other as they slip together. -/
theorem State.each_slipOne (c : SlipCause) : ∀ (l : List Work) (s : State), (l.map (·.index)).Nodup →
    s.each l (fun s w => s.slipOne (if w.index = index then c else .other) w) = s.updFab (fun b =>
      (b.markSlipped (fun x => l.any (fun w => w.same x)) s.tick).countSlips l.length (l.any (fun w => w.index == index)) c)
  | [], s, _ => by
    have idle : (s.dev.fab.markSlipped (fun _ => false) s.tick).countSlips 0 false c = s.dev.fab := by
      rw [Fab.countSlips_zero, Fab.markSlipped_none]
    simp only [State.updFab, List.any_nil, List.length_nil, idle]
    rfl
  | w :: l, s, hn => by
    obtain ⟨fresh, hn⟩ := List.nodup_cons.mp hn
    have others : ∀ x ∈ l, x.index ≠ w.index := fun x hx e => fresh (List.mem_map.mpr ⟨x, hx, e⟩)
    have apart : ∀ x, w.same x = true → (l.any fun y => y.same x) = false := fun x hx => by
      obtain ⟨-, ix⟩ := of_decide_eq_true hx
      exact List.any_eq_false.mpr fun y hy e => others y hy ((of_decide_eq_true e).2.symm.trans ix)
    have once : (w.index == index) = true → (l.any fun y => y.index == index) = false := fun hw =>
      List.any_eq_false.mpr fun y hy e => others y hy ((beq_iff_eq.mp e).trans (beq_iff_eq.mp hw).symm)
    refine (State.each_slipOne c l _ hn).trans ?_
    dsimp only
    rw [State.slipOne_eq]
    have marks := Fab.markSlipped_markSlipped (b := s.dev.fab) (k := s.tick) (fun _ => rfl) apart
    have counts := Fab.countSlips_countSlips
      ((s.dev.fab.markSlipped w.same s.tick).markSlipped (fun x => l.any (fun y => y.same x)) s.tick) (m := 1) (n := l.length) c once
    rw [Nat.add_comm] at counts
    exact congrArg (fun b => ({ s with dev := { s.dev with fab := b } } : State)) (counts.trans (congrArg (fun b =>
      b.countSlips (l.length + 1) (w.index == index || l.any (fun y => y.index == index)) c) marks))

/-- A work that slips with a position: of its stream, from its index on, not waiting already and not complete (05 R158). -/
def Work.slipsWith (stream index : Nat) (w : Work) : Bool :=
  w.stream == stream && decide (index ≤ w.index) && !w.slipped && decide (w.half < 2)

theorem Fab.slipping_eq (b : Fab) : b.slipping stream index = b.works.filter (Work.slipsWith stream index) := rfl

theorem Work.stream_of_slipsWith {w : Work} (h : w.slipsWith stream index = true) : w.stream = stream := by
  simp only [Work.slipsWith, Bool.and_eq_true, beq_iff_eq] at h
  exact h.1.1.1

/-- A list whose images differ holds at most one element of each image. -/
theorem eq_of_nodup_map {α β : Type} {g : α → β} {x y : α} : ∀ {l : List α}, (l.map g).Nodup → x ∈ l → y ∈ l → g x = g y → x = y
  | [], _, hx, _, _ => absurd hx List.not_mem_nil
  | z :: l, hn, hx, hy, e => by
    obtain ⟨fresh, rest⟩ := List.nodup_cons.mp hn
    rcases List.mem_cons.mp hx with rfl | xl
    · rcases List.mem_cons.mp hy with rfl | yl
      · rfl
      · exact absurd (List.mem_map.mpr ⟨y, yl, e.symm⟩) fresh
    · rcases List.mem_cons.mp hy with rfl | yl
      · exact absurd (List.mem_map.mpr ⟨x, xl, e⟩) fresh
      · exact eq_of_nodup_map rest xl yl e

section Stream
variable {b : Fab} (distinct : (b.works.map (fun w => (w.stream, w.index))).Nodup)
include distinct

theorem Fab.slipping_indices_nodup : ((b.slipping stream index).map (·.index)).Nodup := by
  have pairs : (b.slipping stream index).Pairwise (fun x y => (x.stream, x.index) ≠ (y.stream, y.index)) :=
    (List.pairwise_map.mp distinct).sublist List.filter_sublist
  refine List.pairwise_map.mpr (pairs.imp_of_mem fun hx hy differ same => differ (Prod.ext ?_ same))
  exact (Work.stream_of_slipsWith (List.mem_filter.mp hx).2).trans (Work.stream_of_slipsWith (List.mem_filter.mp hy).2).symm

/-- With a work for each position, the works at the slipping positions are the slipping works. -/
theorem Fab.any_same_slipping {x : Work} (hx : x ∈ b.works) :
    ((b.slipping stream index).any fun w => w.same x) = x.slipsWith stream index := by
  rw [Bool.eq_iff_iff, List.any_eq_true]
  constructor
  · rintro ⟨w, hw, e⟩
    obtain ⟨st, ix⟩ := of_decide_eq_true e
    obtain ⟨mem, slips⟩ := List.mem_filter.mp hw
    rwa [eq_of_nodup_map distinct hx mem (Prod.ext st ix)]
  · exact fun slips => ⟨x, List.mem_filter.mpr ⟨hx, slips⟩, decide_eq_true ⟨rfl, rfl⟩⟩
end Stream

variable {s : State}

theorem State.slipWorks_eq (distinct : (s.dev.fab.works.map (fun w => (w.stream, w.index))).Nodup) (c : SlipCause) :
    s.slipWorks stream index c = s.updFab (fun b => (b.markSlipped (Work.slipsWith stream index) s.tick).countSlips
      (s.dev.fab.slipping stream index).length ((s.dev.fab.slipping stream index).any (fun w => w.index == index)) c) := by
  have marks := Fab.markSlipped_congr (fun w hw => Fab.any_same_slipping (stream := stream) (index := index) distinct hw) s.tick
  rw [State.slipWorks, State.each_slipOne c _ s (Fab.slipping_indices_nodup distinct), State.updFab, marks, State.updFab]

theorem State.slip_of_none (h : (s.dev.fab.slipping stream index).length = 0) (p : Nat) (c : SlipCause) : s.slip p stream index c = s :=
  if_pos (List.isEmpty_iff.mpr (List.length_eq_zero_iff.mp h))

theorem State.slip_of_some (distinct : (s.dev.fab.works.map (fun w => (w.stream, w.index))).Nodup)
    (h : 0 < (s.dev.fab.slipping stream index).length) (p : Nat) (c : SlipCause) : s.slip p stream index c =
      (s.emit (.flits p .control 4 [s.controlFlit p 6 0 0xFFFF 0 stream index 0 0])).updFab (fun b =>
        (b.markSlipped (Work.slipsWith stream index) s.tick).countSlips
          (s.dev.fab.slipping stream index).length ((s.dev.fab.slipping stream index).any (fun w => w.index == index)) c) :=
  (if_neg (by simpa using List.length_pos_iff.mp h)).trans (State.slipWorks_eq (s := s.emit _) distinct c)
end Slips

section Attention
variable {s : State} {p stream index : Nat}

theorem stepAttnReturn_of_there {e : Nat × Nat × List W16}
    (he : s.dev.dle.attnOut.find? (fun e => e.1 == stream && e.2.1 == index) = some e) : stepAttnReturn p stream index true s =
      ((s.updDle (fun d => { d with attnOut := d.attnOut.filter (fun x => !(x.1 == stream && x.2.1 == index)),
                                    attnWait := d.attnWait.filter (fun x => x != (stream, index)) })).updWork stream index
        (fun w => { w with attnDone := true })).emit (.panResult 0xFFFF (e.2.2.map bf16To32)) := by
  simp only [stepAttnReturn, he, if_true]

theorem stepAttnReturn_of_late {complete : Bool}
    (h : complete = false ∨ s.dev.dle.attnOut.find? (fun e => e.1 == stream && e.2.1 == index) = none) :
    stepAttnReturn p stream index complete s = s.attnLate p stream index := by
  unfold stepAttnReturn
  split
  next e he =>
    rcases h with h | h
    · rw [if_neg (by simp [h])]
    · exact absurd (h.symm.trans he) (by simp)
  · rfl
end Attention

section Fill
variable {s : State} {slot slots pairs : Nat}

theorem stepSlipSlot_of_none (h : s.dev.ws.layer slot = none) : stepSlipSlot slot s = s := by simp only [stepSlipSlot, h]

theorem stepSlipSlot_of_layer {l : LayerRec} (h : s.dev.ws.layer slot = some l) :
    stepSlipSlot slot s = State.fillSlips slot l.slipSlots l.replayPairs (s.dev.fab.slipOrder s.tick) [] s := by
  simp only [stepSlipSlot, h]

theorem Fab.slipOrder_pairwise (b : Fab) (k : Nat) : (b.slipOrder k).Pairwise (fun x y => x.slipAt ≤ y.slipAt) := sortBy_pairwise _ _

theorem Fab.mem_slipOrder {b : Fab} {k : Nat} {w : Work} : w ∈ b.slipOrder k ↔ w ∈ b.works ∧ w.slipped = true ∧ w.tick ≤ k := by
  simp [Fab.slipOrder, mem_sortBy]

theorem State.fillSlips_of_over {ws : List Work} (blocked : List Nat)
    (h : ws = [] ∨ slots ≤ Sparse.get (fun _ => 0) s.dev.fab.slipUsed slot) : State.fillSlips slot slots pairs ws blocked s = s := by
  cases ws with
  | nil => rfl
  | cons w ws => exact if_pos (h.resolve_left (List.cons_ne_nil _ _))

section Next
variable {w : Work} {ws : List Work} {blocked : List Nat} (room : Sparse.get (fun _ => 0) s.dev.fab.slipUsed slot < slots)
include room

theorem State.fillSlips_of_waits (h : w.stream ∈ blocked ∨
      (s.dev.takesPair slot w = true ∧ pairs ≤ Sparse.get (fun _ => 0) s.dev.fab.pairsUsed slot)) :
    State.fillSlips slot slots pairs (w :: ws) blocked s = State.fillSlips slot slots pairs ws (w.stream :: blocked) s :=
  (if_neg (Nat.not_le.mpr room)).trans (if_pos (by simpa using h))

theorem State.fillSlips_of_starts (hb : w.stream ∉ blocked)
    (h : s.dev.takesPair slot w = true → Sparse.get (fun _ => 0) s.dev.fab.pairsUsed slot < pairs) :
    State.fillSlips slot slots pairs (w :: ws) blocked s = State.fillSlips slot slots pairs ws blocked ((s.updFab (fun b =>
      { b with slipUsed := Sparse.set (fun _ => 0) b.slipUsed slot (Sparse.get (fun _ => 0) s.dev.fab.slipUsed slot + 1),
               pairsUsed := Sparse.set (fun _ => 0) b.pairsUsed slot
                 (Sparse.get (fun _ => 0) s.dev.fab.pairsUsed slot + b2n (s.dev.takesPair slot w)) })).updWork w.stream w.index
      (fun w => { w with slipped := false, replaying := false, tick := s.tick })) :=
  (if_neg (Nat.not_le.mpr room)).trans (if_neg (by simpa [hb] using h))
end Next
end Fill

section Replay
variable {s : State} {p stream index : Nat} {w : Work}

theorem stepStrictReplay_of_none (h : s.dev.fab.work stream index = none) : stepStrictReplay p stream index s = s := by
  simp only [stepStrictReplay, h]

/-- What the first run left is discarded, and the step runs again in full (04 R109, R110). -/
def State.rerun (s : State) (stream index : Nat) : State :=
  (s.updWork stream index (fun w => { w with
    half := 0, replays := w.replays + 1, clamped := false, replaying := true, replaySlot := w.clampSlot, clampSlot := none,
    attnDone := false, outRes := [] })).upd (fun d => { d with pans := Sparse.updAll Pan.reset (fun _ q =>
      { q with resid := q.resid.filter (fun e => !(e.1 == stream && e.2.1 == index)) }) (d.pans.map (·.1)) d.pans })

theorem stepStrictReplay_of_work (h : s.dev.fab.work stream index = some w) : stepStrictReplay p stream index s =
    if w.clamped = false ∨ w.slipped = true then s
    else if 3 ≤ w.replays then s.failWork stream index 4 0 0 0 else (s.slip p stream index .strict).rerun stream index := by
  simp only [stepStrictReplay, h, Bool.or_eq_true, Bool.not_eq_true']
  rfl
end Replay

end Sys2Proof.Machine

open Sys2Proof Sys2Proof.Machine

/-- Settles O30: a stream's slips act as one on its works; the fill of the slip slots goes by the three cases of its next work; a
replay by what the position's work says. -/
theorem slipsAndReplays : Obligations.SlipsAndReplays := by
  intro s p stream index slot
  refine ⟨fun res addr len dst => exec_prefetch p stream index res addr len dst s, fun mine t hm ht => ?_,
    fun late c n own hl distinct hn hown => ?_, fun e he => ?_,
    fun complete t h ht => ?_, fun h => ?_, Fab.slipOrder_pairwise _ _, fun w => Fab.mem_slipOrder,
    fun l used taken hu htk hl => ⟨?_, fun ws blocked h => ?_, fun w ws blocked pair room hp => ⟨fun h => ?_, fun hb h => ?_⟩⟩, fun h => ?_,
    fun w hw => ⟨fun h => ?_, fun hc hs h3 => ?_, fun hc hs h3 => ?_⟩⟩
  · obtain rfl : mine = Prefetch.isOf p stream index := funext hm
    have read : t = s.readPrefetches p stream index := ht
    refine ⟨fun h => ?_, fun h poisoned => ?_, fun h => ?_⟩
    · have clean : ¬ (s.dev.fab.prefetches.filter (Prefetch.isOf p stream index)).any (·.poison) = true := by
        simpa using fun x hx hi => (h x hx hi).2
      rw [exec_deadline, stepDeadline_of_landed fun x hx hi => (h x hx hi).1, if_neg clean, read]
    · have bad : (s.dev.fab.prefetches.filter (Prefetch.isOf p stream index)).any (·.poison) = true := by
        simpa [and_assoc] using poisoned
      rw [exec_deadline, stepDeadline_of_landed h, if_pos bad, read]
    · rw [exec_deadline, stepDeadline_of_missing h]
  · obtain rfl : late = Work.slipsWith stream index := funext hl
    rw [← Fab.slipping_eq] at hn
    subst hn
    refine ⟨fun h => State.slip_of_none h p c, fun h => ?_⟩
    rw [State.slip_of_some distinct h, hown, ← List.any_filter]
    rfl
  · rw [exec_attnReturn, stepAttnReturn_of_there he]
  · rw [exec_attnReturn, stepAttnReturn_of_late h, ht, State.attnLate]
    simp only [List.contains_iff_mem]
  · rw [exec_slipSlot, stepSlipSlot_of_none h]
  · rw [exec_slipSlot, stepSlipSlot_of_layer hl]
  · exact State.fillSlips_of_over blocked (hu ▸ h)
  · exact State.fillSlips_of_waits (hu ▸ room) (by rwa [← hp, ← htk])
  · rw [State.fillSlips_of_starts (hu ▸ room) hb (by rwa [← hp, ← htk]), ← hu, ← htk, ← hp]
    rfl
  · rw [exec_strictReplay, stepStrictReplay_of_none h]
  · rw [exec_strictReplay, stepStrictReplay_of_work hw, if_pos h]
  · rw [exec_strictReplay, stepStrictReplay_of_work hw, if_neg (by simp [hc, hs]), if_pos h3]
  · rw [exec_strictReplay, stepStrictReplay_of_work hw, if_neg (by simp [hc, hs]), if_neg (Nat.not_le.mpr h3)]
    rfl
end

section
/-! PROOF. Routers: the flits of an output port, the ports of a slot, control frames with a bad and a good CRC, and O35 from them (04
R105; 05 R131 to R141; 11 R345). -/

namespace Sys2Proof.Machine

theorem exec_flitForward (p : Nat) (plane : Plane) (slot : Nat) (flits : List Flit) (s : State) :
    exec (.flitForward p plane slot flits) s = .next (stepFlitForward p plane slot flits s) := rfl
theorem exec_controlFrameReceive (p inp : Nat) (bytes : List Byte) (s : State) :
    exec (.controlFrameReceive p inp bytes) s = .next (stepControlFrameReceive p inp bytes s) := rfl

section Port
variable {plane : Plane} {es : List HopEntry} {f : List Flit}

/-- The flits that an entry takes: those of its input (05 R133). -/
def HopEntry.takes (f : List Flit) (e : HopEntry) : List Flit := f.filter (fun z => z.inp == e.inp)

/-- The entries of a port add dense flits of the sum plane (05 R139). -/
def Adds (plane : Plane) (es : List HopEntry) (f : List Flit) : Prop :=
  plane = .sum ∧ ∀ e ∈ es, e.op = 1 ∧ ∀ z ∈ e.takes f, z.sparse = false

/-- The entries of a port take the maximum of AMAX flits of the control plane (05 R137, R141). -/
def Maxes (plane : Plane) (es : List HopEntry) (f : List Flit) : Prop :=
  plane = .control ∧ ∀ e ∈ es, e.op = 2 ∧ ∀ z ∈ e.takes f, z.amax = true

theorem portFlits_nil : portFlits plane [] f = ([], false) := rfl

theorem portFlits_single (e : HopEntry) : portFlits plane [e] f = (e.takes f, false) := by
  simp [portFlits, sortBy, insertKey, HopEntry.takes]

theorem adds_iff : (plane = .sum && (sortBy (·.inp) es).all (fun e => e.op == 1) &&
    ((sortBy (·.inp) es).flatMap (HopEntry.takes f)).all (fun x => !x.sparse)) = true ↔ Adds plane es f := by
  simp [Adds, mem_sortBy, forall_and, and_assoc]

theorem maxes_iff : (plane = .control && (sortBy (·.inp) es).all (fun e => e.op == 2) &&
    ((sortBy (·.inp) es).flatMap (HopEntry.takes f)).all (·.amax)) = true ↔ Maxes plane es f := by
  simp [Maxes, mem_sortBy, forall_and, and_assoc]

theorem not_maxes_of_adds (h : Adds plane es f) : ¬ Maxes plane es f := fun m => by
  have planes := h.1.symm.trans m.1
  cases planes

section Several
variable (several : 2 ≤ es.length)
include several

theorem not_sortBy_length_le_one : ¬ (sortBy (·.inp) es).length ≤ 1 := by
  rw [(sortBy_perm _ es).length_eq]
  omega

theorem portFlits_of_adds (h : Adds plane es f) :
    portFlits plane es f = (combine addFlits ((sortBy (·.inp) es).map (HopEntry.takes f)), false) :=
  (if_neg (not_sortBy_length_le_one several)).trans (if_pos (adds_iff.mpr h))

theorem portFlits_of_maxes (h : Maxes plane es f) :
    portFlits plane es f = (combine maxFlits ((sortBy (·.inp) es).map (HopEntry.takes f)), false) :=
  (if_neg (not_sortBy_length_le_one several)).trans
    ((if_neg fun add => not_maxes_of_adds (adds_iff.mp add) h).trans (if_pos (maxes_iff.mpr h)))

/-- Entries that may not be combined: the one of the lowest input has the port (05 R137, R139). -/
theorem portFlits_of_conflict (hadd : ¬ Adds plane es f) (hmax : ¬ Maxes plane es f) :
    ∃ e ∈ es, (∀ x ∈ es, e.inp ≤ x.inp) ∧ portFlits plane es f = (e.takes f, true) := by
  have clash : portFlits plane es f = (((sortBy (·.inp) es).take 1).flatMap (HopEntry.takes f), true) :=
    (if_neg (not_sortBy_length_le_one several)).trans
      ((if_neg (mt adds_iff.mp hadd)).trans (if_neg (mt maxes_iff.mp hmax)))
  obtain ⟨e, l, sorted⟩ : ∃ e l, sortBy (·.inp) es = e :: l :=
    List.exists_cons_of_length_pos (by have := not_sortBy_length_le_one several; omega)
  have order := sortBy_pairwise (·.inp) es
  rw [sorted] at clash order
  refine ⟨e, (mem_sortBy (·.inp)).mp (sorted ▸ List.mem_cons_self), fun x hx => ?_, by simpa using clash⟩
  have listed : x ∈ e :: l := sorted ▸ (mem_sortBy (·.inp)).mpr hx
  rcases List.mem_cons.mp listed with rfl | later
  · exact Nat.le_refl _
  · exact List.rel_of_pairwise_cons order later
end Several

theorem combine_pair {g : Flit → Flit → Flit} {x y : List Flit} (h : x.length = y.length) : combine g [x, y] = List.zipWith g x y := by
  simp [combine, h]

section Pair
variable {a b : HopEntry}

theorem sortBy_inp_pair (lower : a.inp < b.inp) : sortBy (·.inp) [a, b] = [a, b] := by simp [sortBy, insertKey, Nat.le_of_lt lower]

theorem two_le_length_pair : 2 ≤ [a, b].length := Nat.le_refl 2

variable (lower : a.inp < b.inp) (lengths : (a.takes f).length = (b.takes f).length)
include lower lengths

theorem portFlits_pair_of_adds (h : Adds plane [a, b] f) :
    portFlits plane [a, b] f = (List.zipWith addFlits (a.takes f) (b.takes f), false) := by
  rw [portFlits_of_adds two_le_length_pair h, sortBy_inp_pair lower, List.map_cons, List.map_singleton, combine_pair lengths]

theorem portFlits_pair_of_maxes (h : Maxes plane [a, b] f) :
    portFlits plane [a, b] f = (List.zipWith maxFlits (a.takes f) (b.takes f), false) := by
  rw [portFlits_of_maxes two_le_length_pair h, sortBy_inp_pair lower, List.map_cons, List.map_singleton, combine_pair lengths]
end Pair
end Port

section Forward
variable {s u : State} {p slot : Nat} {plane : Plane} {flits f : List Flit} {es : List HopEntry}

/-- The flits as they are forwarded, and the state after their check: control frames carry a CRC of their own (05 R133, R134). -/
def State.checkFlits (s : State) (p : Nat) (plane : Plane) (flits : List Flit) : List Flit × State :=
  if plane = .control then (flits, s) else s.eccFlits p flits

/-- Flits of a router are discarded: a hop conflict each (05 R137). -/
def State.discard (u : State) (p n : Nat) : State := u.updPan p (fun q => { q with conflicts := wrapInc q.conflicts n })

/-- What leaves a router at one output port (05 R132, R139). -/
def State.sendPort (p : Nat) (plane : Plane) (es : List HopEntry) (f : List Flit) (t : State) (n : Nat) : State :=
  let o := portFlits plane (es.filter (fun e => bitAt e.out n)) f
  let t := if o.2 then t.updPan p (fun q => { q with conflicts := q.conflicts + 1 }) else t
  if o.1 = [] ∨ (n = 5 ∧ edgeOf p = none) then t
  else if n = 4 ∧ plane = .sum then t.each o.1 (State.accumulate (t.dev.standIn p))
  else t.emit (.flits p plane n o.1)

theorem State.checkFlits_eq (control : plane = .control → f = flits ∧ u = s) (checked : plane ≠ .control → (f, u) = s.eccFlits p flits) :
    (f, u) = s.checkFlits p plane flits := by
  unfold State.checkFlits
  split
  next h => rw [(control h).1, (control h).2]
  next h => exact checked h

theorem State.sendPort_of_no_entries (t : State) (n : Nat) : State.sendPort p plane [] f t n = t := by
  simp [State.sendPort, portFlits_nil]

theorem State.each_sendPort_of_no_entries (l : List Nat) : u.each l (State.sendPort p plane [] f) = u :=
  State.each_keeps (· = u) _ (fun t n h => (State.sendPort_of_no_entries t n).trans h) l u rfl

theorem stepFlitForward_eq (checked : (f, u) = s.checkFlits p plane flits)
    (he : es = (u.dev.fab.entries plane p).filter (fun e => e.covers slot)) : stepFlitForward p plane slot flits s =
      (u.discard p (f.filter (fun x => es.all (fun e => e.inp != x.inp))).length).each (List.range 6) (State.sendPort p plane es f) := by
  have parts : f = (s.checkFlits p plane flits).1 ∧ u = (s.checkFlits p plane flits).2 := by rw [← checked]; exact ⟨rfl, rfl⟩
  obtain ⟨rfl, rfl⟩ := parts
  subst he
  have lost : ((s.checkFlits p plane flits).1.filter fun x => !(((s.checkFlits p plane flits).2.dev.fab.entries plane p).filter
      (fun e => e.covers slot)).any fun e => e.inp == x.inp) = (s.checkFlits p plane flits).1.filter fun x =>
        (((s.checkFlits p plane flits).2.dev.fab.entries plane p).filter (fun e => e.covers slot)).all fun e => e.inp != x.inp :=
    List.filter_congr fun x _ => List.not_any_eq_all_not
  simp only [State.checkFlits] at lost
  simp only [stepFlitForward, State.checkFlits, State.discard, lost]
  refine congrArg _ (funext fun t => funext fun n => ?_)
  rw [State.sendPort]
  rcases portFlits plane (List.filter (fun e => bitAt e.out n) _) _ with ⟨out, clash⟩
  simp only [Bool.or_eq_true, Bool.and_eq_true, List.isEmpty_iff, beq_iff_eq, Option.isNone_iff_eq_none]
end Forward

section Frame
variable {s : State} {p inp : Nat} {bytes : List Byte}

/-- The frame's CRC is not that of its bytes (05 R134). -/
def badCrc (bytes : List Byte) : Bool :=
  decide (bytes.length < 4) || crc32c (bytes.take (bytes.length - 4)) != BitVec.ofNat 32 (leAt bytes (bytes.length - 4) 4)

/-- A control frame with a bad CRC counts and is blamed on the router that feeds the port (05 R134). -/
def State.blameFrame (s : State) (p inp : Nat) : State :=
  ((s.updPan p (fun q => { q with ctlCrc := q.ctlCrc + 1 })).logEvent 0x11 3 (feeder p inp) inp 0).failEvent 3 (feeder p inp) 0x11

theorem stepControlFrameReceive_of_bad_untagged (hb : badCrc bytes = true) (hw : s.dev.fab.tagged (leAt bytes 8 4) = none) :
    stepControlFrameReceive p inp bytes s = s.blameFrame p inp := by
  simp only [stepControlFrameReceive, hw]
  exact if_pos (by simpa [badCrc] using hb)

theorem stepControlFrameReceive_of_bad {w : Work} (hb : badCrc bytes = true) (hw : s.dev.fab.tagged (leAt bytes 8 4) = some w) :
    stepControlFrameReceive p inp bytes s = (s.blameFrame p inp).failWork w.stream w.index 1 0x11 3 (feeder p inp) := by
  simp only [stepControlFrameReceive, hw]
  exact if_pos (by simpa [badCrc] using hb)

theorem stepControlFrameReceive_of_good_untagged (hb : badCrc bytes = false) (hw : s.dev.fab.tagged (leAt bytes 8 4) = none) :
    stepControlFrameReceive p inp bytes s = s := by
  simp only [stepControlFrameReceive, hw]
  exact if_neg (by simpa [badCrc] using hb)

theorem eq_ite_of_cases {α : Type} {c : Bool} {x a b : α} (no : c = false → x = b) (yes : c = true → x = a) :
    x = if c = true then a else b := by
  cases c
  · exact no rfl
  · exact yes rfl

section Tagged
variable {w : Work} (hb : badCrc bytes = false) (hw : s.dev.fab.tagged (leAt bytes 8 4) = some w)
include hb hw

/-- The vector's tag that a frame about a position names (05 Table 5-3). -/
def frameTag (bytes : List Byte) (w : Work) : VecTag := ⟨fieldAt (leAt bytes 8 4) 28 4, w.stream, w.index, leAt bytes 8 2⟩

/-- A FLAGS frame's CLAMPED marks the vector's accumulation and its position (04 R105). -/
def State.markClamped (s : State) (p : Nat) (w : Work) (t : VecTag) : State :=
  (s.updPan p (fun q => { q with accs := q.accs.map (fun a =>
    if a.stream = w.stream ∧ a.index = w.index ∧ a.slot = t.slot ∧ a.vec = t.vec then { a with clamped := true } else a) })).updWork
    w.stream w.index (fun w => { w with clamped := true, clampSlot := some t.slot })

theorem stepControlFrameReceive_amax (ty : leAt bytes 0 1 = 2) : stepControlFrameReceive p inp bytes s =
    let y := s.takeAmax p (frameTag bytes w) (BitVec.ofNat 32 (leAt bytes 16 4)) (bitAt (leAt bytes 1 1) 2)
    if leAt bytes 4 2 = p then
      y.emit (.flits p .control 4 [y.controlFlit p 2 (leAt bytes 1 1 % 8) 0xFFFF (frameTag bytes w).slot (frameTag bytes w).stream
        (frameTag bytes w).index (frameTag bytes w).vec (BitVec.ofNat 32 (leAt bytes 16 4))])
    else y := by
  simp only [stepControlFrameReceive, hw, ty]
  exact if_neg (by simpa [badCrc] using hb)

theorem stepControlFrameReceive_flags (ty : leAt bytes 0 1 = 3) : stepControlFrameReceive p inp bytes s =
    let x := if bitAt (leAt bytes 1 1) 0 = true then s.markClamped p w (frameTag bytes w) else s
    let y := if bitAt (leAt bytes 1 1) 1 = true then x.poisonWork w.stream w.index 1 else x
    if bitAt (leAt bytes 1 1) 2 = true then y.failWork w.stream w.index 1 0 0 0 else y := by
  simp only [stepControlFrameReceive, hw, ty]
  exact if_neg (by simpa [badCrc] using hb)

theorem stepControlFrameReceive_check (ty : leAt bytes 0 1 = 4) : stepControlFrameReceive p inp bytes s =
    if bitAt (leAt bytes 1 1) 2 = true then s.failWork w.stream w.index 1 0 0 0 else s := by
  simp only [stepControlFrameReceive, hw, ty]
  exact if_neg (by simpa [badCrc] using hb)

theorem stepControlFrameReceive_slip (ty : leAt bytes 0 1 = 6) : stepControlFrameReceive p inp bytes s =
    if w.slipped = true then s
    else s.updWork w.stream w.index (fun w => { w with slipped := true, tick := s.tick + 1, slipAt := s.tick }) := by
  simp only [stepControlFrameReceive, hw, ty]
  exact if_neg (by simpa [badCrc] using hb)

theorem stepControlFrameReceive_other (h2 : leAt bytes 0 1 ≠ 2) (h3 : leAt bytes 0 1 ≠ 3) (h4 : leAt bytes 0 1 ≠ 4)
    (h6 : leAt bytes 0 1 ≠ 6) : stepControlFrameReceive p inp bytes s = s := by
  simp only [stepControlFrameReceive, hw]
  exact if_neg (by simpa [badCrc] using hb)
end Tagged

end Frame

end Sys2Proof.Machine

open Sys2Proof Sys2Proof.Machine

/-- Settles O35: a slot's flits leave port by port as the port's entries allow; a control frame acts by its CRC, its tag and its TYPE. -/
theorem routerFlitsAndControlFrames : Obligations.RouterFlitsAndControlFrames := by
  intro s u p slot inp plane flits f es
  refine ⟨fun control checked he => ⟨fun h => ?_, ?_⟩, portFlits_nil, portFlits_single, ?_, ?_, ?_⟩
  · subst h
    have every : f.filter (fun x => ([] : List HopEntry).all (fun e => e.inp != x.inp)) = f := List.filter_eq_self.mpr fun _ _ => rfl
    rw [exec_flitForward, stepFlitForward_eq (State.checkFlits_eq control checked) he, State.each_sendPort_of_no_entries, every,
      State.discard]
  · rintro lost rfl
    rw [exec_flitForward, stepFlitForward_eq (State.checkFlits_eq control checked) he]
    rfl
  · rintro a b x y lower rfl rfl lengths
    refine ⟨fun sum ha hb dense => portFlits_pair_of_adds lower lengths ⟨sum, ?_⟩,
      fun control ha hb amax => portFlits_pair_of_maxes lower lengths ⟨control, ?_⟩⟩
    · simpa [ha, hb, HopEntry.takes, or_imp, forall_and] using dense
    · simpa [ha, hb, HopEntry.takes, or_imp, forall_and] using amax
  · intro es part hpart several
    obtain rfl : part = HopEntry.takes f := funext hpart
    refine ⟨fun sum adds => portFlits_of_adds several ⟨sum, adds⟩, fun control maxes => portFlits_of_maxes several ⟨control, maxes⟩,
      fun hadd hmax => ?_⟩
    obtain ⟨e, he, lowest, port⟩ := portFlits_of_conflict several hadd hmax
    rw [port]
    exact ⟨rfl, e, he, lowest, rfl⟩
  · rintro bytes bad r work v rfl rfl hbad rfl
    obtain rfl : bad = badCrc bytes := hbad
    refine ⟨fun hb hw => ?_, fun w hb hw => ?_, fun hb hw => ?_, fun w ty fl hb hw hty hfl => ⟨?_, ?_, fun h4 fault => ?_,
      fun h4 fault => ?_, fun h6 slipped => ?_, fun h6 slipped => ?_, fun h2 h3 h4 h6 => ?_⟩⟩
    · rw [exec_controlFrameReceive, stepControlFrameReceive_of_bad_untagged hb hw, State.blameFrame]
    · rw [exec_controlFrameReceive, stepControlFrameReceive_of_bad hb hw, State.blameFrame]
    · rw [exec_controlFrameReceive, stepControlFrameReceive_of_good_untagged hb hw]
    · rintro t a x y h2 ht rfl rfl sound fault
      obtain rfl : t = frameTag bytes w := ht
      have taken : y = s.takeAmax p (frameTag bytes w) (BitVec.ofNat 32 (leAt bytes 16 4)) (bitAt fl 2) := eq_ite_of_cases sound fault
      have acts := (exec_controlFrameReceive ..).trans (congrArg Host.Outcome.next
        (stepControlFrameReceive_amax (p := p) (inp := inp) hb hw (hty.symm.trans h2)))
      rw [← hfl, ← taken] at acts
      exact ⟨fun h => acts.trans (congrArg _ (if_neg h)), fun h => acts.trans (congrArg _ (if_pos h))⟩
    · intro x y z h3 unclamped clamped clean poisoned sound faulted
      have mark : x = if bitAt fl 0 = true then s.markClamped p w (frameTag bytes w) else s := eq_ite_of_cases unclamped clamped
      have poison : y = if bitAt fl 1 = true then x.poisonWork w.stream w.index 1 else x := eq_ite_of_cases clean poisoned
      have fail : z = if bitAt fl 2 = true then y.failWork w.stream w.index 1 0 0 0 else y := eq_ite_of_cases sound faulted
      rw [exec_controlFrameReceive, stepControlFrameReceive_flags hb hw (hty.symm.trans h3), fail, poison, mark, hfl]
    · rw [exec_controlFrameReceive, stepControlFrameReceive_check hb hw (hty.symm.trans h4), ← hfl, if_pos fault]
    · rw [exec_controlFrameReceive, stepControlFrameReceive_check hb hw (hty.symm.trans h4), ← hfl, if_neg (Bool.eq_false_iff.mp fault)]
    · rw [exec_controlFrameReceive, stepControlFrameReceive_slip hb hw (hty.symm.trans h6), if_pos slipped]
    · rw [exec_controlFrameReceive, stepControlFrameReceive_slip hb hw (hty.symm.trans h6), if_neg (Bool.eq_false_iff.mp slipped)]
    · subst hty
      rw [exec_controlFrameReceive, stepControlFrameReceive_other hb hw h2 h3 h4 h6]
end

section
/-! PROOF. Lost members: the loss at the head and its report, the rejoin, the end of the wait, a stream rebuilt, a member's lock, and O44
from them (05 R145; 07 R207; 10 R325, R327, R328, R330). -/

namespace Sys2Proof.Machine

theorem exec_memberLossReport (pkg : Nat) (s : State) : exec (.memberLossReport pkg) s = .next (stepMemberLossReport pkg s) := rfl
theorem exec_memberLost (pkg cause : Nat) (s : State) : exec (.memberLost pkg cause) s = .next (stepMemberLost pkg cause s) := rfl
theorem exec_memberRejoin (pkg : Nat) (kept : Bool) (s : State) :
    exec (.memberRejoin pkg kept) s = .next (stepMemberRejoin pkg kept s) := rfl
theorem exec_rerigWaitExpiry (f : RerigFacts) (s : State) : exec (.rerigWaitExpiry f) s = .next (stepRerigWaitExpiry f s) := rfl
theorem exec_streamRebuilt (ch : Nat) (s : State) : exec (.streamRebuilt ch) s = .next (stepStreamRebuilt ch s) := rfl
theorem exec_syncLock (pkg : Nat) (s : State) : exec (.syncLock pkg) s = .next (stepSyncLock pkg s) := rfl

section Loss
variable {s : State} {pkg : Nat}

/-- The member is marked lost, its duties lapse, the loss is logged, and an image operation that needs it ends (07 R207; 10 R327). -/
def State.markLost (s : State) (pkg cause : Nat) : State :=
  ((s.updLnk (fun l => { l with
    members := l.members.map (fun x => if x.pkg = pkg then { x with lost := some cause, inRun := false } else x),
    duties := l.duties.filter (fun d => d.spare != pkg) })).logEvent 0x41 10 pkg pkg cause).abortImage 0x12

theorem State.noteLost_of_member {m : Member} (hm : s.dev.lnk.members.find? (fun m => m.pkg == pkg) = some m) (hl : m.lost = none)
    (hr : m.role ≠ 1) (cause : Nat) : s.noteLost pkg cause = s.markLost pkg cause := by
  simp only [State.noteLost, hm]
  exact if_neg (by simp [hl, hr])

theorem State.noteLost_of_other (h : ∀ m, s.dev.lnk.members.find? (fun m => m.pkg == pkg) = some m → m.lost.isSome = true ∨ m.role = 1)
    (cause : Nat) : s.noteLost pkg cause = s := by
  unfold State.noteLost
  split
  · rfl
  next m hm => exact if_pos (by simpa using h m hm)

theorem stepMemberLossReport_at_head (h : s.dev.isHead = true) : stepMemberLossReport pkg s = s.noteLost pkg 1 := if_pos h

theorem stepMemberLost_at_head (h : s.dev.isHead = true) (cause : Nat) : stepMemberLost pkg cause s = s.noteLost pkg cause := if_pos h

theorem stepMemberLost_elsewhere (h : s.dev.isHead = false) (cause : Nat) : stepMemberLost pkg cause s = s := if_neg (by simp [h])

/-- The port leads to the member and is down. -/
def Dev.deadPort (d : Dev) (pkg p : Nat) : Bool :=
  match (d.port p).peer with
  | some x => x.2.1 == pkg && !(d.port p).up
  | none => false

theorem Dev.deadPort_iff {d : Dev} {p : Nat} :
    d.deadPort pkg p = true ↔ ∃ x, (d.port p).peer = some x ∧ x.2.1 = pkg ∧ (d.port p).up = false := by
  unfold Dev.deadPort
  split
  next x hx => simp [hx]
  next hx => simp [hx]

/-- The boundaries without VERDICT messages, the one in progress counted once its time is over (10 R327). -/
def Dev.missedVerdicts (d : Dev) : Nat := d.lnk.missed + b2n (!d.lnk.verdictHere && decide (64 < d.time.cycle))

theorem Dev.missedVerdicts_eq (d : Dev) :
    d.missedVerdicts = d.lnk.missed + (if d.lnk.verdictHere = false ∧ 64 < d.time.cycle then 1 else 0) := by
  simp [Dev.missedVerdicts, b2n]

/-- This package has cause to report the member to the head (10 R327). -/
def Dev.reportsLoss (d : Dev) (pkg : Nat) : Bool :=
  d.role.assigned && ((d.role.position != 0xFFFF && decide (3 ≤ d.missedVerdicts)) || (List.range 6).any (d.deadPort pkg))

theorem Dev.reportsLoss_iff {d : Dev} : d.reportsLoss pkg = true ↔ d.role.assigned = true ∧
    ((d.role.position ≠ 0xFFFF ∧ 3 ≤ d.missedVerdicts) ∨
      ∃ p < 6, ∃ x, (d.port p).peer = some x ∧ x.2.1 = pkg ∧ (d.port p).up = false) := by
  simp only [Dev.reportsLoss, Bool.and_eq_true, Bool.or_eq_true, bne_iff_ne, decide_eq_true_eq, List.any_eq_true, List.mem_range,
    Dev.deadPort_iff]

theorem stepMemberLossReport_elsewhere (h : s.dev.isHead = false) : stepMemberLossReport pkg s =
    if s.dev.reportsLoss pkg = true then s.emit (.message (s.dev.role.head.getD 0) 0x08 [0x15, pkg]) else s :=
  if_neg (by simp [h])
end Loss

section Rejoin
variable {s : State} {pkg : Nat} {kept : Bool} {m : Member} {r : Rerig}

/-- The member is back in RUN (10 R327). -/
def State.rejoined (s : State) (pkg : Nat) : State := s.updLnk (fun l => { l with
  members := l.members.map (fun x => if x.pkg = pkg then { x with lost := none, inRun := true, missed := 0 } else x) })

theorem stepMemberRejoin_of_none (h : (∀ m ∈ s.dev.lnk.members, m.pkg = pkg → m.lost = none) ∨ s.dev.lnk.rerig = none) :
    stepMemberRejoin pkg kept s = s := by
  unfold stepMemberRejoin
  split
  next m r hm hr =>
    rcases h with h | h
    · have found := List.find?_some hm
      simp only [Bool.and_eq_true, beq_iff_eq] at found
      simp [h m (List.mem_of_find?_eq_some hm) found.1] at found
    · exact absurd (h.symm.trans hr) (by simp)
  · rfl

section Found
variable (hm : s.dev.lnk.members.find? (fun m => m.pkg == pkg && m.lost.isSome) = some m) (hr : s.dev.lnk.rerig = some r)
include hm hr

theorem stepMemberRejoin_of_refused
    (h : s.dev.isHead = false ∨ r.phase ≠ 1 ∨ r.pkg ≠ pkg ∨ kept = false ∨ s.dev.waitOver r = true) :
    stepMemberRejoin pkg kept s = s := by
  simp only [stepMemberRejoin, hm, hr]
  refine if_neg fun taken => ?_
  simp only [Bool.and_eq_true, beq_iff_eq, Bool.not_eq_true'] at taken
  obtain ⟨⟨⟨⟨head, waiting⟩, awaited⟩, keeps⟩, early⟩ := taken
  rcases h with h | h | h | h | h
  · exact Bool.eq_false_iff.mp h head
  · exact h waiting
  · exact h awaited
  · exact Bool.eq_false_iff.mp h keeps
  · exact Bool.eq_false_iff.mp early h

section Taken
variable (head : s.dev.isHead = true) (waiting : r.phase = 1) (awaited : r.pkg = pkg) (early : s.dev.waitOver r = false)
include head waiting awaited early

theorem stepMemberRejoin_of_another_lost {x : Member}
    (hx : (s.rejoined pkg).dev.lnk.members.find? (fun x => x.lost.isSome && x.position != 0xFFFF) = some x) :
    stepMemberRejoin pkg true s = (s.rejoined pkg).updLnk (fun l =>
      { l with rerig := some { r with pkg := x.pkg, position := x.position }, rerigPkg := BitVec.ofNat 12 x.pkg }) := by
  simp only [State.rejoined] at hx
  simp only [stepMemberRejoin, hm, hr, hx]
  exact if_pos (by simp [head, waiting, awaited, early])

theorem stepMemberRejoin_of_all_back
    (hx : (s.rejoined pkg).dev.lnk.members.find? (fun x => x.lost.isSome && x.position != 0xFFFF) = none) :
    stepMemberRejoin pkg true s =
      ((s.rejoined pkg).resumeSlice.updLnk (fun l => { l with rerig := some { r with phase := 5 } })).startRebuild m.position true := by
  simp only [State.rejoined] at hx
  simp only [stepMemberRejoin, hm, hr, hx]
  exact if_pos (by simp [head, waiting, awaited, early])
end Taken
end Found
end Rejoin

section Wait
variable {s : State} {f : RerigFacts}

theorem stepRerigWaitExpiry_of_not_auto (h : s.dev.isHead = false ∨ s.dev.lnk.auto = false) : stepRerigWaitExpiry f s = s :=
  if_pos (by simpa using h)

/-- A failed link can be routed around: every member stays within reach (10 R330). -/
def Dev.routesAround (d : Dev) (f : RerigFacts) : Bool := f.linkOnly && hopsFit f.links d.lnk.members && allReach f.links d.lnk.members

variable (head : s.dev.isHead = true) (auto : s.dev.lnk.auto = true)
include head auto

theorem stepRerigWaitExpiry_of_none (hr : s.dev.lnk.rerig = none) : stepRerigWaitExpiry f s =
    if s.dev.routesAround f = true then s.beginRerig { pkg := 0, spare := none, phase := 1, reply := none, since := s.tick, position := 0,
                                                       start := false, links := f.links, linkOnly := true, epoch := 0 }
    else s := by
  simp only [stepRerigWaitExpiry, head, auto, Bool.not_true, Bool.or_self, Bool.false_eq_true, if_false, hr]
  rfl

section Waiting
variable {r : Rerig} (hr : s.dev.lnk.rerig = some r)
include hr

theorem stepRerigWaitExpiry_of_early (h : r.phase ≠ 1 ∨ s.dev.waitOver r = false) : stepRerigWaitExpiry f s = s := by
  simp only [stepRerigWaitExpiry, head, auto, Bool.not_true, Bool.or_self, Bool.false_eq_true, if_false, hr]
  refine if_neg ?_
  rintro ⟨waiting, ended⟩
  exact h.elim (absurd waiting) (fun early => Bool.eq_false_iff.mp early ended)

variable (waiting : r.phase = 1) (ended : s.dev.waitOver r = true)
include waiting ended

theorem stepRerigWaitExpiry_of_refusal (h : (s.dev.rerigRefusal r.pkg (s.dev.lnk.covering r.position) f).isSome = true) :
    stepRerigWaitExpiry f s = s.degradedRecords := by
  obtain ⟨e, he⟩ := Option.isSome_iff_exists.mp h
  simp only [stepRerigWaitExpiry, head, auto, Bool.not_true, Bool.or_self, Bool.false_eq_true, if_false, hr, he]
  exact if_pos ⟨waiting, ended⟩

theorem stepRerigWaitExpiry_of_plan (h : s.dev.rerigRefusal r.pkg (s.dev.lnk.covering r.position) f = none) :
    stepRerigWaitExpiry f s = s.beginRerig (rerigOf r.pkg (s.dev.lnk.covering r.position) r.position r.since none f false) := by
  simp only [stepRerigWaitExpiry, head, auto, Bool.not_true, Bool.or_self, Bool.false_eq_true, if_false, hr, h]
  exact if_pos ⟨waiting, ended⟩
end Waiting
end Wait

section Rebuilt
variable {s : State} {ch : Nat} {t : Stream}

theorem stepStreamRebuilt_of_no_stream (h : s.dev.stream ch = none) : stepStreamRebuilt ch s = s := by simp only [stepStreamRebuilt, h]

theorem stepStreamRebuilt_of_no_rebuild (h : s.dev.stream ch = some t) (hn : t.rebuild = none) : stepStreamRebuilt ch s = s := by
  simp only [stepStreamRebuilt, h, hn]

theorem stepStreamRebuilt_of_rebuild (h : s.dev.stream ch = some t) {n : Nat} {l : List (Nat × Nat)} (hl : t.rebuild = some (n, l)) :
    stepStreamRebuilt ch s = if 0 < rangeSum l ∨ s.dev.srv.waitsShared t = true then s
      else if t.st == .parked then (s.updStream ch (fun t => { t with rebuild := none })).finishRestore ch false
      else s.updStream ch (fun t => { t with rebuild := none }) := by
  simp only [stepStreamRebuilt, h, hl]
end Rebuilt

theorem stepSyncLock_of_member {s : State} {pkg : Nat} (head : s.dev.isHead = true) (other : pkg ≠ s.dev.role.pkg.toNat) :
    stepSyncLock pkg s = (s.updLnk (fun l =>
      { l with members := l.members.map (fun m => if m.pkg = pkg then { m with inRun := true } else m) })).finishSlice :=
  if_pos (by simp [head, other])

theorem stepSyncLock_of_own {s : State} {pkg : Nat} (h : s.dev.isHead = false ∨ pkg = s.dev.role.pkg.toNat) : stepSyncLock pkg s = s.lockSync :=
  if_neg (by rcases h with h | h <;> simp [h])

end Sys2Proof.Machine

open Sys2Proof Sys2Proof.Machine

/-- Settles O44: each command by the cases of its conditions, at the head and elsewhere. -/
theorem lostMembers : Obligations.LostMembers := by
  intro s pkg cause ch kept f
  refine ⟨fun head => ⟨fun m u hm hl hr hu => ⟨?_, ?_⟩, fun h => ⟨?_, ?_⟩⟩,
    fun missed dead away hmissed hdead => ⟨?_, fun ha h => ?_, fun h => ?_⟩,
    fun m r u hm hr hu => ⟨fun h => ?_, fun head waiting awaited early => ⟨fun x hx => ?_, fun hx => ?_⟩⟩, fun h => ?_, fun h => ?_,
    fun head auto hr => ⟨fun h => ?_, fun h => ?_⟩, fun r head auto hr => ⟨fun h => ?_, fun waiting ended => ⟨fun h => ?_, fun h => ?_⟩⟩,
    fun h => ?_, fun t ht => ⟨fun h => ?_, fun n l hl => ⟨fun h => ?_, fun done shared => ⟨fun h => ?_, fun h => ?_⟩⟩⟩,
    fun head other => ?_, fun h => ?_⟩
  · rw [exec_memberLossReport, stepMemberLossReport_at_head head, State.noteLost_of_member hm hl hr, hu, State.markLost]
  · rw [exec_memberLost, stepMemberLost_at_head head, State.noteLost_of_member hm hl hr, hu, State.markLost]
  · rw [exec_memberLossReport, stepMemberLossReport_at_head head, State.noteLost_of_other h]
  · rw [exec_memberLost, stepMemberLost_at_head head, State.noteLost_of_other h]
  · rw [exec_memberLost, stepMemberLost_elsewhere away]
  · have reports : s.dev.reportsLoss pkg = true := Dev.reportsLoss_iff.mpr ⟨ha, by rwa [Dev.missedVerdicts_eq, ← hmissed, ← hdead]⟩
    rw [exec_memberLossReport, stepMemberLossReport_elsewhere away, if_pos reports]
  · have silent : ¬ s.dev.reportsLoss pkg = true := by
      rw [Dev.reportsLoss_iff, Dev.missedVerdicts_eq, ← hmissed, ← hdead]
      rintro ⟨ha, ⟨hp, h3⟩ | hd⟩
      · rcases h with h | ⟨hp' | hlt, -⟩
        · exact absurd ha (by simp [h])
        · exact hp hp'
        · omega
      · rcases h with h | ⟨-, hnd⟩
        · exact absurd ha (by simp [h])
        · exact hnd hd
    rw [exec_memberLossReport, stepMemberLossReport_elsewhere away, if_neg silent]
  · rw [exec_memberRejoin, stepMemberRejoin_of_refused hm hr h]
  · obtain rfl : u = s.rejoined pkg := hu
    rw [exec_memberRejoin, stepMemberRejoin_of_another_lost hm hr head waiting awaited early hx]
  · obtain rfl : u = s.rejoined pkg := hu
    rw [exec_memberRejoin, stepMemberRejoin_of_all_back hm hr head waiting awaited early hx]
  · rw [exec_memberRejoin, stepMemberRejoin_of_none h]
  · rw [exec_rerigWaitExpiry, stepRerigWaitExpiry_of_not_auto h]
  · rw [exec_rerigWaitExpiry, stepRerigWaitExpiry_of_none head auto hr, Dev.routesAround, h]
    rfl
  · rw [exec_rerigWaitExpiry, stepRerigWaitExpiry_of_none head auto hr, Dev.routesAround, if_pos h]
  · rw [exec_rerigWaitExpiry, stepRerigWaitExpiry_of_early head auto hr h]
  · rw [exec_rerigWaitExpiry, stepRerigWaitExpiry_of_refusal head auto hr waiting ended h]
  · rw [exec_rerigWaitExpiry, stepRerigWaitExpiry_of_plan head auto hr waiting ended h]
  · rw [exec_streamRebuilt, stepStreamRebuilt_of_no_stream h]
  · rw [exec_streamRebuilt, stepStreamRebuilt_of_no_rebuild ht h]
  · rw [exec_streamRebuilt, stepStreamRebuilt_of_rebuild ht hl, if_pos h]
  · rw [exec_streamRebuilt, stepStreamRebuilt_of_rebuild ht hl, if_neg (by simp [done, shared]), if_neg (by simpa using h)]
  · rw [exec_streamRebuilt, stepStreamRebuilt_of_rebuild ht hl, if_neg (by simp [done, shared]), if_pos (by simp [h])]
  · rw [exec_syncLock, stepSyncLock_of_member head other]
  · rw [exec_syncLock, stepSyncLock_of_own h]
end

section
/-! PROOF. O38 fails: a layer package that takes a tack marker also sets SRV_KV_TOTAL to the new pool size (07 R219, R457), which the
statement's next state leaves as it was. -/

namespace Sys2Proof.Machine

theorem exec_bundleReceive (b : Bundle) (late : Option Nat) (s : State) :
    exec (.bundleReceive b late) s = .next (stepBundleReceive b late s) := rfl

/-- A bundle of the tack marker alone, of this tick. -/
def markerBundle : Bundle := { tick := 0, tack := true, rebuildOnly := false, epoch := 1, entries := [] }

/-- An image's header page up to its KV_BLOCKS field, which says 8 (07 Table 7-1). -/
def headerPage : List Byte := List.replicate 0x34 0 ++ [8, 0, 0, 0]

/-- A layer package, its KV pool of no blocks yet, with a staged payload whose image asks for 8 blocks. -/
def layerState : State :=
  (State.reset.updRole (fun r => { r with assigned := true, slice := 1, role := 2, pkg := 5, position := 1 })).updWs (fun w =>
    { w with staged := some { imageId := 1, epoch := 1, own := true, position := 1, pending := true, pages := [(0, headerPage)],
                              phys := [7] } })

theorem layerState_not_head : layerState.dev.isHead = false := by decide
theorem layerState_position : layerState.dev.role.position ≠ 0xFFFF := by decide
theorem layerState_kvTotal : layerState.dev.srv.kvTotal = 0 := rfl

theorem stepBundleReceive_of_layer {s : State} (h : s.dev.isHead = false) (hp : s.dev.role.position ≠ 0xFFFF) (b : Bundle)
    (late : Option Nat) : stepBundleReceive b late s = s.layerBundle b late :=
  (if_neg (by simp [h])).trans (if_neg hp)

/-- The marker gives SRV_KV_TOTAL the staged image's size (07 R219, R457). -/
theorem layerBundle_markerBundle_kvTotal : (layerState.layerBundle markerBundle none).dev.srv.kvTotal = 8 := rfl

end Sys2Proof.Machine

open Sys2Proof Sys2Proof.Machine

/-- Refutes O38: at a layer package with a staged image of 8 KV blocks and a pool of none, a bundle with the tack marker makes
SRV_KV_TOTAL 8; the statement's state changes the weight store alone, so that SRV_KV_TOTAL would stay 0. -/
theorem not_bundlesAndVerdicts : ¬ Obligations.BundlesAndVerdicts := by
  intro h
  obtain ⟨-, layer, -⟩ := h layerState markerBundle none []
  obtain ⟨onTime, -⟩ := layer [] _ _ _ _ layerState_not_head layerState_position rfl rfl rfl (fun e => by cases e) (fun _ => rfl) rfl
  have answer := onTime rfl (by decide)
  rw [exec_bundleReceive, stepBundleReceive_of_layer layerState_not_head layerState_position] at answer
  have states := Host.Outcome.next.inj answer
  have totals := congrArg (fun t : State => t.dev.srv.kvTotal) states
  rw [layerBundle_markerBundle_kvTotal] at totals
  have unchanged : (8 : Nat) = layerState.dev.srv.kvTotal := totals
  rw [layerState_kvTotal] at unchanged
  cases unchanged
end

section
/-! PROOF. Training and margining of ports: when a port may train, what the end of training leaves, the faults of a lane, and O40 from
them (06 R185, R186; 10 R309 to R312, R315). -/

namespace Sys2Proof.Machine

theorem exec_linkRetrain (p : Nat) (c : RetrainCause) (s : State) : exec (.linkRetrain p c) s = .next (stepLinkRetrain p c s) := rfl
theorem exec_linkTrainingDone (p : Nat) (r : TrainResult) (s : State) :
    exec (.linkTrainingDone p r) s = .next (stepLinkTrainingDone p r s) := rfl
theorem exec_laneMargining (p n width height : Nat) (s : State) :
    exec (.laneMargining p n width height) s = .next (stepLaneMargining p n width height s) := rfl

section Retrain
variable {s : State} {p : Nat}

/-- A port may train: EN is 1, it is neither retired nor denied, and the CC has booted (10 R309). -/
def Dev.mayTrain (d : Dev) (p : Nat) : Bool :=
  (d.port p).en && (d.port p).state != 4 && !d.chk.denies 5 p && decide (5 ≤ d.rst.step.toNat)

/-- A port in TRAINING: every lane's eye is STALE, and the coefficients of a known peer are kept (10 R309; 06 R185). -/
def Port.training (x : Port) : Port := { x with state := 1, kept := x.kept || x.peer.isSome, naks := 0, eyeStale := 0x1FF }

theorem State.startTraining_of_may (h : s.dev.mayTrain p = true) : s.startTraining p = s.updPort p Port.training := if_pos h
theorem State.startTraining_of_may_not (h : s.dev.mayTrain p = false) : s.startTraining p = s := if_neg (ne_true_of_eq_false h)

/-- What a training's cause does to the port before it trains (10 R309). -/
def State.beforeTraining (s : State) (p : Nat) (c : RetrainCause) : State :=
  match c with
  | .retrain => s
  | .enable => s.updPort p (fun x => { x with en := true })
  | .linkDown => s.updPort p (fun x => { x with state := if x.state = 4 then 4 else 0 })

theorem stepLinkRetrain_eq (c : RetrainCause) : stepLinkRetrain p c s = (s.beforeTraining p c).startTraining p := by cases c <;> rfl
end Retrain

section TrainingDone
variable {s : State} {p : Nat} {r : TrainResult}

/-- The port is UP, or DEGRADED with two lanes retired, with its delay and its peer; its replay buffer counts as sent again. -/
def Port.trained (x : Port) (r : TrainResult) : Port :=
  { x with state := if 2 ≤ x.retiredLanes then 3 else 2, delay := r.delayNs, peer := some (r.peerPort, r.peerPkg, r.peerSerial),
           kept := false, marginLane := 0, margining := false, retry := wrapInc x.retry x.replay.length }

/-- The end of training, but for the report of a new peer: the lanes are measured, the replay buffer is sent again, and the frames
that waited follow (06 R186; 10 R315). -/
def State.endTraining (s : State) (p : Nat) (r : TrainResult) : State :=
  let v := (s.updPort p (·.trained r)).each ((r.eyes.take 9).zipIdx) (fun s e => s.measureLane p e.2 e.1.1 e.1.2)
  (v.each (v.dev.port p).replay (fun s f => s.sendRaw p f.2)).drain p

/-- The port had a peer of another identity before (10 R310). -/
def Port.losesPeer (x : Port) (now : Nat × Nat × Nat) : Bool :=
  match x.peer with
  | some old => old != now
  | none => false

theorem Port.losesPeer_iff {x : Port} {now : Nat × Nat × Nat} : x.losesPeer now = true ↔ ∃ old, x.peer = some old ∧ old ≠ now := by
  cases h : x.peer <;> simp [Port.losesPeer, h]

/-- The head hears of a port's new peer (10 R310). -/
def State.reportPeer (s : State) (p : Nat) : State :=
  s.emit (.message (s.dev.role.head.getD s.dev.role.pkg.toNat) 0x08 [0x12, s.dev.role.pkg.toNat, p])

theorem stepLinkTrainingDone_of_not_training (h : (s.dev.port p).state ≠ 1) : stepLinkTrainingDone p r s = s := if_pos (by simpa using h)

theorem stepLinkTrainingDone_of_training (h : (s.dev.port p).state = 1) : stepLinkTrainingDone p r s =
    if (s.dev.port p).losesPeer (r.peerPort, r.peerPkg, r.peerSerial) then (s.endTraining p r).reportPeer p else s.endTraining p r := by
  simp only [stepLinkTrainingDone, h, bne_self_eq_false, Bool.false_eq_true, if_false, decide_eq_true_eq]
  rfl
end TrainingDone

section LaneFault
variable {s : State} {p n width height : Nat}

/-- Faults of a lane at most w ticks ago (10 R311). -/
def Port.faultsWithin (x : Port) (n k w : Nat) : Nat := (x.faults.filter (fun e => e.1 == n && decide (k ≤ e.2 + w))).length

theorem State.laneFault_of_retired (h : (s.dev.port p).retired.getLsbD n = true) : s.laneFault p n width height = s := if_pos h

theorem State.laneFault_of_retiring (h : (s.dev.port p).retired.getLsbD n = false)
    (hf : 1 ≤ (s.dev.port p).faultsWithin n s.tick 999 ∨ 2 ≤ (s.dev.port p).faultsWithin n s.tick 999999) :
    s.laneFault p n width height = ((s.logEvent 0x40 6 (16 * p + n) width height).updPort p (fun x =>
      { x with faults := x.faults.filter (fun e => e.1 != n) })).retireLane p n :=
  (if_neg (ne_true_of_eq_false h)).trans (if_pos hf)

theorem State.laneFault_of_remembered (h : (s.dev.port p).retired.getLsbD n = false)
    (hn : (s.dev.port p).faultsWithin n s.tick 999 = 0) (hf : (s.dev.port p).faultsWithin n s.tick 999999 ≤ 1) :
    s.laneFault p n width height = (s.logEvent 0x40 6 (16 * p + n) width height).updPort p (fun x =>
      { x with faults := (x.faults.filter (fun e => decide (s.tick ≤ e.2 + 999999))) ++ [(n, s.tick)] }) :=
  (if_neg (ne_true_of_eq_false h)).trans <| if_neg (not_or.mpr
    ⟨Nat.not_le.mpr (Nat.lt_one_iff.mpr hn), Nat.not_le.mpr (Nat.lt_succ_of_le hf)⟩)
end LaneFault

section Margining
variable {s : State} {p n width height : Nat}

/-- A lane's measurement ends: its eye is recorded, its STALE bit clears, and the next lane is the next round's (06 R186). -/
def State.endMargining (s : State) (p n width height : Nat) : State :=
  (s.updPort p (fun x => { x with margining := false, marginLane := (x.marginLane + 1) % 9 })).updPort p (fun x =>
    { x with eyes := Tab.put x.eyes n (width, height), eyeStale := x.eyeStale &&& ~~~(BitVec.ofNat 9 (2 ^ n)) })

theorem stepLaneMargining_of_not_measured
    (h : 6 ≤ p ∨ (s.dev.port p).up = false ∨ (s.dev.port p).margining = false ∨ n ≠ (s.dev.port p).marginLane) :
    stepLaneMargining p n width height s = s := if_neg <| by
  rintro ⟨hp, up, margins, lane⟩
  rcases h with h | h | h | h
  · exact Nat.not_le.mpr hp h
  · exact ne_true_of_eq_false h up
  · exact ne_true_of_eq_false h margins
  · exact h lane

theorem stepLaneMargining_of_measured (hp : p < 6) (up : (s.dev.port p).up = true) (margins : (s.dev.port p).margining = true)
    (lane : n = (s.dev.port p).marginLane) : stepLaneMargining p n width height s =
      if width < 24 ∨ height < 12 then (s.endMargining p n width height).laneFault p n width height
      else s.endMargining p n width height := if_pos ⟨hp, up, margins, lane⟩
end Margining

end Sys2Proof.Machine

open Sys2Proof Sys2Proof.Machine

/-- Settles O40: a port that may train trains; the end of training and of a lane's measurement are their steps' cases, and a low eye is
the lane fault's. -/
theorem portTraining : Obligations.PortTraining := by
  intro s p n width height r may train hmay htrain
  refine ⟨fun c u hr he hd => ?_, fun h => ?_, ?_, fun h => ?_, ?_⟩
  · have prepared : u = s.beforeTraining p c := by
      cases c with
      | retrain => exact hr rfl
      | enable => exact he rfl
      | linkDown => exact hd rfl
    subst prepared
    rw [exec_linkRetrain, stepLinkRetrain_eq, hmay, htrain]
    exact ⟨fun h => congrArg _ (State.startTraining_of_may h), fun h => congrArg _ (State.startTraining_of_may_not h)⟩
  · rw [exec_linkTrainingDone, stepLinkTrainingDone_of_not_training h]
  · rintro x now u v w h rfl rfl rfl rfl hw
    have ends : w = s.endTraining p r := hw
    rw [exec_linkTrainingDone, stepLinkTrainingDone_of_training h, ends]
    refine ⟨fun same => ?_, fun old had other => ?_⟩
    · rw [if_neg]
      intro loses
      obtain ⟨old, had, other⟩ := Port.losesPeer_iff.mp loses
      rw [had] at same
      exact same.elim nofun fun e => other (Option.some.inj e)
    · rw [if_pos (Port.losesPeer_iff.mpr ⟨old, had, other⟩), State.reportPeer]
  · rw [exec_laneMargining, stepLaneMargining_of_not_measured h]
  · intro u x hp up margins lane hu hx
    obtain rfl : u = s.endMargining p n width height := hu
    subst hx
    rw [exec_laneMargining, stepLaneMargining_of_measured hp up margins lane]
    refine ⟨fun hw hh => ?_, fun retired => ?_, ?_⟩
    · rw [if_neg (not_or.mpr ⟨Nat.not_lt.mpr hw, Nat.not_lt.mpr hh⟩)]
    · rw [State.laneFault_of_retired retired, ite_self]
    · rintro low active near far rfl rfl
      refine ⟨fun none_near few_far => ?_, fun again => ?_⟩
      · rw [if_pos low, State.laneFault_of_remembered active none_near few_far]
        rfl
      · rw [if_pos low, State.laneFault_of_retiring active again]
end

section
/-! PROOF. FURL, trips, supply faults and islands: one lemma per case of each step, and O58 from them (06 R180; 15 R423, R428, R429,
R436, R437, R439, R441). -/

namespace Sys2Proof.Machine

theorem exec_furlRequest (s : State) : exec .furlRequest s = .next (stepFurlRequest s) := rfl
theorem exec_mgmtFurl (s : State) : exec .mgmtFurl s = .next (stepMgmtFurl s) := rfl
theorem exec_wakeN (s : State) : exec .wakeN s = .next (stepWakeN s) := rfl
theorem exec_mgmtWake (s : State) : exec .mgmtWake s = .next (stepMgmtWake s) := rfl
theorem exec_thermalTrip (sensor : Nat) (temp : Int) (s : State) :
    exec (.thermalTrip sensor temp) s = .next (stepThermalTrip sensor temp s) := rfl
theorem exec_vinFault (s : State) : exec .vinFault s = .next (stepVinFault s) := rfl
theorem exec_islandFurlRetain (i : Nat) (s : State) : exec (.islandFurlRetain i) s = .next (s.islandGo 1 i) := rfl
theorem exec_islandFurlDark (i : Nat) (s : State) : exec (.islandFurlDark i) s = .next (s.islandGo 2 i) := rfl
theorem exec_islandUnfurl (i : Nat) (s : State) : exec (.islandUnfurl i) s = .next (s.islandGo 3 i) := rfl
theorem exec_islandFurlComplete (i : Nat) (s : State) : exec (.islandFurlComplete i) s = .next (stepIslandFurlComplete i s) := rfl
theorem exec_islandUnfurlComplete (i : Nat) (s : State) : exec (.islandUnfurlComplete i) s = .next (stepIslandUnfurlComplete i s) := rfl

section Furl
variable {s : State}

theorem stepMgmtFurl_of_awake (h : s.dev.awake = true) : stepMgmtFurl s = stepFurlRequest s := if_pos h
theorem stepMgmtFurl_of_not_awake (h : s.dev.awake = false) : stepMgmtFurl s = s := if_neg (by simp [h])

/-- A wake is heard: in FURL, with AUX, and after neither a trip nor a VIN fault (15 R423, R436, R439). -/
def Dev.hearsWake (d : Dev) : Bool := d.rst.furl && d.cn.auxOk && !d.cn.tripped && !d.cn.vinFault

theorem stepWakeN_of_heard (h : s.dev.hearsWake = true) :
    stepWakeN s = s.updRst (fun r => { r with furl := false, step := 2, warmSeq := false }) := if_pos h
theorem stepWakeN_of_unheard (h : s.dev.hearsWake = false) : stepWakeN s = s := if_neg (ne_true_of_eq_false h)
end Furl

section Trips
variable {s : State} {bit sensor : Nat} {temp : Int}

theorem State.raiseIbi_of_enabled (h : s.dev.cn.ibiEn.getLsbD bit = true) : s.raiseIbi bit = s.emit (.ibi bit) := if_pos h
theorem State.raiseIbi_of_disabled (h : s.dev.cn.ibiEn.getLsbD bit = false) : s.raiseIbi bit = s := if_neg (ne_true_of_eq_false h)

/-- A trip record and FURL leave the crow's nest as it is (15 R423). -/
theorem State.enterFurl_tripRecord_cn (s : State) (kind sensor : Nat) (temp : Int) :
    ((s.tripRecord kind sensor temp).enterFurl).dev.cn = s.dev.cn := rfl

/-- A trip is recorded, FURL entered, and the trip latched (15 R436). -/
def State.tripFurl (s : State) (sensor : Nat) (temp : Int) : State :=
  ((s.tripRecord 1 sensor temp).enterFurl).updCn (fun c => { c with tripped := true, tripCmp := true })

/-- A VIN fault is recorded with the hottest sensor's free reading, FURL entered, and the fault latched (15 R439; entry 8). -/
def State.vinFurl (s : State) : State :=
  ((s.take32.2.tripRecord 2 0xFF (signed 16 s.take32.1.toNat)).enterFurl).updCn (fun c => { c with vinFault := true, vinOk := false })

theorem State.tripFurl_ibiEn : (s.tripFurl sensor temp).dev.cn.ibiEn = s.dev.cn.ibiEn :=
  (congrArg Cn.ibiEn (s.enterFurl_tripRecord_cn 1 sensor temp) :)

theorem State.vinFurl_ibiEn : s.vinFurl.dev.cn.ibiEn = s.dev.cn.ibiEn :=
  (congrArg Cn.ibiEn (s.take32.2.enterFurl_tripRecord_cn 2 0xFF (signed 16 s.take32.1.toNat)) :)

theorem stepThermalTrip_of_ignored (h : s.dev.cn.auxOk = false ∨ s.dev.cn.tripped = true) : stepThermalTrip sensor temp s = s :=
  if_pos (by simpa using h)

theorem stepThermalTrip_of_taken (ha : s.dev.cn.auxOk = true) (ht : s.dev.cn.tripped = false) :
    stepThermalTrip sensor temp s = (s.tripFurl sensor temp).raiseIbi 0 := if_neg (by simp [ha, ht])

theorem stepVinFault_of_ignored (h : s.dev.cn.auxOk = false ∨ s.dev.cn.vinFault = true) : stepVinFault s = s :=
  if_pos (by simpa using h)

theorem stepVinFault_of_taken (ha : s.dev.cn.auxOk = true) (hv : s.dev.cn.vinFault = false) :
    stepVinFault s = s.vinFurl.raiseIbi 1 := if_neg (by simp [ha, hv])
end Trips

section Islands
variable {s : State} {i : Nat}

theorem stepIslandFurlComplete_of_retain (h : (s.dev.isl i).st = .furlingRetain) :
    stepIslandFurlComplete i s = s.updIsl i (fun x => { x with st := .retain }) := by simp only [stepIslandFurlComplete, h]

theorem stepIslandFurlComplete_of_dark (h : (s.dev.isl i).st = .furlingDark) :
    stepIslandFurlComplete i s = s.updIsl i (fun x => { x with st := .dark }) := by simp only [stepIslandFurlComplete, h]

theorem stepIslandFurlComplete_of_not_furling (hr : (s.dev.isl i).st ≠ .furlingRetain) (hd : (s.dev.isl i).st ≠ .furlingDark) :
    stepIslandFurlComplete i s = s := by
  unfold stepIslandFurlComplete
  split
  next h => exact absurd h hr
  next h => exact absurd h hd
  next => rfl

theorem stepIslandUnfurlComplete_of_unfurling {fromDark : Bool} (h : (s.dev.isl i).st = .unfurling fromDark) :
    stepIslandUnfurlComplete i s = (if fromDark then (s.updIsl i (fun x => { x with st := .up })).refillIsland i
      else s.updIsl i (fun x => { x with st := .up })).jumpTaps i := by simp only [stepIslandUnfurlComplete, h]

theorem stepIslandUnfurlComplete_of_not_unfurling (h : ∀ b, (s.dev.isl i).st ≠ .unfurling b) : stepIslandUnfurlComplete i s = s := by
  unfold stepIslandUnfurlComplete
  split
  next b hb => exact absurd hb (h b)
  next => rfl
end Islands

end Sys2Proof.Machine

open Sys2Proof Sys2Proof.Machine

/-- Settles O58: each command is its step's case; a trip and a VIN fault leave the crow's nest's interrupt enables, which decide the
interrupt. -/
theorem furlTripsAndIslands : Obligations.FurlTripsAndIslands := by
  intro s sensor i temp
  refine ⟨exec_furlRequest s, fun h => ?_, fun h => ?_, ?_, fun h => ?_, fun h => ?_, ?_, ?_, ?_, fun h => ?_, fun h => ?_,
    fun hr hd => ?_, fun h => ?_, fun h => ?_, fun h => ?_⟩
  · rw [exec_mgmtFurl, stepMgmtFurl_of_awake h, stepFurlRequest]
  · rw [exec_mgmtFurl, stepMgmtFurl_of_not_awake h]
  · rintro ok rfl
    refine ⟨fun heard => ?_, fun unheard => ?_⟩
    · rw [exec_wakeN, exec_mgmtWake, stepMgmtWake, stepWakeN_of_heard heard]
      exact ⟨rfl, rfl⟩
    · rw [exec_wakeN, exec_mgmtWake, stepMgmtWake, stepWakeN_of_unheard unheard]
      exact ⟨rfl, rfl⟩
  · rw [exec_thermalTrip, stepThermalTrip_of_ignored h]
  · rw [exec_vinFault, stepVinFault_of_ignored h]
  · intro u ha ht hu
    obtain rfl : u = s.tripFurl sensor temp := hu
    rw [exec_thermalTrip, stepThermalTrip_of_taken ha ht, ← State.tripFurl_ibiEn (sensor := sensor) (temp := temp)]
    exact ⟨fun on => congrArg _ (State.raiseIbi_of_enabled on), fun off => congrArg _ (State.raiseIbi_of_disabled off)⟩
  · intro u ha hv hu
    obtain rfl : u = s.vinFurl := hu
    rw [exec_vinFault, stepVinFault_of_taken ha hv, ← State.vinFurl_ibiEn]
    exact ⟨fun on => congrArg _ (State.raiseIbi_of_enabled on), fun off => congrArg _ (State.raiseIbi_of_disabled off)⟩
  · intro n u hu
    obtain rfl : u = s.islandGo n i := hu
    refine ⟨?_, ?_, ?_⟩ <;> rintro rfl
    · exact exec_islandFurlRetain i s
    · exact exec_islandFurlDark i s
    · exact exec_islandUnfurl i s
  · rw [exec_islandFurlComplete, stepIslandFurlComplete_of_retain h]
  · rw [exec_islandFurlComplete, stepIslandFurlComplete_of_dark h]
  · rw [exec_islandFurlComplete, stepIslandFurlComplete_of_not_furling hr hd]
  · rw [exec_islandUnfurlComplete, stepIslandUnfurlComplete_of_unfurling h, if_neg Bool.false_ne_true]
  · rw [exec_islandUnfurlComplete, stepIslandUnfurlComplete_of_unfurling h, if_pos rfl]
  · rw [exec_islandUnfurlComplete, stepIslandUnfurlComplete_of_not_unfurling h]
end

section
/-! PROOF. O50 fails: where the table of pans is not in its canonical form, a fabric that is furled DARK keeps a trim store (06 R170,
R171). -/

namespace Sys2Proof.Machine

/-- The table lists pan 33 before pan 32: pan 33 is busy, and pan 32 has its trim store. -/
def pansMisordered : State := State.reset.upd (fun d => { d with
  pans := [(33, { Pan.reset 33 with busy := true }), (32, { Pan.reset 32 with trimLoaded := true })] })

/-- A lost pan 32 is as after reset, which the canonical form does not list: the write finds no place at pan 32's entry. -/
theorem pansMisordered_darkIslands_trimLoaded : (pansMisordered.darkIslands.pan 32).trimLoaded = true := by decide

theorem pansMisordered_not_wf : Sparse.wf Pan.reset pansMisordered.dev.pans = false := by decide

section Canonical
variable {m : List (Nat × Pan)} {p : Nat}

theorem Sparse.get_of_not_mem {α : Type} {d : Nat → α} {k : Nat} : ∀ {m : List (Nat × α)}, k ∉ m.map (·.1) → Sparse.get d m k = d k
  | [], _ => rfl
  | (j, _) :: _, h => by
    obtain ⟨hj, hr⟩ := not_or.mp (mt List.mem_cons.mpr h)
    exact (if_neg (Ne.symm hj)).trans (Sparse.get_of_not_mem hr)

theorem foldl_lost_trimLoaded (ks : List Nat) (hm : Sparse.wf Pan.reset m = true)
    (h : p ∈ ks ∨ (Sparse.get Pan.reset m p).trimLoaded = false) :
    (Sparse.get Pan.reset (ks.foldl (fun m k => Sparse.upd Pan.reset m k Pan.lost) m) p).trimLoaded = false := by
  induction ks generalizing m with
  | nil => exact h.resolve_left List.not_mem_nil
  | cons k ks ih =>
    refine ih (Sparse.wf_upd _ hm) ?_
    by_cases e : p = k
    · subst e
      rw [Sparse.get_upd_self _ hm]
      exact .inr rfl
    · rw [Sparse.get_upd_ne _ e]
      exact h.imp_left fun hp => (List.mem_cons.mp hp).resolve_left e

theorem State.darkIslands_pans (s : State) : s.darkIslands.dev.pans =
    (s.dev.pans.map (·.1)).foldl (fun m k => Sparse.upd Pan.reset m k Pan.lost) s.dev.pans := by
  simp only [State.darkIslands, State.upd, State.updHk_pans]

/-- The clause that fails holds where the table of pans is in its canonical form. -/
theorem State.darkIslands_trimLoaded {s : State} (hs : Sparse.wf Pan.reset s.dev.pans = true) (p : Nat) :
    (s.darkIslands.pan p).trimLoaded = false := by
  rw [State.pan, Dev.pan, State.darkIslands_pans]
  refine foldl_lost_trimLoaded _ hs ?_
  by_cases listed : p ∈ s.dev.pans.map (·.1)
  · exact .inl listed
  · rw [Sparse.get_of_not_mem listed]
    exact .inr rfl
end Canonical

end Sys2Proof.Machine

open Sys2Proof Sys2Proof.Machine

/-- Refutes O50: its clause that a DARK fabric has no trim store speaks of every state, also of one whose table of pans is not in the
canonical form. There pan 32, listed after pan 33, keeps its store. -/
theorem not_trimAndVerification : ¬ Obligations.TrimAndVerification := by
  intro h
  obtain ⟨-, -, lost, -⟩ := h pansMisordered 0 0 0 [] [] [] false false
  have kept := pansMisordered_darkIslands_trimLoaded
  rw [lost 32] at kept
  exact Bool.false_ne_true kept
end

section
/-! PROOF. IMAGE_INSTALL, IMAGE_STAGE, IMAGE_VERIFY and IMAGE_TACK as the first due command: each refusal, what begins, and O25 from
them (07 R201 to R204, R217 to R219, R226; entries 45, 46). -/

namespace Sys2Proof.Machine

theorem exec_imageInstall (ch : Nat) (s : State) : exec (.imageInstall ch) s = .next (s.runDue 0x20 ch (effImage .install)) := rfl
theorem exec_imageStage (ch : Nat) (s : State) : exec (.imageStage ch) s = .next (s.runDue 0x21 ch (effImage .stage)) := rfl
theorem exec_imageTack (ch : Nat) (s : State) : exec (.imageTack ch) s = .next (s.runDue 0x22 ch effTack) := rfl
theorem exec_imageVerify (ch : Nat) (s : State) : exec (.imageVerify ch) s = .next (s.runDue 0x23 ch (effImage .verify)) := rfl

/-- The first due command acts once it has left the list, and what the boundary does next follows (08 R244). -/
theorem State.runDue_of_due {s : State} {c : Cmd} {rest : List Cmd} {num : Nat} (hdue : s.dev.srv.due = c :: rest) (hop : c.op = num)
    (eff : Cmd → State → State) : s.runDue num c.ch eff = (eff c (s.dueLeft rest)).advance := by
  have taken : s.takeDue num c.ch = some (c, s.dueLeft rest) := by
    simp only [State.takeDue, hdue, hop, and_self, if_true]
    rfl
  simp only [State.runDue, taken]

theorem State.repOf_dueLeft (s : State) (c : Cmd) (rest : List Cmd) : (s.dueLeft rest).repOf c = s.repOf c := rfl

section Begin
variable {s : State} {c : Cmd} {op : ImgOp}

/-- The run that an image command begins at the head, at page 0 (07 R204; 08 Table 8-8). -/
def Cmd.imageRun (c : Cmd) (op : ImgOp) (rep : Rep) : ImgRun :=
  newRun op (some rep) (c.at 0x20 4) (bitAt (c.at 0x24 1) 0) (BitVec.ofNat 64 (c.at 0x18 8))

/-- The operation runs: a verify keeps what is staged, the others discard it (07 R203, R217). -/
def State.beginImage (s : State) (op : ImgOp) (run : ImgRun) : State :=
  (if op == .verify then s else s.unstage).updWs (fun w => { w with op := opCode op, state := 1, run := some run })

theorem effImage_of_flags (hf : 1 < c.at 0x24 1) : effImage op c s = s.reply (s.repOf c) stBAD 0x14 true true := if_pos hf

theorem effImage_of_refusal {code : Nat} (hf : c.at 0x24 1 ≤ 1) (h : s.dev.imageRefusal op = some code) :
    effImage op c s = s.refuseImage (s.repOf c) op code := by
  simp only [effImage, h]
  exact if_neg (Nat.not_lt.mpr hf)

/-- At page 0 the head reads the image's first page, or the first entry of its list (07 R204; 08 Table 8-8). -/
theorem State.readPage_of_imageRun {rep : Rep} (hf : c.at 0x24 1 ≤ 1) (h : s.dev.ws.run = some (c.imageRun op rep)) :
    s.readPage = s.emit (.hostRead rep.fn (BitVec.ofNat 64 (c.at 0x18 8)) (if c.at 0x24 1 = 1 then 8 else 65536)) := by
  simp only [State.readPage, h, Cmd.imageRun, newRun]
  obtain flag | flag : c.at 0x24 1 = 0 ∨ c.at 0x24 1 = 1 := by omega
  all_goals simp [flag, bitAt, pageBytes]

theorem effImage_of_begun (hf : c.at 0x24 1 ≤ 1) (h : s.dev.imageRefusal op = none) :
    effImage op c s = ((s.reply (s.repOf c) stQUEUED 0 true false).beginImage op (c.imageRun op (s.repOf c))).emit
      (.hostRead (s.repOf c).fn (BitVec.ofNat 64 (c.at 0x18 8)) (if c.at 0x24 1 = 1 then 8 else 65536)) := by
  rw [← State.readPage_of_imageRun (s := State.beginImage _ _ _) (op := op) hf rfl]
  simp only [effImage, h]
  exact if_neg (Nat.not_lt.mpr hf)
end Begin

section Tack
variable {s : State} {c : Cmd} {code : Nat}

theorem effTack_of_refusal (h : s.dev.imageRefusal .tack = some code ∨ (s.dev.imageRefusal .tack = none ∧
      ((2 < c.at 0x18 1 ∧ code = 0x01) ∨ (c.at 0x18 1 = 1 ∧ s.dev.ws.mixOk = false ∧ code = 0x10)))) :
    effTack c s = s.refuseImage (s.repOf c) .tack code := by
  rcases h with h | ⟨h, ⟨unknown, rfl⟩ | ⟨mix, unable, rfl⟩⟩
  · simp only [effTack, h]
  · simp only [effTack, h, unknown, if_true]
  · simp [effTack, h, mix, unable]

/-- The tack that the command orders, its marker not placed yet (07 R218, R226). -/
def Cmd.tack (c : Cmd) (rep : Rep) : Tack := ⟨c.at 0x18 1, some rep, c.at 0x1C 4, c.tick, none, 0⟩

theorem effTack_of_taken (h : s.dev.imageRefusal .tack = none)
    (hp : c.at 0x18 1 = 2 ∨ c.at 0x18 1 = 0 ∨ (c.at 0x18 1 = 1 ∧ s.dev.ws.mixOk = true)) {t : State}
    (ht : t = (s.reply (s.repOf c) stQUEUED 0 true false).updWs (fun w => { w with op := 4, tack := some (c.tack (s.repOf c)) })) :
    effTack c s = if c.at 0x18 1 = 2 then t else t.placeMarker := by
  subst ht
  have known : ¬ 2 < c.at 0x18 1 := by omega
  have able : ¬ (decide (c.at 0x18 1 = 1) && !s.dev.ws.mixOk) = true := by
    rcases hp with hp | hp | ⟨hp, hm⟩ <;> simp [*]
  simp only [effTack, h, if_neg known, if_neg able]
  rfl

@[simp] theorem State.reply_tick (s : State) (p : Rep) (st d : Nat) (rel fin : Bool) : (s.reply p st d rel fin).tick = s.tick := by
  simp only [State.tick, State.reply_time]

@[simp] theorem State.reply_tackGap (s : State) (p : Rep) (st d : Nat) (rel fin : Bool) :
    (s.reply p st d rel fin).dev.tackGap = s.dev.tackGap := by
  simp only [Dev.tackGap, State.reply_fab, State.reply_ws, State.reply_time]

/-- The marker of a tack that has just begun is to end this tick's bundle, with the tack's gap (07 R219). -/
theorem State.placeMarker_of_begun (s : State) (k : Tack) :
    (s.updWs (fun w => { w with op := 4, tack := some k })).placeMarker =
      s.updWs (fun w => { w with op := 4, tack := some { k with marker := some s.tick, gap := s.dev.tackGap } }) := rfl
end Tack

section Due
variable {s : State} {c : Cmd} {rest : List Cmd} {num : Nat} (hdue : s.dev.srv.due = c :: rest) (hop : c.op = num)
include hdue hop

section Image
variable {op : ImgOp}

theorem runDue_effImage_of_flags (hf : 1 < c.at 0x24 1) :
    s.runDue num c.ch (effImage op) = ((s.dueLeft rest).reply (s.repOf c) stBAD 0x14 true true).advance := by
  rw [State.runDue_of_due hdue hop, effImage_of_flags hf, State.repOf_dueLeft]

theorem runDue_effImage_of_refusal {code : Nat} (hf : c.at 0x24 1 ≤ 1) (h : s.dev.imageRefusal op = some code) :
    s.runDue num c.ch (effImage op) = ((s.dueLeft rest).refuseImage (s.repOf c) op code).advance := by
  rw [State.runDue_of_due hdue hop, effImage_of_refusal (s := s.dueLeft rest) hf h, State.repOf_dueLeft]

theorem runDue_effImage_of_begun (hf : c.at 0x24 1 ≤ 1) (h : s.dev.imageRefusal op = none) :
    s.runDue num c.ch (effImage op) =
      ((((s.dueLeft rest).reply (s.repOf c) stQUEUED 0 true false).beginImage op (c.imageRun op (s.repOf c))).emit
        (.hostRead (s.repOf c).fn (BitVec.ofNat 64 (c.at 0x18 8)) (if c.at 0x24 1 = 1 then 8 else 65536))).advance := by
  rw [State.runDue_of_due hdue hop, effImage_of_begun (s := s.dueLeft rest) hf h, State.repOf_dueLeft]
end Image

theorem runDue_effTack_of_refusal {code : Nat} (h : s.dev.imageRefusal .tack = some code ∨ (s.dev.imageRefusal .tack = none ∧
      ((2 < c.at 0x18 1 ∧ code = 0x01) ∨ (c.at 0x18 1 = 1 ∧ s.dev.ws.mixOk = false ∧ code = 0x10)))) :
    s.runDue num c.ch effTack = ((s.dueLeft rest).refuseImage (s.repOf c) .tack code).advance := by
  rw [State.runDue_of_due hdue hop, effTack_of_refusal (s := s.dueLeft rest) h, State.repOf_dueLeft]

theorem runDue_effTack_of_drain (h : s.dev.imageRefusal .tack = none) (hp : c.at 0x18 1 = 2) :
    s.runDue num c.ch effTack = (((s.dueLeft rest).reply (s.repOf c) stQUEUED 0 true false).updWs (fun w =>
      { w with op := 4, tack := some (c.tack (s.repOf c)) })).advance := by
  rw [State.runDue_of_due hdue hop, effTack_of_taken (s := s.dueLeft rest) h (.inl hp) rfl, if_pos hp, State.repOf_dueLeft]

theorem runDue_effTack_of_marker (h : s.dev.imageRefusal .tack = none)
    (hp : c.at 0x18 1 = 0 ∨ (c.at 0x18 1 = 1 ∧ s.dev.ws.mixOk = true)) :
    s.runDue num c.ch effTack = (((s.dueLeft rest).reply (s.repOf c) stQUEUED 0 true false).updWs (fun w =>
      { w with op := 4, tack := some { c.tack (s.repOf c) with marker := some s.tick, gap := s.dev.tackGap } })).advance := by
  have placed : c.at 0x18 1 ≠ 2 := by omega
  rw [State.runDue_of_due hdue hop, effTack_of_taken (s := s.dueLeft rest) h (.inr hp) rfl, if_neg placed, State.placeMarker_of_begun,
    State.reply_tick, State.reply_tackGap, State.repOf_dueLeft]
  rfl
end Due

end Sys2Proof.Machine

open Sys2Proof Sys2Proof.Machine

/-- Settles O25: each command by its refusal, or by what it begins; the three image commands are one effect of their operation. -/
theorem imageCommandsBegin : Obligations.ImageCommandsBegin := by
  rintro s c rest u hdue
  refine ⟨fun code hop hf h => ?_, fun hop hf h hu => ?_, fun hop hf => ?_, fun code hop hf h => ?_, fun hop hf h hu => ?_,
    fun hop hf => ?_, fun code hop hf h => ?_, fun hop hf h hu => ?_, fun hop hf => ?_, fun code hop h => ?_, fun hop h hp => ?_,
    fun hop h hp => ?_⟩
  · rw [exec_imageInstall, runDue_effImage_of_refusal hdue hop hf h]; rfl
  · rw [exec_imageInstall, runDue_effImage_of_begun hdue hop hf h, hu]; rfl
  · rw [exec_imageInstall, runDue_effImage_of_flags hdue hop hf]
  · rw [exec_imageStage, runDue_effImage_of_refusal hdue hop hf h]; rfl
  · rw [exec_imageStage, runDue_effImage_of_begun hdue hop hf h, hu]; rfl
  · rw [exec_imageStage, runDue_effImage_of_flags hdue hop hf]
  · rw [exec_imageVerify, runDue_effImage_of_refusal hdue hop hf h]; rfl
  · rw [exec_imageVerify, runDue_effImage_of_begun hdue hop hf h, hu]; rfl
  · rw [exec_imageVerify, runDue_effImage_of_flags hdue hop hf]
  · rw [exec_imageTack, runDue_effTack_of_refusal hdue hop h]; rfl
  · rw [exec_imageTack, runDue_effTack_of_drain hdue hop h hp, Cmd.tack, hp]
  · rw [exec_imageTack, runDue_effTack_of_marker hdue hop h hp]; rfl
end

section
/-! PROOF. Pages of an image operation and the packages' reports: what each one leaves at the head and elsewhere, and O26 from them (07
R204 to R207, R216; entry 31). -/

namespace Sys2Proof.Machine

theorem exec_imagePageReceive (op : ImgOp) (n : Nat) (f : FetchEnd) (s : State) :
    exec (.imagePageReceive op n f) s = .next (stepImagePageReceive op n f s) := rfl
theorem exec_imageVerified (pkg code : Nat) (seeds : Bool) (s : State) :
    exec (.imageVerified pkg code seeds) s = .next (stepImageVerified pkg code seeds s) := rfl
theorem exec_imageWrite (s : State) : exec .imageWrite s = .next (stepImageWrite s) := rfl
theorem exec_imageWritten (pkg : Nat) (s : State) : exec (.imageWritten pkg) s = .next (stepImageWritten pkg s) := rfl

section Run
variable {s : State} {r : ImgRun} (hrun : s.dev.ws.run = some r)
include hrun

theorem State.abortImage_of_run (h : r.commitSent = false) (code : Nat) :
    s.abortImage code = ((s.tellMembers 6 [5, code]).endImage code 0).dropRun := by
  simp only [State.abortImage, hrun, h, Bool.false_eq_true, if_false]

section Page
variable {n : Nat} {data : List Byte}

/-- A page other than the first belongs to the run that stands; so does the first at the head (07 R204). -/
theorem Dev.runFor_of_run (h : n ≠ 0 ∨ r.reply.isSome = true) (op : ImgOp) : s.dev.runFor op n = some r := by
  simp only [Dev.runFor, hrun]
  refine if_neg fun opens => ?_
  obtain ⟨other, first⟩ := Bool.and_eq_true_iff.mp opens
  exact h.elim (fun h => h (beq_iff_eq.mp first)) (fun head => by simp [Option.isNone_iff_eq_none.mp other] at head)

theorem stepImagePageReceive_of_out_of_order (h0 : n ≠ 0) (hn : n ≠ r.next) (op : ImgOp) (f : FetchEnd) :
    stepImagePageReceive op n f s = s := by
  simp only [stepImagePageReceive, Dev.runFor_of_run hrun (.inl h0)]
  exact if_pos hn

theorem stepImagePageReceive_of_failed (hn : n = r.next) (head : r.reply.isSome = true) (op : ImgOp) :
    stepImagePageReceive op n .failed s = s.abortImage 0x05 := by
  simp only [stepImagePageReceive, Dev.runFor_of_run hrun (.inr head), head, if_true]
  exact if_neg (not_not_intro hn)

/-- The head has read the page's address in the list, and reads the page there (07 R204). -/
theorem stepImagePageReceive_of_address (hn : n = r.next) (head : r.reply.isSome = true) (list : r.listMode = true) (at_ : r.pageAt = none)
    (op : ImgOp) : stepImagePageReceive op n (.ok data) s =
      (s.updWs (fun w => { w with run := some { r with pageAt := some (BitVec.ofNat 64 (leAt data 0 8)) } })).readPage := by
  simp only [stepImagePageReceive, Dev.runFor_of_run hrun (.inr head), head, list, at_]
  exact if_neg (not_not_intro hn)

/-- The page has been checked: the run goes on in the form that the page gave it (07 R205). -/
def State.pageTaken (s : State) (r : ImgRun) : State := s.updWs (fun w => { w with run := some r, op := opCode r.op, state := 1 })

variable {r2 : ImgRun} {code : Nat}

/-- The next page of a run without a result yet: at the head it ends the check where it fails or is the last; another package forwards
each, and holds a code until the last (07 R205). -/
theorem stepImagePageReceive_of_next (h0 : n ≠ 0) (hn : n = r.next) (hres : r.result = none)
    (ready : r.reply.isSome = true → r.listMode = true → r.pageAt.isSome = true)
    (htake : s.dev.takePage { r with pageAt := none } n (sliceAt data 0 pageBytes) = (r2, code)) (hrep : r2.reply = r.reply) (op : ImgOp)
    {sent : State} (hsent : sent = (s.pageTaken r2).sendPage n (sliceAt data 0 pageBytes)) :
    stepImagePageReceive op n (.ok data) s =
      if r.reply.isSome = true then
        if code ≠ 0 then (s.pageTaken r2).ownResult r2 code
        else if n + 1 = (r2.hdr.getD {}).pages then sent.ownResult r2 0 else sent.readPage
      else if n + 1 = (r2.hdr.getD {}).pages then sent.ownResult r2 code
      else if code ≠ 0 then sent.updWs (fun w => { w with run := some { r2 with result := some code } })
      else sent := by
  have page : ¬ (r.reply.isSome && r.listMode && r.pageAt.isNone) = true := by
    intro h
    simp only [Bool.and_eq_true, Option.isNone_iff_eq_none] at h
    obtain ⟨⟨head, list⟩, unread⟩ := h
    exact absurd (ready head list) (by simp [unread])
  subst hsent
  rw [hres] at htake
  simp only [stepImagePageReceive, Dev.runFor_of_run hrun (.inl h0), if_neg (not_not_intro hn), if_neg page, hres, htake, hrep,
    decide_eq_false h0, Bool.false_and, Bool.false_eq_true, if_false]
  rfl
end Page

section Verified
variable {pkg : Nat} {seeds : Bool} (head : r.reply.isSome = true) (early : r.writeSent = false)
  (reports : s.dev.reporters.contains pkg = true)
include head early reports

/-- A member's report of its check is noted (07 R205). -/
def ImgRun.noteVerified (r : ImgRun) (pkg : Nat) (seeds : Bool) : ImgRun :=
  { r with verified := r.verified ++ [pkg], seeds := r.seeds && seeds }

omit hrun in
/-- The head hears the report (07 R205). -/
theorem Dev.hears_verified : ¬ (r.reply.isNone || r.writeSent || !s.dev.reporters.contains pkg) = true := by
  rw [Option.isNone_eq_false_iff.mpr head, early, reports]
  decide

theorem stepImageVerified_of_code {code : Nat} (h : code ≠ 0) : stepImageVerified pkg code seeds s = s.abortImage code := by
  simp only [stepImageVerified, hrun]
  exact (if_neg (Dev.hears_verified head early reports)).trans (if_pos h)

theorem stepImageVerified_of_passed : stepImageVerified pkg 0 seeds s =
    (s.updWs (fun w => { w with run := some (r.noteVerified pkg seeds) })).imageProgress := by
  simp only [stepImageVerified, hrun]
  exact (if_neg (Dev.hears_verified head early reports)).trans (if_neg (not_not_intro rfl))
end Verified

theorem State.imageProgress_of_waiting (h : ∃ q ∈ s.dev.reporters, q ∉ r.verified) : s.imageProgress = s := by
  simp only [State.imageProgress, hrun]
  refine if_neg ?_
  obtain ⟨q, hq, hv⟩ := h
  simp only [Bool.and_eq_true, List.all_eq_true, List.contains_iff_mem]
  exact fun all => hv (all.1 q hq)

/-- Once every package has reported, what follows is the operation's (07 R201, R206, R216). -/
theorem State.imageProgress_of_all (h : ∀ q ∈ s.dev.reporters, q ∈ r.verified) (early : r.writeSent = false) : s.imageProgress =
    match r.op with
    | .verify => s.endImage 0 0
    | .stage => ((s.stageOwn r).tellMembers 6 [4]).endImage 0 2
    | _ => (s.updWs (fun w => { w with run := some { r with writeSent := true }, state := 3 })).tellMembers 6 [2] := by
  simp only [State.imageProgress, hrun]
  exact if_pos (by simpa [early] using h)

theorem stepImageWrite_of_install (install : r.op = .install) (passed : r.result = some 0) (free : s.dev.ws.store.any (·.pending) = false)
    (h : r.reply.isSome = true → r.writeSent = true) {u : State}
    (hu : u = s.writePending (s.dev.keptPayloads (fun pos own => r.payload pos (s.dev.ws.epoch + 1) own true))) :
    stepImageWrite s = if r.reply.isSome = true then u else u.reportWritten := by
  subst hu
  simp only [stepImageWrite, hrun, install, passed, free]
  refine if_neg ?_
  cases hr : r.reply.isSome <;> simp [*]

theorem stepImageWritten_of_run {pkg : Nat} (write : r.writeSent = true) (early : r.commitSent = false)
    (reports : s.dev.reporters.contains pkg = true) : stepImageWritten pkg s =
      if s.dev.reporters.all (fun q => (r.written ++ [pkg]).contains q) = true then
        (s.updWs (fun w => { w with run := some { r with written := r.written ++ [pkg], commitSent := true } })).tellMembers 6 [4]
      else s.updWs (fun w => { w with run := some { r with written := r.written ++ [pkg] } }) := by
  simp only [stepImageWritten, hrun, write, early, reports]
  rfl
end Run

end Sys2Proof.Machine

open Sys2Proof Sys2Proof.Machine

/-- Settles O26: each page and report by its case; a report that passes is noted, and the operation then goes on or waits. -/
theorem imagePagesAndReports : Obligations.ImagePagesAndReports := by
  intro s u r r2 n pkg code data seeds hrun
  refine ⟨fun h0 hn hres ready htake hrep hu => ?_, fun hn head list at_ => ?_, fun h0 hn => ?_, fun hn head early => ?_,
    fun head early reports hu => ?_, fun head early open_ reports hc => ?_, fun install passed free hu => ?_,
    fun write early reports => ?_⟩
  · obtain rfl : u = s.pageTaken r2 := hu
    rw [exec_imagePageReceive, stepImagePageReceive_of_next hrun h0 hn hres ready htake hrep r.op rfl]
    refine ⟨fun hc last rep => ?_, fun hc last head => ?_, fun last h => ?_, fun hc head => ?_⟩
    · rw [if_neg (by simp [rep]), if_neg last, if_neg (not_not_intro hc)]
    · rw [if_pos head, if_neg (not_not_intro hc), if_neg last]
    · rw [if_pos last, if_pos last]
      rcases h with rep | rfl
      · rw [if_neg (by simp [rep])]
      · rw [if_neg (not_not_intro rfl), ite_self]
    · rw [if_pos head, if_pos hc]
  · rw [exec_imagePageReceive, stepImagePageReceive_of_address hrun hn head list at_]
  · rw [exec_imagePageReceive, stepImagePageReceive_of_out_of_order hrun h0 hn]
  · rw [exec_imagePageReceive, stepImagePageReceive_of_failed hrun hn head, State.abortImage_of_run hrun early]
  · have hu' : u = s.updWs (fun w => { w with run := some (r.noteVerified pkg seeds) }) := hu
    have noted : u.dev.ws.run = some (r.noteVerified pkg seeds) := by rw [hu']; rfl
    have same : u.dev.reporters = s.dev.reporters := by rw [hu']; rfl
    rw [exec_imageVerified, stepImageVerified_of_passed hrun head early reports, ← hu', ← same]
    refine ⟨fun h => ?_, fun h => ?_⟩
    · rw [State.imageProgress_of_waiting noted h]
    · rw [State.imageProgress_of_all noted h early]
      refine ⟨fun hop => ?_, fun hop => ?_, fun r3 hr hop => ?_⟩
      · simp only [ImgRun.noteVerified, hop]
      · simp only [ImgRun.noteVerified, hop]
      · simp only [ImgRun.noteVerified, hop, hr]
  · rw [exec_imageVerified, stepImageVerified_of_code hrun head early reports hc, State.abortImage_of_run hrun open_]
  · refine ⟨fun rep => ?_, fun head write => ?_⟩
    · rw [exec_imageWrite, stepImageWrite_of_install hrun install passed free (by simp [rep]) hu, if_neg (by simp [rep]),
        State.reportWritten]
    · rw [exec_imageWrite, stepImageWrite_of_install hrun install passed free (fun _ => write) hu, if_pos head]
  · rw [exec_imageWritten, stepImageWritten_of_run hrun write early reports]
    refine ⟨fun h => ?_, fun h => ?_⟩
    · rw [if_pos (by simpa using h)]
    · rw [if_neg (by simpa using h)]
end

section
/-! SUPPORT. What the weight store's writes, the load of a payload and messages over the links leave as they are: the role, and of the
weight store the run of an image operation. -/

namespace Sys2Proof.Machine

section Role
variable (s : State)

@[simp] theorem State.ite_role {c : Prop} [Decidable c] (t : State) :
    (if c then s else t).dev.role = if c then s.dev.role else t.dev.role := apply_ite (fun u : State => u.dev.role) _ _ _

theorem State.each_role {α : Type} {f : State → α → State} (h : ∀ s a, (f s a).dev.role = s.dev.role) (l : List α) :
    (s.each l f).dev.role = s.dev.role := State.each_leaves (fun t => t.dev.role) f h l s

@[simp] theorem State.wearPages_role (pages : List Nat) : (s.wearPages pages).dev.role = s.dev.role := by
  simp [State.wearPages, State.each_role]

@[simp] theorem State.writeDirectory_role (listing : List Payload) : (s.writeDirectory listing).dev.role = s.dev.role := by
  simp [State.writeDirectory]

@[simp] theorem State.writePayloads_role (l : List Payload) : (s.writePayloads l).2.dev.role = s.dev.role := by
  simp [State.writePayloads]

@[simp] theorem State.writePending_role (l : List Payload) : (s.writePending l).dev.role = s.dev.role := by
  simp [State.writePending]

@[simp] theorem State.putOut_role (p vl : Nat) (hdr payload : List Byte) : (s.putOut p vl hdr payload).dev.role = s.dev.role := by
  simp [State.putOut, State.sendRaw]

@[simp] theorem State.drainPort_role (p n : Nat) : (State.drainPort p n s).dev.role = s.dev.role := by
  induction n generalizing s with
  | zero => rfl
  | succ n ih =>
    simp only [State.drainPort]
    (repeat' split) <;> simp [ih]

@[simp] theorem State.transmit_role (p vl : Nat) (hdr payload : List Byte) : (s.transmit p vl hdr payload).dev.role = s.dev.role := by
  simp [State.transmit, State.drain]

@[simp] theorem State.sendMsg_role (type dst : Nat) (poison : Bool) (tag : Nat) (payload : List Byte) :
    (s.sendMsg type dst poison tag payload).dev.role = s.dev.role := by
  simp [State.sendMsg, State.dropRoute, State.each_role]

/-- A spare that takes a duty keeps its head; only the kind of spare that it is may change (07 R228). -/
theorem State.takeDuty_head (pos kind epoch : Nat) (pages : List (Nat × List Byte)) :
    (s.takeDuty pos kind epoch pages).dev.role.head = s.dev.role.head := by
  simp only [State.takeDuty]
  (repeat' split) <;> simp
end Role

section Load
variable (s : State)

@[simp] theorem State.leavePosition_ws (isl : Nat) : (s.leavePosition isl).dev.ws = s.dev.ws := by
  simp only [State.leavePosition]
  split <;> simp [State.emit]

@[simp] theorem State.loadBodies_ws (bodies : List PanBody) : (s.loadBodies bodies).dev.ws = s.dev.ws := by
  refine State.each_leaves (fun t => t.dev.ws) _ (fun t b => ?_) _ _
  split
  · rfl
  · exact t.leavePosition_ws _

@[simp] theorem State.loadSchedule_ws (p : Payload) (narrow : Option Nat) (tts : Bool) (banks : List Bool) :
    (s.loadSchedule p narrow tts banks).dev.ws = s.dev.ws := by
  unfold State.loadSchedule
  split <;> rfl

/-- The bodies, the schedule and the rest of a payload go into the machine (07 R212, R215). -/
def State.bringIn (s : State) (p : Payload) : State :=
  ((s.loadBodies (bodiesOf p.man p.pages p.position)).loadSchedule p none true [false, true]).loadRest p

theorem State.loadRest_run (p : Payload) : (s.loadRest p).dev.ws.run = s.dev.ws.run := by
  simp only [State.loadRest, State.updTime_ws, State.updFab_ws, State.updDle_ws, State.updWs_ws]

theorem State.bringIn_run (p : Payload) : (s.bringIn p).dev.ws.run = s.dev.ws.run := by
  rw [State.bringIn, State.loadRest_run, State.loadSchedule_ws, State.loadBodies_ws]
end Load

end Sys2Proof.Machine
end

section
/-! PROOF. Commit, abort and load of an image, and the copies for a spare's duties: each command by its cases, and O27 from them (07 R206
to R208, R212, R213, R216, R227, R228, R230, R231; 11 R353; entries 49, 118, 119). -/

namespace Sys2Proof.Machine

theorem exec_imageCommit (s : State) : exec .imageCommit s = .next (stepImageCommit s) := rfl
theorem exec_imageAbort (code : Nat) (s : State) : exec (.imageAbort code) s = .next (stepImageAbort code s) := rfl
theorem exec_payloadLoad (us : Nat) (bad : List Nat) (epoch : Option Nat) (s : State) :
    exec (.payloadLoad us bad epoch) s = .next (stepPayloadLoad us bad epoch s) := rfl
theorem exec_spareDutyCopy (pkg pos kind epoch : Nat) (pages : List (Nat × List Byte)) (s : State) :
    exec (.spareDutyCopy pkg pos kind epoch pages) s = .next (stepSpareDutyCopy pkg pos kind epoch pages s) := rfl

section Commit
variable {s : State} {r : ImgRun}

/-- One directory write makes the pending payloads the stored ones, where there are any (07 R206, R208). -/
def State.takePending (s : State) : State :=
  if s.dev.ws.store.any (·.pending) then s.writeDirectory ((s.dev.ws.store.filter (·.pending)).map (fun p => { p with pending := false }))
  else s

theorem State.ite_switchDirectory (s : State) (e : Nat) :
    (if s.dev.ws.store.any (·.pending) = true then s.switchDirectory e else s.updWs (fun w => { w with epoch := e })) =
      s.takePending.updWs (fun w => { w with epoch := e }) := by
  unfold State.takePending
  split <;> rfl

theorem stepImageCommit_of_install (hrun : s.dev.ws.run = some r) (install : r.op = .install)
    (wrote : s.dev.ws.store.any (·.pending) = true ∨ s.dev.role.position = 0xFFFF) (sent : r.reply = none ∨ r.commitSent = true)
    {e : Nat} (he : e = s.dev.ws.epoch + 1) {standing : List Payload}
    (hs : standing = (s.dev.ws.cover.filter (fun c => c.2 == 1)).map (fun c => r.payload c.1 e false false)) :
    stepImageCommit s = ((s.takePending.updWs (fun w => { w with epoch := e })).updWs (fun w =>
      { w with loaded := false, copy := none, duties := standing, state := 0,
               run := if r.reply.isSome then some { r with commitSent := true } else none })).updSrv
        (fun v => { v with prefixTab := [] }) := by
  subst hs he
  have goes : ¬ (r.op != .install || !s.dev.ws.store.any (·.pending) && s.dev.role.position != 0xFFFF ||
      (r.reply.isSome && !r.commitSent)) = true := by
    rcases wrote with h | h <;> rcases sent with h' | h' <;> simp [install, h, h']
  simp only [stepImageCommit, hrun, if_neg goes, ← State.ite_switchDirectory]
  rw [install]
  rfl

theorem stepImageCommit_of_stage (hrun : s.dev.ws.run = some r) (stage : r.op = .stage) (away : r.reply = none)
    (passed : r.result = some 0) : stepImageCommit s = (s.stageOwn r).updWs (fun w => { w with run := none }) := by
  simp only [stepImageCommit, hrun, stage, away, passed]
  rfl

theorem stepImageCommit_of_no_run (hrun : s.dev.ws.run = none) : stepImageCommit s = s.commitTack := by simp only [stepImageCommit, hrun]

theorem State.commitTack_of_written (hrun : s.dev.ws.run = none) (all : s.dev.isHead = true → s.dev.allWritten = true)
    (written : s.dev.ws.state = 4) {e : Nat} (he : e = if s.dev.ws.commitDue then s.dev.ws.epoch else s.dev.ws.stage) :
    s.commitTack = (s.takePending.updWs (fun w => { w with epoch := e })).updWs (fun w =>
      { w with staged := none, stage := 0, mixOk := false, commitDue := false, commitWritten := [], state := 0,
               duties := w.duties.filter (fun p => p.epoch == e &&
                 !((s.dev.ws.store.filter (·.pending)).map (·.position)).contains p.position) }) := by
  subst he
  have goes : ¬ (s.dev.ws.run.isSome || (s.dev.isHead && !s.dev.allWritten) || s.dev.ws.state != 4) = true := by
    cases h : s.dev.isHead <;> simp [*]
  simp only [State.commitTack, if_neg goes, ← State.ite_switchDirectory]

theorem stepImageWritten_of_no_run (hrun : s.dev.ws.run = none) (pkg : Nat) : stepImageWritten pkg s = s.commitProgress pkg := by
  simp only [stepImageWritten, hrun]

/-- The head notes that a package has written after a tack; with the last one it sends COMMIT (07 R206, R227). -/
theorem State.commitProgress_of_due {pkg : Nat} (head : s.dev.isHead = true) (due : s.dev.ws.commitDue = true)
    (reports : s.dev.reporters.contains pkg = true) {u : State}
    (hu : u = s.updWs (fun w => { w with commitWritten := w.commitWritten ++ [pkg] })) :
    s.commitProgress pkg = if u.dev.allWritten = true then u.tellMembers 6 [4] else u := by
  subst hu
  exact if_pos (by rw [head, due, reports]; rfl)

theorem stepImageAbort_of_member (hrun : s.dev.ws.run = some r) (away : r.reply = none) (code : Nat) :
    stepImageAbort code s = s.dropRun := by
  simp [stepImageAbort, hrun, away]

theorem stepImageAbort_of_head (hrun : s.dev.ws.run = some r) (head : r.reply.isSome = true) (code : Nat) :
    stepImageAbort code s = s.abortImage (if code = 0 then 0x12 else code) := by
  simp only [stepImageAbort, hrun, head, if_true]
end Commit

section Load
variable {s : State} {us : Nat} {bad : List Nat} {epoch : Option Nat} {p : Payload} {stored : Bool} (hrun : s.dev.ws.run = none)
include hrun

theorem stepPayloadLoad_of_good (hp : s.dev.payloadFor epoch = some (p, stored))
    (good : stored = false ∨ (s.dev.storedOk p = true ∧ ∀ n ∈ bad, p.pages.any (fun e => e.1 == n) = false)) :
    stepPayloadLoad us bad epoch s = (((s.bringIn p).updWs (fun w =>
      { w with loaded := s.dev.loadable (bodiesOf p.man p.pages p.position), loadUs := BitVec.ofNat 32 us, ready := true,
               stage := if epoch = some w.stage then 0 else w.stage })).updWs (fun w => { w with pool := p.hdr.kvBlocks })).updSrv
        (fun v => { v with kvTotal := p.hdr.kvBlocks }) := by
  have pages : bad.filter (fun n => stored && p.pages.any (fun e => e.1 == n)) = [] := by
    rw [List.filter_eq_nil_iff]
    intro n hn
    rcases good with h | ⟨-, h⟩
    · simp [h]
    · simp [h n hn]
  have signed : ¬ (stored && !s.dev.storedOk p) = true := by
    rcases good with h | ⟨h, -⟩ <;> simp [h]
  simp only [stepPayloadLoad, hp, pages, List.isEmpty_nil, Bool.not_true, Bool.false_eq_true, if_false, if_neg signed]
  split
  next r hr => exact absurd (hr.symm.trans ((s.bringIn_run p).trans hrun)) (Option.some_ne_none r)
  next => rfl

theorem stepPayloadLoad_of_bad_page {n : Nat} (hp : s.dev.payloadFor epoch = some (p, true)) (hn : p.pages.any (fun e => e.1 == n) = true) :
    stepPayloadLoad us [n] epoch s = s.badLoad p [n] := by
  have page : [n].filter (fun n => true && p.pages.any (fun e => e.1 == n)) = [n] := List.filter_eq_self.mpr (by simpa using hn)
  simp only [stepPayloadLoad, hp, page]
  split
  next r hr => exact absurd (hr.symm.trans hrun) (Option.some_ne_none r)
  next => rfl
end Load

section Duty
variable {s : State} {pkg pos kind epoch : Nat} {pages : List (Nat × List Byte)}

theorem stepSpareDutyCopy_at_spare (own : pkg = s.dev.role.pkg.toNat) (spare : s.dev.role.role = 3 ∨ s.dev.role.role = 4)
    (good : kind = 0 ∨ (kind ≤ 2 ∧ copyOk pages = true ∧ pages ≠ [] ∧ s.dev.takesDuty pos pages = true)) :
    stepSpareDutyCopy pkg pos kind epoch pages s =
      (s.takeDuty pos kind epoch pages).emit (.message (s.dev.role.head.getD 0) 8 [0x14, pkg, pos]) :=
  (if_pos ⟨own, spare⟩).trans (if_pos (by simpa only [← List.isEmpty_eq_false_iff] using good))

/-- The covered package sends what a spare is to hold of its position (07 R230). -/
def State.sendDuty (s : State) (pkg pos kind : Nat) : State :=
  if s.dev.role.assigned && s.dev.role.position == pos && kind != 0 then
    match s.dev.ws.sends with
    | some p => s.each p.pages (fun s e => s.sendMsg 7 pkg false e.1 e.2)
    | none => s
  else s

theorem State.sendDuty_role (s : State) (pkg pos kind : Nat) : (s.sendDuty pkg pos kind).dev.role = s.dev.role := by
  unfold State.sendDuty
  (repeat' split) <;> simp [State.each_role]

theorem stepSpareDutyCopy_elsewhere (h : pkg ≠ s.dev.role.pkg.toNat ∨ (s.dev.role.role ≠ 3 ∧ s.dev.role.role ≠ 4)) :
    stepSpareDutyCopy pkg pos kind epoch pages s =
      if s.dev.isHead = true then (s.sendDuty pkg pos kind).dutyDone pkg pos else s.sendDuty pkg pos kind := by
  have here : ¬ (pkg = s.dev.role.pkg.toNat ∧ (s.dev.role.role = 3 ∨ s.dev.role.role = 4)) := by
    rintro ⟨own, spare⟩
    exact h.elim (absurd own) (fun away => spare.elim away.1 away.2)
  have head : (s.sendDuty pkg pos kind).dev.isHead = s.dev.isHead := by simp only [Dev.isHead, State.sendDuty_role]
  rw [← head]
  exact if_neg here
end Duty

end Sys2Proof.Machine

open Sys2Proof Sys2Proof.Machine

/-- Settles O27: commit, abort, load and copy each by its case; the payload that a load brings in leaves the run as it is. -/
theorem imageCommitAndLoad : Obligations.ImageCommitAndLoad := by
  intro s u
  refine ⟨fun r e standing hrun install wrote sent he hs hu => ?_, fun r hrun stage away passed => ?_, fun e hrun all written he hu => ?_,
    fun pkg hrun head due reports hu => ?_, fun r code hrun away => ?_, fun r code k hrun head early hk => ?_,
    fun us bad epoch p stored hrun hp good hu => ?_, fun us p n epoch bad hrun hp hn hb => ?_,
    fun pos kind epoch pages spare good hu => ?_, fun pkg pos kind epoch pages p other assigned position hk hp role => ?_,
    fun pkg pos kind epoch pages head role h => ?_⟩
  · obtain rfl : u = s.takePending := hu
    rw [exec_imageCommit, stepImageCommit_of_install hrun install wrote sent he hs]
  · rw [exec_imageCommit, stepImageCommit_of_stage hrun stage away passed]
  · obtain rfl : u = s.takePending := hu
    rw [exec_imageCommit, stepImageCommit_of_no_run hrun, State.commitTack_of_written hrun all written he]
  · rw [exec_imageWritten, stepImageWritten_of_no_run hrun, State.commitProgress_of_due head due reports hu]
    refine ⟨fun h => ?_, fun h => ?_⟩
    · rw [if_pos h]
    · rw [if_neg (by simp [h])]
  · rw [exec_imageAbort, stepImageAbort_of_member hrun away]
  · rw [exec_imageAbort, stepImageAbort_of_head hrun head, ← hk, State.abortImage_of_run hrun early]
  · obtain rfl : u = s.bringIn p := hu
    rw [exec_payloadLoad, stepPayloadLoad_of_good hrun hp good]
  · rw [exec_payloadLoad, stepPayloadLoad_of_bad_page hrun hp hn, hb]
    simp only [State.badLoad, List.contains_cons, List.contains_nil, Bool.or_false, List.length_cons, List.length_nil, Nat.zero_add]
  · rw [exec_spareDutyCopy, stepSpareDutyCopy_at_spare rfl spare good, hu, State.takeDuty_head]
  · have away : s.dev.isHead = false := by rw [Dev.isHead, beq_eq_false_iff_ne.mpr role, Bool.and_false]
    rw [exec_spareDutyCopy, stepSpareDutyCopy_elsewhere (.inl other), if_neg (Bool.eq_false_iff.mp away),
      State.sendDuty, hp, if_pos (by simp [assigned, position, hk])]
  · have sends : s.sendDuty pkg pos kind = s := if_neg (by rcases h with h | h <;> simp [h])
    rw [exec_spareDutyCopy, stepSpareDutyCopy_elsewhere (.inr (by rw [role]; decide)), if_pos head, sends]
end

section
/-! PROOF. The phases of a tack: the marker under DRAIN, the rewrite, the bank switch and the store's commit, and O28 from them (07 R219,
R220, R226, R227, R229; entries 3, 47, 48). -/

namespace Sys2Proof.Machine

theorem exec_drainMarker (s : State) : exec .drainMarker s = .next (stepDrainMarker s) := rfl
theorem exec_drainLimitExpiry (s : State) : exec .drainLimitExpiry s = .next (stepDrainLimitExpiry s) := rfl
theorem exec_tackRewriteStart (s : State) : exec .tackRewriteStart s = .next (stepTackRewriteStart s) := rfl
theorem exec_tackBankSwitch (s : State) : exec .tackBankSwitch s = .next (stepTackBankSwitch s) := rfl
theorem exec_weightStoreCommit (s : State) : exec .weightStoreCommit s = .next (stepWeightStoreCommit s) := rfl

section Drain
variable {s : State} {k : Tack}

theorem Ws.drains_of_tack {w : Ws} (hk : w.tack = some k) (drain : k.policy = 2) (waits : k.marker = none) : w.drains = some k := by
  simp [Ws.drains, hk, drain, waits]

theorem State.placeMarker_of_tack (hk : s.dev.ws.tack = some k) :
    s.placeMarker = s.updWs (fun w => { w with tack := some { k with marker := some s.tick, gap := s.dev.tackGap } }) := by
  simp only [State.placeMarker, State.updWs, hk, Option.map_some]

theorem stepDrainMarker_of_drains (h : s.dev.ws.drains = some k) :
    stepDrainMarker s = if s.dev.admittedGens.isEmpty = true then s.placeMarker else s := by simp only [stepDrainMarker, h]

theorem stepDrainMarker_of_none (h : s.dev.ws.drains = none) : stepDrainMarker s = s := by simp only [stepDrainMarker, h]

theorem stepDrainLimitExpiry_of_drains (h : s.dev.ws.drains = some k) :
    stepDrainLimitExpiry s = if k.drainLimit ≠ 0 ∧ k.collected + k.drainLimit ≤ s.tick then s.placeMarker else s := by
  simp only [stepDrainLimitExpiry, h]

theorem stepDrainLimitExpiry_of_none (h : s.dev.ws.drains = none) : stepDrainLimitExpiry s = s := by simp only [stepDrainLimitExpiry, h]
end Drain

section Rewrite
variable {s : State} {m e : Nat} (hm : s.dev.fab.markerSeen = some (m, e))

/-- The marker has passed and no old work is left here: the rewrite may start at this boundary (07 R220). -/
def Dev.mayRewrite (d : Dev) (m e : Nat) : Bool :=
  decide (m < d.time.tick) && d.time.cycle == 0 && decide (d.ws.epoch < e) && d.ws.state != 5 &&
    d.fab.works.all (fun w => decide (e ≤ w.epoch)) && d.lastStamped

theorem Dev.mayRewrite_iff {d : Dev} : d.mayRewrite m e = true ↔
    m < d.time.tick ∧ d.time.cycle = 0 ∧ d.ws.epoch < e ∧ d.ws.state ≠ 5 ∧
      (∀ w ∈ d.fab.works, e ≤ w.epoch) ∧ d.lastStamped = true := by
  simp only [Dev.mayRewrite, Bool.and_eq_true, decide_eq_true_eq, beq_iff_eq, bne_iff_ne, List.all_eq_true, and_assoc]

/-- The staged bodies go into the pans that serve their home pans, their configuration left for the bank switch (07 R199, R220). -/
def State.copyBodies (s : State) (bodies : List PanBody) : State :=
  s.each bodies (fun t b =>
    match t.dev.serving b.entry.home with
    | some q => t.updPan q (fun x => x.copyBody b s.tick)
    | none => t.leavePosition (Pan.island b.entry.home))

include hm

theorem stepTackRewriteStart_of_staged {p : Payload} (hp : s.dev.ws.staged = some p) {u : State}
    (hu : u = s.copyBodies (bodiesOf p.man p.pages p.position)) : stepTackRewriteStart s =
      if s.dev.mayRewrite m e = true then
        ((u.loadSchedule p none false [!u.dev.fab.bank]).updFab (fun f => { f with hopPending := true })).updWs
          (fun w => { w with state := 5 })
      else s := by
  subst hu
  simp only [stepTackRewriteStart, hm, hp]
  rfl

theorem stepTackRewriteStart_of_not_yet (h : ¬ s.dev.mayRewrite m e = true) : stepTackRewriteStart s = s := by
  cases hp : s.dev.ws.staged with
  | some p => rw [stepTackRewriteStart_of_staged hm hp rfl, if_neg h]
  | none => simp only [stepTackRewriteStart, hm, hp]
end Rewrite

section Switch
variable {s : State} {p : Payload} (hp : s.dev.ws.staged = some p)
include hp

/-- A frame boundary after the rewrite turns configurations, hop bank and layers to the staged payload (07 R220). -/
theorem stepTackBankSwitch_of_boundary (rewritten : s.dev.ws.state = 5) (cycle : s.dev.time.cycle = 0)
    (boundary : s.tick % max 1 s.dev.fab.frame = 0) {tts : List (Nat × List TtEntry)}
    (ht : tts = ((scheduleOf p.man p.pages p.position none).map timetables).getD []) {u : State}
    (hu : u = ((s.switchCfgs (bodiesOf p.man p.pages p.position)).updFab (fun f =>
      { f with bank := !f.bank, hopPending := false, tables := tts, markerSeen := none, markerSent := false })).loadRest p) :
    stepTackBankSwitch s = u.updWs (fun w =>
      { w with stage := 0, state := 0, tackTick := s.tick, commitDue := true, lmSame := s.dev.dle.named 9 == u.dev.dle.named 9 }) := by
  subst hu ht
  have goes : (decide (s.dev.ws.state = 5) && s.dev.time.cycle == 0 && s.tick % max 1 s.dev.fab.frame == 0) = true := by
    rw [rewritten, cycle, boundary]
    rfl
  cases h : scheduleOf p.man p.pages p.position none with
  | none => simp only [stepTackBankSwitch, hp, if_pos goes, h, Option.map_none, Option.getD_none]
  | some b => simp only [stepTackBankSwitch, hp, if_pos goes, h, Option.map_some, Option.getD_some]

theorem stepTackBankSwitch_of_not_yet (h : s.dev.ws.state ≠ 5 ∨ s.dev.time.cycle ≠ 0 ∨ s.tick % max 1 s.dev.fab.frame ≠ 0) :
    stepTackBankSwitch s = s := by
  simp only [stepTackBankSwitch, hp]
  refine if_neg ?_
  simp only [Bool.and_eq_true, decide_eq_true_eq, beq_iff_eq]
  rintro ⟨⟨rewritten, cycle⟩, boundary⟩
  exact h.elim (absurd rewritten) (fun h => h.elim (absurd cycle) (absurd boundary))
end Switch

section Commit
variable {s : State}

/-- A tack whose marker has gone and whose switch is over ends, with its final record (08 Table 8-6). -/
def State.closeTack (s : State) : State :=
  match s.dev.ws.tack with
  | some k => if k.marker.isSome && s.dev.ws.stage == 0 then s.endTack else s
  | none => s

theorem State.closeTack_of_none (h : s.dev.ws.tack = none) : s.closeTack = s := by simp only [State.closeTack, h]

theorem State.closeTack_of_switched {k : Tack} {rep : Rep} (hk : s.dev.ws.tack = some k) (placed : k.marker.isSome = true)
    (switched : s.dev.ws.stage = 0) (hrep : k.reply = some rep) : s.closeTack =
      ((s.updWs (fun w => { w with op := 4, result := 0, state := 0 })).updWs (fun w => { w with tack := none })).reply rep stOK 0
        false true := by
  simp only [State.closeTack, State.endTack, State.setResult, hk, hrep, placed, switched]
  rfl

@[simp] theorem State.endTack_role : s.endTack.dev.role = s.dev.role := by
  simp only [State.endTack]
  (repeat' split) <;> simp [State.setResult]

@[simp] theorem State.closeTack_role : s.closeTack.dev.role = s.dev.role := by
  unfold State.closeTack
  split
  · simp
  · rfl

/-- Of the weight store, the end of a tack changes the operation's report and the tack alone. -/
theorem State.endTack_ws {k : Tack} (hk : s.dev.ws.tack = some k) :
    s.endTack.dev.ws = { s.dev.ws with op := 4, result := 0, state := 0, tack := none } := by
  simp only [State.endTack, hk]
  split
  · rw [State.reply_ws]; rfl
  · rfl

theorem State.closeTack_ws : ∃ op result state tack,
    s.closeTack.dev.ws = { s.dev.ws with op := op, result := result, state := state, tack := tack } := by
  have kept : ∃ op result state tack, s.dev.ws = { s.dev.ws with op := op, result := result, state := state, tack := tack } :=
    ⟨s.dev.ws.op, s.dev.ws.result, s.dev.ws.state, s.dev.ws.tack, rfl⟩
  unfold State.closeTack
  split
  next k hk =>
    split
    · exact ⟨4, 0, 0, none, State.endTack_ws hk⟩
    · exact kept
  · exact kept

/-- The package has a store commit to write: its own, or as a spare its cold duties' (07 R227, R229). -/
def Dev.commitsStore (d : Dev) : Bool := d.ws.commitDue || (d.role.position == 0xFFFF && d.ws.stage != 0)

/-- The payloads are written as pending; a spare with none has nothing to write (07 R227, R229). -/
def State.commitWrite (s : State) (l : List Payload) : State :=
  if l.isEmpty then s.updWs (fun w => { w with state := 4 }) else s.writePending l

@[simp] theorem State.commitWrite_role (l : List Payload) : (s.commitWrite l).dev.role = s.dev.role := by simp [State.commitWrite]

/-- The end of the tack comes first; what the commit then writes does not depend on it (07 R227, R229; 08 Table 8-6). -/
theorem stepWeightStoreCommit_eq : stepWeightStoreCommit s =
    if s.dev.ws.store.any (·.pending) || !s.dev.commitsStore then s.closeTack
    else if s.dev.isHead then (s.closeTack.commitWrite s.dev.commitPayloads).commitProgress s.dev.role.pkg.toNat
    else (s.closeTack.commitWrite s.dev.commitPayloads).reportWritten := by
  obtain ⟨op, result, state, tack, hw⟩ := s.closeTack_ws
  have due : (s.closeTack.dev.ws.store.any (·.pending) || !s.closeTack.dev.commitsStore) =
      (s.dev.ws.store.any (·.pending) || !s.dev.commitsStore) := by
    simp only [Dev.commitsStore, hw, State.closeTack_role]
  have payloads : s.closeTack.dev.commitPayloads = s.dev.commitPayloads := by simp only [Dev.commitPayloads, hw]
  have head : (s.closeTack.commitWrite s.dev.commitPayloads).dev.isHead = s.dev.isHead := by
    simp only [Dev.isHead, State.commitWrite_role, State.closeTack_role]
  have own : (s.closeTack.commitWrite s.dev.commitPayloads).dev.role.pkg = s.dev.role.pkg := by
    rw [State.commitWrite_role, State.closeTack_role]
  rw [← due, ← head, ← own, ← payloads]
  rfl

section Write
variable (free : s.dev.ws.store.any (·.pending) = false)
include free

theorem stepWeightStoreCommit_of_none (h : s.dev.commitsStore = false) : stepWeightStoreCommit s = s.closeTack := by
  rw [stepWeightStoreCommit_eq, free, h]
  rfl

theorem stepWeightStoreCommit_of_due (h : s.dev.commitsStore = true) : stepWeightStoreCommit s =
    if s.dev.isHead then (s.closeTack.commitWrite s.dev.commitPayloads).commitProgress s.dev.role.pkg.toNat
    else (s.closeTack.commitWrite s.dev.commitPayloads).reportWritten := by
  rw [stepWeightStoreCommit_eq, free, h]
  rfl
end Write

theorem Dev.commitPayloads_of_staged {d : Dev} {p : Payload} (due : d.ws.commitDue = true) (hp : d.ws.staged = some p) :
    d.commitPayloads = [{ p with pending := true }] := by
  simp [Dev.commitPayloads, due, hp]

theorem Dev.commitPayloads_of_spare {d : Dev} (due : d.ws.commitDue = false) : d.commitPayloads =
    (d.ws.duties.filter (fun p => p.epoch == d.ws.stage && d.ws.cover.any (fun c => c.1 == p.position && c.2 == 2))).map
      (fun p => { p with pending := true }) := by
  simp [Dev.commitPayloads, due]
end Commit

end Sys2Proof.Machine

open Sys2Proof Sys2Proof.Machine

/-- Settles O28: each phase by its condition; the store's commit on the state that the end of the tack leaves. -/
theorem tackPhases : Obligations.TackPhases := by
  intro s u
  refine ⟨fun k hk drain waits hu => ?_, fun h => ⟨?_, ?_⟩, fun m e p hm hp passed cycle newer idle works stamped hu => ?_,
    fun m e hm h => ?_,
    fun p tts hp rewritten cycle boundary ht hu => ?_, fun p hp h => ?_, fun v hv free => ?_⟩
  · have drains := Ws.drains_of_tack hk drain waits
    rw [exec_drainMarker, exec_drainLimitExpiry, stepDrainMarker_of_drains drains, stepDrainLimitExpiry_of_drains drains,
      State.placeMarker_of_tack hk, ← hu]
    refine ⟨fun h => ?_, fun h => ?_, fun limit over_ => ?_, fun h => ?_⟩
    · rw [if_pos (List.isEmpty_iff.mpr h)]
    · rw [if_neg (mt List.isEmpty_iff.mp h)]
    · rw [if_pos ⟨limit, over_⟩]
    · rw [if_neg (by omega)]
  · rw [exec_drainMarker, stepDrainMarker_of_none h]
  · rw [exec_drainLimitExpiry, stepDrainLimitExpiry_of_none h]
  · have may : s.dev.mayRewrite m e = true := Dev.mayRewrite_iff.mpr ⟨passed, cycle, newer, idle, works, stamped⟩
    rw [exec_tackRewriteStart, stepTackRewriteStart_of_staged hm hp hu, if_pos may]
  · have early : ¬ s.dev.mayRewrite m e = true := by
      rw [Dev.mayRewrite_iff]
      rintro ⟨passed, cycle, newer, -, works, stamped⟩
      rcases h with h | h | h | ⟨w, hw, old⟩ | h
      · exact absurd passed (Nat.not_lt.mpr h)
      · exact h cycle
      · exact absurd newer (Nat.not_lt.mpr h)
      · exact absurd (works w hw) (Nat.not_le.mpr old)
      · exact Bool.eq_false_iff.mp h stamped
    rw [exec_tackRewriteStart, stepTackRewriteStart_of_not_yet hm early]
  · rw [exec_tackBankSwitch, stepTackBankSwitch_of_boundary hp rewritten cycle boundary ht hu]
  · rw [exec_tackBankSwitch, stepTackBankSwitch_of_not_yet hp h]
  · obtain rfl : v = s.closeTack := by
      rcases hv with ⟨ended, hv⟩ | ⟨k, rep, hk, placed, switched, hrep, hv⟩
      · rw [State.closeTack_of_none ended, hv]
      · rw [State.closeTack_of_switched hk placed switched hrep, hv]
    rw [exec_weightStoreCommit]
    refine ⟨fun p due hp hu => ?_, fun l due spare staged away hl => ?_, fun due h => ?_⟩
    · have commits : s.dev.commitsStore = true := by simp [Dev.commitsStore, due]
      rw [stepWeightStoreCommit_of_due free commits, Dev.commitPayloads_of_staged due hp]
      obtain rfl : u = s.closeTack.commitWrite [{ p with pending := true }] := hu
      exact ⟨fun head => by rw [if_pos head], fun away => by rw [if_neg (Bool.eq_false_iff.mp away)]⟩
    · have commits : s.dev.commitsStore = true := by simp [Dev.commitsStore, spare, staged]
      rw [stepWeightStoreCommit_of_due free commits, Dev.commitPayloads_of_spare due, ← hl, if_neg (Bool.eq_false_iff.mp away),
        State.commitWrite]
    · have nothing : s.dev.commitsStore = false := by
        rcases h with h | h <;> simp [Dev.commitsStore, due, h]
      rw [stepWeightStoreCommit_of_none free nothing]
end

section
/-! PROOF. SLICE_SET, RERIG and SPARE_SET as the first due command: each check of Table 10-9 in its order, what each command orders, and
O43 from them (07 R230; 10 R324 to R326, R328, R331; 13 R398; 14 R419; entries 80, 81). -/

namespace Sys2Proof.Machine

theorem exec_sliceSet (ch : Nat) (f : SliceFacts) (s : State) : exec (.sliceSet ch f) s = .next (s.runDue 0x30 ch (effSliceSet f)) := rfl
theorem exec_rerig (ch : Nat) (g : RerigFacts) (s : State) : exec (.rerig ch g) s = .next (s.runDue 0x31 ch (effRerig g)) := rfl
theorem exec_spareSet (ch : Nat) (s : State) : exec (.spareSet ch) s = .next (s.runDue 0x32 ch effSpareSet) := rfl

section Service
variable {s : State} {c : Cmd} {f : SliceFacts} {g : RerigFacts} (h : s.dev.inService = false)
include h

theorem State.ifService_elsewhere (rep : Rep) (k : State) : s.ifService rep k = s.refuse rep stAUTH 0x03 := if_neg (by simp [h])

theorem effSliceSet_of_not_inService : effSliceSet f c s = s.refuse (s.repOf c) stAUTH 0x03 := State.ifService_elsewhere h _ _
theorem effRerig_of_not_inService : effRerig g c s = s.refuse (s.repOf c) stAUTH 0x03 := State.ifService_elsewhere h _ _
theorem effSpareSet_of_not_inService : effSpareSet c s = s.refuse (s.repOf c) stAUTH 0x03 := State.ifService_elsewhere h _ _
end Service

theorem State.ifService_of_inService {s : State} (h : s.dev.inService = true) (rep : Rep) (k : State) : s.ifService rep k = k := if_pos h

section SliceSet
variable {s : State} {c : Cmd} {f : SliceFacts} (service : s.dev.inService = true)
include service

theorem effSliceSet_of_flags (h : 1 < c.at 0x19 1) : effSliceSet f c s = s.refuse (s.repOf c) stBAD 0x06 :=
  (State.ifService_of_inService service _ _).trans (if_pos h)

theorem effSliceSet_of_dissolve_busy (h : c.at 0x19 1 = 1) (busy : (s.dev.isHead && s.dev.sliceBusy) = true) :
    effSliceSet f c s = s.refuse (s.repOf c) stBAD 0x24 :=
  (State.ifService_of_inService service _ _).trans ((if_neg (by omega)).trans ((if_pos h).trans (if_pos busy)))

theorem effSliceSet_of_dissolve (h : c.at 0x19 1 = 1) (idle : (s.dev.isHead && s.dev.sliceBusy) = false) :
    effSliceSet f c s = s.dissolve (s.repOf c) :=
  (State.ifService_of_inService service _ _).trans ((if_neg (by omega)).trans ((if_pos h).trans (if_neg (Bool.eq_false_iff.mp idle))))

/-- The member count and the period of SLICE_SET are in range (08 R260). -/
def Cmd.sliceRange (c : Cmd) : Prop := c.at 0x1A 2 ≠ 0 ∧ c.at 0x1A 2 ≤ 4096 ∧ 4 ≤ c.at 0x1C 1 ∧ c.at 0x1C 1 ≤ 64

omit service in
theorem Cmd.sliceRange.not_out (h : c.sliceRange) :
    ¬ (c.at 0x1A 2 = 0 ∨ 4096 < c.at 0x1A 2 ∨ c.at 0x1C 1 < 4 ∨ 64 < c.at 0x1C 1) := by
  obtain ⟨n0, n1, p0, p1⟩ := h
  omega

variable (list : c.at 0x19 1 = 0)
include list

theorem effSliceSet_of_range (h : c.at 0x1A 2 = 0 ∨ 4096 < c.at 0x1A 2 ∨ c.at 0x1C 1 < 4 ∨ 64 < c.at 0x1C 1) :
    effSliceSet f c s = s.refuse (s.repOf c) stBAD 0x06 :=
  (State.ifService_of_inService service _ _).trans ((if_neg (by omega)).trans ((if_neg (by omega)).trans (if_pos h)))

section List
variable (range : c.sliceRange) {u : State}
  (hu : u = s.emit (.hostRead c.fn (BitVec.ofNat 64 (c.at 0x20 8)) (8 * c.at 0x1A 2)))
include range hu

theorem effSliceSet_of_no_list (h : f.list = none) : effSliceSet f c s = u.refuse (s.repOf c) stBAD 0x04 := by
  subst hu
  simp only [effSliceSet, State.ifService_of_inService service, list, if_neg range.not_out, h]
  rfl

variable {bytes : List Byte} (read : f.list = some bytes)
include read

theorem effSliceSet_of_busy (h : (s.dev.isHead && s.dev.sliceBusy) = true) : effSliceSet f c s = u.refuse (s.repOf c) stBAD 0x24 := by
  subst hu
  simp only [effSliceSet, State.ifService_of_inService service, list, if_neg range.not_out, read, if_pos h]
  rfl

section Idle
variable (idle : (s.dev.isHead && s.dev.sliceBusy) = false)
include idle

theorem effSliceSet_of_retired (h : s.dev.pkgRetired = true) : effSliceSet f c s = u.refuse (s.repOf c) stRETIRED 0 := by
  subst hu
  simp only [effSliceSet, State.ifService_of_inService service, list, if_neg range.not_out, read, idle, State.emit_dev, h, if_true]
  rfl

variable (usable : s.dev.pkgRetired = false)
include usable

theorem effSliceSet_of_malformed (h : parseMembers bytes (c.at 0x1A 2) = none) : effSliceSet f c s = u.refuse (s.repOf c) stBAD 0x20 := by
  subst hu
  simp only [effSliceSet, State.ifService_of_inService service, list, if_neg range.not_out, read, idle, State.emit_dev, usable, h]
  rfl

variable {l : List Member} (parsed : parseMembers bytes (c.at 0x1A 2) = some l)
include parsed

theorem effSliceSet_of_refusal {st x : Nat} (h : checkPlan f l = some (st, x)) : effSliceSet f c s = u.refuse (s.repOf c) st x := by
  subst hu
  simp only [effSliceSet, State.ifService_of_inService service, list, if_neg range.not_out, read, idle, State.emit_dev, usable, parsed, h]
  rfl

theorem effSliceSet_of_safe (h : checkPlan f l = none) (safe : s.dev.rst.safe = true) :
    effSliceSet f c s = u.refuse (s.repOf c) stDEGRADED 0x26 := by
  subst hu
  simp only [effSliceSet, State.ifService_of_inService service, list, if_neg range.not_out, read, idle, State.emit_dev, usable, parsed, h,
    safe]
  rfl

/-- The members that leave are released, the others are written the plan for the switch 16 ticks ahead, and the period is announced
(10 R325). -/
theorem effSliceSet_of_plan (h : checkPlan f l = none) (safe : s.dev.rst.safe = false) : effSliceSet f c s =
    ((((u.reply (s.repOf c) stQUEUED 0 true false).releaseMembers s.dev.lnk.members
      (s.dev.lnk.members.filter (fun m => m.role != 1 && !l.any (fun x => x.pkg == m.pkg))) (s.tick + 16)).writePlan (c.at 0x18 1) f.links
        l l (some (s.tick + 16))).slicePeriod (c.at 0x1C 1)).updLnk (fun k =>
      { k with members := l, duties := [], sliceSet := some (s.repOf c), rerig := none, suspended := false, spareSets := [] }) := by
  subst hu
  simp only [effSliceSet, State.ifService_of_inService service, list, if_neg range.not_out, read, idle, State.emit_dev, usable, parsed, h,
    safe]
  rfl
end Idle
end List
end SliceSet

section RerigHead
variable {s : State} {rep : Rep} {pkg spare : Nat} {g : RerigFacts}

theorem effRerig_at_head {c : Cmd} (service : s.dev.inService = true) (head : s.dev.isHead = true) :
    effRerig g c s = s.rerigHead (s.repOf c) (c.at 0x18 2) (c.at 0x1A 2) g :=
  (State.ifService_of_inService service _ _).trans (if_pos head)

theorem effRerig_at_spare {c : Cmd} (service : s.dev.inService = true) (away : s.dev.isHead = false) :
    effRerig g c s = s.rerigSpare (s.repOf c) (c.at 0x18 2) (c.at 0x1A 2) g :=
  (State.ifService_of_inService service _ _).trans (if_neg (Bool.eq_false_iff.mp away))

theorem State.rerigHead_of_stranger (h : ∀ m ∈ s.dev.lnk.members, m.pkg ≠ pkg) :
    s.rerigHead rep pkg spare g = s.refuse rep stBAD 0x25 := by
  have absent : s.dev.lnk.members.find? (fun m => m.pkg == pkg) = none := List.find?_eq_none.mpr (by simpa using h)
  simp only [State.rerigHead, absent]

/-- A re-rig that can be carried out begins; one that cannot is refused (10 R328, Table 10-9). -/
def State.orderRerig (s : State) (rep : Rep) (pkg : Nat) (q : Option Nat) (position : Nat) (g : RerigFacts) : State :=
  match s.dev.rerigRefusal pkg q g with
  | some (st, x) => s.refuse rep st x
  | none => ((s.reply rep stQUEUED 0 true false).noteLost pkg 0).beginRerig (rerigOf pkg q position s.tick (some rep) g false)

theorem State.orderRerig_of_refusal {q : Option Nat} {st x : Nat} (h : s.dev.rerigRefusal pkg q g = some (st, x)) (position : Nat) :
    s.orderRerig rep pkg q position g = s.refuse rep st x := by simp only [State.orderRerig, h]

theorem State.orderRerig_of_plan {q : Option Nat} (h : s.dev.rerigRefusal pkg q g = none) (position : Nat) :
    s.orderRerig rep pkg q position g =
      ((s.reply rep stQUEUED 0 true false).noteLost pkg 0).beginRerig (rerigOf pkg q position s.tick (some rep) g false) := by
  simp only [State.orderRerig, h]

section Member
variable {m : Member} (hm : s.dev.lnk.members.find? (fun m => m.pkg == pkg) = some m)
include hm

theorem State.rerigHead_of_unfit (h : m.role = 1 ∨ m.position = 0xFFFF ∨ (spare ≠ 0xFFFF ∧
      s.dev.lnk.members.any (fun x => x.pkg == spare && x.position == 0xFFFF && x.lost.isNone) = false)) :
    s.rerigHead rep pkg spare g = s.refuse rep stBAD 0x25 := by
  simp only [State.rerigHead, hm]
  exact if_pos h

section Fit
variable {q : Option Nat}
  (given : spare ≠ 0xFFFF → q = some spare ∧
    s.dev.lnk.members.any (fun x => x.pkg == spare && x.position == 0xFFFF && x.lost.isNone) = true)
include given

omit hm in
theorem rerig_not_unfit (layer : m.role ≠ 1) (placed : m.position ≠ 0xFFFF) : ¬ (m.role = 1 ∨ m.position = 0xFFFF ∨ (spare ≠ 0xFFFF ∧
    s.dev.lnk.members.any (fun x => x.pkg == spare && x.position == 0xFFFF && x.lost.isNone) = false)) := by
  rintro (h | h | ⟨named, h⟩)
  · exact layer h
  · exact placed h
  · exact Bool.eq_false_iff.mp h (given named).2

omit hm in
/-- The spare that takes the position: the one named, else one whose duty covers it (10 R328). -/
theorem ite_covering (cover : spare = 0xFFFF → q = s.dev.lnk.covering m.position) :
    (if spare = 0xFFFF then s.dev.lnk.covering m.position else some spare) = q := by
  split
  next h => exact (cover h).symm
  next h => exact (given h).1.symm

variable (layer : m.role ≠ 1) (placed : m.position ≠ 0xFFFF)
include layer placed

theorem State.rerigHead_of_running {r : Rerig} (hr : s.dev.lnk.rerig = some r) (phase : 2 ≤ r.phase) :
    s.rerigHead rep pkg spare g = s.refuse rep stDEGRADED 0 := by
  simp only [State.rerigHead, hm, if_neg (rerig_not_unfit given layer placed), hr, decide_eq_true phase, if_true]

/-- With no other one running, the re-rig begins where its plan can be carried out. -/
theorem State.rerigHead_of_idle (cover : spare = 0xFFFF → q = s.dev.lnk.covering m.position)
    (idle : ∀ r, s.dev.lnk.rerig = some r → r.phase < 2) :
    s.rerigHead rep pkg spare g = s.orderRerig rep pkg q m.position g := by
  simp only [State.rerigHead, hm, if_neg (rerig_not_unfit given layer placed), ite_covering given cover]
  cases hr : s.dev.lnk.rerig with
  | none => rfl
  | some r => exact if_neg (by simpa using idle r hr)
end Fit
end Member
end RerigHead

section RerigSpare
variable {s : State} {rep : Rep} {pkg spare : Nat} {g : RerigFacts}

/-- The members of the slice as the spare finds it (10 R331). -/
def foundMembers (g : RerigFacts) : List Member := g.members.map (fun m => memberOf m.pkg m.role m.position m.parent)

/-- This package may take over: its head is the lost one, it is the spare meant, and the slice that it finds holds both (10 R331). -/
def Dev.takesOver (d : Dev) (pkg spare : Nat) (l : List Member) : Bool :=
  decide (d.role.head = some pkg) && (decide (spare = 0xFFFF) || decide (spare = d.role.pkg.toNat)) &&
    l.any (fun m => m.pkg == pkg && m.role == 1) && l.any (fun m => m.pkg == d.role.pkg.toNat)

theorem Dev.takesOver_iff {d : Dev} {l : List Member} : d.takesOver pkg spare l = true ↔
    ¬ (d.role.head ≠ some pkg ∨ (spare ≠ 0xFFFF ∧ spare ≠ d.role.pkg.toNat) ∨
      (!(l.any (fun m => m.pkg == pkg && m.role == 1))) = true ∨ (!(l.any (fun m => m.pkg == d.role.pkg.toNat))) = true) := by
  simp only [Dev.takesOver, Bool.and_eq_true, Bool.or_eq_true, decide_eq_true_eq, Bool.not_eq_true', ← Bool.not_eq_true, ne_eq, not_or,
    Classical.not_and_iff_not_or_not, Classical.not_not, and_assoc]

/-- This package holds the head's payload of the epoch that the slice served (10 R331). -/
def Dev.holdsHead (d : Dev) (g : RerigFacts) : Bool :=
  (d.ws.duties ++ d.ws.store.filter (fun p => !p.own)).any (fun p => p.position == 0 && p.epoch == g.epoch)

theorem State.rerigSpare_of_unfit (h : s.dev.takesOver pkg spare (foundMembers g) = false) :
    s.rerigSpare rep pkg spare g = s.refuse rep stBAD 0x25 :=
  if_pos (Classical.not_not.mp (mt Dev.takesOver_iff.mpr (Bool.eq_false_iff.mp h)))

section Fit
variable (fit : s.dev.takesOver pkg spare (foundMembers g) = true) {w : State}
  (hw : w = s.updLnk (fun k => { k with members := foundMembers g }))
include fit hw

theorem State.rerigSpare_of_refusal {st x : Nat}
    (h : w.dev.rerigRefusal pkg (some s.dev.role.pkg.toNat) { g with holds := s.dev.holdsHead g } = some (st, x)) :
    s.rerigSpare rep pkg spare g = s.refuse rep st x := by
  subst hw
  simp only [Dev.holdsHead, foundMembers] at h
  refine (if_neg (Dev.takesOver_iff.mp fit)).trans ?_
  simp only [h]

/-- The spare takes over the slice that it found, suspended, its own place in it to be written next (10 R331). -/
theorem State.rerigSpare_of_plan
    (h : w.dev.rerigRefusal pkg (some s.dev.role.pkg.toNat) { g with holds := s.dev.holdsHead g } = none) :
    s.rerigSpare rep pkg spare g = (w.reply rep stQUEUED 0 true false).updLnk (fun k =>
      { k with suspended := true, rerigPkg := BitVec.ofNat 12 pkg,
               rerig := some { rerigOf pkg (some s.dev.role.pkg.toNat) 0 s.tick (some rep) g false with phase := 2 } }) := by
  subst hw
  simp only [Dev.holdsHead, foundMembers] at h
  refine (if_neg (Dev.takesOver_iff.mp fit)).trans ?_
  simp only [h]
  rfl
end Fit
end RerigSpare

section SpareSet
variable {s : State} {c : Cmd} (service : s.dev.inService = true)
include service

theorem effSpareSet_of_fields
    (h : 2 < c.at 0x1A 1 ∨ 32 < c.at 0x1B 1 ∨ (∃ r ∈ c.ranges, r.2 < r.1 ∨ s.dev.lnk.pipeline.length ≤ r.2)) :
    effSpareSet c s = s.refuse (s.repOf c) stBAD 0x06 :=
  (State.ifService_of_inService service _ _).trans (if_pos (by simpa using h))

/-- The kind, the count and the ranges of SPARE_SET are those of the slice (08 R260; 10 R326). -/
def Dev.spareFields (d : Dev) (c : Cmd) : Prop :=
  c.at 0x1A 1 ≤ 2 ∧ c.at 0x1B 1 ≤ 32 ∧ ∀ r ∈ c.ranges, r.1 ≤ r.2 ∧ r.2 < d.lnk.pipeline.length

omit service in
theorem Dev.spareFields.not_out (h : s.dev.spareFields c) : ¬ (2 < c.at 0x1A 1 ∨ 32 < c.at 0x1B 1 ∨
    c.ranges.any (fun r => decide (r.2 < r.1) || decide (s.dev.lnk.pipeline.length ≤ r.2)) = true) := by
  obtain ⟨kind, count, ranges⟩ := h
  simp only [List.any_eq_true, Bool.or_eq_true, decide_eq_true_eq]
  rintro (h | h | ⟨r, hr, h⟩)
  · omega
  · omega
  · have := ranges r hr
    omega

variable (fields : s.dev.spareFields c)
include fields

theorem effSpareSet_of_no_spare
    (h : s.dev.lnk.members.any (fun m => m.pkg == c.at 0x18 2 && m.position == 0xFFFF && m.lost.isNone) = false) :
    effSpareSet c s = s.refuse (s.repOf c) stBAD 0x25 :=
  (State.ifService_of_inService service _ _).trans ((if_neg fields.not_out).trans (if_pos (by rw [h]; rfl)))

/-- The positions that an older duty of the same kind has copies of, in the new ranges (07 R230). -/
def Lnk.keptCopies (l : Lnk) (spare kind : Nat) (rs : List (Nat × Nat)) : List Nat :=
  match l.duties.find? (fun d => d.spare == spare) with
  | some d => if d.kind = kind then d.done.filter (inRanges rs) else []
  | none => []

/-- The duty stands at the head, and the spare hears of it (07 R230; 10 R326). -/
def State.orderDuty (s : State) (du : Duty) : State :=
  (s.updLnk (fun l => { l with
    duties := l.duties.filter (fun x => x.spare != du.spare) ++ [du],
    members := l.members.map (fun m => if m.pkg = du.spare ∧ du.kind ≠ 0 then { m with role := 2 + du.kind } else m) })).emit
      (.message du.spare 0x08 ([0x16, du.kind] ++ du.ranges.flatMap (fun r => [r.1, r.2])))

section Taken
variable {spare kind : Nat} {rs : List (Nat × Nat)} {du : Duty} {u : State} (hspare : spare = c.at 0x18 2)
  (hkind : kind = c.at 0x1A 1) (hrs : rs = if kind = 0 then [] else c.ranges)
  (fit : s.dev.lnk.members.any (fun m => m.pkg == spare && m.position == 0xFFFF && m.lost.isNone) = true)
  (hdu : du = { spare, kind, ranges := rs, done := s.dev.lnk.keptCopies spare kind rs })
  (hu : u = (s.reply (s.repOf c) stQUEUED 0 true false).orderDuty du)
include hspare hkind hrs fit hdu hu

theorem effSpareSet_of_spare : effSpareSet c s =
    if (du.positions s.dev.lnk.pipeline.length).all (fun x => du.done.contains x) = true then u.reply (s.repOf c) stOK 0 false true
    else u.updLnk (fun l => { l with spareSets := l.spareSets ++ [(spare, s.repOf c)] }) := by
  subst hu hdu hrs hkind hspare
  refine (State.ifService_of_inService service _ _).trans ((if_neg fields.not_out).trans ((if_neg ?_).trans rfl))
  rw [fit]
  decide

theorem effSpareSet_of_copied (h : ∀ x ∈ du.positions s.dev.lnk.pipeline.length, x ∈ du.done) :
    effSpareSet c s = u.reply (s.repOf c) stOK 0 false true :=
  (effSpareSet_of_spare service fields hspare hkind hrs fit hdu hu).trans (if_pos (by simpa using h))

theorem effSpareSet_of_missing (h : ∃ x ∈ du.positions s.dev.lnk.pipeline.length, x ∉ du.done) :
    effSpareSet c s = u.updLnk (fun l => { l with spareSets := l.spareSets ++ [(spare, s.repOf c)] }) :=
  (effSpareSet_of_spare service fields hspare hkind hrs fit hdu hu).trans (if_neg (by simpa using h))
end Taken
end SpareSet

section Due
variable {s : State} {c : Cmd} {rest : List Cmd} {num : Nat} {eff : Cmd → State → State} (hdue : s.dev.srv.due = c :: rest)
  (hop : c.op = num)
include hdue hop

theorem runDue_of_refused {t : State} {st x : Nat} (h : eff c (s.dueLeft rest) = t.refuse ((s.dueLeft rest).repOf c) st x) :
    s.runDue num c.ch eff = (t.reply (s.repOf c) st x true true).advance := by
  rw [State.runDue_of_due hdue hop, h, State.repOf_dueLeft, State.refuse]

theorem runDue_of_effect {t : State} (h : eff c (s.dueLeft rest) = t) : s.runDue num c.ch eff = t.advance := by
  rw [State.runDue_of_due hdue hop, h]
end Due

end Sys2Proof.Machine

open Sys2Proof Sys2Proof.Machine

/-- Settles O43: each command by its first check that fails, else by what it orders, on the state that the due command leaves. -/
theorem sliceCommands : Obligations.SliceCommands := by
  rintro s _ c rest f g _ ans hdue rfl rfl hans
  refine ⟨fun away => ⟨fun hop => ?_, fun hop => ?_, fun hop => ?_⟩, ?_, ?_, ?_, ?_⟩
  · rw [exec_sliceSet, hans, runDue_of_refused hdue hop (effSliceSet_of_not_inService (s := s.dueLeft rest) away)]
  · rw [exec_rerig, hans, runDue_of_refused hdue hop (effRerig_of_not_inService (s := s.dueLeft rest) away)]
  · rw [exec_spareSet, hans, runDue_of_refused hdue hop (effSpareSet_of_not_inService (s := s.dueLeft rest) away)]
  · rintro hop service _ _ _ rfl rfl rfl
    rw [exec_sliceSet]
    refine ⟨fun h => ?_, fun h => ⟨fun hb => ?_, fun hb => ?_⟩, fun list h => ?_, fun u list n0 n1 p0 p1 hu => ?_⟩
    · rw [hans, runDue_of_refused hdue hop (effSliceSet_of_flags (s := s.dueLeft rest) service h)]
    · rw [hans, runDue_of_refused hdue hop (effSliceSet_of_dissolve_busy (s := s.dueLeft rest) service h hb)]
    · rw [runDue_of_effect hdue hop (effSliceSet_of_dissolve (s := s.dueLeft rest) service h hb)]
      rfl
    · rw [hans, runDue_of_refused hdue hop (effSliceSet_of_range (s := s.dueLeft rest) service list h)]
    · have range : c.sliceRange := ⟨n0, n1, p0, p1⟩
      refine ⟨fun h => ?_, fun bytes read => ⟨fun hb => ?_, fun hb usable => ?_, fun hb usable => ⟨fun h => ?_, fun l parsed =>
        ⟨fun st x h => ?_, fun h safe => ?_, fun h safe => ?_⟩⟩⟩⟩
      · rw [hans, runDue_of_refused hdue hop (effSliceSet_of_no_list (s := s.dueLeft rest) service list range hu h)]
      · rw [hans, runDue_of_refused hdue hop (effSliceSet_of_busy (s := s.dueLeft rest) service list range hu read hb)]
      · rw [hans, runDue_of_refused hdue hop (effSliceSet_of_retired (s := s.dueLeft rest) service list range hu read hb usable)]
      · rw [hans, runDue_of_refused hdue hop (effSliceSet_of_malformed (s := s.dueLeft rest) service list range hu read hb usable h)]
      · rw [hans, runDue_of_refused hdue hop (effSliceSet_of_refusal (s := s.dueLeft rest) service list range hu read hb usable parsed h)]
      · rw [hans, runDue_of_refused hdue hop (effSliceSet_of_safe (s := s.dueLeft rest) service list range hu read hb usable parsed h
          safe)]
      · rw [runDue_of_effect hdue hop (effSliceSet_of_plan (s := s.dueLeft rest) service list range hu read hb usable parsed h safe)]
        rfl
  · rintro hop service head _ _ rfl rfl
    rw [exec_rerig]
    have acts := effRerig_at_head (s := s.dueLeft rest) (c := c) (g := g) service head
    refine ⟨fun h => ?_, fun m hm => ⟨fun h => ?_, fun q layer placed cover given => ⟨fun r hr phase => ?_, fun idle =>
      ⟨fun st x h => ?_, fun h => ?_⟩⟩⟩⟩
    · rw [hans, runDue_of_refused hdue hop (acts.trans (State.rerigHead_of_stranger (s := s.dueLeft rest) h))]
    · rw [hans, runDue_of_refused hdue hop (acts.trans (State.rerigHead_of_unfit (s := s.dueLeft rest) hm h))]
    · rw [hans, runDue_of_refused hdue hop (acts.trans (State.rerigHead_of_running (s := s.dueLeft rest) hm given layer placed hr phase))]
    · rw [hans, runDue_of_refused hdue hop ((acts.trans
        (State.rerigHead_of_idle (s := s.dueLeft rest) hm given layer placed cover idle)).trans
        (State.orderRerig_of_refusal (s := s.dueLeft rest) h _))]
    · rw [runDue_of_effect hdue hop ((acts.trans (State.rerigHead_of_idle (s := s.dueLeft rest) hm given layer placed cover idle)).trans
        (State.orderRerig_of_plan (s := s.dueLeft rest) h _))]
      rfl
  · rintro hop service away _ _ _ w _ rfl rfl rfl hw rfl
    rw [exec_rerig]
    have acts := effRerig_at_spare (s := s.dueLeft rest) (c := c) (g := g) service away
    refine ⟨fun h => ?_, fun x h hx => ?_⟩
    · rw [hans, runDue_of_refused hdue hop (acts.trans (State.rerigSpare_of_unfit (s := s.dueLeft rest) h))]
    · subst hx
      refine ⟨fun st y hs => ?_, fun hn => ?_⟩
      · rw [hans, runDue_of_refused hdue hop (acts.trans (State.rerigSpare_of_refusal (s := s.dueLeft rest) h hw hs))]
      · rw [runDue_of_effect hdue hop (acts.trans (State.rerigSpare_of_plan (s := s.dueLeft rest) h hw hn))]
        rfl
  · rintro hop service spare kind rs _ rfl rfl rfl noRanges ranges
    rw [exec_spareSet]
    refine ⟨fun h => ?_, fun kind2 count inside => ⟨fun h => ?_, fun du kept u fit fresh old hdu hu => ?_⟩⟩
    · rw [hans, runDue_of_refused hdue hop (effSpareSet_of_fields (s := s.dueLeft rest) service h)]
    · rw [hans, runDue_of_refused hdue hop (effSpareSet_of_no_spare (s := s.dueLeft rest) service ⟨kind2, count, inside⟩ h)]
    · have hrs : rs = if c.at 0x1A 1 = 0 then [] else c.ranges := by
        split
        next h => exact noRanges h
        next h => exact ranges h
      obtain rfl : kept = s.dev.lnk.keptCopies (c.at 0x18 2) (c.at 0x1A 1) rs := by
        unfold Lnk.keptCopies
        split
        next d hd => exact old d hd
        next hd => exact fresh hd
      have ordered : u = ((s.dueLeft rest).reply (s.repOf c) stQUEUED 0 true false).orderDuty du := by
        rw [hu, hdu]
        rfl
      have done : du.done = s.dev.lnk.keptCopies (c.at 0x18 2) (c.at 0x1A 1) rs := by rw [hdu]
      rw [← done]
      refine ⟨fun h => ?_, fun h => ?_⟩
      · rw [runDue_of_effect hdue hop (effSpareSet_of_copied (s := s.dueLeft rest) service ⟨kind2, count, inside⟩ rfl rfl hrs fit hdu
          ordered h)]
        rfl
      · rw [runDue_of_effect hdue hop (effSpareSet_of_missing (s := s.dueLeft rest) service ⟨kind2, count, inside⟩ rfl rfl hrs fit hdu
          ordered h)]
        rfl
end

section
/-! PROOF. What every step keeps: the queue behind the command taken, and the canonical form of the stores; O3, O4, O5 and O6 from it
(08 R233, R241, R242, R244; 12 R368, R372; 04 Table 4-6; 14 Tables 14-1, 14-3). -/

namespace Sys2Proof.Machine

/-- Every command that answers a next state leaves the queue as it stands and the stores canonical. -/
theorem exec_keeps {c : Instr} {s t : State} (h : exec c s = .next t) : s.Keeps t := by
  cases c with
  | commandSlotWrite => exact execCommandSlotWrite_keeps h
  | openCmd => exact execOpenCmd_keeps h
  | append => exact execAppend_keeps h
  | generate => exact execGenerate_keeps h
  | cancel => exact execCancel_keeps h
  | park => exact execPark_keeps h
  | resume => exact execResume_keeps h
  | close => exact execClose_keeps h
  | embed => exact execEmbed_keeps h
  | chanReload => exact execChanReload_keeps h
  | tenantSet => exact execTenantSet_keeps h
  | imageInstall => exact execImageInstall_keeps h
  | imageStage => exact execImageStage_keeps h
  | imageTack => exact execImageTack_keeps h
  | imageVerify => exact execImageVerify_keeps h
  | sliceSet => exact execSliceSet_keeps h
  | rerig => exact execRerig_keeps h
  | spareSet => exact execSpareSet_keeps h
  | marginTest => exact execMarginTest_keeps h
  | retire => exact execRetire_keeps h
  | stateQuery => exact execStateQuery_keeps h
  | attest => exact execAttest_keeps h
  | nop => exact execNop_keeps h
  | descriptorFetchComplete => exact execDescriptorFetchComplete_keeps h
  | tickBoundary => exact execTickBoundary_keeps h
  | queuedAdmission => exact execQueuedAdmission_keeps h
  | positionCommit => exact execPositionCommit_keeps h
  | stampFail => exact execStampFail_keeps h
  | lmHeadPassComplete => exact execLmHeadPassComplete_keeps h
  | draftProposal => exact execDraftProposal_keeps h
  | budgetWindowEnd => exact execBudgetWindowEnd_keeps h
  | ttlExpiry => exact execTtlExpiry_keeps h
  | parkCopyComplete => exact execParkCopyComplete_keeps h
  | resumeRestore => exact execResumeRestore_keeps h
  | drainMarker => exact execDrainMarker_keeps h
  | drainLimitExpiry => exact execDrainLimitExpiry_keeps h
  | tackRewriteStart => exact execTackRewriteStart_keeps h
  | tackBankSwitch => exact execTackBankSwitch_keeps h
  | weightStoreCommit => exact execWeightStoreCommit_keeps h
  | imagePageReceive => exact execImagePageReceive_keeps h
  | imageVerified => exact execImageVerified_keeps h
  | imageWrite => exact execImageWrite_keeps h
  | imageWritten => exact execImageWritten_keeps h
  | imageCommit => exact execImageCommit_keeps h
  | imageAbort => exact execImageAbort_keeps h
  | payloadLoad => exact execPayloadLoad_keeps h
  | spareDutyCopy => exact execSpareDutyCopy_keeps h
  | clampWindowClose => exact execClampWindowClose_keeps h
  | clampPolicyAction => exact execClampPolicyAction_keeps h
  | dleLayerCopyComplete => exact execDleLayerCopyComplete_keeps h
  | clampRestore => exact execClampRestore_keeps h
  | vector => exact execVector_keeps h
  | arrayVectorComplete => exact execArrayVectorComplete_keeps h
  | strictReplay => exact execStrictReplay_keeps h
  | bitternEventServe => exact execBitternEventServe_keeps h
  | ringLoad => exact execRingLoad_keeps h
  | prefetch => exact execPrefetch_keeps h
  | deadline => exact execDeadline_keeps h
  | attnReturn => exact execAttnReturn_keeps h
  | slipSlot => exact execSlipSlot_keeps h
  | correctLast => exact execCorrectLast_keeps h
  | call => exact execCall_keeps h
  | spot => exact execSpot_keeps h
  | canary => exact execCanary_keeps h
  | flitForward => exact execFlitForward_keeps h
  | controlFrameReceive => exact execControlFrameReceive_keeps h
  | kvWriteComplete => exact execKvWriteComplete_keeps h
  | dleAttention => exact execDleAttention_keeps h
  | dleTier2Pass => exact execDleTier2Pass_keeps h
  | unitRetireDecision => exact execUnitRetireDecision_keeps h
  | panSubstitution => exact execPanSubstitution_keeps h
  | denyWrite => exact execDenyWrite_keeps h
  | hkConversionComplete => exact execHkConversionComplete_keeps h
  | hkRoundEnd => exact execHkRoundEnd_keeps h
  | headFractionUpdate => exact execHeadFractionUpdate_keeps h
  | hkTrigger => exact execHkTrigger_keeps h
  | hkFifoDataRead => exact execHkFifoDataRead_keeps h
  | laneMargining => exact execLaneMargining_keeps h
  | trimStoreLoad => exact execTrimStoreLoad_keeps h
  | verifyRequest => exact execVerifyRequest_keeps h
  | verificationComplete => exact execVerificationComplete_keeps h
  | timeStart => exact execTimeStart_keeps h
  | timeStop => exact execTimeStop_keeps h
  | tickPeriodWrite => exact execTickPeriodWrite_keeps h
  | periodChangeEffect => exact execPeriodChangeEffect_keeps h
  | tickMarkerReceive => exact execTickMarkerReceive_keeps h
  | markerLost => exact execMarkerLost_keeps h
  | freeTimeout => exact execFreeTimeout_keeps h
  | syncLock => exact execSyncLock_keeps h
  | ptmDialog => exact execPtmDialog_keeps h
  | linkRetrain => exact execLinkRetrain_keeps h
  | linkTrainingDone => exact execLinkTrainingDone_keeps h
  | frameReceive => exact execFrameReceive_keeps h
  | linkAck => exact execLinkAck_keeps h
  | linkNak => exact execLinkNak_keeps h
  | bundleReceive => exact execBundleReceive_keeps h
  | verdictReceive => exact execVerdictReceive_keeps h
  | routeFrame => exact execRouteFrame_keeps h
  | routeBankSwitch => exact execRouteBankSwitch_keeps h
  | moeDispatch => exact execMoeDispatch_keeps h
  | moeReturn => exact execMoeReturn_keeps h
  | memberLossReport => exact execMemberLossReport_keeps h
  | memberLost => exact execMemberLost_keeps h
  | memberRejoin => exact execMemberRejoin_keeps h
  | rerigWaitExpiry => exact execRerigWaitExpiry_keeps h
  | streamRebuilt => exact execStreamRebuilt_keeps h
  | routeWrite => exact execRouteWrite_keeps h
  | vlShareWrite => exact execVlShareWrite_keeps h
  | arbRequest => exact execArbRequest_keeps h
  | backoffExpiry => exact execBackoffExpiry_keeps h
  | arbTransferComplete => exact execArbTransferComplete_keeps h
  | arbWatchdogBite => exact execArbWatchdogBite_keeps h
  | biteResetEnd => exact execBiteResetEnd_keeps h
  | replyRecordWrite => exact execReplyRecordWrite_keeps h
  | backlogDrain => exact execBacklogDrain_keeps h
  | ringEnable => exact execRingEnable_keeps h
  | ringConsWrite => exact execRingConsWrite_keeps h
  | pendRead => exact execPendRead_keeps h
  | chanRangeWrite => exact execChanRangeWrite_keeps h
  | msixUnmask => exact execMsixUnmask_keeps h
  | eventRingEnable => exact execEventRingEnable_keeps h
  | eventRingConsWrite => exact execEventRingConsWrite_keeps h
  | lateCompletion => exact execLateCompletion_keeps h
  | poisonedTlp => exact execPoisonedTlp_keeps h
  | atomicOp => exact execAtomicOp_keeps h
  | flrVf => exact execFlrVf_keeps h
  | flrPf0 => exact execFlrPf0_keeps h
  | flrCompletion => exact execFlrCompletion_keeps h
  | vfEnableClear => exact execVfEnableClear_keeps h
  | busMasterDisable => exact execBusMasterDisable_keeps h
  | d3hotEntry => exact execD3hotEntry_keeps h
  | d3hotExit => exact execD3hotExit_keeps h
  | pcieLinkDown => exact execPcieLinkDown_keeps h
  | pcieHotReset => exact execPcieHotReset_keeps h
  | perst => exact execPerst_keeps h
  | configRequestRetry => exact execConfigRequestRetry_keeps h
  | lowWordRead => exact execLowWordRead_keeps h
  | snapHold => exact execSnapHold_keeps h
  | snapRelease => exact execSnapRelease_keeps h
  | snapHoldExpiry => exact execSnapHoldExpiry_keeps h
  | panDigRead => exact execPanDigRead_keeps h
  | panDigWrite => exact execPanDigWrite_keeps h
  | panDigComplete => exact execPanDigComplete_keeps h
  | keyEnrol => exact execKeyEnrol_keeps h
  | keyRevoke => exact execKeyRevoke_keeps h
  | lcChallenge => exact execLcChallenge_keeps h
  | lcTransition => exact execLcTransition_keeps h
  | fwUpdate => exact execFwUpdate_keeps h
  | commitSvn => exact execCommitSvn_keeps h
  | attestReservation => exact execAttestReservation_keeps h
  | powerOnReset => exact execPowerOnReset_keeps h
  | railsSoftStart => exact execRailsSoftStart_keeps h
  | ccBoot => exact execCcBoot_keeps h
  | auxBrownout => exact execAuxBrownout_keeps h
  | coldReset => exact execColdReset_keeps h
  | warmReset => exact execWarmReset_keeps h
  | rstCtrlWarm => exact execRstCtrlWarm_keeps h
  | watchdogKick => exact execWatchdogKick_keeps h
  | deviceWatchdogBite => exact execDeviceWatchdogBite_keeps h
  | pllLossOfLock => exact execPllLossOfLock_keeps h
  | referenceFailure => exact execReferenceFailure_keeps h
  | thermalTrip => exact execThermalTrip_keeps h
  | thermalTripRestart => exact execThermalTripRestart_keeps h
  | vinFault => exact execVinFault_keeps h
  | vbakLoss => exact execVbakLoss_keeps h
  | furlRequest => exact execFurlRequest_keeps h
  | wakeN => exact execWakeN_keeps h
  | islandFurlRetain => exact execIslandFurlRetain_keeps h
  | islandFurlDark => exact execIslandFurlDark_keeps h
  | islandUnfurl => exact execIslandUnfurl_keeps h
  | islandFurlComplete => exact execIslandFurlComplete_keeps h
  | islandUnfurlComplete => exact execIslandUnfurlComplete_keeps h
  | bistRequest => exact execBistRequest_keeps h
  | bistComplete => exact execBistComplete_keeps h
  | resetCountClear => exact execResetCountClear_keeps h
  | rtcSet => exact execRtcSet_keeps h
  | mgmtTsRead => exact execMgmtTsRead_keeps h
  | mgmtDenyWrite => exact execMgmtDenyWrite_keeps h
  | mgmtReefFloorWrite => exact execMgmtReefFloorWrite_keeps h
  | mgmtFurl => exact execMgmtFurl_keeps h
  | mgmtWake => exact execMgmtWake_keeps h
  | mgmtTripRecordRead => exact execMgmtTripRecordRead_keeps h
  | registerWrite => exact execRegisterWrite_keeps h
  | factoryCalibration => exact execFactoryCalibration_keeps h
  | attestationKeyGeneration => exact execAttestationKeyGeneration_keeps h
  | completionTimeout => exact execCompletionTimeout_keeps h
  | pcieLinkUp => exact execPcieLinkUp_keeps h
  | busMasterEnable => exact execBusMasterEnable_keeps h
  | mgmtI3cCfgWrite => exact execMgmtI3cCfgWrite_keeps h

/-- A step that answers a next state has the queue's tail, and canonical stores if they were so before. -/
theorem step_keeps {s t : State} (h : step s = .next t) : t.pending = s.pending.tail ∧ (s.storesWf → t.storesWf) := by
  unfold step at h
  split at h
  next empty =>
    obtain ⟨hp, hs⟩ := State.Keeps.next h (State.passCycles_keeps (.refl s))
    exact ⟨by rw [hp, empty]; rfl, hs⟩
  next c rest front =>
    obtain ⟨hp, hs⟩ := exec_keeps h
    exact ⟨by rw [hp, front]; rfl, hs⟩

end Sys2Proof.Machine

open Sys2Proof Sys2Proof.Machine

/-- Settles O3: no command touches the queue behind it, so a step leaves its tail. -/
theorem eachStepConsumesOneCommand : Obligations.EachStepConsumesOneCommand := fun _ _ h => (step_keeps h).1

/-- Settles O5: every command and the passing of a cycle keep the canonical form. -/
theorem storesStayCanonical : Obligations.StoresStayCanonical := fun _ _ hs h => (step_keeps h).2 hs

/-- Settles O4: what waits after a step waited before it. -/
theorem queueStaysWellFormed : Obligations.QueueStaysWellFormed := by
  intro s t hs h c hc
  rw [(step_keeps h).1] at hc
  exact hs c (List.mem_of_mem_tail hc)

/-- Settles O6: the queue and every memory of the reset state are empty. -/
theorem resetStartsCanonical : Obligations.ResetStartsCanonical := by
  refine ⟨?_, rfl, ⟨rfl, rfl⟩, fun p => ?_⟩
  · intro c hc
    exact absurd hc (List.not_mem_nil)
  · refine ⟨rfl, rfl, rfl, ?_⟩
    intro e he
    exact absurd he (List.not_mem_nil)
end

section
/-! PROOF. Reply rings, channel ranges and PEND: one lemma per case of each command, and O11, O12 and O17 from them (08 R233, R243, R247
to R251, R265; 00 R14, R17, R18). -/

namespace Sys2Proof.Machine

theorem exec_replyRecordWrite (f r : Nat) (ok : Bool) (s : State) :
    exec (.replyRecordWrite f r ok) s = .next (stepReplyRecordWrite f r ok s) := rfl
theorem exec_backlogDrain (f r : Nat) (s : State) : exec (.backlogDrain f r) s = .next (stepBacklogDrain f r s) := rfl
theorem exec_ringEnable (f r : Nat) (s : State) : exec (.ringEnable f r) s = .next (stepRingEnable f r s) := rfl
theorem exec_ringConsWrite (f r : Nat) (cons : W32) (s : State) : exec (.ringConsWrite f r cons) s = .next (stepRingConsWrite f r cons s) := rfl
theorem exec_pendRead (f : Nat) (s : State) : exec (.pendRead f) s = .next (stepPendRead f s) := rfl
theorem exec_chanRangeWrite (f : Nat) (v : W32) (s : State) : exec (.chanRangeWrite f v) s = .next (stepChanRangeWrite f v s) := rfl

/-- An update of a function's registers matters only by what it makes of those that stand. -/
theorem State.updFn_congr {s : State} {f : Nat} {g h : Fn → Fn} (e : g (s.dev.fn f) = h (s.dev.fn f)) : s.updFn f g = s.updFn f h := by
  have same : g (Sparse.get Fn.reset s.dev.srv.fns f) = h (Sparse.get Fn.reset s.dev.srv.fns f) := e
  simp only [State.updFn, State.updSrv, Sparse.upd, same]

/-- An update of a ring matters only by what it makes of the ring that stands. -/
theorem State.updRing_congr {s : State} {f r : Nat} {g h : Ring → Ring} (e : g (s.dev.ring f r) = h (s.dev.ring f r)) :
    s.updRing f r g = s.updRing f r h := by
  have same : g (Sparse.get Ring.reset (s.dev.fn f).rings r) = h (Sparse.get Ring.reset (s.dev.fn f).rings r) := e
  exact State.updFn_congr (by simp only [Sparse.upd, same])

section Write
variable {s : State} {f r : Nat} {x : Record} {rest : List Record}

theorem stepReplyRecordWrite_of_empty (h : (s.dev.ring f r).wq = []) (ok : Bool) : stepReplyRecordWrite f r ok s = s := by
  simp only [stepReplyRecordWrite, h]

variable (front : (s.dev.ring f r).wq = x :: rest) (early : s.dev.earlier x.tick = false)
include front early

/-- The record leaves at PROD's place, and PROD and PEND follow it (08 R248, R251). -/
theorem stepReplyRecordWrite_of_granted (writes : s.dev.canWrite f = true) : stepReplyRecordWrite f r true s =
    (((s.updRing f r (fun g => { g with wq := rest, prod := g.prod + 1 })).updFn f (fun n =>
        { n with pend := n.pend ||| (1#64 <<< r), irqWant := n.irqWant || (n.irqEn && (s.dev.ring f r).irq) })).updPcie
        (fun p => { p with wr := p.wr + 64 })).emit
      (.record f r ((s.dev.ring f r).place (s.dev.ring f r).prod.toNat).1 (x.bytes ((s.dev.ring f r).place (s.dev.ring f r).prod.toNat).2)) := by
  simp only [stepReplyRecordWrite, front, early, writes, Bool.and_self, Bool.false_eq_true, if_false, if_true]

theorem stepReplyRecordWrite_of_failed : stepReplyRecordWrite f r false s =
    s.updRing f r (fun g => { g with wq := [], backlog := g.wq ++ g.backlog }) := by
  simp only [stepReplyRecordWrite, front, early, Bool.false_and, Bool.false_eq_true, if_false]
end Write

theorem stepBacklogDrain_of_writes {s : State} {f r : Nat} (en : (s.dev.ring f r).en = true) (writes : s.dev.canWrite f = true) :
    stepBacklogDrain f r s = s.updRing f r (fun g => { g with wq := g.wq ++ g.backlog.take g.free, backlog := g.backlog.drop g.free }) :=
  if_pos (by rw [en, writes]; rfl)

section Enable
variable {s : State} {f r : Nat}

/-- RING.CFG with EN = 1 and a ring's own IRQ and SIZE (08 R247). -/
def Ring.enableWord (g : Ring) : W32 := BitVec.ofNat 32 (2 ^ 31 + 2 ^ 30 * b2n g.irq + g.size)

theorem b2n_le_one (b : Bool) : b2n b ≤ 1 := by cases b <;> decide

theorem Ring.enableWord_toNat {g : Ring} (h : g.size ≤ 16) : g.enableWord.toNat = 2 ^ 31 + 2 ^ 30 * b2n g.irq + g.size := by
  have := b2n_le_one g.irq
  rw [Ring.enableWord, BitVec.toNat_ofNat]
  omega

theorem Ring.enableWord_en {g : Ring} (h : g.size ≤ 16) : g.enableWord.getLsbD 31 = true := by
  have := b2n_le_one g.irq
  rw [BitVec.getLsbD, Ring.enableWord_toNat h, Nat.testBit_eq_decide_div_mod_eq, decide_eq_true_eq]
  omega

theorem Ring.enableWord_irq {g : Ring} (h : g.size ≤ 16) : g.enableWord.getLsbD 30 = g.irq := by
  have bit : (2 ^ 31 + 2 ^ 30 * b2n g.irq + g.size) / 2 ^ 30 % 2 = b2n g.irq := by
    have := b2n_le_one g.irq
    omega
  rw [BitVec.getLsbD, Ring.enableWord_toNat h, Nat.testBit_eq_decide_div_mod_eq, bit]
  cases g.irq <;> decide

theorem Ring.enableWord_size {g : Ring} (h : g.size ≤ 16) : fieldAt g.enableWord.toNat 0 5 = g.size := by
  rw [fieldAt, Ring.enableWord_toNat h, Nat.shiftRight_zero]
  omega

/-- Software's EN = 1 keeps the ring's IRQ and SIZE, and starts PROD and CONS where the ring was disabled (08 R247). -/
theorem stepRingEnable_of_size (h4 : 4 ≤ (s.dev.ring f r).size) (h16 : (s.dev.ring f r).size ≤ 16) : stepRingEnable f r s =
    s.updRing f r (fun g => if g.en then g else { g with en := true, prod := 0, cons := 0 }) := by
  have written : stepRingEnable f r s = s.writeRingCfg f r (s.dev.ring f r).enableWord := rfl
  rw [written]
  refine State.updRing_congr ?_
  rw [Ring.enableWord_en h16, Ring.enableWord_irq h16, Ring.enableWord_size h16]
  generalize s.dev.ring f r = g at h4 h16
  obtain ⟨_, en, _, _, _, _, _, _⟩ := g
  cases en <;> simp [setField, h4, h16]
end Enable

section Cons
variable {s : State} {f r : Nat} {cons : W32}

theorem stepRingConsWrite_of_inside (h : (cons - (s.dev.ring f r).cons).toNat ≤ ((s.dev.ring f r).prod - (s.dev.ring f r).cons).toNat) :
    stepRingConsWrite f r cons s = s.updRing f r (fun g => { g with cons }) := if_neg (Nat.not_lt.mpr h)

theorem stepRingConsWrite_of_past (h : ((s.dev.ring f r).prod - (s.dev.ring f r).cons).toNat < (cons - (s.dev.ring f r).cons).toNat) :
    stepRingConsWrite f r cons s = s.updFn f (fun n => { n with consBad := true }) := if_pos h
end Cons

section Range
variable {s : State} {f : Nat} {v : W32}

/-- COUNT and BASE of a written CHAN_RANGE (08 R233). -/
def rangeCount (v : W32) : Nat := fieldAt v.toNat 16 15
def rangeBase (v : W32) : Nat := fieldAt v.toNat 0 14

theorem rangeCount_eq (v : W32) : rangeCount v = v.toNat / 65536 % 32768 := by simp [rangeCount, fieldAt, Nat.shiftRight_eq_div_pow]
theorem rangeBase_eq (v : W32) : rangeBase v = v.toNat % 16384 := by simp [rangeBase, fieldAt]

/-- A written range and function g's share a channel; a range of COUNT 0 shares none (08 R233; entry 16). -/
def Fn.overlaps (n : Fn) (v : W32) : Prop :=
  0 < n.count ∧ 0 < rangeCount v ∧ rangeBase v < n.base + n.count ∧ n.base < rangeBase v + rangeCount v

/-- The checks of CHAN_RANGE_WRITE refuse the range (08 R233). -/
def State.rangeRefused (s : State) (f : Nat) (v : W32) : Prop :=
  (∃ g < 32, g ≠ f ∧ (s.dev.fn g).overlaps v) ∨
  ((rangeCount v ≠ (s.dev.fn f).count ∨ rangeBase v ≠ (s.dev.fn f).base) ∧ s.dev.hasStreams f = true) ∨
  16384 < rangeBase v + rangeCount v

theorem stepChanRangeWrite_of_refused (h : s.rangeRefused f v) :
    stepChanRangeWrite f v s = s.updFn f (fun n => { n with rangeRefused := true }) :=
  if_pos (by simpa [State.rangeRefused, Fn.overlaps, rangeCount, rangeBase, and_assoc, or_assoc] using h)

theorem stepChanRangeWrite_of_taken (h : ¬ s.rangeRefused f v) :
    stepChanRangeWrite f v s = s.updFn f (fun n => { n with count := rangeCount v, base := rangeBase v }) :=
  if_neg (by simpa [State.rangeRefused, Fn.overlaps, rangeCount, rangeBase, and_assoc, or_assoc] using h)
end Range

section Produce
variable {s : State} {f ring : Nat} {x : Record}

theorem State.produce_of_flrBusy (h : (s.dev.fn f).flrBusy = true) : s.produce f ring x = s := if_pos (by rw [h]; rfl)

variable (free : (s.dev.fn f).flrBusy = false) (alive : (s.dev.isHead && s.dev.chk.isRetired 0 0) = false)
include free alive

theorem State.produce_of_room (en : (s.dev.ring f ring).en = true) (room : 0 < (s.dev.ring f ring).free)
    (empty : (s.dev.ring f ring).backlog = []) (writes : s.dev.canWrite f = true) :
    s.produce f ring x = s.updRing f ring (fun g => { g with wq := g.wq ++ [x] }) := by
  simp [State.produce, free, alive, en, room, empty, writes]

theorem State.produce_of_no_room (h : (s.dev.ring f ring).en = false ∨ (s.dev.ring f ring).free = 0 ∨
      (s.dev.ring f ring).backlog ≠ [] ∨ s.dev.canWrite f = false) :
    s.produce f ring x = s.updRing f ring (fun g => { g with backlog := g.backlog ++ [x] }) := by
  refine (if_neg (by rw [free, alive]; decide)).trans (if_neg ?_)
  simp only [Bool.and_eq_true, decide_eq_true_eq, List.isEmpty_iff]
  rintro ⟨⟨⟨en, room⟩, empty⟩, writes⟩
  rcases h with h | h | h | h
  · simp [h] at en
  · omega
  · exact h empty
  · simp [h] at writes
end Produce

/-- The record of a reply that leaves the slot locked (08 Table 8-4). -/
def State.replyRecord (s : State) (p : Rep) (status detail : Nat) (final : Bool) (w0 w1 : Nat) (payload : List Byte)
    (text tokens : Bool) : Record :=
  { op := p.op, status, released := false, final, text, tokens, detail, ch := p.ch, state := s.dev.stateByte p.ch, tag := p.tag,
    tick := s.tick, word0 := BitVec.ofNat 32 w0, word1 := BitVec.ofNat 32 w1, payload }

theorem State.reply_of_held (s : State) (p : Rep) (st d : Nat) (fin : Bool) (w0 w1 : Nat) (pl : List Byte) (tx tk : Bool) :
    s.reply p st d false fin w0 w1 pl tx tk = s.produce p.fn p.ring (s.replyRecord p st d fin w0 w1 pl tx tk) := rfl

theorem State.reply_of_released (s : State) (p : Rep) (st d : Nat) (fin : Bool) (w0 w1 : Nat) (pl : List Byte) (tx tk : Bool) :
    s.reply p st d true fin w0 w1 pl tx tk =
      (s.unlock p.ch).produce p.fn p.ring { s.replyRecord p st d fin w0 w1 pl tx tk with released := true } := rfl

end Sys2Proof.Machine

open Sys2Proof Sys2Proof.Machine

/-- Settles O11: the ring's first record leaves or goes back with those behind it, and a backlog drains into the room there is. -/
theorem replyRingWrites : Obligations.ReplyRingWrites := by
  intro s f r x rest
  refine ⟨fun front early writes => ?_, fun front early => ?_, fun empty ok => ?_, fun en writes => ?_⟩
  · rw [exec_replyRecordWrite, stepReplyRecordWrite_of_granted front early writes]
    rfl
  · rw [exec_replyRecordWrite, stepReplyRecordWrite_of_failed front early]
  · rw [exec_replyRecordWrite, stepReplyRecordWrite_of_empty empty]
  · rw [exec_backlogDrain, stepBacklogDrain_of_writes en writes]

/-- Settles O12: a range is refused exactly by the checks of R233, which the premises decide. -/
theorem ringControl : Obligations.RingControl := by
  intro s f r cons v
  refine ⟨fun off h4 h16 => ?_, fun on h4 h16 => ?_, fun h => ?_, fun h => ?_, rfl, fun apart idle inside => ?_, fun past => ?_,
    fun g hg hne hc hv hb he => ?_⟩
  · rw [exec_ringEnable, stepRingEnable_of_size h4 h16]
    exact congrArg _ (State.updRing_congr (if_neg (by rw [off]; decide)))
  · rw [exec_ringEnable, stepRingEnable_of_size h4 h16]
    exact congrArg _ (State.updRing_congr (if_pos on))
  · rw [exec_ringConsWrite, stepRingConsWrite_of_inside h]
  · rw [exec_ringConsWrite, stepRingConsWrite_of_past h]
  · have legal : ¬ s.rangeRefused f v := by
      rintro (⟨g, hg, hne, hc, hv, hb, he⟩ | ⟨-, streams⟩ | past)
      · have := apart g hg hne
        rw [rangeCount_eq] at hv he
        rw [rangeBase_eq] at hb he
        omega
      · simp [idle] at streams
      · rw [rangeBase_eq, rangeCount_eq] at past
        omega
    rw [exec_chanRangeWrite, stepChanRangeWrite_of_taken legal, rangeCount_eq, rangeBase_eq]
  · rw [exec_chanRangeWrite, stepChanRangeWrite_of_refused (.inr (.inr (by rwa [rangeBase_eq, rangeCount_eq])))]
  · rw [exec_chanRangeWrite, stepChanRangeWrite_of_refused (.inl ⟨g, hg, hne, ?_⟩)]
    rw [Fn.overlaps, rangeBase_eq, rangeCount_eq]
    exact ⟨hc, hv, hb, he⟩

/-- Settles O17: a reply is its record, produced for its ring once a RELEASED one has unlocked the slot. -/
theorem replyGoesToRingOrBacklog : Obligations.ReplyGoesToRingOrBacklog := by
  rintro s p st d fin w0 w1 pl tx tk x rfl
  refine ⟨fun free alive en room empty writes => ?_, fun free alive h => ?_, fun busy => ?_, ?_⟩
  · rw [State.reply_of_held, State.produce_of_room free alive en room empty writes]
    rfl
  · rw [State.reply_of_held, State.produce_of_no_room free alive h]
    rfl
  · rw [State.reply_of_held, State.produce_of_flrBusy busy]
  · rw [State.reply_of_released]
    rfl
end

section
/-! PROOF. The command window: a write inside one slot, its seal, the writes that are dropped, and O15 from them (08 R241 to R243; 12
R370, R372; 14 R415). -/

namespace Sys2Proof.Machine

theorem exec_commandSlotWrite_of_inside {f off : Nat} {data : List Byte} {s : State} (h : off + data.length ≤ 4194304) :
    exec (.commandSlotWrite f off data) s = .next (stepCommandSlotWrite f off data s) := if_neg (Nat.not_lt.mpr h)

section Slot
variable {s : State} {f off : Nat} {data : List Byte}

/-- A write whose bytes lie in one slot is one slot's part (08 R241; 12 R372). -/
theorem State.storeSpan_of_one_slot (some_ : data ≠ []) (one : off % 256 + data.length ≤ 256) :
    State.storeSpan f data.length off data s = s.storeSlot f (s.dev.slotChannel f (off / 256)) (off % 256) data := by
  obtain ⟨n, hn⟩ := Nat.exists_eq_succ_of_ne_zero (mt List.length_eq_zero_iff.mp some_)
  have take : data.take (256 - off % 256) = data := List.take_of_length_le (by omega)
  have drop : data.drop (256 - off % 256) = [] := List.drop_of_length_le (by omega)
  have done : ∀ o t, State.storeSpan f n o [] t = t := by
    intro o t
    cases n <;> rfl
  rw [hn, State.storeSpan, if_neg (by simpa using some_)]
  simp only [take, drop, done]

theorem stepCommandSlotWrite_of_one_slot (up : s.dev.barUp f = true) (some_ : data ≠ []) (one : off % 256 + data.length ≤ 256) :
    stepCommandSlotWrite f off data s = s.storeSlot f (s.dev.slotChannel f (off / 256)) (off % 256) data :=
  (if_pos up).trans (State.storeSpan_of_one_slot some_ one)

theorem stepCommandSlotWrite_of_down (down : s.dev.barUp f = false) : stepCommandSlotWrite f off data s = s.emit (.unsupported f) :=
  if_neg (by simp [down])
end Slot

section Store
variable {s : State} {f ch off : Nat} {data : List Byte}

theorem State.storeSlot_of_dropped (h : (s.dev.fn f).flrBusy = true ∨ (s.dev.fn f).owns ch = false ∨ s.dev.srv.busy.contains ch = true) :
    s.storeSlot f ch off data = s.updSrv (fun v => { v with winDrop := v.winDrop + 1 }) :=
  if_pos (by rcases h with h | h | h <;> simp only [h, Bool.not_false, Bool.true_or, Bool.or_true])

variable {w : Mem} (free : (s.dev.fn f).flrBusy = false) (own : (s.dev.fn f).owns ch = true) (open_ : s.dev.srv.busy.contains ch = false)
  (hw : w = Memory.writeBytes s.dev.srv.window (256 * ch + off) data)
include free own open_ hw

/-- A write that is not dropped stores its bytes, and locks the slot where they complete its seal (08 R242, R243). -/
theorem State.storeSlot_of_taken : s.storeSlot f ch off data =
    if off + data.length = 256 ∧ data ≠ [] ∧ Srv.sealOk { s.dev.srv with window := w } ch = true then
      s.updSrv (fun v => { v with window := w, sealedTab := Tab.put v.sealedTab ch s.tick, busy := v.busy ++ [ch] })
    else s.updSrv (fun v => { v with window := w }) := by
  subst hw
  exact if_neg (by rw [free, own, open_]; decide)

theorem State.storeSlot_of_unsealed (h : ¬ (off + data.length = 256 ∧ Srv.sealOk { s.dev.srv with window := w } ch = true)) :
    s.storeSlot f ch off data = s.updSrv (fun v => { v with window := w }) :=
  (State.storeSlot_of_taken free own open_ hw).trans (if_neg fun ⟨atEnd, _, ok⟩ => h ⟨atEnd, ok⟩)

theorem State.storeSlot_of_sealed (some_ : data ≠ []) (atEnd : off + data.length = 256)
    (ok : Srv.sealOk { s.dev.srv with window := w } ch = true) :
    s.storeSlot f ch off data =
      s.updSrv (fun v => { v with window := w, sealedTab := Tab.put v.sealedTab ch s.tick, busy := v.busy ++ [ch] }) :=
  (State.storeSlot_of_taken free own open_ hw).trans (if_pos ⟨atEnd, some_, ok⟩)
end Store

end Sys2Proof.Machine

open Sys2Proof Sys2Proof.Machine

/-- Settles O15: the write is one slot's part, dropped or taken, and the window's reads are those of a byte memory. -/
theorem slotWriteStoresItsBytes : Obligations.SlotWriteStoresItsBytes := by
  rintro s f off ch data inside some_ one rfl
  rw [exec_commandSlotWrite_of_inside inside]
  refine ⟨fun up free own open_ w hw => ⟨fun h => ?_, fun atEnd ok => ?_, fun a ha => ?_, fun canonical i h => ?_⟩, fun up h => ?_,
    fun down => ?_⟩
  · rw [stepCommandSlotWrite_of_one_slot up some_ one, State.storeSlot_of_unsealed free own open_ hw h]
  · rw [stepCommandSlotWrite_of_one_slot up some_ one, State.storeSlot_of_sealed free own open_ hw some_ atEnd ok]
  · rw [hw, Memory.read_writeBytes_out _ ha]
  · rw [hw, Memory.read_writeBytes_in _ canonical h]
  · rw [stepCommandSlotWrite_of_one_slot up some_ one, State.storeSlot_of_dropped h]
  · rw [stepCommandSlotWrite_of_down down]
end

section
/-! PROOF. The host reads of a waiting command: what a read's end gives it, what it reads next, and O16 from them (08 R237, R239, R240,
R252; 12 R375, R376). -/

namespace Sys2Proof.Machine

theorem exec_descriptorFetchComplete (ch : Nat) (r : FetchEnd) (s : State) :
    exec (.descriptorFetchComplete ch r) s = .next (stepDescriptorFetchComplete ch r s) := rfl
theorem exec_poisonedTlp (write : Bool) (ch : Option Nat) (s : State) :
    exec (.poisonedTlp write ch) s = .next (stepPoisonedTlp write ch s) := rfl

theorem findIdx1_of_head {α : Type} {p : α → Bool} {x : α} (h : p x = true) (xs : List α) (i : Nat) : findIdx1 p (x :: xs) i = some (i, x) :=
  if_pos h

section Cache
variable (v : Srv) (e : CacheEntry) (tick : Nat)

/-- The cache's update changes the cache alone (08 R239). -/
theorem Srv.cachePut_only_dcache : v.cachePut e tick = { v with dcache := (v.cachePut e tick).dcache } := by
  unfold Srv.cachePut
  dsimp only
  split
  · rfl
  · split <;> rfl

theorem Srv.cachePut_waiting : (v.cachePut e tick).waiting = v.waiting := by rw [Srv.cachePut_only_dcache]
theorem Srv.cachePut_fns : (v.cachePut e tick).fns = v.fns := by rw [Srv.cachePut_only_dcache]
end Cache

/-- The oldest waiting command takes this form and issues the read that it needs next (08 R237, R240). -/
def State.fileRead (s : State) (c : Cmd) : State :=
  (s.issueRead c).2.updSrv (fun v => { v with waiting := v.waiting.set 0 (s.issueRead c).1 })

/-- A read of the function's failed (08 R240). -/
def State.countFetchErr (s : State) (f : Nat) : State :=
  (s.updSrv (fun v => { v with fetchErr := v.fetchErr + 1 })).updFn f (fun n => { n with fetchErr := true })

section Front
variable {s : State} {c : Cmd} {rest : List Cmd} {data : List Byte} (front : s.dev.srv.waiting = c :: rest) (reads : c.needs ≠ [])
include front reads

theorem stepDescriptorFetchComplete_of_flr (busy : (s.dev.fn c.fn).flrBusy = true) :
    stepDescriptorFetchComplete c.ch (.ok data) s = s.updPcie (fun p => { p with lateCpl := p.lateCpl + 1 }) := by
  have found := findIdx1_of_head (p := fun x : Cmd => x.ch == c.ch && !x.needs.isEmpty) (x := c) (by simpa using reads) rest 0
  simp only [stepDescriptorFetchComplete, front, found, busy, if_true]

theorem stepDescriptorFetchComplete_of_read {x : Cmd} {u : State} (free : (s.dev.fn c.fn).flrBusy = false)
    (took : s.takeRead c data = (x, u)) : stepDescriptorFetchComplete c.ch (.ok data) s = u.fileRead x := by
  have found := findIdx1_of_head (p := fun x : Cmd => x.ch == c.ch && !x.needs.isEmpty) (x := c) (by simpa using reads) rest 0
  simp only [stepDescriptorFetchComplete, front, found, free, Bool.false_eq_true, if_false, took]
  rfl

theorem stepDescriptorFetchComplete_of_failure (free : (s.dev.fn c.fn).flrBusy = false) :
    stepDescriptorFetchComplete c.ch .failed s = (s.countFetchErr c.fn).fileRead c.failRead := by
  have found := findIdx1_of_head (p := fun x : Cmd => x.ch == c.ch && !x.needs.isEmpty) (x := c) (by simpa using reads) rest 0
  simp only [stepDescriptorFetchComplete, front, found, free, Bool.false_eq_true, if_false]
  rfl

theorem State.failFetch_of_front {test : Cmd → Bool} (h : test c = true) : s.failFetch test =
    (s.updSrv (fun v => { v with fetchErr := v.fetchErr + 1, waiting := c.failRead :: rest })).updFn c.fn
      (fun n => { n with fetchErr := true }) := by
  have found := findIdx1_of_head (p := fun x : Cmd => !x.needs.isEmpty && test x) (x := c) (by simpa [h] using reads) rest 0
  simp only [State.failFetch, front, found]
  simp only [State.updSrv, front, List.set_cons_zero]

theorem stepPoisonedTlp_of_front : stepPoisonedTlp false (some c.ch) s =
    (((s.updPcie (fun p => { p with poisonRx := p.poisonRx + 1 })).updSrv (fun v =>
      { v with fetchErr := v.fetchErr + 1, waiting := c.failRead :: rest })).updFn c.fn (fun n => { n with fetchErr := true })) :=
  State.failFetch_of_front (s := s.updPcie _) front reads (beq_self_eq_true _)
end Front

section File
variable {s : State} {c x : Cmd} {rest : List Cmd} (front : s.dev.srv.waiting = x :: rest)
include front

theorem State.fileRead_of_done (done : c.needs = []) : s.fileRead c = s.updSrv (fun v => { v with waiting := c :: rest }) := by
  simp only [State.fileRead, State.issueRead, done, State.updSrv, front, List.set_cons_zero]

theorem State.fileRead_of_stops (writes : s.dev.canWrite c.fn = true) (next : c.needs = [.stops]) {b : List Byte} (desc : c.desc = some b) :
    s.fileRead c = (s.emit (.hostRead c.fn (BitVec.ofNat 64 (leAt b 0x38 8)) (stopLenOf b))).updSrv
      (fun v => { v with waiting := c :: rest }) := by
  simp only [State.fileRead, State.issueRead, next, writes, desc, if_true, Option.getD_some, State.updSrv, State.emit, front,
    List.set_cons_zero]
end File

section Take
variable {s : State} {c : Cmd} {data : List Byte}

theorem State.takeRead_input (h : c.needs = [.input]) :
    s.takeRead c data = ({ c with input := sliceAt data 0 c.inputLen, needs := [] }, s) := by
  simp only [State.takeRead, h]

theorem State.takeRead_desc (h : c.needs = [.desc]) {b : List Byte} (hb : b = sliceAt data 0 128) {l : List Need}
    (hl : l = if hasStops b then [.stops] else []) : s.takeRead c data =
    ({ c with desc := some b, fetched := true, needs := l }, s.updSrv (fun v => v.cachePut ⟨c.ch, c.fn, b, [], none⟩ s.tick)) := by
  subst hb hl
  simp only [State.takeRead, h, List.append_nil]

theorem State.takeRead_stops (h : c.needs = [.stops]) {b l : List Byte} (desc : c.desc = some b) (hl : l = sliceAt data 0 (stopLenOf b)) :
    s.takeRead c data = ({ c with stops := l, needs := [] }, s.updSrv (fun v => { v with
      dcache := v.dcache.map (fun e => if e.ch = c.ch ∧ e.bytes = b then { e with stops := l } else e) })) := by
  subst hl
  simp only [State.takeRead, h, desc, Option.getD_some]

theorem Cmd.failRead_input (h : c.needs = [.input]) : c.failRead = { c with needs := [], inputFailed := true } := by
  simp only [Cmd.failRead, h]

/-- The cache's update leaves what decides whether a function can write. -/
theorem State.canWrite_cachePut (e : CacheEntry) (tick f : Nat) :
    (s.updSrv (fun v => v.cachePut e tick)).dev.canWrite f = s.dev.canWrite f := by
  have same : (s.updSrv (fun v => v.cachePut e tick)).dev.fn f = s.dev.fn f :=
    congrArg (fun l => Sparse.get Fn.reset l f) (Srv.cachePut_fns ..)
  rw [Dev.canWrite, same]
  rfl
end Take

end Sys2Proof.Machine

open Sys2Proof Sys2Proof.Machine

/-- Settles O16: what the read that ends gives the first waiting command, and the read that it issues next. -/
theorem hostReadsReachTheirCommand : Obligations.HostReadsReachTheirCommand := by
  intro s c rest data front
  have reads : ∀ {n : Need}, c.needs = [n] → c.needs ≠ [] := fun h => by simp [h]
  refine ⟨fun free h => ?_, fun free h => ?_, fun free h none_ => ?_, fun free writes h named => ?_, fun b l free h desc hl => ?_,
    fun busy h => ?_, fun h => ?_⟩
  · rw [exec_descriptorFetchComplete, stepDescriptorFetchComplete_of_read front (reads h) free (State.takeRead_input h),
      State.fileRead_of_done front rfl]
  · rw [exec_descriptorFetchComplete, stepDescriptorFetchComplete_of_failure front (reads h) free, Cmd.failRead_input h,
      State.fileRead_of_done (s := s.countFetchErr c.fn) front rfl]
    rfl
  · rw [exec_descriptorFetchComplete, stepDescriptorFetchComplete_of_read front (reads h) free
      (State.takeRead_desc h rfl (l := []) (by rw [none_]; rfl)), State.fileRead_of_done ((Srv.cachePut_waiting ..).trans front) rfl]
  · have took := State.takeRead_desc (s := s) h rfl (l := [.stops]) (by rw [named]; rfl)
    refine congrArg _ ((stepDescriptorFetchComplete_of_read front (reads h) free took).trans
      (State.fileRead_of_stops ((Srv.cachePut_waiting ..).trans front) ?_ rfl rfl))
    exact (State.canWrite_cachePut ..).trans writes
  · have took := State.takeRead_stops (s := s) h desc hl
    exact congrArg _ ((stepDescriptorFetchComplete_of_read front (reads h) free took).trans (State.fileRead_of_done front rfl))
  · rw [exec_descriptorFetchComplete, stepDescriptorFetchComplete_of_flr front h busy]
  · rw [exec_poisonedTlp, stepPoisonedTlp_of_front front (reads h), Cmd.failRead_input h]
end

section
/-! PROOF. OPEN, APPEND, CANCEL, CLOSE, CHAN_RELOAD and NOP as the first due command: the checks that stream commands share, each
command's effect and replies, and O19 from them (08 R237, R238, R252, R253, R256, R257, R260; 09 R269, R300; entries 4, 13, 54, 58,
60). -/

namespace Sys2Proof.Machine

theorem exec_openCmd (ch : Nat) (s : State) : exec (.openCmd ch) s = .next (s.runDue 0x01 ch (State.streamEff effOpen)) := rfl
theorem exec_append (ch : Nat) (s : State) : exec (.append ch) s = .next (s.runDue 0x02 ch (State.streamEff effAppend)) := rfl
theorem exec_cancel (ch : Nat) (s : State) : exec (.cancel ch) s = .next (s.runDue 0x04 ch (State.streamEff effCancel)) := rfl
theorem exec_close (ch : Nat) (s : State) : exec (.close ch) s = .next (s.runDue 0x07 ch (State.streamEff effClose)) := rfl
theorem exec_chanReload (ch : Nat) (s : State) : exec (.chanReload ch) s = .next (s.runDue 0x10 ch (State.streamEff effChanReload)) := rfl
theorem exec_nop (ch : Nat) (s : State) : exec (.nop ch) s = .next (s.runDue 0x7F ch effNop) := rfl

section Ring
variable {s : State} {c : Cmd}

theorem State.repOf_of_stream {t : Stream} (h : s.dev.stream c.ch = some t) : s.repOf c = c.repTo t.desc.ring := by
  simp only [State.repOf, h]
  rfl

theorem State.repOf_of_desc {d : Desc} (h : s.dev.stream c.ch = none) (read : s.cmdDesc c = .ok d) : s.repOf c = c.repTo d.ring := by
  simp only [State.repOf, h, read]
  rfl
end Ring

section Fits
variable {s : State} {c : Cmd}

/-- No image is in service, or one of a kind that the command does not suit (08 R259). -/
def State.imageUnfit (s : State) (c : Cmd) : Bool :=
  [0x01, 0x02, 0x03, 0x05, 0x06, 0x08].contains c.op &&
    (s.dev.ws.img.isNone || (s.dev.encoder && c.start) || (c.op == 0x08 && !s.dev.encoder))

/-- A stream command passes the checks that all of them share where its descriptor is sound if it reads one, and the image and FLAGS
suit it (08 R236, R237, R259). -/
theorem State.streamRefusal_eq_none (read : readsAnyway c.op = true ∨ s.dev.stream c.ch = none → ∃ d, s.cmdDesc c = .ok d)
    (image : s.imageUnfit c = false) (flags : c.flagsOk = true) : s.streamRefusal c = none := by
  simp only [State.imageUnfit] at image
  simp only [State.streamRefusal, image, flags, Bool.not_true, Bool.false_eq_true, if_false]
  by_cases h : (readsAnyway c.op || (s.dev.stream c.ch).isNone) = true
  · obtain ⟨d, hd⟩ := read (by simpa using h)
    simp only [h, hd, if_true]
  · rw [if_neg h]

theorem State.suits.imageUnfit (h : s.suits c) (encoder : c.op = 0x08 → s.dev.encoder = true) : s.imageUnfit c = false := by
  obtain ⟨img, starts, -⟩ := h
  have kind : (c.op == 0x08 && !s.dev.encoder) = false := by
    by_cases e : c.op = 0x08
    · rw [encoder e, Bool.not_true, Bool.and_false]
    · rw [beq_false_of_ne e, Bool.false_and]
  rw [State.imageUnfit, Option.isNone_eq_false_iff.mpr img, starts, kind, Bool.or_self, Bool.or_self, Bool.and_false]

theorem State.suits.flagsOk (h : s.suits c) : c.flagsOk = true := h.2.2

theorem State.imageUnfit_of_any_image (h : [0x01, 0x02, 0x03, 0x05, 0x06, 0x08].contains c.op = false) : s.imageUnfit c = false := by
  rw [State.imageUnfit, h, Bool.false_and]

section Run
variable {rest : List Cmd} {num : Nat} {eff : Cmd → Rep → State → State} (hdue : s.dev.srv.due = c :: rest) (hop : c.op = num)
  (fit : s.streamRefusal c = none)
include hdue hop fit

/-- A stream command that passes the shared checks acts on the state that it has left (08 R244). -/
theorem State.runDue_of_fit : s.runDue num c.ch (State.streamEff eff) = (eff c (s.repOf c) (s.dueLeft rest)).advance := by
  have fit' : (s.dueLeft rest).streamRefusal c = none := fit
  rw [State.runDue_of_due hdue hop, State.streamEff, fit', State.repOf_dueLeft]

end Run
end Fits

/-- A stream command on an open channel that reads no descriptor passes the shared checks. -/
theorem State.suits.fit_of_stream {s : State} {c : Cmd} {t : Stream} (h : s.suits c) (ht : s.dev.stream c.ch = some t)
    (op : c.op = 0x02 ∨ c.op = 0x03 ∨ c.op = 0x05 ∨ c.op = 0x06) : s.streamRefusal c = none := by
  refine State.streamRefusal_eq_none ?_ (h.imageUnfit (by omega)) h.flagsOk
  rintro (reads | closed)
  · rcases op with op | op | op | op <;> simp [op, readsAnyway] at reads
  · simp [ht] at closed

/-- CANCEL and CLOSE pass the shared checks on an open channel, and elsewhere with a sound descriptor. -/
theorem State.fit_of_end {s : State} {c : Cmd} (op : c.op = 0x04 ∨ c.op = 0x07)
    (read : s.dev.stream c.ch = none → ∃ d, s.cmdDesc c = .ok d) : s.streamRefusal c = none := by
  refine State.streamRefusal_eq_none ?_ (State.imageUnfit_of_any_image ?_) ?_
  · rintro (reads | closed)
    · rcases op with op | op <;> simp [op, readsAnyway] at reads
    · exact read closed
  · rcases op with op | op <;> simp [op]
  · rcases op with op | op <;> simp [Cmd.flagsOk, op]

theorem State.fit_of_reload {s : State} {c : Cmd} {d : Desc} (op : c.op = 0x10) (read : s.cmdDesc c = .ok d) :
    s.streamRefusal c = none :=
  State.streamRefusal_eq_none (fun _ => ⟨d, read⟩) (State.imageUnfit_of_any_image (by simp [op])) (by simp [Cmd.flagsOk, op])

section Open
variable {s : State} {c : Cmd} {rep : Rep}

theorem effOpen_of_stream {t : Stream} (h : s.dev.stream c.ch = some t) : effOpen c rep s = s.reply rep stBAD 0x05 true true :=
  if_pos (by rw [h]; rfl)

/-- The stream that OPEN creates, and its block hashes (09 R269, R281). -/
def State.opened (s : State) (c : Cmd) (desc : Desc) (hist : List Nat) : State :=
  ((s.updSrv (fun v => { v with nextId := v.nextId + 1 })).setStream
    (newStream c.ch c.fn s.dev.srv.nextId s.dev.entryEpoch desc hist)).rehash c.ch

theorem effOpen_of_new {desc : Desc} {toks bos : List Nat} (h : s.dev.stream c.ch = none) (read : s.cmdDesc c = .ok desc)
    (hbos : bos = s.dev.ws.tok.bos.toList) (input : s.inputTokens c desc bos.length = .ok toks) : effOpen c rep s =
      if c.start then (s.opened c desc (bos ++ toks)).startGen rep desc.maxNew true false
        (some (s.dev.srv.nextId, (bos ++ toks).length, true))
      else (s.opened c desc (bos ++ toks)).reply rep stOK 0 true true s.dev.srv.nextId (bos ++ toks).length := by
  refine (if_neg (by rw [h]; decide)).trans ?_
  cases first : s.dev.ws.tok.bos with
  | none =>
    obtain rfl : bos = [] := by rw [hbos, first]; rfl
    simp only [read, input]
    rfl
  | some b =>
    obtain rfl : bos = [b] := by rw [hbos, first]; rfl
    simp only [read, input]
    rfl
end Open

section Append
variable {s : State} {c : Cmd} {rep : Rep} {t : Stream} (ht : s.dev.stream c.ch = some t)
include ht

theorem effAppend_of_busy (h : t.ready = false) : effAppend c rep s = s.reply rep stBAD 0x05 true true := by
  simp only [effAppend, ht, h]
  rfl

theorem effAppend_of_ready {toks : List Nat} {u : State} (h : t.ready = true) (input : s.inputTokens c t.desc t.hist.length = .ok toks)
    (hu : u = (s.updStream c.ch (fun t => { t with hist := t.hist ++ toks, st := .idle })).rehash c.ch) : effAppend c rep s =
      if c.start then u.startGen rep t.desc.maxNew true false (some (toks.length, t.hist.length + toks.length, true))
      else u.reply rep stOK 0 true true toks.length (t.hist.length + toks.length) := by
  subst hu
  simp only [effAppend, ht, h, input]
  rfl
end Append

section Cancel
variable {s : State} {c : Cmd} {rep : Rep}

theorem effCancel_of_none (h : ∀ t, s.dev.stream c.ch = some t → t.gen = none) : effCancel c rep s = s.reply rep stOK 1 true true := by
  cases ht : s.dev.stream c.ch with
  | none => simp only [effCancel, ht]
  | some t => simp only [effCancel, ht, h t ht]

theorem effCancel_of_gen {t : Stream} {g : Gen} (ht : s.dev.stream c.ch = some t) (hg : t.gen = some g) :
    effCancel c rep s = (s.endGen c.ch stCANCELLED 1).reply rep stOK 0 true true := by
  simp only [effCancel, ht, hg]
end Cancel

section Close
variable {s : State} {c : Cmd} {rep : Rep}

theorem effClose_of_none (h : s.dev.stream c.ch = none) : effClose c rep s = s.reply rep stOK 0 true true := by
  simp only [effClose, h]

/-- The stream's blocks, the stream and its positions in flight go, and the pool shrinks where it was due to (08 R257). -/
def State.closeStream (s : State) (ch : Nat) : State :=
  (((s.freeStream ch).delStream ch).updSrv
    (fun v => { v with flights := v.flights.map (fun f => if f.ch = ch then { f with dropped := true } else f) })).shrinkPool

theorem effClose_of_stream {t : Stream} {u : State} (ht : s.dev.stream c.ch = some t) (idle : t.gen = none → u = s)
    (runs : t.gen.isSome = true → u = s.endGen c.ch stCANCELLED 2) :
    effClose c rep s = (u.closeStream c.ch).reply rep stOK 0 true true := by
  simp only [effClose, ht]
  cases hg : t.gen with
  | none =>
    rw [idle hg]
    rfl
  | some g =>
    rw [runs (by rw [hg]; rfl)]
    rfl
end Close

section Reload
variable {s : State} {c : Cmd} {rep : Rep} {d : Desc} (read : s.cmdDesc c = .ok d)
include read

theorem effChanReload_of_none (h : s.dev.stream c.ch = none) :
    effChanReload c rep s = (s.moveRings c.fn c.ch d.ring).reply rep stOK 0 true true := by
  simp only [effChanReload, read, h]

variable {t : Stream} (ht : s.dev.stream c.ch = some t)
include ht

theorem effChanReload_of_fixed (h : t.desc.fixedDiffers d = true) : effChanReload c rep s = s.reply rep stBAD 0x0B true true := by
  simp only [effChanReload, read, ht]
  exact if_pos h

/-- The stream takes the descriptor read, and a running generation's limit follows it down (08 R238, R260). -/
theorem effChanReload_of_same (h : t.desc.fixedDiffers d = false) : effChanReload c rep s =
    ((s.moveRings c.fn c.ch d.ring).updStream c.ch (fun t => { t with desc := d, gen := t.gen.map (fun g =>
      if g.descNew && g.kind == .normal then { g with maxNew := min g.maxNew d.maxNew } else g) })).reply
      { rep with ring := d.ring } stOK 0 true true := by
  simp only [effChanReload, read, ht]
  exact if_neg (by rw [h]; decide)
end Reload

end Sys2Proof.Machine

open Sys2Proof Sys2Proof.Machine

/-- Settles O19: each command passes the shared checks, and its effect on the state that it has left is its own lemma's. -/
theorem streamCommandEffects : Obligations.StreamCommandEffects := by
  intro s u c rest hdue
  refine ⟨?_, ?_, ?_, ?_, ?_, ?_, ?_, ?_, ?_, ?_, ?_, ?_, ?_, ?_⟩
  · rintro desc toks bos hop hs ht read hbos input rfl
    have fit := State.streamRefusal_eq_none (fun _ => ⟨desc, read⟩) (hs.imageUnfit (by omega)) hs.flagsOk
    have acts := effOpen_of_new (s := s.dueLeft rest) (rep := c.repTo desc.ring) ht read hbos input
    rw [exec_openCmd, State.runDue_of_fit hdue hop fit, State.repOf_of_desc ht read, acts]
    exact ⟨fun h => by rw [if_neg (by simp [h])]; rfl, fun h => by rw [if_pos h]; rfl⟩
  · intro t desc hop hs ht read
    have fit := State.streamRefusal_eq_none (fun _ => ⟨desc, read⟩) (hs.imageUnfit (by omega)) hs.flagsOk
    rw [exec_openCmd, State.runDue_of_fit hdue hop fit, State.repOf_of_stream ht, effOpen_of_stream (s := s.dueLeft rest) ht]
  · intro t toks hop hs ht ready input hu
    rw [exec_append, State.runDue_of_fit hdue hop (hs.fit_of_stream ht (.inl hop)), State.repOf_of_stream ht,
      effAppend_of_ready (s := s.dueLeft rest) ht ready input hu]
    exact ⟨fun h => by rw [if_neg (by simp [h])], fun h => by rw [if_pos h]⟩
  · intro t hop hs ht busy
    rw [exec_append, State.runDue_of_fit hdue hop (hs.fit_of_stream ht (.inl hop)), State.repOf_of_stream ht,
      effAppend_of_busy (s := s.dueLeft rest) ht busy]
  · intro t hop ht idle
    rw [exec_cancel, State.runDue_of_fit hdue hop (State.fit_of_end (.inl hop) (by simp [ht])), State.repOf_of_stream ht,
      effCancel_of_none (s := s.dueLeft rest) (fun x hx => Option.some.inj (ht.symm.trans hx) ▸ idle)]
  · intro t g hop ht hg
    rw [exec_cancel, State.runDue_of_fit hdue hop (State.fit_of_end (.inl hop) (by simp [ht])), State.repOf_of_stream ht,
      effCancel_of_gen (s := s.dueLeft rest) ht hg]
  · intro desc hop ht read
    rw [exec_cancel, State.runDue_of_fit hdue hop (State.fit_of_end (.inl hop) fun _ => ⟨desc, read⟩), State.repOf_of_desc ht read,
      effCancel_of_none (s := s.dueLeft rest) (fun x hx => absurd (ht.symm.trans hx) (by simp))]
  · intro t hop ht idle runs
    rw [exec_close, State.runDue_of_fit hdue hop (State.fit_of_end (.inr hop) (by simp [ht])), State.repOf_of_stream ht,
      effClose_of_stream (s := s.dueLeft rest) ht idle runs]
    rfl
  · intro desc hop ht read
    rw [exec_close, State.runDue_of_fit hdue hop (State.fit_of_end (.inr hop) fun _ => ⟨desc, read⟩), State.repOf_of_desc ht read,
      effClose_of_none (s := s.dueLeft rest) ht]
  · intro t d hop ht read same
    rw [exec_chanReload, State.runDue_of_fit hdue hop (State.fit_of_reload hop read), State.repOf_of_stream ht,
      effChanReload_of_same (s := s.dueLeft rest) read ht same]
    rfl
  · intro t d hop ht read differs
    rw [exec_chanReload, State.runDue_of_fit hdue hop (State.fit_of_reload hop read), State.repOf_of_stream ht,
      effChanReload_of_fixed (s := s.dueLeft rest) read ht differs]
  · intro d hop ht read
    rw [exec_chanReload, State.runDue_of_fit hdue hop (State.fit_of_reload hop read), State.repOf_of_desc ht read,
      effChanReload_of_none (s := s.dueLeft rest) read ht]
  · intro t hop ht
    rw [exec_nop, State.runDue_of_due hdue hop, effNop, State.repOf_dueLeft, State.repOf_of_stream ht]
  · intro d hop ht read
    rw [exec_nop, State.runDue_of_due hdue hop, effNop, State.repOf_dueLeft, State.repOf_of_desc ht read]
end


section
/-! PROOF. O20 fails: its clause for a PARK that waits writes the ring of each row of the channel where the model writes that of the
channel's stream (08 R258; 09 R290). -/

namespace Sys2Proof.Machine

theorem exec_park (ch : Nat) (s : State) : exec (.park ch) s = .next (s.runDue 0x05 ch (State.streamEff effPark)) := rfl

section Park
variable {s : State} {c : Cmd} {rep : Rep} {t : Stream} {ttl : Nat} (ht : s.dev.stream c.ch = some t) (ready : t.ready = true)
  (httl : ttl = if c.at 0x18 4 = 0 then t.desc.parkTtl else c.at 0x18 4) (some_ : ttl ≠ 0)
include ht ready httl some_

theorem effPark_of_flying (h : s.dev.srv.flights.any (fun f => f.stream == t.id) = true) : effPark c rep s =
    (s.updStream c.ch (fun t => { t with parkWait := some (rep, ttl) })).reply rep stQUEUED 0 true false := by
  simp only [effPark, ht, ready, ← httl, some_, h]
  rfl
end Park

/-- The clause that fails holds where every row of the channel has the stream's ring. -/
theorem State.parkWait_of_one_ring {s : State} {c : Cmd} {ring ttl : Nat}
    (h : ∀ e ∈ s.dev.srv.streams, e.1 = c.ch → e.2.desc.ring = ring) :
    s.updStream c.ch (fun t => { t with parkWait := some (c.repTo ring, ttl) }) =
      s.updStream c.ch (fun t => { t with parkWait := some (c.repTo t.desc.ring, ttl) }) := by
  have rows : ∀ e ∈ s.dev.srv.streams,
      (if e.1 = c.ch then (e.1, { e.2 with parkWait := some (c.repTo ring, ttl) }) else e) =
        if e.1 = c.ch then (e.1, { e.2 with parkWait := some (c.repTo e.2.desc.ring, ttl) }) else e := by
    intro e he
    split
    next hc => rw [h e he hc]
    next => rfl
  simp only [State.updStream, State.updSrv, Tab.upd, List.map_congr_left rows]

/-- A PARK of channel 0 without a TTL of its own. -/
def parkCmd : Cmd :=
  { ch := 0, fn := 0, op := 0x05, seq := 1, tag := 0, packet := [], tick := 0, needs := [], desc := none, stops := [], input := [],
    descFailed := false, inputFailed := false, fetched := false, late := false, refusal := none }

/-- A row of channel 0's stream with a ring of its own, and a PARK_TTL. -/
def parkRow (ring : Nat) : Stream := newStream 0 0 1 0 { ring, parkTtl := 1 } []

/-- A position of that stream in flight. -/
def parkFlight : Flight :=
  { ch := 0, stream := 1, index := 0, epoch := 0, block := 0, slot := 0, entered := 0, provisional := false, needLogits := false,
    passTick := none, arrived := false, hidden := [], logits := none, passes := [], clamped := false, slips := 0, dropped := false,
    failed := none }

/-- The table lists channel 0 twice, with rings 0 and 1, and a PARK of it is due while a position is in flight. -/
def twinRows : State := (State.reset.updWs (fun w => { w with img := some {} })).updSrv (fun v =>
  { v with due := [parkCmd], streams := [(0, parkRow 0), (0, parkRow 1)], flights := [parkFlight] })

/-- The rings in which the waiting PARKs of the table's rows reply. -/
def State.parkRings (s : State) : List (Option Nat) := s.dev.srv.streams.map (fun e => e.2.parkWait.map (·.1.ring))

end Sys2Proof.Machine

open Sys2Proof Sys2Proof.Machine

/-- Refutes O20: in its clause for a PARK that waits for a position in flight, the ring of the reply to come is that of the row that the
update meets, since the update's own t hides the stream's. Where the table lists the channel twice, with other rings, the model writes
the stream's ring into both rows, the statement each row's own. -/
theorem not_generationCommandEffects : ¬ Obligations.GenerationCommandEffects := by
  intro h
  obtain ⟨-, park, -⟩ := h twinRows parkCmd [] rfl
  have suited : twinRows.suits parkCmd := ⟨rfl, rfl, rfl⟩
  obtain ⟨-, flying⟩ := park (parkRow 0) 1 rfl suited rfl rfl rfl Nat.one_ne_zero
  have flies : twinRows.dev.srv.flights.any (fun f => f.stream == (parkRow 0).id) = true := by decide
  have fit := suited.fit_of_stream (t := parkRow 0) rfl (.inr (.inr (.inl rfl)))
  have model : exec (.park 0) twinRows = .next (effPark parkCmd (parkCmd.repTo 0) (twinRows.dueLeft [])).advance :=
    (exec_park 0 twinRows).trans (congrArg _ (State.runDue_of_fit (c := parkCmd) rfl rfl fit))
  rw [effPark_of_flying (s := twinRows.dueLeft []) (t := parkRow 0) (ttl := 1) rfl rfl rfl Nat.one_ne_zero flies] at model
  have rings := congrArg State.parkRings (Host.Outcome.next.inj (model.symm.trans (flying flies)))
  exact absurd rings (by decide)
end

section
/-! PROOF. Parked streams: the end of a park's copy, of a TTL and of a restore, one lemma per case, and O21 from them (08 R258; 09 R290,
R291; 12 R375). -/

namespace Sys2Proof.Machine

theorem exec_parkCopyComplete (ch : Nat) (err : Bool) (s : State) :
    exec (.parkCopyComplete ch err) s = .next (stepParkCopyComplete ch err s) := rfl
theorem exec_ttlExpiry (ch : Nat) (s : State) : exec (.ttlExpiry ch) s = .next (stepTtlExpiry ch s) := rfl
theorem exec_resumeRestore (ch : Nat) (poisoned : Bool) (s : State) :
    exec (.resumeRestore ch poisoned) s = .next (stepResumeRestore ch poisoned s) := rfl

section Parked
variable {s : State} {ch : Nat} {t : Stream} {p : Park} {rep : Rep} (ht : s.dev.stream ch = some t) (hp : t.park = some p)
include ht hp

section Copy
/-- The copy is over, and the TTL window starts (08 R258; 09 R290). -/
def State.endCopy (s : State) (ch : Nat) (err : Bool) : State :=
  (if err then s.updSrv (fun v => { v with stockErr := true }) else s).updStream ch (fun x =>
    { x with park := x.park.map (fun p => { p with copying := none, p := s.tick, inPlace := p.inPlace || err }) })

theorem stepParkCopyComplete_of_moved (copies : p.copying = some rep) (moves : s.dev.srv.moves ch p = true) (replies : rep.op ≠ 0)
    (err : Bool) : stepParkCopyComplete ch err s =
      (s.endCopy ch err).reply { rep with ring := t.desc.ring } stOK 0 false true ((s.tick + p.ttl) % 2 ^ 32) ((s.tick + p.ttl) / 2 ^ 32) := by
  simp only [stepParkCopyComplete, ht, hp, moves, copies, if_true, if_neg replies]
  rfl

theorem stepParkCopyComplete_of_unmoved (waits : s.dev.srv.moves ch p = false) (err : Bool) : stepParkCopyComplete ch err s = s := by
  simp only [stepParkCopyComplete, ht, hp, waits, Bool.false_eq_true, if_false]
end Copy

section Ttl
theorem stepTtlExpiry_of_over (parked : t.st = .parked) (copied : p.copying = none) (rests : p.resuming = none)
    (live : p.expired = false) (due : p.p + p.ttl ≤ s.tick) : stepTtlExpiry ch s = s.expirePark ch := by
  have ends : t.ttlOver s.tick = true := by simp [Stream.ttlOver, hp, parked, copied, rests, live, due]
  simp only [stepTtlExpiry, ht, ends, if_true]

theorem stepTtlExpiry_of_early (early : s.tick < p.p + p.ttl) : stepTtlExpiry ch s = s := by
  have runs : t.ttlOver s.tick = false := by simp [Stream.ttlOver, hp, early]
  simp only [stepTtlExpiry, ht, runs, Bool.false_eq_true, if_false]
end Ttl

section Restore
variable {start : Bool} {maxNew order : Nat} (resumes : p.resuming = some (rep, start, maxNew, order))

theorem stepResumeRestore_of_restored (restored : p.restored = true) (built : t.rebuild = none) (moves : s.dev.srv.moves ch p = true)
    (later : s.dev.srv.restoreOrder.head? ≠ some ch) (poisoned : Bool) :
    stepResumeRestore ch poisoned s = s.finishRestore ch poisoned := by
  cases first : s.dev.srv.restoreOrder with
  | nil => simp only [stepResumeRestore, first, ht, hp, restored, built, moves, Option.isNone_none, Bool.and_self, if_true]
  | cons c l =>
    have other : c ≠ ch := fun e => later (by rw [first, e]; rfl)
    simp only [stepResumeRestore, first, if_neg other, ht, hp, restored, built, moves, Option.isNone_none, Bool.and_self, if_true]

include resumes

theorem State.finishRestore_of_poisoned : s.finishRestore ch true =
    (((s.updStream ch (fun x => { x with st := .failed })).freeStream ch).updStream ch (fun x => { x with park := none })).reply
      { rep with ring := t.desc.ring } stPOISONED 0 false true := by
  simp only [State.finishRestore, ht, hp, resumes, if_true]

/-- The restored blocks are in the stream's list again, and the stream is IDLE (09 R291). -/
def State.unpark (s : State) (ch : Nat) (p : Park) : State :=
  (s.updStream ch (fun x =>
    { x with blocks := (x.blocks.zipIdx).map (fun e => ((p.blocks.find? (fun b => b.1 == e.2)).map (·.2)).getD e.1) })).updStream ch
      (fun x => { x with st := .idle, park := none })

theorem State.finishRestore_of_sound (whole : p.incomplete = none) : s.finishRestore ch false =
    if start then (s.unpark ch p).startGen { rep with ring := t.desc.ring } (if maxNew = 0xFFFFFFFF then t.desc.maxNew else maxNew)
      (maxNew == 0xFFFFFFFF) false (some (0, 0, false))
    else (s.unpark ch p).reply { rep with ring := t.desc.ring } stOK 0 false true := by
  have block : ∀ e : Nat × Nat, (match p.blocks.find? (fun b => b.1 == e.2) with | some b => b.2 | none => e.1) =
      ((p.blocks.find? (fun b => b.1 == e.2)).map (·.2)).getD e.1 := by
    intro e
    cases p.blocks.find? (fun b => b.1 == e.2) <;> rfl
  simp only [State.finishRestore, ht, hp, resumes, whole, State.unpark, ← block] <;> rfl
end Restore
end Parked

end Sys2Proof.Machine

open Sys2Proof Sys2Proof.Machine

/-- Settles O21: the park's copy, its TTL and its restore, each by the lemma of its case. -/
theorem parkedStreams : Obligations.ParkedStreams := by
  intro s ch t p rep ht hp
  refine ⟨fun copies moves replies => ?_, fun copies moves replies => ?_, fun parked copied rests live due => ?_, fun early => ?_,
    fun _ waits err => ?_, fun start maxNew order poisoned u resumes restored whole built moves later hu => ?_⟩
  · rw [exec_parkCopyComplete, stepParkCopyComplete_of_moved ht hp copies moves replies]
    rfl
  · rw [exec_parkCopyComplete, stepParkCopyComplete_of_moved ht hp copies moves replies]
    rfl
  · rw [exec_ttlExpiry, stepTtlExpiry_of_over ht hp parked copied rests live due]
    rfl
  · rw [exec_ttlExpiry, stepTtlExpiry_of_early ht hp early]
  · rw [exec_parkCopyComplete, stepParkCopyComplete_of_unmoved ht hp waits]
  · obtain rfl : u = s.unpark ch p := hu
    rw [exec_resumeRestore, stepResumeRestore_of_restored ht hp restored built moves later]
    refine ⟨?_, ?_, ?_⟩
    · rintro rfl rfl
      rw [State.finishRestore_of_sound ht hp resumes whole]
      rfl
    · rintro rfl rfl
      rw [State.finishRestore_of_sound ht hp resumes whole]
      rfl
    · rintro rfl
      rw [State.finishRestore_of_poisoned ht hp resumes]
end

section
/-! PROOF. Budget windows and queued generations: a window's end and each verdict of the sluice's tests on a queued generation, and O22
from them (08 R261; 09 R293, R294, R298). -/

namespace Sys2Proof.Machine

theorem exec_budgetWindowEnd (tn : Nat) (s : State) : exec (.budgetWindowEnd tn) s = .next (stepBudgetWindowEnd tn s) := rfl
theorem exec_queuedAdmission (ch : Nat) (s : State) : exec (.queuedAdmission ch) s = .next (s.retest ch) := rfl

section Window
variable {s : State} {tn st : Nat} (begun : (s.dev.tenant tn).start = some st)
include begun

/-- The next window opens where the last one ends, with the excess over the budget, and the streams may be reported as held again (09
R293, R294). -/
theorem stepBudgetWindowEnd_of_due (due : st + (s.dev.tenant tn).window ≤ s.tick) : stepBudgetWindowEnd tn s =
    (s.updTenant tn (fun t => { t with start := some (st + t.window), window := t.nextWindow,
                                       counted := if t.budget = 0 then 0 else t.counted - t.budget })).updSrv
      (fun v => { v with streams := v.streams.map (fun e =>
        if e.2.desc.tenant = tn then (e.1, { e.2 with gen := e.2.gen.map (fun g => { g with heldMark := false }) }) else e) }) := by
  simp only [stepBudgetWindowEnd, begun, if_pos due]

theorem stepBudgetWindowEnd_of_early (early : s.tick < st + (s.dev.tenant tn).window) : stepBudgetWindowEnd tn s = s := by
  simp only [stepBudgetWindowEnd, begun, if_neg (Nat.not_le.mpr early)]
end Window

section Retest
variable {s d : State} {ch : Nat} {t : Stream} {g : Gen} (ht : s.dev.stream ch = some t) (hg : t.gen = some g) (queued : g.admitted = none)
include ht hg queued

theorem State.retest_of_admitted (h : s.testGen ch true = (.admitted, d)) : s.retest ch = d := by
  simp only [State.retest, ht, hg, queued, h]
  rfl

theorem State.retest_of_queue (h : s.testGen ch true = (.queue, d)) : s.retest ch = d := by
  simp only [State.retest, ht, hg, queued, h]
  rfl

theorem State.retest_of_refuse {x : Nat} (h : s.testGen ch true = (.refuse x, d)) :
    s.retest ch = (d.countRefusal t.desc.tenant).endGen ch stREFUSED x := by
  simp only [State.retest, ht, hg, queued, h]
  rfl

theorem State.retest_of_expire (h : s.testGen ch true = (.expire, d)) :
    s.retest ch = (d.updSrv (fun v => { v with expired := v.expired + 1 })).endGen ch stEXPIRED 2 := by
  simp only [State.retest, ht, hg, queued, h]
  rfl
end Retest

end Sys2Proof.Machine

open Sys2Proof Sys2Proof.Machine

/-- Settles O22: the window's end, due or early, and the four verdicts of the tests. -/
theorem budgetsAndQueuedGenerations : Obligations.BudgetsAndQueuedGenerations := by
  intro s tn ch st
  refine ⟨fun begun due => ?_, fun begun early => ?_, fun t g ht hg queued => ⟨fun d h => ?_, fun d h => ?_, fun x d h => ?_, fun d h => ?_⟩⟩
  · rw [exec_budgetWindowEnd, stepBudgetWindowEnd_of_due begun due]
  · rw [exec_budgetWindowEnd, stepBudgetWindowEnd_of_early begun early]
  · rw [exec_queuedAdmission, State.retest_of_admitted ht hg queued h]
  · rw [exec_queuedAdmission, State.retest_of_queue ht hg queued h]
  · rw [exec_queuedAdmission, State.retest_of_refuse ht hg queued h]
  · rw [exec_queuedAdmission, State.retest_of_expire ht hg queued h]
end

section
/-! PROOF. TENANT_SET, STATE_QUERY and ATTEST as the first due command, and a reservation whose slots read back; O24 from them (08 R261,
R263, R264; 09 R456; 13 R393 to R396). -/

namespace Sys2Proof.Machine

theorem exec_tenantSet (ch : Nat) (s : State) : exec (.tenantSet ch) s = .next (s.runDue 0x11 ch effTenantSet) := rfl
theorem exec_stateQuery (ch : Nat) (gathered : List (Nat × List Byte)) (s : State) :
    exec (.stateQuery ch gathered) s = .next (s.runDue 0x50 ch (effStateQuery gathered)) := rfl
theorem exec_attest (ch : Nat) (s : State) : exec (.attest ch) s = .next (s.runDue 0x51 ch effAttest) := rfl
theorem exec_attestReservation (firstOk retryOk : Bool) (s : State) :
    exec (.attestReservation firstOk retryOk) s = .next (stepAttestReservation firstOk retryOk s) := rfl

section Tenant
variable {s : State} {c : Cmd}

/-- TENANT_SET's change of the scope or to disabled meets no open stream of the tenant (09 R456). -/
def State.tenantFree (s : State) (c : Cmd) : Prop :=
  ((s.dev.tenant (c.at 0x18 1)).scope = BitVec.ofNat 32 (c.at 0x2C 4) ∧
    (c.at 0x19 1 = 1 ∨ (s.dev.tenant (c.at 0x18 1)).enable = false)) ∨ s.dev.srv.tenantStreams (c.at 0x18 1) = []

theorem effTenantSet_of_free (hn : c.at 0x18 1 ≤ 63) (he : c.at 0x19 1 ≤ 1) (hw : c.at 0x1A 1 ≠ 0) (free : s.tenantFree c) {win : Nat}
    (hwin : win = if c.at 0x1C 4 = 0 then 100000 else c.at 0x1C 4) : effTenantSet c s =
      (s.updTenant (c.at 0x18 1) (fun t =>
        { t with enable := bitAt (c.at 0x19 1) 0, weight := c.at 0x1A 1, nextWindow := win,
                 window := if t.start.isNone then win else t.window, start := some (t.start.getD s.tick), budget := c.at 0x20 8,
                 kvCap := c.at 0x28 4, scope := BitVec.ofNat 32 (c.at 0x2C 4), refusals := 0 })).reply (s.repOf c) stOK 0 true true := by
  have fields : ¬ (63 < c.at 0x18 1 ∨ 1 < c.at 0x19 1 ∨ c.at 0x1A 1 = 0) := by omega
  have open_ : ¬ (((((s.dev.tenant (c.at 0x18 1)).enable && !bitAt (c.at 0x19 1) 0) ||
      (s.dev.tenant (c.at 0x18 1)).scope != BitVec.ofNat 32 (c.at 0x2C 4)) && !(s.dev.srv.tenantStreams (c.at 0x18 1)).isEmpty) = true) := by
    rcases free with ⟨scope, on | off⟩ | none_
    · simp [scope, on, bitAt]
    · simp [scope, off]
    · simp [none_]
  subst hwin
  exact (if_neg fields).trans (if_neg open_)
end Tenant

section Query
variable {s : State} {c : Cmd} {gathered : List (Nat × List Byte)} {recs : List (List Byte)} {size : Nat} {b : List Byte} {u : State}

/-- Header and records leave, and the reply that tells their number carries the snapshot's tag (08 R263). -/
theorem effStateQuery_of_room (legal : s.queryRefusal c = none) (hrecs : s.queryRecords gathered c = (recs, size))
    (hb : b = leBytes 8 s.snapTick ++ leBytes 4 (c.at 0x18 1) ++ leBytes 4 recs.length ++ leBytes 4 size ++ leBytes 12 0 ++ recs.flatten)
    (room : b.length ≤ c.at 0x30 4)
    (hu : u = (s.hostOut (s.repOf c).fn (BitVec.ofNat 64 (c.at 0x28 8)) b).unlock (s.repOf c).ch) : effStateQuery gathered c s =
      u.produce (s.repOf c).fn (s.repOf c).ring
        { op := (s.repOf c).op, status := stOK, released := true, final := true, text := false, tokens := false, detail := 0,
          ch := (s.repOf c).ch, state := u.dev.stateByte (s.repOf c).ch, tag := (s.repOf c).tag, tick := s.snapTick,
          word0 := BitVec.ofNat 32 b.length, word1 := 0, payload := [] } := by
  subst hu hb
  simp only [effStateQuery, legal, hrecs, if_neg (Nat.not_lt.mpr room), State.unlock_snapTick, State.hostOut_snapTick]
end Query

section Attest
variable {s : State} {c : Cmd}

theorem Sec.noIndex_eq_none {x : Sec} (sound : x.nvFault = false) (more : x.exhausted = false) : x.noIndex = none := by
  simp only [Sec.noIndex, sound, more, Bool.false_eq_true, if_false]

theorem Sec.startReserve_of_reserving {x : Sec} (h : x.reserving = true) : x.startReserve = x := if_pos (by rw [h]; rfl)

theorem Sec.startReserve_of_blocks {x : Sec} (rests : x.reserving = false) (sound : x.nvFault = false) (blocks : x.attNext < 2 ^ 30) :
    x.startReserve = { x with reserving := true } :=
  (if_neg (by rw [rests, sound]; decide)).trans (if_neg (by omega))

/-- What an ATTEST waits with: its reply, nonce and address, and the snapshot's role, epoch and image (13 R396). -/
def State.attWait (s : State) (c : Cmd) : AttWait :=
  { rep := s.repOf c, nonce := sliceAt c.packet 0x18 32, addr := BitVec.ofNat 64 (c.at 0x38 8), tick := s.snapTick,
    role := s.snap.role.word, epoch := s.snap.ws.epoch, imageId := s.snap.ws.imageId }

section Serve
variable {w : AttWait} {rest : List AttWait} (first : s.dev.sec.waiting = w :: rest)
include first

theorem State.serveAttests_of_left (left : 0 < s.dev.sec.left) (n : Nat) :
    State.serveAttests (n + 1) s = State.serveAttests n ((s.updSec (fun x => { x with waiting := rest })).sendEvidence w) := by
  simp only [State.serveAttests, first, left, if_true]

/-- While a reservation runs that can give an index, those that wait go on waiting (13 R395). -/
theorem State.serveAttests_of_reserving (spent : s.dev.sec.left = 0) (runs : s.dev.sec.reserving = true) (index : s.dev.sec.noIndex = none)
    (n : Nat) : State.serveAttests (n + 1) s = s := by
  have same : s.updSec Sec.startReserve = s := by rw [State.updSec, Sec.startReserve_of_reserving runs]
  simp only [State.serveAttests, first, spent, Nat.lt_irrefl, if_false, same, index]
end Serve

variable (attests : s.dev.nv.lc.attests = true) (room : 9208 ≤ c.at 0x40 4) (rests : s.dev.sec.reserving = false)
  (sound : s.dev.sec.nvFault = false) (more : s.dev.sec.exhausted = false) (empty : s.dev.sec.waiting = [])
include attests room rests

/-- An ATTEST that an index may serve is QUEUED and waits, and is served if its turn has come (13 R395). -/
theorem effAttest_of_index {y : Sec} (hy : y = if s.dev.sec.left = 0 then s.dev.sec.startReserve else s.dev.sec) (index : y.noIndex = none)
    (empty : y.waiting = []) : effAttest c s = State.serveAttests 1
      ((s.reply (s.repOf c) stQUEUED 0 true false).updSec (fun _ => { y with waiting := [s.attWait c] })) := by
  simp only [effAttest, attests, if_neg (Nat.not_lt.mpr room), ← hy, index, rests, empty]
  rfl

include sound more empty

theorem effAttest_of_none_left (blocks : s.dev.sec.attNext < 2 ^ 30) (spent : s.dev.sec.left = 0) : effAttest c s =
    (s.reply (s.repOf c) stQUEUED 0 true false).updSec (fun _ => { s.dev.sec with reserving := true, waiting := [s.attWait c] }) := by
  have begun := Sec.startReserve_of_blocks rests sound blocks
  have index : ({ s.dev.sec with reserving := true } : Sec).noIndex = none := Sec.noIndex_eq_none sound more
  refine (effAttest_of_index attests room rests ((if_pos spent).trans begun).symm index empty).trans ?_
  refine State.serveAttests_of_reserving (w := s.attWait c) (rest := []) rfl ?_ rfl ?_ 0
  · exact spent
  · exact Sec.noIndex_eq_none sound more

theorem effAttest_of_left (left : 0 < s.dev.sec.left) : effAttest c s =
    ((s.reply (s.repOf c) stQUEUED 0 true false).updSec (fun x => { x with waiting := [] })).sendEvidence (s.attWait c) := by
  refine (effAttest_of_index attests room rests (if_neg (Nat.ne_of_gt left)).symm (Sec.noIndex_eq_none sound more) empty).trans
    ((State.serveAttests_of_left (w := s.attWait c) (rest := []) rfl ?_ 0).trans ?_)
  · exact left
  · simp only [State.serveAttests, State.updSec, State.reply_sec]
end Attest

theorem stepAttestReservation_of_read_back {s : State} (runs : s.dev.sec.reserving = true) (retryOk : Bool) :
    stepAttestReservation true retryOk s = State.serveAttests s.dev.sec.waiting.length
      ((s.updNv (fun n => n.writePair (s.dev.sec.attSeq + 1) (s.dev.sec.attNext + 1024) true)).updSec (fun x =>
        { x with reserving := false, attSeq := x.attSeq + 1, attNext := x.attNext + 1024, attIndex := 1024 * (s.dev.sec.attNext / 1024),
                 left := 1024 })) := by
  simp only [stepAttestReservation, runs]
  rfl

end Sys2Proof.Machine

open Sys2Proof Sys2Proof.Machine

/-- Settles O24: the tenant's row, the query's bytes, and an ATTEST that waits for a block of indices or takes one at hand. -/
theorem tenantsQueriesAttestations : Obligations.TenantsQueriesAttestations := by
  intro s c rest hdue
  refine ⟨?_, ?_, ?_, ?_, ?_⟩
  · rintro scope win hop hn he hw hwin rfl free
    rw [exec_tenantSet, State.runDue_of_due hdue hop, effTenantSet_of_free (s := s.dueLeft rest) hn he hw free hwin]
    rfl
  · intro gathered recs size b u hop legal hrecs hb room hu
    rw [exec_stateQuery, State.runDue_of_due hdue hop, effStateQuery_of_room (s := s.dueLeft rest) legal hrecs hb room hu]
    rfl
  · rintro w y hop attests room spent rests sound more blocks empty rfl rfl
    rw [exec_attest, State.runDue_of_due hdue hop,
      effAttest_of_none_left (s := s.dueLeft rest) attests room rests sound more empty blocks spent]
    rfl
  · rintro w hop attests room left rests sound more empty rfl
    rw [exec_attest, State.runDue_of_due hdue hop, effAttest_of_left (s := s.dueLeft rest) attests room rests sound more empty left]
    rfl
  · rintro u runs rfl
    rw [exec_attestReservation, stepAttestReservation_of_read_back runs]
end

section
/-! PROOF. MARGIN_TEST and RETIRE as the first due command: each check in its order, a test's result, whom a retirement concerns, and O45
from them (08 R262; 11 R352, R355 to R357, R455; entries 53, 86). -/

namespace Sys2Proof.Machine

theorem exec_marginTest (ch : Nat) (f : MarginFacts) (s : State) :
    exec (.marginTest ch f) s = .next (s.runDue 0x40 ch (effMarginTest f)) := rfl
theorem exec_retire (ch : Nat) (gone : Bool) (g : RerigFacts) (s : State) :
    exec (.retire ch gone g) s = .next (s.runDue 0x41 ch (effRetire gone g)) := rfl

section Margin
variable {s : State} {c : Cmd} {f : MarginFacts}

theorem effMarginTest_of_not_field (h : s.dev.nv.lc ≠ .field) : effMarginTest f c s = s.refuse (s.repOf c) stAUTH 0x03 :=
  if_pos (by simpa using h)

section Field
variable (field : s.dev.nv.lc = .field)
include field

theorem effMarginTest_of_no_unit (h : unitOf c true = none ∨ s.dev.knows (c.at 0x18 2) = false) :
    effMarginTest f c s = s.refuse (s.repOf c) stBAD 0x06 := by
  cases named : unitOf c true with
  | none => simp [effMarginTest, field, named]
  | some e => simp [effMarginTest, field, named, h.resolve_left (by simp [named])]

variable {kind unit : Nat} (named : unitOf c true = some (kind, unit)) (known : s.dev.knows (c.at 0x18 2) = true) {own : Bool}
  (hown : own = (c.at 0x18 2 == s.dev.role.pkg.toNat))
include named known hown

theorem effMarginTest_of_retired (h : (own = true ∧ s.dev.chk.isRetired kind unit = true) ∨ (own = false ∧ f.retired = true)) :
    effMarginTest f c s = s.refuse (s.repOf c) stRETIRED 0 := by
  have gone : ((own && s.dev.chk.isRetired kind unit) || (!own && f.retired)) = true := by
    rcases h with ⟨o, r⟩ | ⟨o, r⟩ <;> simp [o, r]
  simp only [effMarginTest, field, named, known, ← hown, gone]
  rfl

theorem effMarginTest_of_refused (h : (own = true ∧ s.dev.chk.isRetired kind unit = false ∧ s.dev.marginRefused kind unit = true) ∨
      (own = false ∧ f.retired = false ∧ f.refused = true)) : effMarginTest f c s = s.refuse (s.repOf c) stBAD 0x05 := by
  have here : ((own && s.dev.chk.isRetired kind unit) || (!own && f.retired)) = false := by
    rcases h with ⟨o, r, -⟩ | ⟨o, r, -⟩ <;> simp [o, r]
  have refused : ((own && s.dev.marginRefused kind unit) || (!own && f.refused)) = true := by
    rcases h with ⟨o, -, r⟩ | ⟨o, -, r⟩ <;> simp [o, r]
  simp only [effMarginTest, field, named, known, ← hown, here, refused]
  rfl

/-- A test that runs is QUEUED, and ends as its passes say (08 R262; 11 R355, R356). -/
theorem effMarginTest_of_run (h : (own = true ∧ s.dev.chk.isRetired kind unit = false ∧ s.dev.marginRefused kind unit = false) ∨
      (own = false ∧ f.retired = false ∧ f.refused = false)) {q u : State} {limit : Bool}
    (hq : q = s.reply (s.repOf c) stQUEUED 0 true false) (here : own = true → u = q ∧ limit = q.dev.atLimit kind unit)
    (there : own = false → u = q.emit (.message (c.at 0x18 2) 0x08 [0x18, kind, unit]) ∧ limit = f.atLimit) : effMarginTest f c s =
      if f.stressPass then u.endMargin (s.repOf c) kind unit stOK 0
      else if f.nominalPass && !limit then (if own then u.raiseStep kind unit else u).endMargin (s.repOf c) kind unit stOK 1
      else (if own then u.markRetired kind unit else u).endMargin (s.repOf c) kind unit stRETIRED 0 := by
  rcases h with ⟨o, r, m⟩ | ⟨o, r, m⟩
  · obtain ⟨rfl, rfl⟩ := here o
    simp only [effMarginTest, field, named, known, ← hown, o, r, m, hq]
    rfl
  · obtain ⟨rfl, rfl⟩ := there o
    simp only [effMarginTest, field, named, known, ← hown, o, r, m, hq]
    rfl
end Field
end Margin

section Retire
variable {s : State} {c : Cmd} {gone : Bool} {g : RerigFacts}

theorem effRetire_of_not_inService (h : s.dev.inService = false) : effRetire gone g c s = s.refuse (s.repOf c) stAUTH 0x03 :=
  if_pos (by rw [h]; rfl)

section Service
variable (service : s.dev.inService = true)
include service

theorem effRetire_of_no_unit (h : unitOf c false = none ∨ s.dev.knows (c.at 0x18 2) = false) :
    effRetire gone g c s = s.refuse (s.repOf c) stBAD 0x06 := by
  cases named : unitOf c false with
  | none => simp [effRetire, service, named]
  | some e => simp [effRetire, service, named, h.resolve_left (by simp [named])]

variable {kind unit : Nat} (named : unitOf c false = some (kind, unit)) (known : s.dev.knows (c.at 0x18 2) = true) {own : Bool}
  (hown : own = (c.at 0x18 2 == s.dev.role.pkg.toNat))
include named known hown

theorem effRetire_of_retired (h : (own = true ∧ s.dev.chk.isRetired kind unit = true) ∨ (own = false ∧ gone = true)) :
    effRetire gone g c s = s.refuse (s.repOf c) stRETIRED 0 := by
  have retired : ((own && s.dev.chk.isRetired kind unit) || (!own && gone)) = true := by
    rcases h with ⟨o, r⟩ | ⟨o, r⟩ <;> simp [o, r]
  simp only [effRetire, service, named, known, ← hown, retired]
  rfl

section Own
variable (o : own = true) (here : s.dev.chk.isRetired kind unit = false)
include o here

theorem effRetire_of_own_package (h : kind = 0) : effRetire gone g c s =
    (s.reply (s.repOf c) stQUEUED 0 true false).updChk (fun k => { k with pkgDue := some (s.repOf c) }) := by
  subst h
  simp only [effRetire, service, named, known, ← hown, o, here]
  rfl

theorem effRetire_of_own_unit (h : kind ≠ 0) : effRetire gone g c s =
    ((s.reply (s.repOf c) stQUEUED 0 true false).markRetired kind unit).updChk (fun k =>
      { k with retires := k.retires ++ [⟨kind, unit, c.at 0x18 2, s.repOf c, s.tick + 1⟩] }) := by
  simp only [effRetire, service, named, known, ← hown, o, here, h, State.reply_tick]
  rfl
end Own

section Member
variable (o : own = false) (here : gone = false)
include o here

theorem effRetire_of_member_unit (h : kind ≠ 0) : effRetire gone g c s =
    (s.reply (s.repOf c) stQUEUED 0 true false).retireRemote (s.repOf c) (c.at 0x18 2) kind unit := by
  simp only [effRetire, service, named, known, ← hown, o, here]
  exact if_pos h

theorem effRetire_of_member (h : kind = 0) {q : State} (hq : q = s.reply (s.repOf c) stQUEUED 0 true false) {m : Member}
    (hm : q.dev.lnk.members.find? (fun m => m.pkg == c.at 0x18 2) = some m) :
    effRetire gone g c s = q.retireMember (s.repOf c) m g := by
  subst hq h
  simp only [effRetire, service, named, known, ← hown, o, here, hm]
  rfl
end Member
end Service

section Whole
variable {rep : Rep} {m : Member} {u : State} (hu : u = s.emit (.message m.pkg 0x08 [0x19, 0, 0]))
include hu

theorem State.retireMember_of_spare (h : m.position = 0xFFFF) : s.retireMember rep m g =
    (u.updLnk (fun l => { l with duties := l.duties.filter (fun d => d.spare != m.pkg),
                                 members := l.members.filter (fun x => x.pkg != m.pkg) })).updChk
      (fun k => { k with retires := k.retires ++ [⟨0, 0, m.pkg, rep, s.tick + 1⟩] }) := by
  subst hu
  exact if_pos h

variable {x : State} (placed : m.position ≠ 0xFFFF) (hx : x = u.noteLost m.pkg 0x20)
include placed hx

theorem State.retireMember_of_refusal (h : (x.dev.rerigRefusal m.pkg (u.dev.lnk.covering m.position) g).isSome = true) :
    s.retireMember rep m g = x.reply rep stDEGRADED 0x27 false true := by
  obtain ⟨e, he⟩ := Option.isSome_iff_exists.mp h
  subst hx hu
  simp only [State.retireMember, if_neg placed, he]

theorem State.retireMember_of_plan (h : x.dev.rerigRefusal m.pkg (u.dev.lnk.covering m.position) g = none) : s.retireMember rep m g =
    x.updLnk (fun l => { l with rerig := some (rerigOf m.pkg (u.dev.lnk.covering m.position) m.position x.tick (some rep) g true),
                                rerigPkg := BitVec.ofNat 12 m.pkg }) := by
  subst hx hu
  simp only [State.retireMember, if_neg placed, h]
end Whole
end Retire

end Sys2Proof.Machine

open Sys2Proof Sys2Proof.Machine

/-- Settles O45: each command by its first check that fails, else by its test's result or by whom its retirement concerns. -/
theorem marginTestAndRetire : Obligations.MarginTestAndRetire := by
  rintro s _ q c rest f gone g _ ans _ own hdue rfl rfl hans rfl hown hq
  refine ⟨fun hop => ?_, fun hop => ?_, fun m u hu => ?_⟩
  · rw [exec_marginTest]
    refine ⟨fun h => ?_, fun field h => ?_, fun kind unit limit u field named known => ⟨fun h => ?_, fun h => ?_, fun h here there => ?_⟩⟩
    · rw [hans, runDue_of_refused hdue hop (effMarginTest_of_not_field (s := s.dueLeft rest) h)]
    · rw [hans, runDue_of_refused hdue hop (effMarginTest_of_no_unit (s := s.dueLeft rest) field h)]
    · rw [hans, runDue_of_refused hdue hop (effMarginTest_of_retired (s := s.dueLeft rest) field named known hown h)]
    · rw [hans, runDue_of_refused hdue hop (effMarginTest_of_refused (s := s.dueLeft rest) field named known hown h)]
    · rw [runDue_of_effect hdue hop (effMarginTest_of_run (s := s.dueLeft rest) field named known hown h hq here there),
        State.repOf_dueLeft]
      refine ⟨fun stress => ?_, fun stress nominal step => ⟨fun o => ?_, fun o => ?_⟩, fun stress worse => ⟨fun o => ?_, fun o => ?_⟩⟩
      · rw [if_pos stress]
      · rw [if_neg (by simp [stress]), if_pos (by simp [nominal, step]), if_pos o]
      · rw [if_neg (by simp [stress]), if_pos (by simp [nominal, step]), if_neg (by simp [o])]
      · rw [if_neg (by simp [stress]), if_neg (by rcases worse with w | w <;> simp [w]), if_pos o]
      · rw [if_neg (by simp [stress]), if_neg (by rcases worse with w | w <;> simp [w]), if_neg (by simp [o])]
  · rw [exec_retire]
    refine ⟨fun h => ?_, fun service h => ?_, fun kind unit service named known => ⟨fun h => ?_, fun o here => ⟨fun h => ?_, fun h => ?_⟩,
      fun o here h => ?_, fun m o here h hm => ?_⟩⟩
    · rw [hans, runDue_of_refused hdue hop (effRetire_of_not_inService (s := s.dueLeft rest) h)]
    · rw [hans, runDue_of_refused hdue hop (effRetire_of_no_unit (s := s.dueLeft rest) service h)]
    · rw [hans, runDue_of_refused hdue hop (effRetire_of_retired (s := s.dueLeft rest) service named known hown h)]
    · rw [runDue_of_effect hdue hop (effRetire_of_own_package (s := s.dueLeft rest) service named known hown o here h), hq]
      rfl
    · rw [runDue_of_effect hdue hop (effRetire_of_own_unit (s := s.dueLeft rest) service named known hown o here h), hq]
      rfl
    · rw [runDue_of_effect hdue hop (effRetire_of_member_unit (s := s.dueLeft rest) service named known hown o here h), hq]
      rfl
    · rw [runDue_of_effect hdue hop (effRetire_of_member (s := s.dueLeft rest) service named known hown o here h hq hm)]
      rfl
  · refine ⟨State.retireMember_of_spare hu, ?_⟩
    rintro x _ placed rfl hx
    exact ⟨State.retireMember_of_refusal hu placed hx, State.retireMember_of_plan hu placed hx⟩
end

section
/-! PROOF. O47 fails: what it says of the DMA arbiter after a reset request assumes that the arbiters' table lists a number once
(08 R265; 12 R376). -/

namespace Sys2Proof.Machine

theorem State.updArb_arbiter_self {s : State} {r : Nat} {f : Arb → Arb} (h : Sparse.wf Arb.reset s.dev.arb = true) :
    (s.updArb r f).dev.arbiter r = f (s.dev.arbiter r) :=
  Sparse.get_upd_self _ h

/-- The request carries no transfer of the function's channels. -/
def Fn.spares (n : Fn) (e : Nat × Grant) : Bool := e.2.ch.all (fun c => !n.owns c)

/-- Where the arbiters' table is canonical, the DMA arbiter after a reset request is the one computed: the function's transfers are gone
and the free engines have taken what waited. -/
theorem State.abandonGrants_arbiter_of_wf {s : State} {f : Nat} (h : Sparse.wf Arb.reset s.dev.arb = true) :
    (s.abandonGrants f).dev.arbiter 4 = (List.range 16).foldl (fun a u => a.serveUnit true u)
      { s.dev.arbiter 4 with held := (s.dev.arbiter 4).held.filter (s.dev.fn f).spares,
                             queue := (s.dev.arbiter 4).queue.filter (s.dev.fn f).spares } := by
  have spares : (s.dev.fn f).spares = fun e => match e.2.ch with | some c => !(s.dev.fn f).owns c | none => true := by
    funext ⟨_, g⟩
    cases hc : g.ch <;> simp [Fn.spares, hc]
  rw [spares]
  exact State.updArb_arbiter_self h

/-- A host read for channel 0, which PF0 owns at reset, granted at the first DMA engine. -/
def chanRead : Nat × Grant := (0, { who := ⟨7, 0⟩, waited := 0, losses := 0, waits := false, ch := some 0 })

/-- The arbiters' table lists the DMA arbiter twice, each time with that read in hold. -/
def twinArbs : State :=
  { State.reset with dev := { State.reset.dev with arb := [(4, { held := [chanRead] }), (4, { held := [chanRead] })] } }

/-- The first row becomes as at reset and goes; the second one then shows. -/
theorem chanRead_mem_held_of_abandonGrants : chanRead ∈ ((twinArbs.abandonGrants 0).dev.arbiter 4).held := by decide

end Sys2Proof.Machine

open Sys2Proof Sys2Proof.Machine

/-- Refutes O47: its clause that no transfer of the function's channels stays at the DMA engines. Where the arbiters' table lists the DMA
arbiter twice, abandoning the first row's one transfer makes that row the reset value, which is not listed, and the second row's
transfer, of a channel that PF0 owns, is then in hold. -/
theorem not_functionResets : ¬ Obligations.FunctionResets := by
  intro h
  obtain ⟨-, -, -, -, -, -, -, -, -, abandoned, -⟩ := h twinArbs 0 _ (fun _ _ => rfl)
  have lost : (twinArbs.dev.fn 0).owns 0 = false :=
    abandoned chanRead 0 (List.mem_append_left _ chanRead_mem_held_of_abandonGrants) rfl
  exact absurd lost (by decide)
end

section
/-! PROOF. A function that stops and resumes, the PCIe link's rise and fall, and O48 from them (08 R249, R250; 12 R366, R367, R376,
R380, R381). -/

namespace Sys2Proof.Machine

theorem exec_busMasterDisable (f : Nat) (s : State) : exec (.busMasterDisable f) s = .next (stepBusMasterDisable f s) := rfl
theorem exec_busMasterEnable (f : Nat) (s : State) : exec (.busMasterEnable f) s = .next (stepBusMasterEnable f s) := rfl
theorem exec_d3hotEntry (f : Nat) (s : State) : exec (.d3hotEntry f) s = .next (stepD3hotEntry f s) := rfl
theorem exec_d3hotExit (f : Nat) (s : State) : exec (.d3hotExit f) s = .next (stepD3hotExit f s) := rfl
theorem exec_pcieLinkUp (speed width : Nat) (reversed sris : Bool) (s : State) :
    exec (.pcieLinkUp speed width reversed sris) s = .next (stepPcieLinkUp speed width reversed sris s) := rfl
theorem exec_pcieLinkDown (s : State) : exec .pcieLinkDown s = .next (stepPcieLinkDown s) := rfl

/-- A function that cannot write resumes nothing. -/
theorem State.resumeFn_of_cannot_write {s : State} {f : Nat} (h : s.dev.canWrite f = false) : s.resumeFn f = s :=
  if_neg (by simp [h])

theorem State.resumeFn_of_can_write {s : State} {f : Nat} (h : s.dev.canWrite f = true) : s.resumeFn f =
    (s.flushOuts f).each (((s.flushOuts f).dev.fn f).rings.map (·.1)) (fun s r => stepBacklogDrain f r s) :=
  if_pos h

section Functions
variable {f : Nat} {s : State}

theorem stepBusMasterDisable_of_fn (h : f < 32) :
    stepBusMasterDisable f s = (s.updFnCfg f (fun c => { c with bme := false })).stopFn f := if_pos h
theorem stepD3hotEntry_of_fn (h : f < 32) : stepD3hotEntry f s = (s.updFnCfg f (fun c => { c with d3 := true })).stopFn f := if_pos h
theorem stepBusMasterEnable_of_fn (h : f < 32) : stepBusMasterEnable f s =
    ((s.updPcie (fun p => { p with numVfs := max p.numVfs f })).updFnCfg f (fun c => { c with bme := true })).resumeFn f := if_pos h
theorem stepD3hotExit_of_fn (h : f < 32) : stepD3hotExit f s = (s.updFnCfg f (fun c => { c with d3 := false })).resumeFn f := if_pos h

section Beyond
variable (h : 32 ≤ f)
include h
theorem stepBusMasterDisable_of_no_fn : stepBusMasterDisable f s = s := if_neg (by omega)
theorem stepD3hotEntry_of_no_fn : stepD3hotEntry f s = s := if_neg (by omega)
theorem stepBusMasterEnable_of_no_fn : stepBusMasterEnable f s = s := if_neg (by omega)
theorem stepD3hotExit_of_no_fn : stepD3hotExit f s = s := if_neg (by omega)
end Beyond
end Functions

section LinkUp
variable {s : State} {speed width : Nat} {reversed sris : Bool}

theorem stepPcieLinkUp_of_trains (perst : s.dev.rst.perstLow = false) (furl : s.dev.rst.furl = false) (lanes : width = 8 ∨ width = 16)
    (slow : 1 ≤ speed) (fast : speed ≤ 7) : stepPcieLinkUp speed width reversed sris s = s.updPcie (fun p =>
      { p with linkUp := true, speed := BitVec.ofNat 3 speed, width := BitVec.ofNat 5 width, reversed := reversed, sris := sris }) :=
  if_neg (by rcases lanes with l | l <;> simp [perst, furl, l, slow, fast])

theorem stepPcieLinkUp_of_not_trains
    (h : s.dev.rst.perstLow = true ∨ s.dev.rst.furl = true ∨ (width ≠ 8 ∧ width ≠ 16) ∨ speed = 0 ∨ 7 < speed) :
    stepPcieLinkUp speed width reversed sris s = s :=
  if_pos (by rcases h with h | h | ⟨h, h'⟩ | h | h <;> simp [*])
end LinkUp

/-- A park is being copied out of the dies: what the fall of the link ends in error (12 R381). -/
def Dev.copiesPark (d : Dev) : Bool :=
  d.srv.streams.any (fun e => match e.2.park with
    | some p => p.copying.isSome && !p.inPlace
    | none => false)

theorem Dev.copiesPark_iff (d : Dev) :
    d.copiesPark = true ↔ ∃ e ∈ d.srv.streams, ∃ p, e.2.park = some p ∧ p.copying.isSome = true ∧ p.inPlace = false := by
  unfold Dev.copiesPark
  refine List.any_eq_true.trans (exists_congr fun e => and_congr_right fun _ => ?_)
  cases e.2.park with
  | none => simp
  | some p => simp

theorem stepPcieLinkDown_eq {s u : State} (hu : u = s.each (List.range 32) State.stopFn) : stepPcieLinkDown s =
    (((((u.updSrv (fun v => { v with stockErr := v.stockErr || u.dev.copiesPark })).updPcie (fun p =>
      { linkDowns := satInc p.linkDowns })).updTime Time.ptmReset).updArb 4 (fun _ => {})).updPcie (fun p => { p with numVfs := 0 })).each
        (List.range 32) State.requestFlr := by
  subst hu
  rfl

end Sys2Proof.Machine

open Sys2Proof Sys2Proof.Machine

/-- Settles O48: `stop` and `resume` are the model's own, and the fall of the link is its steps in their order. -/
theorem busMasterAndLink : Obligations.BusMasterAndLink := by
  intro s f speed width reversed sris stop resume hstop hidle hresume
  obtain rfl : stop = fun t => t.stopFn f := funext hstop
  obtain rfl : resume = fun t => t.resumeFn f := funext fun t => by
    cases h : t.dev.canWrite f with
    | false => exact (hidle t h).trans (State.resumeFn_of_cannot_write h).symm
    | true => exact (hresume t h).trans (State.resumeFn_of_can_write h).symm
  rw [exec_busMasterDisable, exec_d3hotEntry, exec_busMasterEnable, exec_d3hotExit, exec_pcieLinkUp, exec_pcieLinkDown]
  refine ⟨fun h => ?_, fun h => ?_, fun perst furl lanes slow fast => ?_, fun h => ?_, fun u v parks hu hparks hv => ?_⟩
  · rw [stepBusMasterDisable_of_fn h, stepD3hotEntry_of_fn h, stepBusMasterEnable_of_fn h, stepD3hotExit_of_fn h]
    exact ⟨rfl, rfl, rfl, rfl⟩
  · rw [stepBusMasterDisable_of_no_fn h, stepD3hotEntry_of_no_fn h, stepBusMasterEnable_of_no_fn h, stepD3hotExit_of_no_fn h]
    exact ⟨rfl, rfl, rfl, rfl⟩
  · rw [stepPcieLinkUp_of_trains perst furl lanes slow fast]
  · rw [stepPcieLinkUp_of_not_trains h]
  · obtain rfl : parks = u.dev.copiesPark := Bool.eq_iff_iff.mpr (hparks.trans (Dev.copiesPark_iff _).symm)
    rw [stepPcieLinkDown_eq hu, hv]
    rfl
end

section
/-! PROOF. Frames and retry: what a received frame does, case by case, ACK and NAK at the replay buffer, the frames that wait at a
port, and O41 from them (10 R307, R313, R315, R322, R323). -/

namespace Sys2Proof.Machine

theorem exec_frameReceive (p : Nat) (bytes : List Byte) (lanes : List (Nat × Nat)) (bad : Bool) (s : State) :
    exec (.frameReceive p bytes lanes bad) s = .next (stepFrameReceive p bytes lanes bad s) := rfl
theorem exec_linkAck (p seq : Nat) (s : State) : exec (.linkAck p seq) s = .next (stepLinkAck p seq s) := rfl
theorem exec_linkNak (p seq : Nat) (s : State) : exec (.linkNak p seq) s = .next (stepLinkNak p seq s) := rfl

section Receive
variable {s : State} {p : Nat} {bytes : List Byte} {lanes : List (Nat × Nat)} {bad : Bool}

/-- The frame is whole and carries the CRC-32C of its header and payload (10 R313). -/
def frameCrcOk (bytes : List Byte) : Bool :=
  decide (20 + frameLen bytes ≤ bytes.length) &&
    crc32c (bytes.take (16 + frameLen bytes)) == BitVec.ofNat 32 (leAt bytes (16 + frameLen bytes) 4)

/-- The link sequence number of a frame (10 R313, R315). -/
def frameSeq (bytes : List Byte) : Nat := fieldAt (leAt bytes 10 2) 0 12

/-- A frame in order moves the expected SEQ, counts its bytes and is acknowledged (10 R315). -/
def State.acknowledge (s : State) (p : Nat) (bytes : List Byte) : State :=
  (s.updPort p (fun x => { x with rxSeq := x.rxSeq + 1, discard := false, rx := x.rx + BitVec.ofNat 64 (frameLen bytes) })).emit
    (.ack p (frameSeq bytes))

theorem stepFrameReceive_of_down (h : (s.dev.port p).up = false) : stepFrameReceive p bytes lanes bad s = s :=
  if_pos (by rw [h, Bool.not_false])

/-- On a port that is up, the codewords count and the checks follow in their order: codewords, CRC, SEQ. -/
theorem stepFrameReceive_of_up (h : (s.dev.port p).up = true) : stepFrameReceive p bytes lanes bad s =
    let u := s.countFec p lanes bad
    if bad then u.sendNak p
    else if frameCrcOk bytes then
      if frameSeq bytes = (u.dev.port p).rxSeq.toNat then
        (u.acknowledge p bytes).takeFrame (bytes.take 16) ((bytes.drop 16).take (frameLen bytes))
      else if (u.dev.port p).discard then u else u.sendNak p
    else (u.updPort p (fun x => { x with crc := x.crc + 1 })).sendNak p := by
  refine (if_neg (by rw [h]; exact Bool.false_ne_true)).trans ?_
  cases bad with
  | true => rfl
  | false =>
    cases hc : frameCrcOk bytes with
    | false => exact if_pos (congrArg not hc)
    | true => exact (if_neg (show ¬ (!frameCrcOk bytes) = true by rw [hc]; exact Bool.false_ne_true)).trans (ite_not ..)

end Receive

section Take
variable {s : State} {hdr payload : List Byte}

theorem State.takeFrame_of_reserved (h : leAt hdr 0 1 = 0 ∨ 0x0B < leAt hdr 0 1) : s.takeFrame hdr payload = s.dropRoute := if_pos h

section Known
variable (hlo : 0 < leAt hdr 0 1) (hhi : leAt hdr 0 1 ≤ 0x0B)
include hlo hhi

theorem State.takeFrame_of_directed (h : bitAt (leAt hdr 1 1) 5 = true) : s.takeFrame hdr payload = s.directed hdr payload :=
  (if_neg (by omega)).trans (if_pos h)

/-- A frame by table is dropped after 8 hops, taken at its destination, and forwarded elsewhere (10 R322). -/
theorem State.takeFrame_of_undirected (h : bitAt (leAt hdr 1 1) 5 = false) : s.takeFrame hdr payload =
    if leAt hdr 7 1 = 8 then s.dropRoute
    else if fieldAt (leAt hdr 2 2) 0 12 = s.dev.role.pkg.toNat then
      if s.dev.lnk.accept.getLsbD (leAt hdr 6 1) then s.acceptFrame hdr payload
      else s.updLnk (fun l => { l with dropSlice := l.dropSlice + 1 })
    else s.forward hdr payload :=
  (if_neg (by omega)).trans (if_neg (ne_true_of_eq_false h))
end Known
end Take

section Forward
variable {s : State} {hdr payload : List Byte}

theorem typeVl_lt (ty : Nat) : typeVl ty < 8 := by
  unfold typeVl
  split <;> decide

/-- The VL of a frame that goes on: a bundle's is 0 within a slice of this package and 1 through others; another type's is the one
of Table 10-4 (10 R316). -/
def Lnk.forwardVl (l : Lnk) (hdr : List Byte) : Nat :=
  if leAt hdr 0 1 = 1 ∨ leAt hdr 0 1 = 2 then (if l.accept.getLsbD (leAt hdr 6 1) then 0 else 1) else typeVl (leAt hdr 0 1)

theorem Lnk.forwardVl_lt (l : Lnk) (hdr : List Byte) : l.forwardVl hdr < 8 := by
  unfold Lnk.forwardVl
  split
  · split <;> decide
  · exact typeVl_lt _

/-- The routing entry of a frame's destination, in the bank in force (10 R321). -/
def Lnk.entryOf (l : Lnk) (hdr : List Byte) : Nat := (l.route (fieldAt (leAt hdr 2 2) 0 12)).toNat

theorem State.forward_of_no_route (h : bitAt (s.dev.lnk.entryOf hdr) 31 = false ∨ 6 ≤ fieldAt (s.dev.lnk.entryOf hdr) 28 3) :
    s.forward hdr payload = s.dropRoute := if_neg <| by
  rw [Bool.and_eq_true, decide_eq_true_eq]
  rintro ⟨valid, port⟩
  exact h.elim (fun e => ne_true_of_eq_false e valid) (Nat.not_le.mpr port)

theorem State.forward_of_route (valid : bitAt (s.dev.lnk.entryOf hdr) 31 = true) (port : fieldAt (s.dev.lnk.entryOf hdr) 28 3 < 6) :
    s.forward hdr payload =
      s.transmit (fieldAt (s.dev.lnk.entryOf hdr) 28 3) (s.dev.lnk.forwardVl hdr) (bumpHops hdr) payload :=
  if_pos (Bool.and_eq_true_iff.mpr ⟨valid, decide_eq_true port⟩)
end Forward

section Drain
variable {s : State} {p : Nat}

/-- The round robin moves credits and the turn alone: whether the port is up stays. -/
theorem Port.robin_up : ∀ {n : Nat} {x y : Port} {vl : Nat}, Port.robin n x = some (vl, y) → y.up = x.up
  | 0, _, _, _, h => nomatch h
  | n + 1, x, y, vl, h => by
    rw [Port.robin] at h
    split at h
    · exact (robin_up (n := n) h).trans rfl
    · split at h
      · cases h
        rfl
      · exact (robin_up (n := n) h).trans rfl

theorem Port.nextVl_up {x y : Port} {vl : Nat} (h : x.nextVl = some (vl, y)) : y.up = x.up := by
  unfold Port.nextVl at h
  split at h
  · cases h
    rfl
  · exact Port.robin_up h

theorem State.drain_of_empty (h : (s.dev.port p).waiting = []) : s.drain p = s := by
  rw [State.drain, h, List.length_nil, State.drainPort]

theorem State.drainPort_of_down (h : (s.dev.port p).up = false) : ∀ n, State.drainPort p n s = s
  | 0 => rfl
  | n + 1 => by
    rw [State.drainPort]
    split
    · rfl
    · rename_i next
      split
      · rfl
      · rw [Port.nextVl_up next, h, Bool.false_and, if_neg Bool.false_ne_true]
end Drain

section Retry
variable {s : State} {p seq : Nat}

theorem findIdx1_eq_none {α : Type} {f : α → Bool} : ∀ {l : List α} {i : Nat}, (∀ x ∈ l, f x = false) → findIdx1 f l i = none
  | [], _, _ => rfl
  | x :: _, _, h =>
    (if_neg (ne_true_of_eq_false (h x List.mem_cons_self))).trans (findIdx1_eq_none fun y hy => h y (List.mem_cons_of_mem x hy))

/-- The place in the replay buffer of the frame that a SEQ names. -/
def Port.placeOf (x : Port) (seq : Nat) : Option (Nat × Nat × List Byte) := findIdx1 (fun (f : Nat × List Byte) => f.1 == seq) x.replay 0

theorem Port.placeOf_eq_none {x : Port} (h : ∀ f ∈ x.replay, f.1 ≠ seq) : x.placeOf seq = none :=
  findIdx1_eq_none fun f hf => beq_false_of_ne (h f hf)

/-- The frames before the i-th are free; NAKs of one frame count on, those of a later one from 1 (10 R315). -/
def Port.nakked (x : Port) (i : Nat) : Port := { x with replay := x.replay.drop i, naks := if i = 0 then x.naks + 1 else 1 }

section Absent
variable (h : (s.dev.port p).placeOf seq = none)
include h

theorem stepLinkAck_of_absent : stepLinkAck p seq s = s := by
  rw [Port.placeOf] at h
  rw [stepLinkAck, h]

theorem stepLinkNak_of_absent : stepLinkNak p seq s =
    if seq = (s.dev.port p).txSeq.toNat then (s.updPort p (fun x => { x with replay := [], naks := 0 })).drain p else s := by
  rw [Port.placeOf] at h
  rw [stepLinkNak, h]
end Absent

section Found
variable {i : Nat} {f : Nat × List Byte} (h : (s.dev.port p).placeOf seq = some (i, f))
include h

theorem stepLinkAck_of_found :
    stepLinkAck p seq s = (s.updPort p (fun x => { x with replay := x.replay.drop (i + 1), naks := 0 })).drain p := by
  rw [Port.placeOf] at h
  rw [stepLinkAck, h]

theorem stepLinkNak_of_found : stepLinkNak p seq s =
    let u := s.updPort p (·.nakked i)
    if 8 ≤ (u.dev.port p).naks then (u.updPort p (fun x => { x with state := if x.state = 4 then 4 else 0 })).startTraining p
    else ((u.updPort p (fun x => { x with retry := wrapInc x.retry (u.dev.port p).replay.length })).each (u.dev.port p).replay
      (fun s f => s.sendRaw p f.2)).drain p := by
  rw [Port.placeOf] at h
  rw [stepLinkNak, h]
  rfl
end Found
end Retry

end Sys2Proof.Machine

open Sys2Proof Sys2Proof.Machine

/-- Settles O41: a received frame meets the checks in their order, ACK and NAK are the two cases of the SEQ's place in the replay
buffer, and a port that is down keeps its frames because the round robin leaves its state. -/
theorem framesAndRetry : Obligations.FramesAndRetry := by
  intro s p seq bytes lanes bad
  rw [exec_frameReceive, exec_linkAck, exec_linkNak]
  refine ⟨fun down => ?_, ?_, fun absent => ?_, ?_, ?_, ?_⟩
  · rw [stepFrameReceive_of_down down]
  · rintro u n crc got hdr payload v up rfl rfl rfl rfl rfl rfl hv
    rw [stepFrameReceive_of_up up]
    refine ⟨?_, ?_, ?_, ?_⟩
    · rintro rfl
      rfl
    · rintro w rfl (crc : frameCrcOk bytes = false) rfl
      simp only [crc, Bool.false_eq_true, if_false]
      rfl
    · rintro rfl (crc : frameCrcOk bytes = true) (late : frameSeq bytes ≠ _)
      simp only [crc, if_true, Bool.false_eq_true, if_false, if_neg late]
      refine ⟨fun discards => ?_, fun expects => ?_⟩
      · rw [if_pos discards]
      · rw [if_neg (ne_true_of_eq_false expects)]
        rfl
    · rintro rfl (crc : frameCrcOk bytes = true) (order : frameSeq bytes = _) ty hops dst slice rfl rfl rfl rfl
      obtain rfl : v = (s.countFec p lanes false).acknowledge p bytes := hv
      simp only [crc, if_true, Bool.false_eq_true, if_false, if_pos order]
      refine ⟨fun reserved => ?_, fun lo hi directed => ?_, fun lo hi table => ?_⟩
      · rw [State.takeFrame_of_reserved reserved, State.dropRoute]
      · rw [State.takeFrame_of_directed lo hi directed]
      · rw [State.takeFrame_of_undirected lo hi table]
        refine ⟨fun far => ?_, fun near other => ?_, fun near here => ?_⟩
        · rw [if_pos far, State.dropRoute]
        · rw [if_neg near, if_neg other]
        · rw [if_neg near, if_pos here]
          exact ⟨fun own => congrArg _ (if_pos own), fun foreign => congrArg _ (if_neg (ne_true_of_eq_false foreign))⟩
  · have absent := Port.placeOf_eq_none absent
    rw [stepLinkAck_of_absent absent, stepLinkNak_of_absent absent]
    exact ⟨rfl, fun other => congrArg _ (if_neg other), fun next => congrArg _ (if_pos next)⟩
  · rintro i f u (found : (s.dev.port p).placeOf seq = some (i, f)) hu
    obtain rfl : u = s.updPort p (·.nakked i) := hu
    rw [stepLinkAck_of_found found, stepLinkNak_of_found found]
    exact ⟨rfl, fun eighth => congrArg _ (if_pos eighth), fun few => congrArg _ (if_neg (Nat.not_le.mpr few))⟩
  · rintro hdr payload e rfl
    refine ⟨fun unrouted => ?_, fun valid port => ⟨s.dev.lnk.forwardVl hdr, Lnk.forwardVl_lt _ _, ?_⟩⟩
    · rw [State.forward_of_no_route unrouted, State.dropRoute]
    · rw [State.forward_of_route valid port]
      rfl
  · rintro (empty | down)
    · exact State.drain_of_empty empty
    · exact State.drainPort_of_down down _
end

section
/-! PROOF. Routes, roles and VL shares: one lemma per case of each write and of the bank switch, and O42 from them (10 R321, R323, R325,
R333; 11 R455). -/

namespace Sys2Proof.Machine

theorem exec_routeWrite (v : W32) (s : State) : exec (.routeWrite v) s = .next (stepRouteWrite v s) := rfl
theorem exec_routeFrame (src : Nat) (entries : List (Nat × W32)) (accept : Option Nat) (role : Option RoleWrite)
    (parent switchTick : Option Nat) (s : State) :
    exec (.routeFrame src entries accept role parent switchTick) s = .next (stepRouteFrame src entries accept role parent switchTick s) :=
  rfl
theorem exec_routeBankSwitch (s : State) : exec .routeBankSwitch s = .next (stepRouteBankSwitch s) := rfl
theorem exec_vlShareWrite (p : Nat) (v : W32) (s : State) : exec (.vlShareWrite p v) s = .next (stepVlShareWrite p v s) := rfl

section RouteWrite
variable {s : State} {v : W32}

/-- The package ID that LNK_ROUTE_WR names. -/
def routeId (v : W32) : Nat := fieldAt v.toNat 0 12

/-- The entry that LNK_ROUTE_WR spells: VALID and the port (10 Table 10-8). -/
def routeEntry (v : W32) : W32 := BitVec.ofNat 32 (fieldAt v.toNat 27 1 * 2 ^ 31 + fieldAt v.toNat 28 3 * 2 ^ 28)

/-- LNK_ROUTE_WR holds its fields (10 R323). -/
def State.holdRoute (s : State) (v : W32) : State :=
  s.updLnk (fun l => { l with rwPort := BitVec.ofNat 3 (fieldAt v.toNat 28 3), rwValid := v.getLsbD 27, rwId := BitVec.ofNat 12 (routeId v) })

theorem stepRouteWrite_of_no_go (h : v.getLsbD 31 = false) : stepRouteWrite v s = s.holdRoute v := if_pos (by rw [h, Bool.not_false])

theorem stepRouteWrite_of_go (h : v.getLsbD 31 = true) : stepRouteWrite v s =
    if routeId v ∈ s.dev.lnk.headIds then (s.holdRoute v).updLnk (fun l => { l with wrRefused := true })
    else (s.holdRoute v).updLnk (fun l => { l with
      bank0 := Sparse.set (fun _ => 0) l.bank0 (routeId v) (routeEntry v), bank1 := Sparse.set (fun _ => 0) l.bank1 (routeId v) (routeEntry v),
      pf0Ids := if routeId v ∈ l.pf0Ids then l.pf0Ids else l.pf0Ids ++ [routeId v] }) := by
  refine (if_neg (by rw [h]; exact Bool.false_ne_true)).trans ?_
  simp only [List.contains_iff_mem]
  rfl
end RouteWrite

section RouteFrame
variable {s : State} {src : Nat} {entries : List (Nat × W32)} {accept : Option Nat} {role : Option RoleWrite}
  {parent switchTick : Option Nat}

theorem Dev.fromHead_iff {d : Dev} : d.fromHead src = true ↔ d.role.assigned = true ∧ d.role.head = some src := by
  rw [Dev.fromHead, Bool.and_eq_true, beq_iff_eq]

/-- What a ROUTE frame orders is held until the bank switch; a package retired as a whole holds no place in a slice (10 R321, R325;
11 R455). -/
def State.holdFrame (s : State) (src : Nat) (entries : List (Nat × W32)) (accept : Option Nat) (role : Option RoleWrite)
    (parent switchTick : Option Nat) : State :=
  let took := role.filter (fun w => !w.assigned || !s.dev.chk.isRetired 0 0)
  ((s.writeIdle (entries.filter (fun e => decide (e.1 < 4096)))).updRole (fun r =>
    { r with roleDue := if took.isSome then took else r.roleDue, headDue := if took.isSome then some src else r.headDue,
             acceptDue := if accept.isSome then accept else r.acceptDue, parentDue := if parent.isSome then parent else r.parentDue })).updLnk
      (fun l => { l with switchTick := if switchTick.isSome then switchTick else l.switchTick })

theorem stepRouteFrame_of_stranger (assigned : s.dev.role.assigned = true) (h : s.dev.role.head ≠ some src) :
    stepRouteFrame src entries accept role parent switchTick s = s := if_pos <| by
  have stranger : s.dev.fromHead src = false := Bool.eq_false_iff.mpr fun e => h (Dev.fromHead_iff.mp e).2
  rw [assigned, stranger]
  rfl

theorem stepRouteFrame_of_admitted (h : s.dev.role.assigned = false ∨ s.dev.role.head = some src) :
    stepRouteFrame src entries accept role parent switchTick s = s.holdFrame src entries accept role parent switchTick := if_neg <| by
  rw [Bool.and_eq_true, Bool.not_eq_true']
  rintro ⟨assigned, stranger⟩
  rcases h with free | head
  · exact ne_true_of_eq_false free assigned
  · exact ne_true_of_eq_false stranger (Dev.fromHead_iff.mpr ⟨assigned, head⟩)
end RouteFrame

section BankSwitch
variable {s : State}

theorem stepRouteBankSwitch_of_none (h : s.dev.lnk.switchTick = none) : stepRouteBankSwitch s = s := by rw [stepRouteBankSwitch, h]

theorem stepRouteBankSwitch_of_some {t : Nat} (h : s.dev.lnk.switchTick = some t) : stepRouteBankSwitch s =
    if t ≤ s.tick then (s.updLnk (fun l => { l with bank := !l.bank, switchTick := none })).switchRole else s := by
  rw [stepRouteBankSwitch, h]
end BankSwitch

section Shares
variable {s : State} {p : Nat} {v : W32}

/-- The seven shares that VLSHARE0, as held, and a write of VLSHARE1 spell (10 Table 10-13). -/
def Port.sharesWith (x : Port) (v : W32) : List Nat :=
  (List.range 4).map (fun i => fieldAt x.held0.toNat (8 * i) 8) ++ (List.range 3).map (fun i => fieldAt v.toNat (8 * i) 8)

theorem stepVlShareWrite_eq : stepVlShareWrite p v s =
    if (∀ n ∈ (s.dev.port p).sharesWith v, 1 ≤ n) ∧ ((s.dev.port p).sharesWith v).sum = 100 then
      s.updPort p (fun x => { x with sharesDue := some ((s.dev.port p).sharesWith v) })
    else (s.updPort p (fun x => { x with held0 := packShares (x.shares.take 4) })).updLnk (fun k => { k with shareRefused := true }) := by
  simp only [stepVlShareWrite, Bool.and_eq_true, List.all_eq_true, decide_eq_true_eq, beq_iff_eq]
  rfl
end Shares

end Sys2Proof.Machine

open Sys2Proof Sys2Proof.Machine

/-- Settles O42: GO and the owner of the ID part a route's write, the sender a ROUTE frame, the ordered tick the bank switch, and the
seven shares' own checks their write. -/
theorem routesAndShares : Obligations.RoutesAndShares := by
  intro s p src id v e entries accept role parent switchTick
  simp only [exec_routeWrite, exec_routeFrame, exec_routeBankSwitch, exec_vlShareWrite]
  refine ⟨?_, fun assigned stranger => ?_, fun took admitted htook => ?_, fun unordered => ?_, fun t ordered => ?_, ?_⟩
  · rintro u rfl rfl hu
    obtain rfl : u = s.holdRoute v := hu
    refine ⟨fun holds => ?_, fun go => ?_, fun go => ?_⟩
    · rw [stepRouteWrite_of_no_go holds]
    all_goals rw [stepRouteWrite_of_go go]
    · exact fun owned => congrArg _ (if_pos owned)
    · exact fun free => congrArg _ (if_neg free)
  · rw [stepRouteFrame_of_stranger assigned stranger]
  · rw [stepRouteFrame_of_admitted admitted, htook, State.holdFrame]
  · rw [stepRouteBankSwitch_of_none unordered]
  · rw [stepRouteBankSwitch_of_some ordered]
    exact ⟨fun early => congrArg _ (if_neg (Nat.not_le.mpr early)), fun due => congrArg _ (if_pos due)⟩
  · intro l hl
    obtain rfl : l = (s.dev.port p).sharesWith v := hl
    rw [stepVlShareWrite_eq]
    refine ⟨fun pos sum => congrArg _ (if_pos ⟨pos, sum⟩), fun wrong => congrArg _ (if_neg ?_)⟩
    rintro ⟨pos, sum⟩
    rcases wrong with ⟨n, mem, zero⟩ | other
    · exact absurd (pos n mem) (by omega)
    · exact other sum
end

section
/-! PROOF. The end of a function's BARs: which accesses fault there, and O14 from them (12 R370, R371). -/

namespace Sys2Proof.Machine

theorem exec_commandSlotWrite_of_outside {f off : Nat} {data : List Byte} {s : State} (h : 4194304 < off + data.length) :
    exec (.commandSlotWrite f off data) s = .fault .outsideBar := if_pos h

end Sys2Proof.Machine

open Sys2Proof Sys2Proof.Machine

/-- Settles O14: each access faults past its BAR's end and takes its step before it; a read of BAR2 then answers by whether the
function does. -/
theorem slotWriteOutsideWindowFaults : Obligations.SlotWriteOutsideWindowFaults := by
  intro s f off data
  refine ⟨exec_commandSlotWrite_of_outside, fun inside => ⟨_, exec_commandSlotWrite_of_inside inside⟩, exec_registerWrite_of_outside,
    fun inside => ⟨_, exec_registerWrite_of_inside inside⟩, fun _ => exec_lowWordRead_of_outside (slots := false),
    fun _ inside => ⟨_, exec_lowWordRead_of_inside (slots := false) inside⟩, fun _ => exec_lowWordRead_of_outside (slots := true),
    fun n inside up => ?_, fun n inside down => ?_⟩
  · rw [exec_lowWordRead_of_inside (slots := true) inside, stepLowWordRead_slots up]
  · rw [exec_lowWordRead_of_inside (slots := true) inside, stepLowWordRead_of_barDown true down]
end

section
/-! PROOF. MSI-X messages, the event ring and what the host's odd requests do, and O13 from them (12 R372, R373, R375, R377; 14
R415). -/

namespace Sys2Proof.Machine

theorem exec_msixUnmask (f e : Nat) (s : State) : exec (.msixUnmask f e) s = .next (stepMsixUnmask f e s) := rfl
theorem exec_eventRingEnable (s : State) : exec .eventRingEnable s = .next (stepEventRingEnable s) := rfl
theorem exec_eventRingConsWrite (cons : W32) (s : State) : exec (.eventRingConsWrite cons) s = .next (stepEventRingConsWrite cons s) := rfl
theorem exec_lateCompletion (s : State) : exec .lateCompletion s = .next (stepLateCompletion s) := rfl
theorem exec_atomicOp (f bar : Nat) (s : State) : exec (.atomicOp f bar) s = .next (stepAtomicOp f bar s) := rfl
theorem exec_configRequestRetry (f : Nat) (s : State) : exec (.configRequestRetry f) s = .next (stepConfigRequestRetry f s) := rfl

/-- An update of the controller matters only by what it makes of the registers that stand. -/
theorem State.updPcie_congr {s : State} {g h : Pcie → Pcie} (e : g s.dev.pcie = h s.dev.pcie) : s.updPcie g = s.updPcie h := by
  simp only [State.updPcie, e]

section Msix
variable {s : State} {f e : Nat}

theorem stepMsixUnmask_of_none_pending (h : (s.dev.msix f e).pending = false) :
    stepMsixUnmask f e s = s.updMsix f e (fun m => { m with masked := false }) := if_neg (by simp [h])

/-- The pending message leaves as the entry's mask clears (12 R373). -/
theorem stepMsixUnmask_of_pending (pending : (s.dev.msix f e).pending = true) (writes : s.dev.canWrite f = true)
    (unmasked : (s.dev.fnCfg f).fnMask = false) : stepMsixUnmask f e s =
      (s.updMsix f e (fun m => { m with masked := false, pending := false })).emit
        (.msix f e (s.dev.msix f e).addr (s.dev.msix f e).data) := if_pos (by simp [pending, writes, unmasked])
end Msix

section EventRing
variable {s : State} {cons : W32}

/-- EVT_CFG with EN = 1 and the ring's own VECTOR and SIZE; LOST is not written (12 R377). -/
def Pcie.enableWord (p : Pcie) : W32 := BitVec.ofNat 32 (2 ^ 31 + 256 * p.evtVector.toNat + p.evtSize.toNat)

theorem Pcie.enableWord_toNat (p : Pcie) : p.enableWord.toNat = 2 ^ 31 + 256 * p.evtVector.toNat + p.evtSize.toNat := by
  have vector := p.evtVector.isLt
  have size := p.evtSize.isLt
  rw [Pcie.enableWord, BitVec.toNat_ofNat]
  omega

theorem Pcie.enableWord_en (p : Pcie) : p.enableWord.getLsbD 31 = true := by
  have vector := p.evtVector.isLt
  have size := p.evtSize.isLt
  rw [BitVec.getLsbD, p.enableWord_toNat, Nat.testBit_eq_decide_div_mod_eq, decide_eq_true_eq]
  omega

theorem Pcie.enableWord_lost (p : Pcie) : p.enableWord.getLsbD 30 = false := by
  have vector := p.evtVector.isLt
  have size := p.evtSize.isLt
  rw [BitVec.getLsbD, p.enableWord_toNat, Nat.testBit_eq_decide_div_mod_eq, decide_eq_false_iff_not]
  omega

theorem Pcie.enableWord_vector (p : Pcie) : BitVec.ofNat 6 (fieldAt p.enableWord.toNat 8 6) = p.evtVector := by
  have size := p.evtSize.isLt
  refine BitVec.eq_of_toNat_eq ?_
  rw [BitVec.toNat_ofNat, fieldAt, p.enableWord_toNat, Nat.shiftRight_eq_div_pow]
  omega

theorem Pcie.enableWord_size (p : Pcie) : fieldAt p.enableWord.toNat 0 5 = p.evtSize.toNat := by
  have size := p.evtSize.isLt
  rw [fieldAt, p.enableWord_toNat, Nat.shiftRight_zero]
  omega

/-- A W1C flag that no 1 is written to stays as it is, whenever hardware has set it (00 R18). -/
theorem w1c_of_unwritten (flag before : Bool) : w1c flag false (hwSet flag before) = flag := by
  cases flag <;> cases before <;> decide

/-- Software's EN = 1 keeps LOST, VECTOR and SIZE, and starts PROD and CONS of a disabled event ring (12 R377). -/
theorem stepEventRingEnable_of_disabled (off : s.dev.pcie.evtEn = false) :
    stepEventRingEnable s = s.updPcie (fun p => { p with evtEn := true, evtProd := 0, evtCons := 0 }) := by
  have written : stepEventRingEnable s = s.writeEvtCfg s.dev.pcie.enableWord := rfl
  rw [written]
  refine State.updPcie_congr ?_
  simp only [Pcie.enableWord_en, Pcie.enableWord_lost, Pcie.enableWord_vector, Pcie.enableWord_size, w1c_of_unwritten, off, Bool.not_false,
    Bool.and_self, if_true, setField, BitVec.ofNat_toNat, BitVec.setWidth_eq, ite_self]

theorem stepEventRingConsWrite_of_past (h : (s.dev.pcie.evtProd - s.dev.pcie.evtCons).toNat < (cons - s.dev.pcie.evtCons).toNat) :
    stepEventRingConsWrite cons s = s := if_pos h

theorem stepEventRingConsWrite_of_inside (h : (cons - s.dev.pcie.evtCons).toNat ≤ (s.dev.pcie.evtProd - s.dev.pcie.evtCons).toNat) :
    stepEventRingConsWrite cons s = s.updPcie (fun p => { p with evtCons := cons }) := if_neg (Nat.not_lt.mpr h)
end EventRing

section Requests
variable {s : State}

/-- A poisoned write ends no read, whatever channel it names (12 R372). -/
theorem stepPoisonedTlp_of_write (ch : Option Nat) :
    stepPoisonedTlp true ch s = s.updPcie (fun p => { p with poisonRx := p.poisonRx + 1 }) := by
  cases ch with
  | none => rfl
  | some c => rfl

theorem stepConfigRequestRetry_of_out_of_reset (perst : s.dev.rst.perstLow = false) (furl : s.dev.rst.furl = false) (f : Nat) :
    stepConfigRequestRetry f s = s.emit (.configDone f (decide (s.dev.rst.step.toNat ≤ 7))) := if_neg (by simp [perst, furl])
end Requests

end Sys2Proof.Machine

open Sys2Proof Sys2Proof.Machine

/-- Settles O13: each command is its step's case; the word that enables the event ring spells the fields that stand. -/
theorem hostMessagesAndEvents : Obligations.HostMessagesAndEvents := by
  intro s f e bar cons
  rw [exec_msixUnmask, exec_eventRingEnable, exec_eventRingConsWrite, exec_lateCompletion, exec_atomicOp, exec_configRequestRetry]
  refine ⟨fun idle => ?_, fun pending writes unmasked => ?_, fun off _ _ => ?_, fun past => ?_, fun inside => ?_, rfl, fun ch => ?_, rfl,
    fun perst furl => ?_⟩
  · rw [stepMsixUnmask_of_none_pending idle]
  · rw [stepMsixUnmask_of_pending pending writes unmasked]
  · rw [stepEventRingEnable_of_disabled off]
  · rw [stepEventRingConsWrite_of_past past]
  · rw [stepEventRingConsWrite_of_inside inside]
  · rw [exec_poisonedTlp, stepPoisonedTlp_of_write]
  · rw [stepConfigRequestRetry_of_out_of_reset perst furl]
end

section
/-! PROOF. PTM dialogs, answered and missed, and O10 from them (12 R378, R379, Table 12-7). -/

namespace Sys2Proof.Machine

theorem exec_ptmDialog (masterNs : Option Nat) (s : State) : exec (.ptmDialog masterNs) s = .next (stepPtmDialog masterNs s) := rfl

/-- An update of TIME matters only by what it makes of the registers that stand. -/
theorem State.updTime_congr {s : State} {g h : Time → Time} (e : g s.dev.time = h s.dev.time) : s.updTime g = s.updTime h := by
  simp only [State.updTime, e]

section Missed
variable {s : State}

theorem stepPtmDialog_of_fourth_miss (h : 3 ≤ s.dev.time.ptmMisses) : stepPtmDialog none s =
    s.updTime (fun t => { t with ptmMisses := t.ptmMisses + 1, ptmValid := false, ptmFail := true }) := by
  unfold stepPtmDialog
  exact State.updTime_congr (if_pos (Nat.succ_le_succ h))

theorem stepPtmDialog_of_earlier_miss (h : s.dev.time.ptmMisses < 3) : stepPtmDialog none s =
    s.updTime (fun t => { t with ptmMisses := t.ptmMisses + 1 }) := by
  unfold stepPtmDialog
  exact State.updTime_congr (if_neg (Nat.not_le.mpr (Nat.succ_lt_succ h)))
end Missed

end Sys2Proof.Machine

open Sys2Proof Sys2Proof.Machine

/-- Settles O10: an answer restarts the count of misses, and the count before a miss tells whether it is the fourth. -/
theorem ptmDialogs : Obligations.PtmDialogs := by
  intro s r
  simp only [exec_ptmDialog]
  refine ⟨rfl, fun many => ?_, fun few => ?_⟩
  · rw [stepPtmDialog_of_fourth_miss many]
  · rw [stepPtmDialog_of_earlier_miss few]
end

section
/-! PROOF. Resets: the reach of a warm and of a cold source by the state that it meets, one lemma per case of each source, and O56 from
them (12 R380; 14 R405 to R408, R411, R413, R421; 15 R438, R439). -/

namespace Sys2Proof.Machine

theorem exec_powerOnReset (s : State) : exec .powerOnReset s = .next (stepPowerOnReset s) := rfl
theorem exec_auxBrownout (s : State) : exec .auxBrownout s = .next (stepAuxBrownout s) := rfl
theorem exec_coldReset (hot : Int) (s : State) : exec (.coldReset hot) s = .next (stepColdReset hot s) := rfl
theorem exec_thermalTripRestart (hot : Int) (s : State) : exec (.thermalTripRestart hot) s = .next (stepThermalTripRestart hot s) := rfl
theorem exec_warmReset (s : State) : exec .warmReset s = .next (s.warmFrom 3) := rfl
theorem exec_rstCtrlWarm (v : Nat) (s : State) : exec (.rstCtrlWarm v) s = .next (stepRstCtrlWarm v s) := rfl
theorem exec_pcieHotReset (s : State) : exec .pcieHotReset s = .next (s.warmFrom 6) := rfl
theorem exec_perst (low : Bool) (s : State) : exec (.perst low) s = .next (stepPerst low s) := rfl
theorem exec_deviceWatchdogBite (s : State) : exec .deviceWatchdogBite s = .next (stepDeviceWatchdogBite s) := rfl
theorem exec_watchdogKick (s : State) : exec .watchdogKick s = .next (stepWatchdogKick s) := rfl
theorem exec_pllLossOfLock (dom : PllDomain) (s : State) : exec (.pllLossOfLock dom) s = .next (stepPllLossOfLock dom s) := rfl
theorem exec_referenceFailure (s : State) : exec .referenceFailure s = .next (stepReferenceFailure s) := rfl
theorem exec_vbakLoss (s : State) : exec .vbakLoss s = .next (stepVbakLoss s) := rfl
theorem exec_resetCountClear (s : State) : exec .resetCountClear s = .next (stepResetCountClear s) := rfl

/-- The causes after a source restarts a sequence: its own, beside those of a sequence that it interrupts (14 R408). -/
def Rst.causeWith (r : Rst) (interrupts : Bool) (n : Nat) : BitVec 10 := (if interrupts then r.cause else 0) ||| BitVec.ofNat 10 (2 ^ n)

theorem Rst.causeWith_of_first {r : Rst} {interrupts : Bool} {n : Nat} (h : interrupts = false) :
    r.causeWith interrupts n = BitVec.ofNat 10 (2 ^ n) := by
  simp [Rst.causeWith, h]

/-- The state after a warm restart, before its release replaces the snapshot (14 R406, R407). -/
def State.warmed (s : State) (n : Nat) : State :=
  ((s.updCn (fun c => c.count n)).upd (fun d => d.warm (s.dev.rst.causeWith s.dev.rst.running n))).dropHold

section Warm
variable {s : State} {n : Nat}

/-- In FURL or without AUX a source of warm reach counts and does no more (14 R405). -/
theorem State.warmFrom_of_unheard (h : s.dev.rst.furl = true ∨ s.dev.cn.auxOk = false) : s.warmFrom n = s.updCn (fun c => c.count n) :=
  if_pos (by rcases h with h | h <;> simp [Cn.count, h])

section Heard
variable (furl : s.dev.rst.furl = false) (aux : s.dev.cn.auxOk = true)
include furl aux

/-- In reset-hold and in a wider sequence a source of warm reach counts and sets its cause (14 R408, R419). -/
theorem State.warmFrom_of_wider (h : s.dev.cn.holdCode ≠ 0 ∨ (s.dev.rst.running = true ∧ s.dev.rst.warmSeq = false)) :
    s.warmFrom n = (s.updCn (fun c => c.count n)).updRst (fun r => { r with cause := r.cause ||| BitVec.ofNat 10 (2 ^ n) }) :=
  (if_neg (by simp [Cn.count, furl, aux])).trans
    (if_pos (by simp only [Bool.or_eq_true, decide_eq_true_eq, Bool.and_eq_true, Bool.not_eq_true']; exact h))

/-- Else a source of warm reach restarts the package, and only the snapshot may differ by PERST# (01 R39; 14 R406, R407). -/
theorem State.warmFrom_of_restart (hold : s.dev.cn.holdCode = 0) (h : s.dev.rst.running = false ∨ s.dev.rst.warmSeq = true) :
    ∃ snap, s.warmFrom n = { s.warmed n with snap } := by
  have restarts : s.warmFrom n = if (s.warmed n).dev.rst.perstLow then s.warmed n else (s.warmed n).release :=
    (if_neg (by simp [Cn.count, furl, aux])).trans (if_neg (by rcases h with h | h <;> simp [Cn.count, hold, h]))
  rw [restarts]
  split
  · exact ⟨_, rfl⟩
  · exact ⟨_, rfl⟩
end Heard
end Warm

section Cold
variable {s : State} {n : Nat}

theorem State.coldFrom_of_no_aux (h : s.dev.cn.auxOk = false) : s.coldFrom n = s := if_pos (by simp [h])

/-- The state after a cold restart: the snapshot is the restarted device under tag 0 (01 R39; 14 R405). -/
def State.cooled (s : State) (n : Nat) : State :=
  let d := (s.updCn (fun c => c.count n)).dev.cold (s.dev.rst.causeWith (s.dev.rst.running && !s.dev.rst.furl) n)
  ({ s with dev := d, snap := d, snapTick := 0 }).dropHold

variable (aux : s.dev.cn.auxOk = true)
include aux

/-- With the reference gone a source of cold reach counts and sets its cause (14 R413). -/
theorem State.coldFrom_of_no_reference (h : s.dev.cn.onOsc = true) : s.coldFrom n =
    (s.updCn (fun c => c.count n)).updRst (fun r =>
      { r with cause := s.dev.rst.causeWith (s.dev.rst.running && !s.dev.rst.furl) n }) :=
  (if_neg (by simp [aux])).trans (if_pos h)

theorem State.coldFrom_of_restart (h : s.dev.cn.onOsc = false) : s.coldFrom n = s.cooled n :=
  (if_neg (by simp [aux])).trans (if_neg (ne_true_of_eq_false h))
end Cold

/-- A reset keeps the key slots (13 R401; 14 R405). -/
theorem Nv.atReset_keys (v : Nv) (x : Sec) : (v.atReset x).keys = v.keys := by
  unfold Nv.atReset
  split
  · rfl
  · rfl

section Sources
variable {s : State} {hot : Int} {dom : PllDomain} {v : Nat}

theorem stepRstCtrlWarm_of_key (h : v % 256 = 0x5A) : stepRstCtrlWarm v s = s.warmFrom 4 := if_pos h
theorem stepRstCtrlWarm_of_other (h : v % 256 ≠ 0x5A) : stepRstCtrlWarm v s = s := if_neg h

theorem stepColdReset_of_no_trip (h : s.dev.cn.tripped = false) : stepColdReset hot s = s.coldFrom 1 := if_neg (ne_true_of_eq_false h)
theorem stepColdReset_of_hot (h : s.dev.cn.tripped = true) (ht : 1360 ≤ hot) : stepColdReset hot s = s := (if_pos h).trans (if_pos ht)
theorem stepColdReset_of_cool (h : s.dev.cn.tripped = true) (ht : hot < 1360) :
    stepColdReset hot s = (s.updCn (fun c => { c with tripped := false, tripCmp := false })).coldFrom 2 :=
  (if_pos h).trans (if_neg (Int.not_le.mpr ht))

theorem stepThermalTripRestart_of_no_trip (h : s.dev.cn.tripped = false) : stepThermalTripRestart hot s = s :=
  if_neg (ne_true_of_eq_false h)
theorem stepThermalTripRestart_of_trip (h : s.dev.cn.tripped = true) : stepThermalTripRestart hot s = stepColdReset hot s := if_pos h

theorem stepPllLossOfLock_of_unlocked (h : s.dev.rst.locked.getLsbD (pllBit dom) = false) : stepPllLossOfLock dom s = s :=
  if_neg (ne_true_of_eq_false h)
theorem stepPllLossOfLock_of_mem {m : Nat} (h : s.dev.rst.locked.getLsbD (pllBit (.mem m)) = true) :
    stepPllLossOfLock (.mem m) s = s.coldFrom 8 := if_pos h
theorem stepPllLossOfLock_of_not_mem (other : ∀ m, dom ≠ .mem m) (h : s.dev.rst.locked.getLsbD (pllBit dom) = true) :
    stepPllLossOfLock dom s = s.warmFrom 8 := by
  refine (if_pos h).trans ?_
  split
  next m => exact absurd rfl (other m)
  next => rfl

theorem stepPerst_of_level : stepPerst s.dev.rst.perstLow s = s := if_pos (beq_self_eq_true _)

/-- PERST# going low: a warm source, and the controller and PTM start afresh (12 R379, R380; 14 R405). -/
theorem stepPerst_of_falling (h : s.dev.rst.perstLow = false) : stepPerst true s =
    (((s.updRst (fun r => { r with perstLow := true })).warmFrom 5).updPcie Pcie.restart).updTime Time.ptmReset :=
  (if_neg (by simp [h])).trans (if_pos rfl)

/-- PERST# going high lets a held warm sequence go on (01 R39; 14 R414). -/
theorem stepPerst_of_rising {t : State} (h : s.dev.rst.perstLow = true) (ht : t = s.updRst (fun r => { r with perstLow := false })) :
    stepPerst false s = if t.dev.rst.running = true ∧ t.dev.rst.warmSeq = true then t.release else t := by
  subst ht
  refine (if_neg (by simp [h])).trans ((if_neg Bool.false_ne_true).trans ?_)
  simp only [Bool.and_eq_true]

theorem stepDeviceWatchdogBite_of_running (h : s.dev.rst.wdogRuns = true) :
    stepDeviceWatchdogBite s = (s.updRst (fun r => { r with biteLimit := s.dev.rst.limit.toNat })).warmFrom 7 := if_pos h
theorem stepDeviceWatchdogBite_of_stopped (h : s.dev.rst.wdogRuns = false) : stepDeviceWatchdogBite s = s :=
  if_neg (ne_true_of_eq_false h)
theorem stepWatchdogKick_of_running (h : s.dev.rst.wdogRuns = true) :
    stepWatchdogKick s = s.updRst (fun r => { r with kicks := r.kicks + 1 }) := if_pos h
theorem stepWatchdogKick_of_stopped (h : s.dev.rst.wdogRuns = false) : stepWatchdogKick s = s := if_neg (ne_true_of_eq_false h)

theorem stepReferenceFailure_of_aux (h : s.dev.cn.auxOk = true) :
    stepReferenceFailure s = (s.updCn (fun c => { c with onOsc := true })).resetHold 0x01 0 := if_pos h
theorem stepReferenceFailure_of_no_aux (h : s.dev.cn.auxOk = false) : stepReferenceFailure s = s := if_neg (ne_true_of_eq_false h)

theorem stepResetCountClear_of_allowed (h : s.dev.nv.lc = .field ∨ s.dev.nv.lc = .service) :
    stepResetCountClear s = s.updCn (fun c => { c with counts := [] }) := if_pos (by simpa using h)
theorem stepResetCountClear_of_denied (field : s.dev.nv.lc ≠ .field) (service : s.dev.nv.lc ≠ .service) : stepResetCountClear s = s :=
  if_neg (by simp [field, service])
end Sources

end Sys2Proof.Machine

open Sys2Proof Sys2Proof.Machine

/-- Settles O56: a source is warm or cold by its step's case, and its reach is that of `warmFrom` or `coldFrom` in the state it meets. -/
theorem resetReach : Obligations.ResetReach := by
  intro s v n hot dom
  simp only [exec_rstCtrlWarm, exec_coldReset, exec_thermalTripRestart, exec_pllLossOfLock, exec_perst, exec_deviceWatchdogBite,
    exec_watchdogKick, exec_referenceFailure, exec_resetCountClear, exec_powerOnReset, exec_auxBrownout]
  refine ⟨⟨exec_warmReset s, exec_pcieHotReset s, fun key => ?_, fun other => ?_⟩, State.warmFrom_of_unheard, State.warmFrom_of_wider,
    ?_, State.coldFrom_of_no_aux, fun aux gone => ⟨_, State.coldFrom_of_no_reference aux gone⟩, ?_, fun cold => ?_,
    fun trip => ⟨fun warm => ?_, ?_⟩, ?_, fun other locked => ?_, fun lost => ?_, ?_, fun high => ?_,
    fun t low ht => ⟨fun running warm => ?_, fun idle => ?_⟩, fun runs => ?_, fun stopped => ?_, fun aux => ?_, fun dead => ?_,
    exec_vbakLoss s, fun allowed => ?_, fun field service => ?_, ?_, ?_⟩
  · rw [stepRstCtrlWarm_of_key key]
  · rw [stepRstCtrlWarm_of_other other]
  · rintro t rfl furl aux hold idle
    obtain ⟨snap, restarted⟩ := State.warmFrom_of_restart (n := n) furl aux hold idle
    rw [restarted]
    exact ⟨rfl, rfl, rfl, rfl, Rst.causeWith_of_first, rfl, rfl, rfl, rfl, rfl, rfl, rfl, rfl, rfl, rfl, rfl, rfl, rfl, rfl, rfl, rfl, rfl⟩
  · rintro t rfl aux reference
    rw [State.coldFrom_of_restart aux reference]
    exact ⟨rfl, rfl, rfl, rfl, rfl, rfl, rfl, rfl, rfl, rfl, rfl, rfl, Nv.atReset_keys .., rfl, rfl, rfl, rfl, rfl, rfl, rfl⟩
  · rw [stepColdReset_of_no_trip cold, stepThermalTripRestart_of_no_trip cold]
    exact ⟨rfl, rfl⟩
  · rw [stepThermalTripRestart_of_trip trip, stepColdReset_of_hot trip warm]
    exact ⟨rfl, rfl⟩
  · rintro cool t rfl
    rw [stepThermalTripRestart_of_trip trip, stepColdReset_of_cool trip cool]
    exact ⟨rfl, rfl⟩
  · rintro m rfl locked
    rw [stepPllLossOfLock_of_mem locked]
  · rw [stepPllLossOfLock_of_not_mem other locked]
  · rw [stepPllLossOfLock_of_unlocked lost]
  · rw [stepPerst_of_level]
  · rw [stepPerst_of_falling high]
    rfl
  · rw [stepPerst_of_rising low ht, if_pos ⟨running, warm⟩]
  · rw [stepPerst_of_rising low ht, if_neg]
    rintro ⟨running, warm⟩
    rcases idle with idle | idle
    · exact ne_true_of_eq_false idle running
    · exact ne_true_of_eq_false idle warm
  · rw [stepDeviceWatchdogBite_of_running runs, stepWatchdogKick_of_running runs]
    exact ⟨rfl, rfl⟩
  · rw [stepDeviceWatchdogBite_of_stopped stopped, stepWatchdogKick_of_stopped stopped]
    exact ⟨rfl, rfl⟩
  · rw [stepReferenceFailure_of_aux aux]
  · rw [stepReferenceFailure_of_no_aux dead]
  · rw [stepResetCountClear_of_allowed allowed]
  · rw [stepResetCountClear_of_denied field service]
  · rintro d rfl
    rfl
  · rintro d rfl
    rfl
end

section
/-! PROOF. Publisher keys, the challenge, firmware updates and the attestation key: one lemma per case of each step, and O54 from them (13
R386, R388, R390, R391, R398, R400). -/

namespace Sys2Proof.Machine

theorem exec_keyEnrol (slot : Nat) (s : State) : exec (.keyEnrol slot) s = .next (s.keyGo false slot) := rfl
theorem exec_keyRevoke (slot : Nat) (s : State) : exec (.keyRevoke slot) s = .next (s.keyGo true slot) := rfl
theorem exec_lcChallenge (s : State) : exec .lcChallenge s = .next (stepLcChallenge s) := rfl
theorem exec_fwUpdate (bundle : Option (List (List Byte))) (cut : Bool) (s : State) :
    exec (.fwUpdate bundle cut) s = .next (stepFwUpdate bundle cut s) := rfl
theorem exec_commitSvn (s : State) : exec .commitSvn s = .next (stepCommitSvn s) := rfl
theorem exec_attestationKeyGeneration (s : State) : exec .attestationKeyGeneration s = .next (stepAttestationKeyGeneration s) := rfl

section Keys
variable {s : State} {op : Bool × Nat × List Byte}

theorem State.keyOperation_of_refused {r : Nat} (h : s.dev.nv.keyRefusal op.1 op.2.1 op.2.2 = some r) :
    s.keyOperation op = s.updSec (fun x => { x with keyRefused := true, keyReason := BitVec.ofNat 3 r }) := by
  rw [State.keyOperation, h]

variable (h : s.dev.nv.keyRefusal op.1 op.2.1 op.2.2 = none)
include h

theorem State.keyOperation_of_enrol (enrol : op.1 = false) :
    s.keyOperation op = s.updNv (fun n => { n with keys := Sparse.set KeySlot.reset n.keys op.2.1 ⟨1, op.2.2⟩ }) := by
  rw [State.keyOperation, h, enrol]
  rfl

/-- A revoked slot keeps its key, and what runs under that key ends (13 R386, R387). -/
theorem State.keyOperation_of_revoke (revoke : op.1 = true) : s.keyOperation op =
    (s.updNv (fun n => { n with keys := Sparse.set KeySlot.reset n.keys op.2.1 ⟨2, (s.dev.nv.key op.2.1).key⟩ })).endUnderKey
      (sha256 (s.dev.nv.key op.2.1).key) := by
  rw [State.keyOperation, h, revoke]
  rfl
end Keys

section Update
variable {s : State} {bundle : Option (List (List Byte))} {cut : Bool} {l : List (List Byte)}

/-- No update starts in RETIRED or while one runs (13 R391, Table 13-4). -/
theorem stepFwUpdate_of_barred (h : s.dev.nv.lc = .retired ∨ s.dev.sec.fwBusy = true) : stepFwUpdate bundle cut s = s :=
  if_pos (by simpa using h)

/-- A bundle passes only with its three images (13 R389). -/
theorem Nv.bundleOk_of_length_ne {n : Nv} (h : l.length ≠ 3) : n.bundleOk l = false := by simp [Nv.bundleOk, h]

/-- The copy not in use takes the bundle (13 R391). -/
theorem Ws.setFw_inactive (w : Ws) (b : Bool) (c : FwCopy) : w.setFw (!b) c = if b then { w with fwA := c } else { w with fwB := c } := by
  cases b <;> rfl

variable (lc : s.dev.nv.lc ≠ .retired) (idle : s.dev.sec.fwBusy = false)
include lc idle

theorem stepFwUpdate_of_cut : stepFwUpdate bundle true s =
    (s.updWs (fun w => w.setFw (!s.dev.nv.fwB) .empty)).updNv (fun n => { n with fwPending := false }) :=
  if_neg (by simp [lc, idle])

theorem stepFwUpdate_of_unread : stepFwUpdate none false s = s.updSec (fun x => { x with fwErr := true }) :=
  if_neg (by simp [lc, idle])

theorem stepFwUpdate_of_read : stepFwUpdate (some l) false s =
    if s.dev.nv.bundleOk l then
      (s.updWs (fun w => w.setFw (!s.dev.nv.fwB) (.bundle l))).updNv (fun n => { n with fwPending := true })
    else s.updSec (fun x => { x with fwErr := true }) :=
  if_neg (by simp [lc, idle])
end Update

section Versions
variable {s : State}

/-- The security versions after COMMIT_SVN: the larger of NV's and the running image's, kind by kind (13 R391). -/
def committedSvn (svn : List Nat) (run : List (Nat × List Byte)) : List Nat :=
  (svn.zipIdx).map (fun e => max e.1 ((run.getD e.2 (0, [])).1))

theorem committedSvn_length (svn : List Nat) (run : List (Nat × List Byte)) : (committedSvn svn run).length = svn.length := by
  simp [committedSvn]

theorem committedSvn_getD {svn : List Nat} {k : Nat} (h : k < svn.length) (run : List (Nat × List Byte)) :
    (committedSvn svn run).getD k 0 = max (svn.getD k 0) ((run.getD k (0, [])).1) := by
  simp [committedSvn, h]

theorem stepCommitSvn_eq : stepCommitSvn s = s.updNv (fun n =>
    { n with svn := committedSvn n.svn s.dev.sec.running, fw0Revoked := n.fw0Revoked || s.dev.sec.runRevokes }) := rfl
end Versions

section AttestationKey
variable {s : State}

/-- The attestation key is made in MANUFACTURE only (13 R388). -/
theorem stepAttestationKeyGeneration_of_later (h : s.dev.nv.lc ≠ .manufacture) : stepAttestationKeyGeneration s = s :=
  if_neg (by simpa using h)

theorem stepAttestationKeyGeneration_of_manufacture {x : LmsSecret} (h : s.dev.nv.lc = .manufacture)
    (seed : x.seed = (List.range 32).map (Config.trueRandom s.dev.sec.draws))
    (ident : x.ident = (List.range 16).map (Config.trueRandom (s.dev.sec.draws + 1))) : stepAttestationKeyGeneration s =
    (s.updSec (fun y => { y with draws := s.dev.sec.draws + 2 })).updNv (fun n => { n with
      attSeed := x.seed, attId := x.ident, tree := x.topNodes, devPub := x.hssPublic,
      cert := (List.range 3284).map (Config.certByte (leBytes 8 Config.serial.toNat ++ x.hssPublic)) }) := by
  obtain ⟨_, _⟩ := x
  obtain rfl := seed
  obtain rfl := ident
  exact if_pos (by simpa using h)
end AttestationKey

end Sys2Proof.Machine

open Sys2Proof Sys2Proof.Machine

/-- Settles O54: each step's case gives its clause, and COMMIT_SVN's versions are read slot by slot. -/
theorem keysAndFirmware : Obligations.KeysAndFirmware := by
  intro s slot l op
  simp only [exec_keyEnrol, exec_keyRevoke, exec_lcChallenge, exec_fwUpdate, exec_commitSvn, exec_attestationKeyGeneration]
  refine ⟨?_, fun r => State.keyOperation_of_refused,
    fun accepted => ⟨State.keyOperation_of_enrol accepted, State.keyOperation_of_revoke accepted⟩, rfl, fun bundle cut barred => ?_,
    fun lc idle => ⟨fun bundle => ?_, ?_, ?_, fun short => ?_⟩, ?_, fun later => ?_, fun x lc seed ident => ?_⟩
  · rintro revoke u rfl
    constructor
    · rintro rfl
      rfl
    · rintro rfl
      rfl
  · rw [stepFwUpdate_of_barred barred]
  · rw [stepFwUpdate_of_cut lc idle]
  · rw [stepFwUpdate_of_unread lc idle]
  · simp only [stepFwUpdate_of_read lc idle, Ws.setFw_inactive]
  · rw [stepFwUpdate_of_read lc idle, if_neg (ne_true_of_eq_false (Nv.bundleOk_of_length_ne short))]
  · refine ⟨_, rfl, ?_⟩
    rw [stepCommitSvn_eq]
    exact ⟨rfl, rfl, committedSvn_length _ _, rfl, fun k h => committedSvn_getD h _⟩
  · rw [stepAttestationKeyGeneration_of_later later]
  · rw [stepAttestationKeyGeneration_of_manufacture lc seed ident]
end

section
/-! PROOF. Life-cycle transitions: one lemma per case of the refusal, the states after a refusal and after an acceptance, and O55 from
them (13 R398 to R402). -/

namespace Sys2Proof.Machine

theorem exec_lcTransition (target confirm : Nat) (token : TokenRead) (torn : Bool) (s : State) :
    exec (.lcTransition target confirm token torn) s = .next (stepLcTransition target confirm token torn s) := rfl

/-- Nothing runs that keeps a transition from starting (13 Table 13-6, REASON 0x2). -/
def Dev.lcIdle (d : Dev) : Bool :=
  !(d.role.assigned || d.ws.run.isSome || d.ws.tack.isSome || d.sec.fwBusy || d.sec.lcPending.isSome)

/-- A key slot is enrolled (13 R386). -/
def Nv.hasKey (n : Nv) : Bool := (List.range 8).any (fun i => decide ((n.key i).state = 1))

theorem Nv.hasKey_iff {n : Nv} : n.hasKey = true ↔ ∃ i < 8, (n.key i).state = 1 := by simp [Nv.hasKey]

section Refusal
variable {d : Dev} {target confirm : Nat} {token : TokenRead} {t : Lc}

theorem Dev.lcRefusal_of_no_state (h : lcOf target = none) : d.lcRefusal target confirm token = some 1 := by
  rw [Dev.lcRefusal, h]

variable (ht : lcOf target = some t)
include ht

/-- Factory firmware's own transition needs tree, certificate and calibration, and nothing due (13 Table 13-5; entry 129). -/
theorem Dev.lcRefusal_of_factory (lc : d.nv.lc = .manufacture) (prov : t = .provisioned) : d.lcRefusal target confirm token =
    if d.nv.tree ≠ [] ∧ d.nv.cert ≠ [] ∧ d.fab.calCount ≠ 0 ∧ d.sec.lcPending = none then none else some 1 := by
  subst prov
  simp [Dev.lcRefusal, ht, lc, Dev.leavesFactory, and_assoc]

theorem Dev.lcRefusal_of_no_step (other : ¬ (d.nv.lc = .manufacture ∧ t = .provisioned)) (h : lcStep d.nv.lc t = false) :
    d.lcRefusal target confirm token = some 1 := by
  simp [Dev.lcRefusal, ht, h, other]

section Step
variable (step : lcStep d.nv.lc t = true)
include step

/-- Past the table of steps, the refusal is that of an operation that runs, of CONFIRM, of the keys, or of the token (entry 91). -/
theorem Dev.lcRefusal_of_step : d.lcRefusal target confirm token =
    if d.lcIdle then
      if t = .retired then (if confirm = 0xA5 then none else some 7)
      else if d.nv.lc = .provisioned then (if d.nv.hasKey then none else some 6)
      else d.sec.tokenRefusal target token
    else some 2 := by
  have other : (d.nv.lc == .manufacture && t == .provisioned) = false := by
    refine Bool.eq_false_iff.mpr fun both => ?_
    obtain ⟨lc, rfl⟩ : d.nv.lc = .manufacture ∧ t = .provisioned := by simpa only [Bool.and_eq_true, beq_iff_eq] using both
    rw [lc] at step
    exact Bool.false_ne_true step
  have busy : (d.role.assigned || d.ws.run.isSome || d.ws.tack.isSome || d.sec.fwBusy || d.sec.lcPending.isSome) = !d.lcIdle := by
    rw [Dev.lcIdle, Bool.not_not]
  simp only [Dev.lcRefusal, ht, other, step, busy, Nv.hasKey]
  cases d.lcIdle
  · rfl
  · cases t <;> simp

theorem Dev.lcRefusal_of_busy (idle : d.lcIdle = false) : d.lcRefusal target confirm token = some 2 := by
  rw [Dev.lcRefusal_of_step ht step, if_neg (ne_true_of_eq_false idle)]

variable (idle : d.lcIdle = true)
include idle

theorem Dev.lcRefusal_of_retire (h : t = .retired) : d.lcRefusal target confirm token = if confirm = 0xA5 then none else some 7 := by
  rw [Dev.lcRefusal_of_step ht step, if_pos idle, if_pos h]

theorem Dev.lcRefusal_of_first_key (lc : d.nv.lc = .provisioned) (h : t = .field) :
    d.lcRefusal target confirm token = if d.nv.hasKey then none else some 6 := by
  rw [Dev.lcRefusal_of_step ht step, if_pos idle, if_neg (by simp [h]), if_pos lc]

theorem Dev.lcRefusal_of_token (lc : d.nv.lc ≠ .provisioned) (h : t ≠ .retired) :
    d.lcRefusal target confirm token = d.sec.tokenRefusal target token := by
  rw [Dev.lcRefusal_of_step ht step, if_pos idle, if_neg h, if_neg lc]
end Step
end Refusal

/-- The states in which a step of the table takes a token (13 Table 13-5). -/
theorem lcStep_takes_token {l t : Lc} (step : lcStep l t = true) (lc : l ≠ .provisioned) : l = .field ∨ l = .service := by
  cases l <;> simp_all [lcStep]

section Outcome
variable {s : State} {target confirm : Nat} {token : TokenRead} {torn : Bool} {t : Lc}

/-- The state after a refusal (13 Table 13-6). -/
def State.lcRefused (s : State) (r : Nat) : State := s.updSec (fun x => { x with lcRefused := true, lcReason := BitVec.ofNat 4 r })

/-- The state after an acceptance: the record is written and due, or a power loss tears it (13 R399, R401). -/
def State.lcAccepted (torn : Bool) (u : State) (t : Lc) (debug used : Bool) : State :=
  if torn then u.updNv Nv.tearLc
  else (u.updNv (fun n => n.writeLc t debug)).updSec (fun x => { x with
    lcPending := some (t, debug), challenge := if used then none else x.challenge })

/-- The debug right that a token's read carries (13 R400). -/
def tokenDebug : TokenRead → Bool
  | .ok b => bitAt (leAt b 7 1) 0
  | _ => false

theorem stepLcTransition_of_refused {r : Nat} (h : s.dev.lcRefusal target confirm token = some r) :
    stepLcTransition target confirm token torn s = s.lcRefused r := by
  unfold stepLcTransition
  rw [h, State.lcRefused]

theorem stepLcTransition_of_accepted (ht : lcOf target = some t) (h : s.dev.lcRefusal target confirm token = none) :
    stepLcTransition target confirm token torn s =
      State.lcAccepted torn (if t == .retired then s.updNv Nv.retireErase else s) t (t == .service && tokenDebug token)
        (!(t == .retired) && (s.dev.nv.lc == .field || s.dev.nv.lc == .service)) := by
  unfold stepLcTransition
  rw [h, ht]
  cases token <;> rfl

/-- A transition that takes neither a token nor the erasure keeps the challenge. -/
theorem stepLcTransition_of_plain (ht : lcOf target = some t) (h : s.dev.lcRefusal target confirm token = none)
    (plain : (s.dev.nv.lc = .manufacture ∧ t = .provisioned) ∨ (s.dev.nv.lc = .provisioned ∧ t = .field)) :
    stepLcTransition target confirm token torn s = State.lcAccepted torn s t false false := by
  rw [stepLcTransition_of_accepted ht h]
  rcases plain with ⟨lc, rfl⟩ | ⟨lc, rfl⟩ <;> rw [lc] <;> rfl

/-- To RETIRED the identity is erased before the record is written (13 R402). -/
theorem stepLcTransition_of_retired (ht : lcOf target = some t) (h : s.dev.lcRefusal target confirm token = none) (retired : t = .retired) :
    stepLcTransition target confirm token torn s = State.lcAccepted torn (s.updNv Nv.retireErase) .retired false false := by
  subst retired
  exact stepLcTransition_of_accepted ht h

/-- A transition by token takes its debug right into SERVICE only, and uses up the challenge (13 R400). -/
theorem stepLcTransition_of_token {b : List Byte} (ht : lcOf target = some t) (h : s.dev.lcRefusal target confirm (.ok b) = none)
    (lc : s.dev.nv.lc = .field ∨ s.dev.nv.lc = .service) (stays : t ≠ .retired) :
    stepLcTransition target confirm (.ok b) torn s =
      State.lcAccepted torn s t (decide (t = .service) && bitAt (leAt b 7 1) 0) true := by
  rw [stepLcTransition_of_accepted ht h]
  have tokens : (s.dev.nv.lc == .field || s.dev.nv.lc == .service) = true := by rcases lc with lc | lc <;> rw [lc] <;> rfl
  rw [tokens, beq_false_of_ne stays]
  rfl

theorem State.lcAccepted_keeps_state (u : State) (debug used : Bool) :
    (State.lcAccepted torn u t debug used).dev.nv.lc = u.dev.nv.lc ∧ (State.lcAccepted torn u t debug used).dev.nv.debug = u.dev.nv.debug ∧
      (State.lcAccepted torn u t debug used).pending = u.pending := by
  cases torn <;> exact ⟨rfl, rfl, rfl⟩

/-- The state in force changes only at the reset that follows (13 R399). -/
theorem stepLcTransition_keeps_state :
    (stepLcTransition target confirm token torn s).dev.nv.lc = s.dev.nv.lc ∧
      (stepLcTransition target confirm token torn s).dev.nv.debug = s.dev.nv.debug ∧
      (stepLcTransition target confirm token torn s).pending = s.pending := by
  cases h : s.dev.lcRefusal target confirm token with
  | some r =>
    rw [stepLcTransition_of_refused h]
    exact ⟨rfl, rfl, rfl⟩
  | none =>
    cases ht : lcOf target with
    | none => simp [Dev.lcRefusal_of_no_state ht] at h
    | some t =>
      rw [stepLcTransition_of_accepted ht h]
      obtain ⟨lc, debug, queue⟩ := State.lcAccepted_keeps_state (torn := torn) (t := t)
        (if t == .retired then s.updNv Nv.retireErase else s) (t == .service && tokenDebug token)
        (!(t == .retired) && (s.dev.nv.lc == .field || s.dev.nv.lc == .service))
      rw [lc, debug, queue]
      split <;> exact ⟨rfl, rfl, rfl⟩

end Outcome
end Sys2Proof.Machine

open Sys2Proof Sys2Proof.Machine

/-- Settles O55: the target, the table's step and what the state meets select the refusal's case, and each case its outcome. -/
theorem lifeCycleTransitions : Obligations.LifeCycleTransitions := by
  intro s target confirm token torn refused accepted idle hrefused haccepted hidle
  obtain rfl : refused = s.lcRefused := funext hrefused
  obtain rfl : accepted = State.lcAccepted torn := by
    funext u t debug used
    exact haccepted u t debug used
  obtain rfl : idle = s.dev.lcIdle := hidle
  simp only [exec_lcTransition]
  refine ⟨fun unnamed => ?_, fun t ht => ⟨fun lc prov => ?_, fun other lacking => ?_, fun step => ⟨fun busy => ?_, fun idle retired unconfirmed => ?_,
    fun idle retired confirmed => ?_, fun idle lc field => ⟨fun key => ?_, fun keyless => ?_⟩, ?_, fun idle lc stays unread => ?_⟩⟩,
    _, rfl, stepLcTransition_keeps_state⟩
  · rw [stepLcTransition_of_refused (Dev.lcRefusal_of_no_state unnamed)]
  · have refusal := Dev.lcRefusal_of_factory (confirm := confirm) (token := token) ht lc prov
    split at refusal
    next ready => rw [stepLcTransition_of_plain ht refusal (.inl ⟨lc, prov⟩), if_pos ready, prov]
    next unready => rw [stepLcTransition_of_refused refusal, if_neg unready]
  · rw [stepLcTransition_of_refused (Dev.lcRefusal_of_no_step ht other lacking)]
  · rw [stepLcTransition_of_refused (Dev.lcRefusal_of_busy ht step busy)]
  · rw [stepLcTransition_of_refused ((Dev.lcRefusal_of_retire ht step idle retired).trans (if_neg unconfirmed))]
  · rw [stepLcTransition_of_retired ht ((Dev.lcRefusal_of_retire ht step idle retired).trans (if_pos confirmed)) retired]
    rfl
  · rw [stepLcTransition_of_plain ht ((Dev.lcRefusal_of_first_key ht step idle lc field).trans (if_pos (Nv.hasKey_iff.mpr key)))
      (.inr ⟨lc, field⟩), field]
  · rw [stepLcTransition_of_refused ((Dev.lcRefusal_of_first_key ht step idle lc field).trans (if_neg (fun key =>
      have ⟨i, slot, active⟩ := Nv.hasKey_iff.mp key
      keyless i slot active)))]
  · rintro b idle lc stays rfl
    have refusal := Dev.lcRefusal_of_token (confirm := confirm) (token := .ok b) ht step idle lc stays
    rw [Sec.tokenRefusal] at refusal
    cases signed : tokenSigned b target with
    | false => rw [stepLcTransition_of_refused (refusal.trans (by rw [signed]; rfl)), if_neg Bool.false_ne_true]
    | true =>
      rw [if_pos rfl]
      simp only [signed, Bool.not_true, Bool.false_eq_true, if_false] at refusal
      split at refusal
      next stale => rw [stepLcTransition_of_refused refusal, if_pos stale]
      next fresh => rw [stepLcTransition_of_token ht refusal (lcStep_takes_token step lc) stays, if_neg fresh]
  · rw [stepLcTransition_of_refused ((Dev.lcRefusal_of_token ht step idle lc stays).trans (by rcases unread with rfl | rfl <;> rfl))]
end

section
/-! PROOF. The rails' start, the boot and the self-test: one lemma per case of each step, and O57 from them (13 R390, R398; 14 R414, R416
to R420). -/

namespace Sys2Proof.Machine

theorem exec_railsSoftStart (ok : Bool) (s : State) : exec (.railsSoftStart ok) s = .next (stepRailsSoftStart ok s) := rfl
theorem exec_ccBoot (f : BootFacts) (s : State) : exec (.ccBoot f) s = .next (stepCcBoot f s) := rfl
theorem exec_bistRequest (fclk kind target : Nat) (s : State) :
    exec (.bistRequest fclk kind target) s = .next (stepBistRequest fclk kind target s) := rfl
theorem exec_bistComplete (cond : Bool) (bad : List Nat) (s : State) :
    exec (.bistComplete cond bad) s = .next (stepBistComplete cond bad s) := rfl

section Rails
variable {s : State}

/-- The durations of steps `first` on, each a free value (14 R420; entry 8). -/
def freeDurations (ctr first n : Nat) (m : List (Nat × W32)) : List (Nat × W32) :=
  (List.range n).foldl (fun m i => Sparse.set (fun _ => 0) m (first + i) (Config.free32 (ctr + i))) m

theorem freeDurations_succ (ctr first n : Nat) (m : List (Nat × W32)) : freeDurations ctr first (n + 1) m =
    Sparse.set (fun _ => 0) (freeDurations ctr first n m) (first + n) (Config.free32 (ctr + n)) := by
  rw [freeDurations, List.range_succ, List.foldl_append]
  rfl

/-- One step of the sequence ends, after a free duration (14 R420; entry 8). -/
def State.endStep (s : State) (n : Nat) : State :=
  s.take32.2.updRst (fun r => { r with stepUs := Sparse.set (fun _ => 0) r.stepUs n s.take32.1 })

/-- Steps that end one after another take one free value each and change the durations only. -/
theorem State.each_endStep (first n : Nat) : s.each (upFrom first n) State.endStep =
    { s.updRst (fun r => { r with stepUs := freeDurations s.freeCtr first n r.stepUs }) with freeCtr := s.freeCtr + n } := by
  induction n with
  | zero => rfl
  | succ n ih =>
    rw [upFrom, State.each] at ih ⊢
    rw [List.range_succ, List.map_append, List.foldl_append, ih]
    simp only [freeDurations_succ]
    rfl

/-- The rails start with AUX, out of FURL and reset-hold, in steps 1 to 4 (14 R414, Table 14-3). -/
theorem stepRailsSoftStart_of_barred {ok : Bool} (h : s.dev.cn.auxOk = false ∨ s.dev.rst.furl = true ∨ s.dev.cn.holdCode ≠ 0 ∨
    s.dev.rst.step = 0 ∨ 5 ≤ s.dev.rst.step.toNat) : stepRailsSoftStart ok s = s :=
  if_pos (by simpa [or_assoc] using h)

/-- The number of the first step that the rails' start ends: step 1 only after a power-on reset (14 R414). -/
def Rst.firstStep (r : Rst) : Nat := if r.step = 1 then 0 else 1

section Starts
variable (aux : s.dev.cn.auxOk = true) (furl : s.dev.rst.furl = false) (hold : s.dev.cn.holdCode = 0) (begun : s.dev.rst.step ≠ 0)
  (early : s.dev.rst.step.toNat < 5)
include aux furl hold begun early

theorem stepRailsSoftStart_of_bad_rail :
    stepRailsSoftStart false s = ({ s with freeCtr := s.freeCtr + 1 }).resetHold 0x31 (Config.free32 s.freeCtr).toNat :=
  if_neg (by simpa [aux, furl, hold, early] using begun)

theorem stepRailsSoftStart_of_good_rails : stepRailsSoftStart true s =
    ((s.each (upFrom s.dev.rst.firstStep (4 - s.dev.rst.firstStep)) State.endStep).updRst (fun r =>
      { r with step := 5, locked := 0x1FFFF, coolWait := false })).updCn (fun c => { c with vinOk := true }) :=
  if_neg (by simpa [aux, furl, hold, early] using begun)
end Starts
end Rails

section Boot
variable {s : State} {f : BootFacts}

/-- The CC boots at step 5 with PERST# high and AUX, out of FURL and reset-hold (14 R414). -/
theorem stepCcBoot_of_barred (h : s.dev.rst.step ≠ 5 ∨ s.dev.rst.perstLow = true ∨ s.dev.rst.furl = true ∨ s.dev.cn.holdCode ≠ 0 ∨
    s.dev.cn.auxOk = false) : stepCcBoot f s = s :=
  if_pos (by simpa [or_assoc] using h)

/-- The boot goes on after the chain, or holds with the kind that fails in both copies (13 R390). -/
def State.afterChain (s : State) (f : BootFacts) : Option Nat → State
  | some kind => s.resetHold 0x12 kind
  | none => s.afterBoot f

section Boots
variable (step : s.dev.rst.step = 5) (perst : s.dev.rst.perstLow = false) (furl : s.dev.rst.furl = false) (hold : s.dev.cn.holdCode = 0)
  (aux : s.dev.cn.auxOk = true)
include step perst furl hold aux

/-- Without a valid life-cycle record the device holds (13 R398). -/
theorem stepCcBoot_of_no_record (h : ∀ e ∈ s.dev.nv.lcSlots, nvValid e.2 = false) : stepCcBoot f s = s.resetHold 0x02 0 := by
  have unreadable : s.dev.nv.lcSlots.any (fun e => nvValid e.2) = false := List.any_eq_false.mpr (fun e he => by simp [h e he])
  exact (if_neg (by simp [step, perst, furl, hold, aux])).trans (if_pos (by rw [unreadable]; rfl))

section Record
variable (record : ∃ e ∈ s.dev.nv.lcSlots, nvValid e.2 = true)
include record

/-- A hold that self-test or training meets falls in a sequence that is not warm (14 R419). -/
theorem stepCcBoot_of_hold {code arg : Nat} (cold : s.dev.rst.warmSeq = false) (h : f.hold = some (code, arg)) :
    stepCcBoot f s = s.resetHold code arg := by
  simp [stepCcBoot, step, perst, furl, hold, aux, List.any_eq_true.mpr record, cold, h]

/-- With no hold the boot chain decides (13 R390; 14 R414). -/
theorem stepCcBoot_of_chain {failing : Option Nat} {t : State} (free : s.dev.rst.warmSeq = true ∨ f.hold = none)
    (h : s.bootChain = (failing, t)) : stepCcBoot f s = t.afterChain f failing := by
  have held : (if s.dev.rst.warmSeq = true then none else f.hold) = none := by rcases free with h | h <;> simp [h]
  cases failing <;> simp [stepCcBoot, step, perst, furl, hold, aux, List.any_eq_true.mpr record, held, h, State.afterChain]
end Record
end Boots
end Boot

section SelfTest
variable {s : State} {bad : List Nat}

/-- The request's fields, the reserved encodings of FCLK and KIND left out (14 Table 14-6; 00 R16). -/
def State.bistFields (s : State) (fclk kind target : Nat) : State :=
  s.updRst (fun r => { r with fclk := if fclk < 7 then BitVec.ofNat 3 fclk else r.fclk, kind := if kind < 10 then BitVec.ofNat 8 kind else r.kind,
                              target := BitVec.ofNat 12 target })

theorem stepBistRequest_eq (fclk kind target : Nat) : stepBistRequest fclk kind target s =
    if s.dev.rst.busy then s.bistFields fclk kind target
    else if s.dev.bistAllowed then (s.bistFields fclk kind target).updRst (fun r => { r with busy := true })
    else (s.bistFields fclk kind target).updRst (fun r => { r with denied := true }) := by
  simp only [stepBistRequest, setField, decide_eq_true_eq]
  rfl

theorem stepBistComplete_of_idle {cond : Bool} (h : s.dev.rst.busy = false) : stepBistComplete cond bad s = s :=
  if_pos (by rw [h]; rfl)

section Running
variable (h : s.dev.rst.busy = true)
include h

/-- A self-test that ends in COND leaves its unit and its count (14 R417). -/
theorem stepBistComplete_of_cond :
    stepBistComplete true bad s = s.updRst (fun r => { r with busy := false, done := true, result := 2 }) :=
  if_neg (by simp [h])

theorem stepBistComplete_of_result : stepBistComplete false bad s =
    ((s.updRst (fun r => { r with busy := false, done := true, result := if bad = [] then 0 else 1, unit := BitVec.ofNat 12 (bad.headD 0),
                                  fails := BitVec.ofNat 12 (min 0xFFF bad.length) })).afterTest
      s.dev.rst.kind.toNat s.dev.rst.target.toNat).testFailures s.dev.rst.kind.toNat bad := by
  simp [stepBistComplete, h]
end Running
end SelfTest

end Sys2Proof.Machine

open Sys2Proof Sys2Proof.Machine

/-- Settles O57: the guard of each step selects its case, and the rails' durations are the free values that their steps draw. -/
theorem powerUpAndSelfTest : Obligations.PowerUpAndSelfTest := by
  intro s ok cond f fclk kind target bad
  simp only [exec_railsSoftStart, exec_ccBoot, exec_bistRequest, exec_bistComplete]
  refine ⟨fun barred => ?_, fun aux furl hold begun early => ⟨?_, ?_⟩, fun barred => ?_, fun step perst furl hold aux =>
    ⟨fun unreadable => ?_, fun record => ⟨fun code arg cold holds => ?_, fun free => ⟨fun k t failed => ?_, fun t booted => ?_⟩⟩⟩, ?_,
    fun idle => ?_, fun busy => ⟨?_, ?_⟩⟩
  · rw [stepRailsSoftStart_of_barred barred]
  · rw [stepRailsSoftStart_of_bad_rail aux furl hold begun early]
  · refine ⟨_, s.dev.rst.firstStep, fun first => if_pos first, fun later => if_neg later, rfl, ?_⟩
    rw [stepRailsSoftStart_of_good_rails aux furl hold begun early, State.each_endStep]
    exact ⟨rfl, rfl, rfl⟩
  · rw [stepCcBoot_of_barred barred]
  · rw [stepCcBoot_of_no_record step perst furl hold aux unreadable]
  · rw [stepCcBoot_of_hold step perst furl hold aux record cold holds]
  · rw [stepCcBoot_of_chain step perst furl hold aux record free failed, State.afterChain]
  · rw [stepCcBoot_of_chain step perst furl hold aux record free booted, State.afterChain]
  · rintro u hu
    obtain rfl : u = s.bistFields fclk kind target := hu
    rw [stepBistRequest_eq]
    refine ⟨fun busy => ?_, fun idle allowed => ?_, fun idle denied => ?_⟩
    · rw [if_pos busy]
    · rw [if_neg (ne_true_of_eq_false idle), if_pos allowed]
    · rw [if_neg (ne_true_of_eq_false idle), if_neg (ne_true_of_eq_false denied)]
  · rw [stepBistComplete_of_idle idle]
  · rw [stepBistComplete_of_cond busy]
  · rintro u rfl
    rw [stepBistComplete_of_result busy]
end

section
/-! PROOF. The step itself: the command at the front of the queue, and the FAB cycle that passes with none waiting; O1 and O2 from them
(00 R18; 05 Table 5-12; 06 R185; 15 R430, R431, R440). -/

namespace Sys2Proof.Machine

section Step
variable {s : State} {c : Instr} {rest : List Instr}

theorem step_of_cons (h : s.pending = c :: rest) : step s = exec c { s with pending := rest } := by simp only [step, h]

theorem step_of_empty (h : s.pending = []) : step s = .next (s.passCycles 1) := by simp only [step, h]
end Step

section Reverify
variable (s : State)

/-- The slot's beginning changes the table of channels alone. -/
theorem State.beginReverify_eq : s.beginReverify = s.updHk (fun h => { h with chans := s.beginReverify.dev.hk.chans }) := by
  dsimp only [State.beginReverify]
  split
  · rfl
  · rfl

@[simp] theorem State.beginReverify_time : s.beginReverify.dev.time = s.dev.time := by rw [State.beginReverify_eq]; rfl
@[simp] theorem State.beginReverify_cn : s.beginReverify.dev.cn = s.dev.cn := by rw [State.beginReverify_eq]; rfl
@[simp] theorem State.beginReverify_holdExpired : s.beginReverify.holdExpired = s.holdExpired := by rw [State.beginReverify_eq]; rfl

/-- Only the channel whose slot begins may be marked (06 R185). -/
theorem State.beginReverify_chan_of_ne {c : Nat} (h : c ≠ s.dev.hk.round % 64) :
    Sparse.get Chan.reset s.beginReverify.dev.hk.chans c = Sparse.get Chan.reset s.dev.hk.chans c := by
  dsimp only [State.beginReverify]
  split
  · simp only [State.updHk_hk, Sparse.get_upd_ne Chan.reset h]
  · rfl
end Reverify

section Cycles
variable (s : State) (n : Nat)

theorem State.passCycles_time : (s.passCycles n).dev.time = { s.dev.time with
    mems := s.dev.time.mems + (s.dev.time.memsFrac + n) / 20, memsFrac := (s.dev.time.memsFrac + n) % 20,
    cycle := if s.dev.time.runs then min (s.dev.time.cycle + n) (s.dev.tickCycles - 1) else s.dev.time.cycle } :=
  State.beginReverify_time _

/-- Passing cycles count time and the RTC in the crow's nest, and change no more of it. -/
theorem State.passCycles_cn_eq : (s.passCycles n).dev.cn = { s.dev.cn with
    sinceTick := (s.passCycles n).dev.cn.sinceTick, subFrac := (s.passCycles n).dev.cn.subFrac, sub := (s.passCycles n).dev.cn.sub,
    rtc := (s.passCycles n).dev.cn.rtc, rtcDue := (s.passCycles n).dev.cn.rtcDue } := by
  simp only [State.passCycles, State.beginCycle, State.beginReverify_cn, State.updCn_cn, State.updTime_cn]

theorem State.passCycles_hk_eq : (s.passCycles n).dev.hk = { s.dev.hk with chans := (s.passCycles n).dev.hk.chans } :=
  congrArg (fun t : State => t.dev.hk) (State.beginReverify_eq _)

theorem State.passCycles_chan_of_ne {c : Nat} (h : c ≠ s.dev.hk.round % 64) :
    Sparse.get Chan.reset (s.passCycles n).dev.hk.chans c = Sparse.get Chan.reset s.dev.hk.chans c :=
  State.beginReverify_chan_of_ne _ h

theorem State.passCycles_begun : (s.passCycles n).begun = ⟨(s.passCycles n).dev, s.holdExpired⟩ :=
  congrArg (CycleStart.mk _) (State.beginReverify_holdExpired _)

/-- A state that passes cycles differs in TIME, the crow's nest, HK and the noted beginning of the cycle. -/
theorem State.passCycles_eq : s.passCycles n = { s with
    begun := (s.passCycles n).begun,
    dev := { s.dev with time := (s.passCycles n).dev.time, cn := (s.passCycles n).dev.cn, hk := (s.passCycles n).dev.hk } } := by
  unfold State.passCycles
  simp only [State.beginCycle]
  rw [State.beginReverify_eq]
  rfl

/-- With no setting of the RTC due, none is due after (15 R440). -/
theorem State.passCycles_rtcDue_of_not_due (h : s.dev.cn.rtcDue = false) : (s.passCycles n).dev.cn.rtcDue = false := by
  simp only [State.passCycles, State.beginCycle, State.beginReverify_cn, State.updCn_cn, State.updTime_cn, h, Bool.false_and]

/-- The resonator's 10 ns count with its fraction goes up by n FAB cycles. -/
theorem State.passCycles_mems : 20 * (s.passCycles n).dev.time.mems + (s.passCycles n).dev.time.memsFrac =
    20 * s.dev.time.mems + s.dev.time.memsFrac + n := by
  rw [State.passCycles_time]
  dsimp only
  omega
end Cycles

end Sys2Proof.Machine

open Sys2Proof Sys2Proof.Machine

/-- Settles O1: a waiting command is run on the state with the queue's rest. -/
theorem stepRunsFrontCommand : Obligations.StepRunsFrontCommand := fun _ _ _ h => step_of_cons h

/-- Settles O2: with none waiting one cycle passes, and what passing cycles change is TIME's counts, the crow's nest's and the table
of channels. -/
theorem emptyQueuePassesACycle : Obligations.EmptyQueuePassesACycle := by
  intro s empty
  have time := s.passCycles_time 1
  refine ⟨_, step_of_empty empty, s.passCycles_mems 1, congrArg Time.cycle time, (congrArg Time.tick time :), (congrArg Time.st time :),
    s.passCycles_eq 1, s.passCycles_begun 1, s.passCycles_hk_eq 1, fun _ => s.passCycles_chan_of_ne 1,
    s.passCycles_rtcDue_of_not_due 1, s.passCycles_cn_eq 1⟩
end
section
/-! PROOF. Start and stop of the tick machine, one lemma per state that the command meets, and O7 from them (05 Table 5-6, Table 5-12). -/

namespace Sys2Proof.Machine

theorem exec_timeStart (s : State) : exec .timeStart s = .next (stepTimeStart s) := rfl
theorem exec_timeStop (s : State) : exec .timeStop s = .next (stepTimeStop s) := rfl

section StartStop
variable {s : State}

theorem stepTimeStart_of_master (stopped : s.dev.time.st = .stopped) (master : s.dev.master = true) :
    stepTimeStart s = s.updTime (fun t => { t with st := .run, stopDue := false, missRun := 0, freeTicks := 0 }) :=
  (if_neg (by simp [stopped])).trans (if_pos master)

theorem stepTimeStart_of_follower (stopped : s.dev.time.st = .stopped) (follower : s.dev.master = false) :
    stepTimeStart s = s.updTime (fun t => { t.toSync with stopDue := false }) :=
  (if_neg (by simp [stopped])).trans (if_neg (ne_true_of_eq_false follower))

theorem stepTimeStart_of_started (started : s.dev.time.st ≠ .stopped) : stepTimeStart s = s := if_pos (bne_iff_ne.mpr started)

theorem stepTimeStop_of_started (started : s.dev.time.st ≠ .stopped) :
    stepTimeStop s = s.updTime (fun t => { t with stopDue := true }) := if_neg (by simpa using started)

theorem stepTimeStop_of_stopped (stopped : s.dev.time.st = .stopped) : stepTimeStop s = s := if_pos (beq_iff_eq.mpr stopped)
end StartStop

end Sys2Proof.Machine

open Sys2Proof Sys2Proof.Machine

/-- Settles O7: a start is read by the state and by whether the package is tick master, a stop by the state. That the tick number
keeps its value over a start is the model's choice (log entry 78). -/
theorem tickStartStop : Obligations.TickStartStop := by
  intro s
  refine ⟨fun stopped master => ?_, fun stopped follower => ?_, fun started => ?_, fun started => ?_, fun stopped => ?_⟩
  · rw [exec_timeStart, stepTimeStart_of_master stopped master]
  · rw [exec_timeStart, stepTimeStart_of_follower stopped follower]; rfl
  · rw [exec_timeStart, stepTimeStart_of_started started]
  · rw [exec_timeStop, stepTimeStop_of_started started]
  · rw [exec_timeStop, stepTimeStop_of_stopped stopped]
end

section
/-! PROOF. The crow's nest: the RTC's setting at the clock's edge, and the management commands with and without AUX; O59 from them
(15 R437, R440, R441, R443). -/

namespace Sys2Proof.Machine

theorem exec_rtcSet (s : State) : exec .rtcSet s = .next (s.updCn (fun c => { c with rtcDue := true })) := rfl
theorem exec_mgmtReefFloorWrite (v : W32) (s : State) : exec (.mgmtReefFloorWrite v) s = .next (stepMgmtReefFloorWrite v s) := rfl
theorem exec_mgmtI3cCfgWrite (v : W32) (s : State) : exec (.mgmtI3cCfgWrite v) s = .next (stepMgmtI3cCfgWrite v s) := rfl
theorem exec_mgmtTripRecordRead (i : Nat) (s : State) : exec (.mgmtTripRecordRead i) s = .next (stepMgmtTripRecordRead i s) := rfl

section Rtc
variable {s : State} {n : Nat} (due : s.dev.cn.rtcDue = true)
include due

/-- A setting waits while no edge of the 32.768 kHz clock passes (15 R440). -/
theorem State.passCycles_cn_of_no_edge (early : s.dev.cn.subFrac + 32768 * n < 2000000000) :
    (s.passCycles n).dev.cn.rtcDue = true ∧ (s.passCycles n).dev.cn.subFrac = s.dev.cn.subFrac + 32768 * n := by
  simp [State.passCycles, State.beginCycle, due, early, Nat.mod_eq_of_lt]

/-- At the first edge the RTC takes the value set, its fraction cleared (15 R440). -/
theorem State.passCycles_cn_of_edge (edge : 2000000000 ≤ s.dev.cn.subFrac + 32768 * n)
    (one : s.dev.cn.subFrac + 32768 * n < 4000000000) :
    (s.passCycles n).dev.cn.rtcDue = false ∧ (s.passCycles n).dev.cn.rtc = s.dev.cn.rtcNew.toNat % 2 ^ 48 ∧
      (s.passCycles n).dev.cn.sub = 0 ∧ (s.passCycles n).dev.cn.subFrac = s.dev.cn.subFrac + 32768 * n - 2000000000 := by
  have edges : (s.dev.cn.subFrac + 32768 * n) / 2000000000 = 1 := by omega
  have rest : (s.dev.cn.subFrac + 32768 * n) % 2000000000 = s.dev.cn.subFrac + 32768 * n - 2000000000 := by omega
  simp [State.passCycles, State.beginCycle, due, edge, edges, rest]
end Rtc

section Mgmt
variable {s : State} {v : W32} {i : Nat}

theorem State.writeReefFloor_of_floor (h : fieldAt v.toNat 0 4 ≤ 8) :
    s.writeReefFloor v = s.updCn (fun c => { c with reefFloor := BitVec.ofNat 4 (fieldAt v.toNat 0 4) }) := by
  simp only [State.writeReefFloor, setField, decide_eq_true h, if_true]

theorem State.writeReefFloor_of_reserved (h : 8 < fieldAt v.toNat 0 4) : s.writeReefFloor v = s := by
  simp only [State.writeReefFloor, setField, decide_eq_true_eq, if_neg (Nat.not_le.mpr h)]
  rfl

section Aux
variable (aux : s.dev.cn.auxOk = true)
include aux

theorem stepMgmtReefFloorWrite_of_aux : stepMgmtReefFloorWrite v s = s.writeReefFloor v := if_pos aux
theorem stepMgmtI3cCfgWrite_of_aux : stepMgmtI3cCfgWrite v s = s.writeI3cCfg v := if_pos aux
theorem stepMgmtTripRecordRead_of_record (h : i < 64) : stepMgmtTripRecordRead i s =
    s.emit (.mgmt s.snapTick ((Sparse.get TripRec.reset s.dev.nv.trips i).bytes ++ leBytes 4 s.dev.cn.holdWord)) :=
  if_pos (by simp [aux, h])
end Aux

theorem stepMgmtTripRecordRead_of_no_record (h : s.dev.cn.auxOk = false ∨ 64 ≤ i) : stepMgmtTripRecordRead i s = s :=
  if_neg (by rcases h with h | h <;> simp [h])

section NoAux
variable (aux : s.dev.cn.auxOk = false)
include aux

theorem stepMgmtReefFloorWrite_of_no_aux : stepMgmtReefFloorWrite v s = s := if_neg (ne_true_of_eq_false aux)
theorem stepMgmtI3cCfgWrite_of_no_aux : stepMgmtI3cCfgWrite v s = s := if_neg (ne_true_of_eq_false aux)
end NoAux
end Mgmt

section Bytes

@[simp] theorem leBytes_length : ∀ n x, (leBytes n x).length = n
  | 0, _ => rfl
  | n + 1, x => congrArg Nat.succ (leBytes_length n (x / 256))

@[simp] theorem sliceAt_length (l : List Byte) (off n : Nat) : (sliceAt l off n).length = n := by
  simp only [sliceAt, List.length_append, List.length_replicate, List.length_take]
  omega

variable {r : TripRec}

theorem TripRec.bytes_of_unwritten (h : r.kind = 0) : r.bytes = List.replicate 64 0 := if_pos h

theorem TripRec.bytes_length : r.bytes.length = 64 := by
  unfold TripRec.bytes
  split
  · exact sliceAt_length [] 0 64
  · simp [List.length_flatMap]
end Bytes

end Sys2Proof.Machine

open Sys2Proof Sys2Proof.Machine

/-- Settles O59: the RTC by the edges that pass, each management command by AUX and by its operand. That a record never written reads
as zeros is the model's choice of reset values (log entry 6). -/
theorem crowsNest : Obligations.CrowsNest := by
  intro s v n
  rw [exec_mgmtReefFloorWrite, exec_mgmtI3cCfgWrite, exec_mgmtTripRecordRead]
  refine ⟨exec_rtcSet s, ?_, fun aux => ⟨fun floor => ?_, fun reserved => ?_, ?_, ?_, fun beyond => ?_⟩, fun aux => ⟨?_, ?_, ?_⟩⟩
  · rintro q t rfl rfl due
    refine ⟨fun early => ?_, fun edge one => State.passCycles_cn_of_edge due edge one⟩
    obtain ⟨waits, counts⟩ := State.passCycles_cn_of_no_edge due early
    exact ⟨waits, counts, (congrArg Cn.rtcNew (s.passCycles_cn_eq n) :)⟩
  · rw [stepMgmtReefFloorWrite_of_aux aux, State.writeReefFloor_of_floor floor]
  · rw [stepMgmtReefFloorWrite_of_aux aux, State.writeReefFloor_of_reserved reserved]
  · rw [stepMgmtI3cCfgWrite_of_aux aux, State.writeI3cCfg]
  · rintro r record rfl
    exact ⟨congrArg _ (stepMgmtTripRecordRead_of_record aux record), TripRec.bytes_length, TripRec.bytes_of_unwritten⟩
  · rw [stepMgmtTripRecordRead_of_no_record (.inr beyond)]
  · rw [stepMgmtReefFloorWrite_of_no_aux aux]
  · rw [stepMgmtI3cCfgWrite_of_no_aux aux]
  · rw [stepMgmtTripRecordRead_of_no_record (.inl aux)]
end

section
/-! PROOF. Results of housekeeping: a channel's latest value, the FIFO that a result enters or misses, what a conversion's consequences
leave of the device, the FIFO's read, and O52 from them (06 R170, R176; 15 R431, R432, R435). -/

namespace Sys2Proof.Machine

theorem exec_hkConversionComplete (c : Nat) (v : Int) (good trig : Bool) (ecc : List (Nat × Nat)) (s : State) :
    exec (.hkConversionComplete c v good trig ecc) s = .next (stepHkConversionComplete c v good trig ecc s) := rfl
theorem exec_hkFifoDataRead (s : State) : exec .hkFifoDataRead s = .next (stepHkFifoDataRead s) := rfl

/-- What the consequences of a conversion leave: HK but for SUPPLY_FAULT and the conversion that runs, the queue, TIME, the role, the
links and what is nonvolatile. -/
def State.resultView (s : State) : Hk × List Instr × Time × Role × Lnk × Nv :=
  ({ s.dev.hk with supplyFault := false, running := none }, s.pending, s.dev.time, s.dev.role, s.dev.lnk, s.dev.nv)

section Consequences
variable (s : State)

@[simp] theorem State.updPan_resultView (p : Nat) (f : Pan → Pan) : (s.updPan p f).resultView = s.resultView := rfl

theorem State.ite_resultView {c : Prop} [Decidable c] (t : State) :
    (if c then s else t).resultView = if c then s.resultView else t.resultView := apply_ite _ _ _ _

theorem State.each_resultView {α : Type} {f : State → α → State} (h : ∀ s a, (f s a).resultView = s.resultView) (l : List α) :
    (s.each l f).resultView = s.resultView := State.each_leaves _ f h l s

/-- An event without the PERSIST flag leaves the retirement list (11 Table 11-10). -/
theorem State.logEvent_nv_of_not_persist {code kind : Nat} (h : persistCode code kind = false) (unit a b : Nat) :
    (s.logEvent code kind unit a b).dev.nv = s.dev.nv := by
  simp only [State.logEvent, State.mirrorEvent_nv, h, Bool.false_eq_true, if_false, State.updChk_nv]

theorem State.logEvent_resultView_of_not_persist {code kind : Nat} (h : persistCode code kind = false) (unit a b : Nat) :
    (s.logEvent code kind unit a b).resultView = s.resultView := by
  simp only [State.resultView, State.logEvent_hk, State.logEvent_pending, State.logEvent_time, State.logEvent_role, State.logEvent_lnk,
    s.logEvent_nv_of_not_persist h]

@[simp] theorem State.islandTemp_resultView (i : Nat) (t : Int) (subst : Bool) : (s.islandTemp i t subst).resultView = s.resultView := by
  rw [State.islandTemp, State.each_resultView _ (fun u p => u.updPan_resultView p _)]

@[simp] theorem State.feedTemps_resultView (c : Nat) : (s.feedTemps c).resultView = s.resultView := by
  refine (State.each_resultView _ (fun t j => ?_) _).trans ?_
  · split
    · exact t.islandTemp_resultView _ _ _
    · rfl
  · rw [State.ite_resultView, State.islandTemp_resultView, ite_self]

@[simp] theorem State.trimError_resultView (p ecc : Nat) : (s.trimError p ecc).resultView = s.resultView := by
  rw [State.trimError, State.ite_resultView, State.logEvent_resultView_of_not_persist _ rfl, State.updPan_resultView, ite_self]

@[simp] theorem State.each_trimError_resultView (l : List (Nat × Nat)) :
    (s.each l (fun s e => s.trimError e.1 e.2)).resultView = s.resultView :=
  s.each_resultView (fun t e => t.trimError_resultView e.1 e.2) l

@[simp] theorem State.dueDeny_resultView (kind unit : Nat) : (s.dueDeny kind unit).resultView = s.resultView := by
  dsimp only [State.dueDeny]
  split
  · rfl
  · split
    · rfl
    · rfl

@[simp] theorem State.checkRail_resultView (c : Nat) : (s.checkRail c).resultView = s.resultView := by
  dsimp only [State.checkRail]
  rw [State.ite_resultView, State.dueDeny_resultView]
  exact ite_self _
end Consequences

/-- The channel's latest result: a bad one leaves the value (15 R431, R435). -/
def Chan.latest (x : Chan) (v : Int) (good valid : Bool) : Chan :=
  { x with stale := false, value := if good then BitVec.ofInt 16 v else x.value, fault := !valid }

/-- A channel's latest result enters the FIFO, or misses it by its mask bit (15 R435). -/
def State.enterFifo (s : State) (trig enters : Bool) (c : Nat) : State :=
  if enters then s.pushResult trig (s.dev.chan c).stale c (s.dev.chan c).value else s

/-- A result is stored in its channel and offered to the FIFO. -/
def State.takeResult (s : State) (c : Nat) (v : Int) (good valid trig enters : Bool) : State :=
  (s.updChan c (·.latest v good valid)).enterFifo trig enters c

section Channel
variable {s : State} {c : Nat} {f g : Chan → Chan}

/-- A channel that is left not STALE differs from the reset value, so that its write is read back in any table. -/
theorem State.chan_updChan_of_not_stale (h : (f (s.dev.chan c)).stale = false) : (s.updChan c f).dev.chan c = f (s.dev.chan c) :=
  Sparse.get_set_self_of_ne (d := Chan.reset) (fun reset => Bool.noConfusion (h.symm.trans (congrArg Chan.stale reset))) _

theorem State.chan_latest (v : Int) (good valid : Bool) :
    (s.updChan c (·.latest v good valid)).dev.chan c = (s.dev.chan c).latest v good valid := State.chan_updChan_of_not_stale rfl

theorem State.updChan_congr (h : f (s.dev.chan c) = g (s.dev.chan c)) : s.updChan c f = s.updChan c g := by
  simp only [State.updChan, State.updHk, Sparse.upd]
  simp only [Dev.chan] at h
  rw [h]
end Channel

section Fifo
variable {s : State} {trig stale : Bool} {c : Nat} {v : BitVec 16}

theorem State.pushResult_of_room (room : s.dev.hk.fifo.length < 64) : s.pushResult trig stale c v =
    s.updHk (fun h => { h with fifo := h.fifo ++ [⟨h.gap, trig, stale, BitVec.ofNat 6 c, v⟩], gap := false }) := by
  simp only [State.pushResult, State.updHk, if_neg (Nat.not_le.mpr room)]

theorem State.pushResult_of_full (full : 64 ≤ s.dev.hk.fifo.length) : s.pushResult trig stale c v =
    s.updHk (fun h => { h with overflow := true, lostN := satInc h.lostN, gap := true }) := by
  simp only [State.pushResult, State.updHk, if_pos full]
end Fifo

section Take
variable {s : State} {c : Nat} {v : Int} {good valid trig : Bool}

theorem State.takeResult_of_room (room : s.dev.hk.fifo.length < 64) : s.takeResult c v good valid trig true =
    (s.updChan c (·.latest v good valid)).updHk (fun h => { h with
      fifo := h.fifo ++ [⟨h.gap, trig, false, BitVec.ofNat 6 c, ((s.dev.chan c).latest v good valid).value⟩], gap := false }) := by
  rw [State.takeResult, State.enterFifo, if_pos rfl, State.chan_latest, State.pushResult_of_room (by exact room)]
  rfl

theorem State.takeResult_of_full (full : 64 ≤ s.dev.hk.fifo.length) : s.takeResult c v good valid trig true =
    (s.updChan c (·.latest v good valid)).updHk (fun h => { h with overflow := true, lostN := satInc h.lostN, gap := true }) := by
  rw [State.takeResult, State.enterFifo, if_pos rfl, State.pushResult_of_full (by exact full)]

theorem State.takeResult_of_masked : s.takeResult c v good valid trig false = s.updChan c (·.latest v good valid) := by
  rw [State.takeResult, State.enterFifo, if_neg Bool.false_ne_true]

/-- With room, with none, or masked: the FIFO never touches what a channel holds (15 R435). -/
theorem State.takeResult_chan (enters : Bool) :
    (s.takeResult c v good valid trig enters).dev.chan c = (s.dev.chan c).latest v good valid := by
  have stored := s.chan_latest (c := c) v good valid
  cases enters with
  | false => rw [State.takeResult_of_masked, stored]
  | true =>
    rcases Nat.lt_or_ge s.dev.hk.fifo.length 64 with room | full
    · rw [State.takeResult_of_room room]; exact stored
    · rw [State.takeResult_of_full full]; exact stored

/-- The conversion that was triggered has ended (15 R433). -/
def State.endTriggered (s : State) : State := s.updHk (fun h => { h with running := none })

theorem State.endTriggered_takeResult_resultView :
    (s.endTriggered.takeResult c v good valid trig true).resultView = (s.takeResult c v good valid trig true).resultView := by
  rcases Nat.lt_or_ge s.dev.hk.fifo.length 64 with room | full
  · rw [State.takeResult_of_room room, State.takeResult_of_room (by exact room)]; rfl
  · rw [State.takeResult_of_full full, State.takeResult_of_full (by exact full)]; rfl

/-- A result changes no more than HK: not the queue, TIME, the role, the links and what is nonvolatile. -/
theorem State.takeResult_resultView_snd (enters : Bool) :
    (s.takeResult c v good valid trig enters).resultView.2 = s.resultView.2 := by
  unfold State.takeResult State.enterFifo
  split
  · rfl
  · rfl
end Take

section Conversion
variable {s : State} {c : Nat} {v : Int} {good : Bool} {ecc : List (Nat × Nat)}

/-- A conversion succeeded, and a diode's lies in −40 °C to 150 °C (15 R430; entry 29). -/
def conversionValid (c : Nat) (v : Int) (good : Bool) : Bool := good && (decide (16 ≤ c) || (decide (-640 ≤ v) && decide (v ≤ 2400)))

/-- An island rail's result is checked (15 R432). -/
def State.afterRail (s : State) (c : Nat) : State := if 40 ≤ c ∧ c < 56 then s.checkRail c else s

/-- What a round's result sets going: a diode's moves the taps, a rail's is checked (06 R176; 15 R432). -/
def State.afterRound (s : State) (c : Nat) (ecc : List (Nat × Nat)) : State :=
  if c < 16 then (s.each (ecc.filter (fun e => Pan.island e.1 == c)) (fun s e => s.trimError e.1 e.2)).feedTemps c else s.afterRail c

theorem State.afterRail_resultView (s : State) (c : Nat) : (s.afterRail c).resultView = s.resultView := by
  rw [State.afterRail, State.ite_resultView, State.checkRail_resultView, ite_self]

theorem State.afterRound_resultView (s : State) (c : Nat) (ecc : List (Nat × Nat)) : (s.afterRound c ecc).resultView = s.resultView := by
  rw [State.afterRound, State.ite_resultView, State.feedTemps_resultView, State.each_trimError_resultView,
    State.afterRail_resultView, ite_self]

/-- A round's result is stored; one that re-verifies its channel marks it STALE and leaves its value (15 R431). -/
def State.storeRound (s : State) (c : Nat) (v : Int) (good : Bool) : State :=
  if s.dev.hk.reverifies c then s.updChan c (fun x => { x with stale := true, fault := x.fault || !conversionValid c v good })
  else s.updChan c (·.latest v good (conversionValid c v good))

theorem State.storeRound_of_regular (h : s.dev.hk.reverifies c = false) :
    s.storeRound c v good = s.updChan c (·.latest v good (conversionValid c v good)) := if_neg (ne_true_of_eq_false h)

theorem stepHkConversionComplete_of_round {w : State} (hc : c < 64) (hw : w = s.storeRound c v good) :
    stepHkConversionComplete c v good false ecc s = (w.enterFifo false (w.dev.hk.mask.getLsbD c) c).afterRound c ecc := by
  subst hw
  exact (if_neg (Nat.not_le.mpr hc)).trans (if_neg Bool.false_ne_true)

theorem stepHkConversionComplete_of_regular (hc : c < 64) (h : s.dev.hk.reverifies c = false) :
    stepHkConversionComplete c v good false ecc s =
      (s.takeResult c v good (conversionValid c v good) false (s.dev.hk.mask.getLsbD c)).afterRound c ecc :=
  stepHkConversionComplete_of_round hc (State.storeRound_of_regular h).symm

/-- A triggered result is stored, unless its channel is STALE (15 R431, R435). -/
def State.storeTriggered (s : State) (c : Nat) (v : Int) (good : Bool) : State :=
  if (s.dev.chan c).stale then s
  else s.updChan c (fun x => { x with value := if good then BitVec.ofInt 16 v else x.value, fault := !conversionValid c v good })

theorem State.storeTriggered_of_fresh (fresh : (s.dev.chan c).stale = false) :
    s.storeTriggered c v good = s.updChan c (·.latest v good (conversionValid c v good)) :=
  (if_neg (ne_true_of_eq_false fresh)).trans (State.updChan_congr (by simp only [Chan.latest, ← fresh]))

theorem Chan.latest_value {x : Chan} {valid : Bool} :
    (if good then BitVec.ofInt 16 v else (x.latest v good valid).value) = (x.latest v good valid).value := by
  cases good
  · rfl
  · rfl

theorem stepHkConversionComplete_of_triggered {w : State} (hc : c < 64) (running : s.dev.hk.running = some true)
    (named : s.dev.hk.trigChan.toNat = c) (hw : w = s.endTriggered.storeTriggered c v good) :
    stepHkConversionComplete c v good true ecc s =
      (w.pushResult true (w.dev.chan c).stale c (if good then BitVec.ofInt 16 v else (w.dev.chan c).value)).afterRail c := by
  subst hw
  exact (if_neg (Nat.not_le.mpr hc)).trans ((if_pos rfl).trans (if_pos ⟨running, named⟩))

theorem stepHkConversionComplete_of_fresh (hc : c < 64) (running : s.dev.hk.running = some true)
    (named : s.dev.hk.trigChan.toNat = c) (fresh : (s.dev.chan c).stale = false) :
    stepHkConversionComplete c v good true ecc s =
      (s.endTriggered.takeResult c v good (conversionValid c v good) true true).afterRail c := by
  rw [stepHkConversionComplete_of_triggered hc running named (State.storeTriggered_of_fresh (s := s.endTriggered) fresh).symm,
    State.chan_latest, Chan.latest_value, ← State.chan_latest]
  rfl

/-- What a conversion leaves in the device, but for its consequences: the result, stored and offered to the FIFO. -/
theorem stepHkConversionComplete_resultView {trig enters : Bool} (hc : c < 64)
    (ht : trig = true → s.dev.hk.running = some true ∧ s.dev.hk.trigChan.toNat = c ∧ (s.dev.chan c).stale = false ∧ enters = true)
    (hr : trig = false → s.dev.hk.reverifies c = false ∧ enters = s.dev.hk.mask.getLsbD c) :
    (stepHkConversionComplete c v good trig ecc s).resultView =
      (s.takeResult c v good (conversionValid c v good) trig enters).resultView := by
  cases trig with
  | true =>
    obtain ⟨running, named, fresh, rfl⟩ := ht rfl
    rw [stepHkConversionComplete_of_fresh hc running named fresh, State.afterRail_resultView, State.endTriggered_takeResult_resultView]
  | false =>
    obtain ⟨regular, rfl⟩ := hr rfl
    rw [stepHkConversionComplete_of_regular hc regular, State.afterRound_resultView]
end Conversion

section Read
variable {s : State}

/-- The entries of the FIFO that were there when the cycle began (00 R18; entry 121). -/
def State.fifoSeen (s : State) : List HkResult := s.dev.hk.fifo.filter (fun x => decide (x ∈ s.begun.dev.hk.fifo))

theorem State.readFifo_eq : s.readFifo = (({ s.dev.hk with fifo := s.fifoSeen } : Hk).fifoWord,
    if s.fifoSeen.isEmpty then s else s.updHk (fun h => { h with fifo := h.fifo.drop 1 })) := by
  have seen : s.fifoSeen = s.dev.hk.fifo.filter (fun r => s.begun.dev.hk.fifo.contains r) :=
    List.filter_congr fun r _ => by rw [Bool.eq_iff_iff, decide_eq_true_iff, List.contains_iff_mem]
  rw [seen]
  rfl

theorem stepHkFifoDataRead_of_cons {r : HkResult} {l : List HkResult} (seen : s.fifoSeen = r :: l) : stepHkFifoDataRead s =
    (s.updHk (fun h => { h with fifo := h.fifo.drop 1 })).emit (.readData (BitVec.ofNat 32
      (2 ^ 31 + b2n r.gap * 2 ^ 30 + b2n r.trig * 2 ^ 29 + b2n r.stale * 2 ^ 28 + r.chan.toNat * 2 ^ 22 + r.value.toNat))) := by
  rw [stepHkFifoDataRead, State.readFifo_eq, seen]
  rfl

theorem stepHkFifoDataRead_of_nil (seen : s.fifoSeen = []) : stepHkFifoDataRead s = s.emit (.readData 0) := by
  rw [stepHkFifoDataRead, State.readFifo_eq, seen]
  rfl
end Read

end Sys2Proof.Machine

open Sys2Proof Sys2Proof.Machine

/-- Settles O52: a conversion leaves its result stored and offered to the FIFO, which takes it, loses it or is not asked. That a read
sees the entries that were there when the cycle began is the model's choice (log entry 121). -/
theorem resultFifo : Obligations.ResultFifo := by
  intro s c v good trig enters ecc hc triggered regular
  refine ⟨⟨_, exec_hkConversionComplete .., ?_⟩, ?_⟩
  · have view := stepHkConversionComplete_resultView (v := v) (good := good) (ecc := ecc) hc triggered regular
    generalize stepHkConversionComplete c v good trig ecc s = t at view
    have others := (congrArg Prod.snd view).trans (State.takeResult_resultView_snd enters)
    have hk := congrArg Prod.fst view
    have latest : (t.dev.chan c).value = ((s.dev.chan c).latest v good (conversionValid c v good)).value :=
      (congrArg (fun h : Hk => (Sparse.get Chan.reset h.chans c).value) hk).trans (congrArg Chan.value (State.takeResult_chan enters))
    refine ⟨fun h => ?_, fun h room => ?_, fun h full => ?_, fun h => ?_, ?_⟩
    · rw [latest, h]; rfl
    · subst h
      rw [State.takeResult_of_room room] at hk
      rw [latest]
      exact ⟨(congrArg Hk.fifo hk :), (congrArg Hk.gap hk :), (congrArg Hk.lostN hk :), (congrArg Hk.overflow hk :)⟩
    · subst h
      rw [State.takeResult_of_full full] at hk
      exact ⟨(congrArg Hk.fifo hk :), (congrArg Hk.gap hk :), (congrArg Hk.overflow hk :), (congrArg Hk.lostN hk :)⟩
    · subst h
      rw [State.takeResult_of_masked] at hk
      exact ⟨(congrArg Hk.fifo hk :), (congrArg Hk.gap hk :), (congrArg Hk.overflow hk :), (congrArg Hk.lostN hk :)⟩
    · simpa only [State.resultView, Prod.mk.injEq] using others
  · rintro seen rfl
    rw [exec_hkFifoDataRead]
    exact ⟨fun r l first => congrArg _ (stepHkFifoDataRead_of_cons first), fun none => congrArg _ (stepHkFifoDataRead_of_nil none)⟩
end

section
/-! PROOF. Rounds and triggers of housekeeping: a trigger taken or dropped, what a round's end leaves of the role, the cases of the reef
loop, the head's note of a member's report, and O53 from them (10 R311, R312; 15 R424 to R427, R430, R434). -/

namespace Sys2Proof.Machine

theorem exec_hkTrigger (busy : Bool) (s : State) : exec (.hkTrigger busy) s = .next (stepHkTrigger busy s) := rfl
theorem exec_hkRoundEnd (s : State) : exec .hkRoundEnd s = .next (stepHkRoundEnd s) := rfl
theorem exec_headFractionUpdate (pkg f : Nat) (rate : RateReport) (s : State) :
    exec (.headFractionUpdate pkg f rate) s = .next (stepHeadFractionUpdate pkg f rate s) := rfl

section Trigger
variable {s : State} {busy : Bool}

theorem stepHkTrigger_of_disabled (off : s.dev.hk.trigEn = false) : stepHkTrigger busy s = s := if_pos (by simp [off])

variable (on : s.dev.hk.trigEn = true)
include on

theorem stepHkTrigger_of_dropped (h : busy = true ∨ s.dev.hk.running.isSome = true) :
    stepHkTrigger busy s = s.updHk (fun h => { h with trigMiss := h.trigMiss + 1 }) :=
  (if_neg (by simp [on])).trans (if_pos (by simpa using h))

theorem stepHkTrigger_of_taken (hb : busy = false) (hr : s.dev.hk.running = none) :
    stepHkTrigger busy s = s.updHk (fun h => { h with running := some true }) :=
  (if_neg (by simp [on])).trans (if_neg (by simp [hb, hr]))
end Trigger

section Ignored
variable {s : State} {c : Nat} {v : Int} {good : Bool} {ecc : List (Nat × Nat)}

theorem stepHkConversionComplete_of_no_channel (trig : Bool) (h : 64 ≤ c) : stepHkConversionComplete c v good trig ecc s = s := if_pos h

/-- A triggered result that is not awaited has no effect (15 R433). -/
theorem stepHkConversionComplete_of_unawaited (h : s.dev.hk.running ≠ some true ∨ s.dev.hk.trigChan.toNat ≠ c) :
    stepHkConversionComplete c v good true ecc s = s := by
  rw [stepHkConversionComplete]
  split
  · rfl
  · exact (if_pos rfl).trans (if_neg (by rintro ⟨running, named⟩; rcases h with h | h <;> contradiction))
end Ignored

section Role
variable (s : State)

/-- A lane's or a port's retirement leaves the role. -/
theorem State.retireUnit_role_of_link {kind : Nat} (h : kind = 5 ∨ kind = 6) (unit cause : Nat) :
    (s.retireUnit kind unit cause).dev.role = s.dev.role := by
  unfold State.retireUnit
  rcases h with rfl | rfl <;>
  · split
    · rfl
    · exact State.logEvent_role _ _ _ _ _ _

theorem State.retireLane_role (p n : Nat) : (s.retireLane p n).dev.role = s.dev.role := by
  dsimp only [State.retireLane]
  rw [State.ite_role, State.updPort_role, State.retireUnit_role_of_link _ (.inl rfl), State.retireUnit_role_of_link _ (.inr rfl), ite_self]

theorem State.laneFault_role (p n width height : Nat) : (s.laneFault p n width height).dev.role = s.dev.role := by
  dsimp only [State.laneFault]
  rw [State.ite_role, State.ite_role, State.retireLane_role, State.updPort_role, State.updPort_role, State.logEvent_role, ite_self, ite_self]

@[simp] theorem State.laneShares_role : s.laneShares.dev.role = s.dev.role := by
  rw [State.laneShares, State.each_role _ (fun t _ => t.laneFault_role _ _ _ _), State.updHk_role]

@[simp] theorem State.beginMargining_role : s.beginMargining.dev.role = s.dev.role := by
  rw [State.beginMargining, State.each_role _ (fun t p => by rw [State.ite_role, State.updPort_role, ite_self])]
end Role

section Loop
variable {p n t f s : Nat}

theorem reefLoop_of_above_fraction (above : reefLimit n < p) (h : 8 < f) : reefLoop p n t f s = (f - 1, s) :=
  (if_pos above).trans (if_pos h)

theorem reefLoop_of_above_stretch (above : reefLimit n < p) (h : f ≤ 8) : reefLoop p n t f s = (f, min (s + t / 16) t) :=
  (if_pos above).trans (if_neg (Nat.not_lt.mpr h))

section Within
variable (within : p ≤ reefLimit n)
include within

theorem reefLoop_of_between (h : reefLimit (n + 1) ≤ p) : reefLoop p n t f s = (f, s) :=
  (if_neg (Nat.not_lt.mpr within)).trans (if_neg (Nat.not_lt.mpr h))

theorem reefLoop_of_below_stretch (below : p < reefLimit (n + 1)) (h : 0 < s) : reefLoop p n t f s = (f, s - t / 16) :=
  (if_neg (Nat.not_lt.mpr within)).trans ((if_pos below).trans (if_pos h))

theorem reefLoop_of_below_fraction (below : p < reefLimit (n + 1)) (h : s = 0) :
    reefLoop p n t f s = if f < 16 then (f + 1, s) else (f, s) :=
  (if_neg (Nat.not_lt.mpr within)).trans ((if_pos below).trans (if_neg (by omega)))
end Within

/-- The loop's cases determine what it answers (15 R425). -/
theorem reefLoop_eq_of_cases {f' s' : Nat}
    (lower : reefLimit n < p → 8 < f → f' = f - 1 ∧ s' = s) (stretch : reefLimit n < p → f ≤ 8 → f' = f ∧ s' = min (s + t / 16) t)
    (relax : p ≤ reefLimit n → p < reefLimit (n + 1) → 0 < s → f' = f ∧ s' = s - t / 16)
    (restore : p ≤ reefLimit n → p < reefLimit (n + 1) → s = 0 → (f < 16 → f' = f + 1) ∧ (16 ≤ f → f' = f) ∧ s' = 0)
    (stay : p ≤ reefLimit n → reefLimit (n + 1) ≤ p → f' = f ∧ s' = s) : reefLoop p n t f s = (f', s') := by
  rcases Nat.lt_or_ge (reefLimit n) p with above | within
  · rcases Nat.lt_or_ge 8 f with h | h
    · obtain ⟨rfl, rfl⟩ := lower above h
      exact reefLoop_of_above_fraction above h
    · obtain ⟨rfl, rfl⟩ := stretch above h
      exact reefLoop_of_above_stretch above h
  · rcases Nat.lt_or_ge p (reefLimit (n + 1)) with below | between
    · rcases Nat.eq_zero_or_pos s with h | h
      · obtain ⟨up, top, none⟩ := restore within below h
        rw [reefLoop_of_below_fraction within below h, h, none]
        rcases Nat.lt_or_ge f 16 with room | full
        · rw [if_pos room, up room]
        · rw [if_neg (Nat.not_lt.mpr full), top full]
      · obtain ⟨rfl, rfl⟩ := relax within below h
        exact reefLoop_of_below_stretch within below h
    · obtain ⟨rfl, rfl⟩ := stay within between
      exact reefLoop_of_between within between
end Loop

/-- What a round's end leaves when the loop answers f and a stretch request: the two, the thermal step and the step in force, and the
next round's beginning (15 R424 to R426, R430). -/
def State.nextRound (u : State) (f st : Nat) : State :=
  u.updHk (fun h => { h with
    frac := f, stretch := st, therm := u.dev.nextTherm,
    reef := max u.dev.nextTherm (max h.floor.toNat u.dev.cn.reefFloor.toNat), round := h.round + 1, roundStart := u.dev.time.mems })

/-- A member's report of its fraction and its rate to the head (15 R427; 09 R299). -/
def State.reportFraction (w : State) (q f : Nat) : State :=
  w.emit (.message q 0x08 [0x11, w.dev.role.pkg.toNat, f, w.dev.ownRate.phi, b2n w.dev.ownRate.narrow, w.dev.ownRate.dleWeights])

section RoundEnd
variable {s u w : State} {f st : Nat} (hu : u = s.laneShares.beginMargining)
include hu

theorem State.role_of_shares : u.dev.role = s.dev.role := by rw [hu, State.beginMargining_role, State.laneShares_role]

theorem State.isHead_of_shares : u.dev.isHead = s.dev.isHead := by rw [Dev.isHead, State.role_of_shares hu, Dev.isHead]

variable (loop : reefLoop u.dev.roundPower u.dev.hk.reef (2000 * u.dev.time.inForce) u.dev.hk.frac u.dev.hk.stretch = (f, st))
  (hw : w = u.nextRound f st)
include loop hw

theorem stepHkRoundEnd_of_no_head (h : s.dev.role.head = none) : stepHkRoundEnd s = w := by
  have head : u.dev.role.head = none := by rw [State.role_of_shares hu, h]
  unfold stepHkRoundEnd
  rw [← hu, hw]
  simp only [loop, State.updHk_role, head]
  rfl

theorem stepHkRoundEnd_of_head {q : Nat} (h : s.dev.role.head = some q) :
    stepHkRoundEnd s = if s.dev.isHead then w else w.reportFraction q f := by
  have head : u.dev.role.head = some q := by rw [State.role_of_shares hu, h]
  have isHead := State.isHead_of_shares hu
  unfold stepHkRoundEnd
  rw [← hu, hw, ← isHead]
  simp only [loop, State.updHk_role, head]
  rfl

theorem stepHkRoundEnd_of_no_report (h : s.dev.role.head = none ∨ s.dev.isHead = true) : stepHkRoundEnd s = w := by
  cases head : s.dev.role.head with
  | none => exact stepHkRoundEnd_of_no_head hu loop hw head
  | some q => rw [stepHkRoundEnd_of_head hu loop hw head, if_pos (h.resolve_left (by simp [head]))]

theorem stepHkRoundEnd_of_report {q : Nat} (head : s.dev.role.head = some q) (member : s.dev.isHead = false) :
    stepHkRoundEnd s = w.reportFraction q f := by
  rw [stepHkRoundEnd_of_head hu loop hw head, if_neg (ne_true_of_eq_false member)]
end RoundEnd

section HeadFraction
variable {s : State} {pkg f : Nat} {rate : RateReport}

theorem stepHeadFractionUpdate_of_fraction (low : 8 ≤ f) (high : f ≤ 16) : stepHeadFractionUpdate pkg f rate s =
    s.updLnk (fun l => { l with members := l.members.map (fun m => if m.pkg = pkg then { m with frac := f, rate } else m) }) :=
  if_pos ⟨low, high⟩

theorem stepHeadFractionUpdate_of_other (h : f < 8 ∨ 16 < f) : stepHeadFractionUpdate pkg f rate s = s := if_neg (by omega)
end HeadFraction

end Sys2Proof.Machine

open Sys2Proof Sys2Proof.Machine

/-- Settles O53: a trigger by what runs, a round's end by the loop's answer and by who hears of it, a member's report by its value.
The order within the round's end and the rate in the report are the model's choice (log entries 30 and 19). -/
theorem roundsTriggersAndReef : Obligations.RoundsTriggersAndReef := by
  intro s busy good c pkg n v ecc rate
  simp only [exec_hkTrigger, exec_hkConversionComplete, exec_hkRoundEnd, exec_headFractionUpdate]
  refine ⟨fun off => ?_, fun on h => ?_, fun on hb hr => ?_, fun h => ?_, fun h => ?_, ?_, fun low high => ?_, fun h => ?_⟩
  · rw [stepHkTrigger_of_disabled off]
  · rw [stepHkTrigger_of_dropped on h]
  · rw [stepHkTrigger_of_taken on hb hr]
  · rw [stepHkConversionComplete_of_no_channel false h]
  · rcases h with h | h
    · rw [stepHkConversionComplete_of_no_channel true h]
    · rw [stepHkConversionComplete_of_unawaited h]
  · rintro u p t f0 s0 f st therm w hu rfl rfl rfl rfl lower stretch relax restore stay rfl hw
    have loop := reefLoop_eq_of_cases lower stretch relax restore stay
    refine ⟨fun h => ?_, fun q head member => ?_⟩
    · rw [stepHkRoundEnd_of_no_report hu loop hw h]
    · have same := State.role_of_shares hu
      have role : w.dev.role = s.dev.role := by rw [hw, State.updHk_role, same]
      rw [stepHkRoundEnd_of_report hu loop hw head member, State.reportFraction, role]
  · rw [stepHeadFractionUpdate_of_fraction low high]
  · rw [stepHeadFractionUpdate_of_other h]
end
